-- ==== Sys2Proof/Word.lean ====
section
/-! DEFINITION. The words the manual treats as bits: bytes, 32-bit register words, 64-bit fabric and memory
words, 128-bit keys, and the 80-bit array slot halves. -/

namespace Sys2Proof

/-- A byte of host-visible memory or of a wire format. -/
abbrev Byte := BitVec 8

/-- The data of one register access (R180). -/
abbrev RegWord := BitVec 32

/-- One aligned 8-byte word of a structure, a window or a ring (R195, R589). -/
abbrev Word := BitVec 64

/-- The little-endian number a list of bytes spells (R9). -/
def leNat : List Byte → Nat
  | [] => 0
  | b :: bs => b.toNat + 256 * leNat bs

/-- The `n` little-endian bytes of a number (R9). -/
def leBytes : Nat → Nat → List Byte
  | 0, _ => []
  | n + 1, v => BitVec.ofNat 8 v :: leBytes n (v / 256)

/-- Bits `[lo + w - 1 : lo]` of a number (R8). -/
def bitsOf (v lo w : Nat) : Nat := v / 2 ^ lo % 2 ^ w

/-- Bit `k` of a number (R8). -/
def bitOf (v k : Nat) : Bool := bitsOf v k 1 == 1

/-- A truth value as a one-bit number. -/
def b2n (b : Bool) : Nat := if b then 1 else 0

end Sys2Proof
end

