-- ==== Sys2Proof/Syntax.lean ====
section
/-! DEFINITION. The commands of the block: one constructor of `Instr` for every row of the table of operations and
events, with the operands a command carries or the outside world supplies with an event. -/

namespace Sys2Proof

/-- Where a Eupex command is served from: one of the four mailboxes of BAR2, or the chain port of a follower, which
receives commands relayed by the head (R467). -/
inductive Mb where
  | urgent | table | media | bulk | relay
  deriving DecidableEq, Repr

/-- A memory BAR of the endpoint (R174). -/
inductive Bar where
  | bar0 | bar2
  deriving DecidableEq, Repr

/-- A cartridge slot port (R20). -/
inductive Port where
  | a | b
  deriving DecidableEq, Repr

/-- A ring in host memory: a search queue pair or a stream channel (R217). -/
inductive Ring where
  | queue (q : Fin 16)
  | stream (c : Fin 16)
  deriving DecidableEq, Repr

/-- The causes of a host-link reset (R205). -/
inductive LinkReset where
  | perst | hotReset | flr | dlDown | d3hotToD0
  deriving DecidableEq, Repr

/-- A word of the fabric: data with one parity bit a byte and one poison bit (R47), and its routing tag. -/
structure FabricWord where
  data : Word
  parity : BitVec 8
  poison : Bool
  tag : Nat
  deriving DecidableEq, Repr

/-- Who asks for a resource shared in the fabric (chapter *Time without clocks*). -/
inductive Requester where
  | channel (c : Fin 16)
  | results
  | control
  | guard
  | journal
  | hli
  deriving DecidableEq, Repr

/-- The arbiters of the fabric: the DMA write port, the media command queue of each port, the key-slot load port, the caddy
port and the BAR2 window. -/
inductive Arbiter where
  | dmaWrite
  | media (p : Port)
  | keySlots
  | caddy
  | bar2
  deriving DecidableEq, Repr

/-- One move of the clockless fabric: a producer's word enters a crossing FIFO, the oldest word of one passes to the stage
behind it, with the data bits that it lost on its way, or the consumer takes the word of that stage (R47 to R50, R53); the
oldest transfer that waits for the host is sent, or the frame of the next window to the next or the previous member of the
chain; or an agent requests or is granted a shared resource of an arbiter (R79 to R81). -/
inductive FabricMove where
  | push (i : Fin 24) (data : Word) (poison : Bool) (tag : Nat)
  | pop (i : Fin 24) (lost : Word)
  | take (i : Fin 24)
  | send
  | forward
  | back
  | request (arb : Arbiter) (who : Requester)
  | grant (arb : Arbiter) (who : Requester)
  deriving DecidableEq, Repr

/-- One 10 µs power sample: VIN in mV, input current in mA, and the four slot currents in mA (R148). `selfTest` is the
increment in mA that the current-sense self-test measured, in the one sample of each 100 ms that carries it (R163). -/
structure PowerIn where
  vinMv : Nat
  iinMa : Nat
  vccA : Nat
  vccqA : Nat
  vccB : Nat
  vccqB : Nat
  selfTest : Option Nat
  deriving DecidableEq, Repr

/-- What START measures of itself: its length and that of its step 5 in microseconds (R107). -/
structure StartInput where
  startUs : Nat
  fillUs : Nat
  deriving DecidableEq, Repr

/-- The islands driven by a PLL or a recovered clock (R52). -/
inductive PllIsland where
  | sic | chn | mda | mdb | mpu
  deriving DecidableEq, Repr

/-- The two processors (MPU island). -/
inductive CoreSel where
  | control | guard
  deriving DecidableEq, Repr

/-- A core's state at a trap, a data abort or a watchdog expiry, as its fault record captures it (R662), and whether the
fault is unrecoverable because firmware declares it so (R640). -/
structure FaultIn where
  cause : BitVec 8
  pc : BitVec 32
  addr : BitVec 32
  psw : BitVec 32
  regs : List (BitVec 32)
  declared : Bool
  deriving DecidableEq, Repr

/-- What a die declares in its parameter page, as far as the module uses it (R478, R481): whether the page is valid, the
dies behind the chip enable, the bytes of a page with its spare area, pages a block, blocks, column and row address
cycles, the times in µs, the NV-DDR2 and NV-DDR3 timing modes as MT/s, and whether ZQ calibration is declared. -/
structure ParamPage where
  valid : Bool
  luns : Nat
  pageBytes : Nat
  pages : Nat
  blocks : Nat
  colCycles : Nat
  rowCycles : Nat
  tR : Nat
  tProg : Nat
  tBers : Nat
  rates2 : List Nat
  rates3 : List Nat
  zq : Bool
  deriving DecidableEq, Repr

/-- What a die answers when an operation completes: its status byte, and for READ ID and READ PARAMETER PAGE the bytes
read, whether they carry the ONFI signature, and what the parameter page declares. -/
structure DieReply where
  status : Byte
  data : List Byte
  onfi : Bool
  param : Option ParamPage
  deriving DecidableEq, Repr

/-- The end of a catalog walk: the descriptor found, and whether the walk failed (R509, R510). -/
structure WalkResult where
  found : Option Nat
  failed : Bool
  deriving DecidableEq, Repr

/-- A packet of the Stavso chain: the fields of its PKT_HEAD frame and the bytes of its PKT_DATA frames (R441). -/
structure Packet where
  dst : Nat
  src : Nat
  kind : Nat
  tag : Nat
  fields : BitVec 64
  payload : List Byte
  deriving DecidableEq, Repr

/-- An ANSWER frame's fields (R438). -/
structure Answer where
  status : Nat
  poison : Bool
  result : Word
  index : Nat
  prio : Nat
  winPos : Nat
  member : Nat
  guard : Nat
  winType : Nat
  parityExcluded : Bool
  corrected : Bool
  others : List Nat
  deriving DecidableEq, Repr

/-- A frame of the Stavso chain (R435 to R440). -/
inductive Frame where
  | idle
  | train
  | search (profile : Nat) (key : BitVec 112) (fetchClass : Nat)
  | answer (a : Answer)
  | status (sender : Nat) (alive fault : BitVec 32) (heat : Nat)
  | token (count stamp : Nat) (serial : Nat) (seq : Nat)
  | pktHead (dst src kind count tag : Nat) (fields : BitVec 64)
  | pktData (seq : Nat) (bytes : List Byte)
  deriving DecidableEq, Repr

/-- The 128 data bits and the 8 flag bits that a window carries (R432). -/
structure FrameBits where
  data : BitVec 128
  flags : BitVec 8
  deriving DecidableEq, Repr

/-- A receiving direction of the chain: CHAIN_IN, from upstream, or CHAIN_OUT, from downstream in the back windows. -/
inductive LinkSide where
  | fromUp | fromDown
  deriving DecidableEq, Repr

/-- The bits of a window as the receiver of a side has sampled them (R432, R433). -/
structure SampledFrame where
  side : LinkSide
  bits : FrameBits
  deriving DecidableEq, Repr

/-- What a STATUS frame from downstream carries (R439). -/
structure StatusIn where
  alive : BitVec 32
  fault : BitVec 32
  heat : BitVec 3
  deriving DecidableEq, Repr

/-- An empty STATUS frame (R461). -/
def StatusIn.empty : StatusIn := { alive := 0, fault := 0, heat := 0 }

/-- The AER errors the module reports (R202). -/
inductive AerError where
  | receiverError | badTlp | badDllp | replayRollover | replayTimeout | advisory
  | dlpError | flowControl | receiverOverflow | malformedTlp
  | poisonedTlp | cplTimeout | completerAbort | unexpectedCpl | unsupported | internal
  deriving DecidableEq, Repr

/-- The severities of R202. -/
inductive ErrSeverity where
  | correctable | nonFatal | fatal
  deriving DecidableEq, Repr

/-- What the endpoint receives and does not serve (R202): a request that it does not support, posted or not; or an error of
the physical, data link or transaction layer as the base specification defines it, which no other row names. -/
inductive Unserved where
  | request (posted : Bool)
  | receiverError | badTlp | badDllp | replayRollover | replayTimeout
  | dlpError | flowControl | receiverOverflow | malformedTlp
  deriving DecidableEq, Repr

/-- A configuration request as far as the manual gives it an effect (R172 to R177, R205, R210): a read of a dword, or a
write of the named fields. A write that changes the power state is D3HOT_ENTRY or HOST_LINK_RESET, and one that clears an
MSI-X mask is MSIX_UNMASK. -/
inductive CfgReq where
  | read (off : BitVec 12)
  | command (memEnable busMaster : Bool)
  | linkControl (aspmL1 clockPm : Bool)
  | deviceControl (maxPayload maxReadReq : BitVec 3)
  | deviceControl2 (timeout : BitVec 4) (disable : Bool)
  | msixControl (enable mask : Bool)
  | base (b : Bar) (addr : BitVec 64)
  | aerClear (e : AerError)
  | aerMask (e : AerError) (masked : Bool)
  | aerSeverity (e : AerError) (fatal : Bool)
  | errorReporting (sevs : List ErrSeverity)
  | laneMargin (lane : Fin 4) (w : BitVec 16)
  deriving DecidableEq, Repr


/-- One command or event of the table of operations and events (spec/opcode_table.json), with its operands. A
command of a Eupex mailbox names the mailbox whose taken copy it runs (R233). -/
inductive Instr where
  /-- PWR_MARGIN_QUERY (R61). -/
  | pwrMarginQuery (m : Mb)
  /-- PWR_MARGIN_SET (R83). -/
  | pwrMarginSet (m : Mb)
  /-- PWR_STATE_QUERY (R143). -/
  | pwrStateQuery (m : Mb)
  /-- PWR_DOZE (R113). -/
  | pwrDoze (m : Mb)
  /-- PWR_WAKE (R116). -/
  | pwrWake (m : Mb)
  /-- PWR_STANDBY (R138). -/
  | pwrStandby (m : Mb)
  /-- PWR_SHUTDOWN (R139). -/
  | pwrShutdown (m : Mb)
  /-- PWR_VIN_WARN_SET (R94). -/
  | pwrVinWarnSet (m : Mb)
  /-- THM_QUERY (R170). -/
  | thmQuery (m : Mb)
  /-- THM_LIMITS_SET (R167). -/
  | thmLimitsSet (m : Mb)
  /-- THM_LEVELS_SET (R169). -/
  | thmLevelsSet (m : Mb)
  /-- THM_MODEL_QUERY (R149). -/
  | thmModelQuery (m : Mb)
  /-- SYS_IDENTIFY (R4). -/
  | sysIdentify (m : Mb)
  /-- SYS_STATE_QUERY (R272). -/
  | sysStateQuery (m : Mb)
  /-- SYS_RESET (R269). -/
  | sysReset (m : Mb)
  /-- SYS_EXPERT_CLAIM (R252). -/
  | sysExpertClaim (m : Mb)
  /-- SYS_EXPERT_RELEASE (R257). -/
  | sysExpertRelease (m : Mb)
  /-- SYS_ABORT (R270). -/
  | sysAbort (m : Mb)
  /-- SYS_NOP (R237). -/
  | sysNop (m : Mb)
  /-- SYS_EVENT_CONFIG (R260). -/
  | sysEventConfig (m : Mb)
  /-- PROFILE_SET (R312). -/
  | profileSet (m : Mb)
  /-- PROFILE_GET (R276). -/
  | profileGet (m : Mb)
  /-- PROFILE_DELETE (R282). -/
  | profileDelete (m : Mb)
  /-- PROFILE_QUEUE_OPEN (R298). -/
  | profileQueueOpen (m : Mb)
  /-- PROFILE_QUEUE_CLOSE (R313). -/
  | profileQueueClose (m : Mb)
  /-- PROFILE_WINDOW_SET (R309). -/
  | profileWindowSet (m : Mb)
  /-- TABLE_CREATE (R354). -/
  | tableCreate (m : Mb)
  /-- TABLE_DELETE (R355). -/
  | tableDelete (m : Mb)
  /-- TABLE_GROW (R356). -/
  | tableGrow (m : Mb)
  /-- TABLE_SHRINK (R356). -/
  | tableShrink (m : Mb)
  /-- TABLE_QUERY (R324). -/
  | tableQuery (m : Mb)
  /-- TABLE_CASTLE (R345). -/
  | tableCastle (m : Mb)
  /-- TABLE_BLOCK_POWER (R357). -/
  | tableBlockPower (m : Mb)
  /-- TABLE_IMAGE_LOAD (R344). -/
  | tableImageLoad (m : Mb)
  /-- TABLE_IMAGE_SAVE (R360). -/
  | tableImageSave (m : Mb)
  /-- TABLE_PUBLISH (R343). -/
  | tablePublish (m : Mb)
  /-- TABLE_CLEAR (R361). -/
  | tableClear (m : Mb)
  /-- TABLE_DIX_LIMIT (R384). -/
  | tableDixLimit (m : Mb)
  /-- ENTRY_WRITE (R334). -/
  | entryWrite (m : Mb)
  /-- ENTRY_DELETE (R336). -/
  | entryDelete (m : Mb)
  /-- ENTRY_READ (R321). -/
  | entryRead (m : Mb)
  /-- ENTRY_RESULT (R335). -/
  | entryResult (m : Mb)
  /-- LEARN_CONFIG (R386). -/
  | learnConfig (m : Mb)
  /-- LEARN_QUERY (R391). -/
  | learnQuery (m : Mb)
  /-- LEARN_WALK (R386). -/
  | learnWalk (m : Mb)
  /-- LEARN_FLUSH (R396). -/
  | learnFlush (m : Mb)
  /-- CHAIN_ENUMERATE (R443). -/
  | chainEnumerate (m : Mb)
  /-- CHAIN_QUERY (R444). -/
  | chainQuery (m : Mb)
  /-- CHAIN_GROUPS (R476). -/
  | chainGroups (m : Mb)
  /-- CHAIN_REG_ACCESS (R789). -/
  | chainRegAccess (m : Mb)
  /-- CHAIN_BOOT (R474). -/
  | chainBoot (m : Mb)
  /-- SLOT_QUERY (R487). -/
  | slotQuery (m : Mb)
  /-- SLOT_MOUNT (R486). -/
  | slotMount (m : Mb)
  /-- SLOT_UNMOUNT (R493). -/
  | slotUnmount (m : Mb)
  /-- SLOT_EJECT (R494). -/
  | slotEject (m : Mb)
  /-- SLOT_PORT_RESET (R537). -/
  | slotPortReset (m : Mb)
  /-- SLOT_SAVE_QUERY (R516). -/
  | slotSaveQuery (m : Mb)
  /-- SLOT_SAVE_READ (R520). -/
  | slotSaveRead (m : Mb)
  /-- SLOT_SAVE_WRITE (R517). -/
  | slotSaveWrite (m : Mb)
  /-- SLOT_PAGE_READ (R498). -/
  | slotPageRead (m : Mb)
  /-- SLOT_PAGE_PROGRAM (R483). -/
  | slotPageProgram (m : Mb)
  /-- SLOT_BLOCK_ERASE (R483). -/
  | slotBlockErase (m : Mb)
  /-- STREAM_OPEN (R521). -/
  | streamOpen (m : Mb)
  /-- STREAM_CLOSE (R538). -/
  | streamClose (m : Mb)
  /-- STREAM_RESUME (R532). -/
  | streamResume (m : Mb)
  /-- STREAM_QUERY (R521). -/
  | streamQuery (m : Mb)
  /-- GUARD_QUERY (R579). -/
  | guardQuery (m : Mb)
  /-- GUARD_RULES_LOAD (R586). -/
  | guardRulesLoad (m : Mb)
  /-- GUARD_SLOT_INFO (R561). -/
  | guardSlotInfo (m : Mb)
  /-- GUARD_REAUTH (R573). -/
  | guardReauth (m : Mb)
  /-- GUARD_KEY_QUERY (R544). -/
  | guardKeyQuery (m : Mb)
  /-- GUARD_CONFIG (R571). -/
  | guardConfig (m : Mb)
  /-- GUARD_TAG_XFER (R547). -/
  | guardTagXfer (m : Mb)
  /-- INTEG_QUERY (R603). -/
  | integQuery (m : Mb)
  /-- INTEG_STEEP (R608). -/
  | integSteep (m : Mb)
  /-- INTEG_SCRUB (R616). -/
  | integScrub (m : Mb)
  /-- INTEG_AUDIT (R620). -/
  | integAudit (m : Mb)
  /-- INTEG_INJECT (R626). -/
  | integInject (m : Mb)
  /-- INTEG_LOG_READ (R607). -/
  | integLogRead (m : Mb)
  /-- FW_QUERY (R633). -/
  | fwQuery (m : Mb)
  /-- FW_STORE (R663). -/
  | fwStore (m : Mb)
  /-- FW_ACTIVATE (R663). -/
  | fwActivate (m : Mb)
  /-- CADDY_QUERY (R658). -/
  | caddyQuery (m : Mb)
  /-- CADDY_JOURNAL_CONFIG (R664). -/
  | caddyJournalConfig (m : Mb)
  /-- CADDY_JOURNAL_COMMIT (R658). -/
  | caddyJournalCommit (m : Mb)
  /-- CADDY_JOURNAL_CLEAR (R664). -/
  | caddyJournalClear (m : Mb)
  /-- CADDY_WARM_START (R660). -/
  | caddyWarmStart (m : Mb)
  /-- CADDY_SCRATCH_READ (R664). -/
  | caddyScratchRead (m : Mb)
  /-- CADDY_SCRATCH_WRITE (R664). -/
  | caddyScratchWrite (m : Mb)
  /-- DUMP_CONFIG (R655). -/
  | dumpConfig (m : Mb)
  /-- DUMP_QUERY (R653). -/
  | dumpQuery (m : Mb)
  /-- DUMP_TAKE (R653). -/
  | dumpTake (m : Mb)
  /-- DUMP_CLEAR (R655). -/
  | dumpClear (m : Mb)
  /-- OTP_QUERY (R691). -/
  | otpQuery (m : Mb)
  /-- OTP_SETTINGS_WRITE (R680). -/
  | otpSettingsWrite (m : Mb)
  /-- OTP_SECURITY_WRITE (R686). -/
  | otpSecurityWrite (m : Mb)
  /-- OTP_LOCK_DEBUG (R687). -/
  | otpLockDebug (m : Mb)
  /-- OTP_SV_RAISE (R688). -/
  | otpSvRaise (m : Mb)
  /-- PIN_PAD_CONFIG (R709). -/
  | pinPadConfig (m : Mb)
  /-- PIN_QUERY (R700). -/
  | pinQuery (m : Mb)
  /-- PIN_GPIO_WRITE (R732). -/
  | pinGpioWrite (m : Mb)
  /-- PIN_IRQ_CONFIG (R710). -/
  | pinIrqConfig (m : Mb)
  /-- PIN_WAKE_CONFIG (R713). -/
  | pinWakeConfig (m : Mb)
  /-- PIN_SMB_CONFIG (R725). -/
  | pinSmbConfig (m : Mb)
  /-- PIN_PERIPH_SET (R731). -/
  | pinPeriphSet (m : Mb)
  /-- PIN_UART_XFER (R732). -/
  | pinUartXfer (m : Mb)
  /-- PIN_I2C_XFER (R718). -/
  | pinI2cXfer (m : Mb)
  /-- DOZE_REQ (R113). -/
  | dozeReq (w : RegWord)
  /-- WAKE_REQ (R116). -/
  | wakeReq (w : RegWord)
  /-- STANDBY_REQ (R119). -/
  | standbyReq (w : RegWord)
  /-- SHUTDOWN_REQ (R125). -/
  | shutdownReq (w : RegWord)
  /-- MM_CLEAR (R189). -/
  | mmClear (off : Nat) (w : RegWord)
  /-- HW_CLR (R189). -/
  | hwClr (w : RegWord)
  /-- PLY_LO_READ (R56). -/
  | plyLoRead
  /-- RC_READ (R16). -/
  | rcRead (bar : Bar) (off : Nat) (len : Nat) (full : Bool)
  /-- REGISTER_WRITE (R189). -/
  | registerWrite (bar : Bar) (off : Nat) (data : List (Option Byte))
  /-- PROF_LOAD (R314). -/
  | profLoad (w : RegWord)
  /-- PROF_DELETE_WRITE (R314). -/
  | profDeleteWrite (w : RegWord)
  /-- Q_EN_SET (R315). -/
  | qEnSet (q : Fin 16) (w : RegWord)
  /-- Q_EN_CLEAR (R315). -/
  | qEnClear (q : Fin 16) (w : RegWord)
  /-- CASTLE_GO (R362). -/
  | castleGo (w : RegWord)
  /-- TCAM_UPD_ENTRY_WRITE (R363). -/
  | tcamUpdEntryWrite (w : RegWord)
  /-- TCAM_UPD_ENTRY_DELETE (R363). -/
  | tcamUpdEntryDelete (w : RegWord)
  /-- TCAM_UPD_RESULT_WRITE (R363). -/
  | tcamUpdResultWrite (w : RegWord)
  /-- BLK_OWNED_SET (R364). -/
  | blkOwnedSet (b : Fin 256) (w : RegWord)
  /-- BLK_OWNED_CLEAR (R364). -/
  | blkOwnedClear (b : Fin 256) (w : RegWord)
  /-- GATE_REQ (R329). -/
  | gateReq (b : Fin 256) (w : RegWord)
  /-- UNGATE_REQ (R330). -/
  | ungateReq (b : Fin 256) (w : RegWord)
  /-- TCAM_TBL_CREATE_WRITE (R365). -/
  | tcamTblCreateWrite (t : Fin 64) (w : RegWord)
  /-- TCAM_TBL_DELETE_WRITE (R365). -/
  | tcamTblDeleteWrite (t : Fin 64) (w : RegWord)
  /-- TCAM_TBL_HIDDEN_WRITE (R343). -/
  | tcamTblHiddenWrite (t : Fin 64) (w : RegWord)
  /-- HASH_UPD_INSERT (R374). -/
  | hashUpdInsert (w : RegWord)
  /-- HASH_UPD_DELETE (R376). -/
  | hashUpdDelete (w : RegWord)
  /-- HASH_UPD_RESULT (R376). -/
  | hashUpdResult (w : RegWord)
  /-- HASH_TBL_CREATE_WRITE (R401). -/
  | hashTblCreateWrite (t : Fin 63) (w : RegWord)
  /-- HASH_TBL_DELETE_WRITE (R377). -/
  | hashTblDeleteWrite (t : Fin 63) (w : RegWord)
  /-- HASH_TBL_HIDDEN_WRITE (R373). -/
  | hashTblHiddenWrite (t : Fin 63) (w : RegWord)
  /-- DIX_UPD_WRITE (R385). -/
  | dixUpdWrite (w : RegWord)
  /-- DIX_LIMIT_WRITE (R384). -/
  | dixLimitWrite (w : RegWord)
  /-- LPM_UPD_INSERT (R416). -/
  | lpmUpdInsert (w : RegWord)
  /-- LPM_UPD_DELETE (R417). -/
  | lpmUpdDelete (w : RegWord)
  /-- LPM_UPD_RESULT_CHANGE (R416). -/
  | lpmUpdResultChange (w : RegWord)
  /-- LPM_ROOT_CREATE_WRITE (R428). -/
  | lpmRootCreateWrite (r : Fin 4) (w : RegWord)
  /-- LPM_ROOT_DELETE_WRITE (R423). -/
  | lpmRootDeleteWrite (r : Fin 4) (w : RegWord)
  /-- LPM_ROOT_HIDDEN_WRITE (R404). -/
  | lpmRootHiddenWrite (r : Fin 4) (w : RegWord)
  /-- LPM_DEFAULT_ROUTE_WRITE (R422). -/
  | lpmDefaultRouteWrite (r : Fin 4) (result : Bool) (w : RegWord)
  /-- CHN_ENUMERATE_WRITE (R477). -/
  | chnEnumerateWrite (w : RegWord)
  /-- CHN_GROUPS_WRITE (R477). -/
  | chnGroupsWrite (w : RegWord)
  /-- SLOT_POWER_ON (R539). -/
  | slotPowerOn (p : Port) (w : RegWord)
  /-- SLOT_POWER_OFF (R98). -/
  | slotPowerOff (p : Port) (w : RegWord)
  /-- SLOT_EJECT_WRITE (R494). -/
  | slotEjectWrite (p : Port) (w : RegWord)
  /-- SLOT_PORT_RESET_WRITE (R537). -/
  | slotPortResetWrite (p : Port) (w : RegWord)
  /-- SLOT_OP_READ_PAGE_RAW (R539). -/
  | slotOpReadPageRaw (p : Port) (w : RegWord)
  /-- SLOT_OP_PROGRAM_RAW (R539). -/
  | slotOpProgramRaw (p : Port) (w : RegWord)
  /-- SLOT_OP_ERASE_BLOCK (R539). -/
  | slotOpEraseBlock (p : Port) (w : RegWord)
  /-- SLOT_OP_RESET (R539). -/
  | slotOpReset (p : Port) (w : RegWord)
  /-- SLOT_OP_READ_ID (R539). -/
  | slotOpReadId (p : Port) (w : RegWord)
  /-- SLOT_OP_READ_PARAMETER_PAGE (R539). -/
  | slotOpReadParameterPage (p : Port) (w : RegWord)
  /-- SLOT_OP_DATA_ACCESS (R539). -/
  | slotOpDataAccess (p : Port) (w : Option RegWord)
  /-- STRM_CH_EN_SET (R540). -/
  | strmChEnSet (c : Fin 16) (w : RegWord)
  /-- STRM_CH_EN_CLEAR (R538). -/
  | strmChEnClear (c : Fin 16) (w : RegWord)
  /-- STRM_CH_RESUME_WRITE (R532). -/
  | strmChResumeWrite (c : Fin 16) (w : RegWord)
  /-- SCRUB_GO (R616). -/
  | scrubGo (w : RegWord)
  /-- AUDIT_GO (R622). -/
  | auditGo (w : RegWord)
  /-- FLIP_ARM (R626). -/
  | flipArm (w : RegWord)
  /-- LOG_CONS_WRITE (R607). -/
  | logConsWrite (w : RegWord)
  /-- SEEN_CLR (R603). -/
  | seenClr (w : RegWord)
  /-- DBG_HALT_WRITE (R666). -/
  | dbgHaltWrite (w : RegWord)
  /-- OTP_PROG_GO (R689). -/
  | otpProgGo (w : RegWord)
  /-- PIN_SET (R705). -/
  | pinSet (w : RegWord)
  /-- PIN_CLR (R705). -/
  | pinClr (w : RegWord)
  /-- PIN_TGL (R705). -/
  | pinTgl (w : RegWord)
  /-- PAD_CFG_WRITE (R707). -/
  | padCfgWrite (n : Fin 24) (w : RegWord)
  /-- UART_TX_PUSH (R717). -/
  | uartTxPush (u : Fin 2) (w : RegWord)
  /-- UART_RX_POP (R717). -/
  | uartRxPop (u : Fin 2)
  /-- I2C_GO (R718). -/
  | i2cGo (w : RegWord)
  /-- WINDOW_READ (R195). -/
  | windowRead (n : Fin 8) (off : Nat) (len : Nat)
  /-- WINDOW_WRITE (R197). -/
  | windowWrite (n : Fin 8) (off : Nat) (data : List (Option Byte))
  /-- WINDOW_SEARCH (R306). -/
  | windowSearch (lane : Fin 16) (len : Nat)
  /-- MAILBOX_DOORBELL (R236). -/
  | mailboxDoorbell (m : Fin 4) (w : RegWord)
  /-- EVENT_CONSUMER_DOORBELL (R263). -/
  | eventConsumerDoorbell (w : RegWord)
  /-- RING_PRODUCER_DOORBELL (R222). -/
  | ringProducerDoorbell (ring : Ring) (w : RegWord)
  /-- RING_CONSUMER_DOORBELL (R227). -/
  | ringConsumerDoorbell (ring : Ring) (w : RegWord)
  /-- DOORBELL_COUNT_WORD_WRITE (R271). -/
  | doorbellCountWordWrite (off : Nat) (w : RegWord)
  /-- BOOT_RECORD_WRITE (R635). -/
  | bootRecordWrite (off : Nat) (data : List (Option Byte))
  /-- EP_WRITE_RECEIVED (R203). -/
  | epWriteReceived (bar : Bar) (off : Nat) (data : List (Option Byte))
  /-- D3HOT_ENTRY (R207). -/
  | d3hotEntry
  /-- MSIX_UNMASK (R210). -/
  | msixUnmask (vec : Option (Fin 32))
  /-- MSIX_HOLDOFF_EXPIRY (R209). -/
  | msixHoldoffExpiry (vec : Fin 32)
  /-- HOST_LINK_RESET (R205). -/
  | hostLinkReset (kind : LinkReset)
  /-- PERST_N_DEASSERT (R41). -/
  | perstNDeassert
  /-- LINK_UP (R774). -/
  | linkUp (width speed : Nat) (reversed : Bool)
  /-- ASPM_L1_REQUEST (R176). -/
  | aspmL1Request
  /-- DMA_COMPLETION (R204). -/
  | dmaCompletion (tag : Nat) (data : List Byte) (ep : Bool)
  /-- DMA_CPL_TIMEOUT (R204). -/
  | dmaCplTimeout (tag : Nat)
  /-- RING_ENTRY_RETRY (R223). -/
  | ringEntryRetry (ring : Ring)
  /-- SEARCH_ADMISSION (R76). -/
  | searchAdmission
  /-- SEARCH_FABRIC_COMPLETION (R87). -/
  | searchFabricCompletion (tag : Nat)
  /-- LATE_DISCARD (R73). -/
  | lateDiscard (tag : Nat)
  /-- SEARCH_DELIVERY (R60). -/
  | searchDelivery
  /-- FABRIC_WORD_TRANSFER (R49). -/
  | fabricWordTransfer (mv : FabricMove)
  /-- FIFO_STALL (R54). -/
  | fifoStall (n : Fin 24)
  /-- CANARY_LAUNCH (R61). -/
  | canaryLaunch
  /-- CANARY_MEASUREMENT (R63). -/
  | canaryMeasurement (taps : Nat)
  /-- CANARY_MISS (R62). -/
  | canaryMiss
  /-- MARGIN_QUALIFY_TIMEOUT (R69). -/
  | marginQualifyTimeout
  /-- STROBE_LOST (R55). -/
  | strobeLost
  /-- FOLLOWER_STROBE_TIMEOUT (R448). -/
  | followerStrobeTimeout
  /-- SUPERVISOR_ARM (R102). -/
  | supervisorArm
  /-- START_CONDITION (R104). -/
  | startCondition (st : StartInput)
  /-- VIN_FALL (R125). -/
  | vinFall
  /-- SHUTDOWN_STEP2_END (R129). -/
  | shutdownStep2End
  /-- SHUTDOWN_STEP3_END (R130). -/
  | shutdownStep3End (committed : Bool)
  /-- SHUTDOWN_STEP4_END (R131). -/
  | shutdownStep4End
  /-- SHUTDOWN_STEP5_END (R98). -/
  | shutdownStep5End
  /-- SHUTDOWN_STEP6_END (R133). -/
  | shutdownStep6End (us : Nat)
  /-- VIN_CUT (R136). -/
  | vinCut
  /-- SLOT_POWER_FAULT (R96). -/
  | slotPowerFault (p : Port)
  /-- RAIL_FAULT (R142). -/
  | railFault (rail : Fin 6)
  /-- DOZE_GATE (R114). -/
  | dozeGate
  /-- DOZE_UNGATE_DONE (R117). -/
  | dozeUngateDone
  /-- WAKE_SOURCE (R121). -/
  | wakeSource (src : Fin 5)
  /-- STANDBY_TIMER (R121). -/
  | standbyTimer
  /-- STANDBY_VIN_LOW (R124). -/
  | standbyVinLow
  /-- POWER_SAMPLE (R148). -/
  | powerSample (ps : PowerIn)
  /-- NTC_SAMPLE (R150). -/
  | ntcSample (raw : BitVec 12) (conv : Int)
  /-- GRACE_EXPIRY (R157). -/
  | graceExpiry
  /-- LEVEL_HOLD_EXPIRY (R158). -/
  | levelHoldExpiry
  /-- MODEL_STALE (R163). -/
  | modelStale
  /-- SENSOR_FAULT_CLEAR (R166). -/
  | sensorFaultClear
  /-- MAILBOX_TAKE (R240). -/
  | mailboxTake (m : Mb)
  /-- COMMAND_TIMEOUT (R243). -/
  | commandTimeout (m : Mb)
  /-- CLAIM_TAKE_EFFECT (R253). -/
  | claimTakeEffect
  /-- FW_READY (R797). -/
  | fwReady
  /-- CONTROL_CORE_RESET (R248). -/
  | controlCoreReset
  /-- GUARD_CORE_RESET (R583). -/
  | guardCoreReset
  /-- GUARD_CORE_START (R584). -/
  | guardCoreStart
  /-- CORE_TRAP (R639). -/
  | coreTrap (c : CoreSel) (f : FaultIn)
  /-- WATCHDOG_EXPIRY (R641). -/
  | watchdogExpiry (c : CoreSel) (f : FaultIn)
  /-- DUMP_WRITTEN (R655). -/
  | dumpWritten
  /-- BOOT_IMAGE_VERIFIED (R636). -/
  | bootImageVerified
  /-- JOURNAL_COMMIT_TIMER (R658). -/
  | journalCommitTimer
  /-- CHECKPOINT_END (R658). -/
  | checkpointEnd
  /-- UPDATE_COMMIT (R393). -/
  | updateCommit
  /-- CASTLING_COMMIT (R347). -/
  | castlingCommit
  /-- GUARD_CASTLING_COMMIT (R577). -/
  | guardCastlingCommit
  /-- BLOCK_UNGATE_DONE (R330). -/
  | blockUngateDone (b : Fin 256)
  /-- BLOCK_INVALIDATE_DONE (R331). -/
  | blockInvalidateDone (b : Fin 256)
  /-- SWEEP_DONE (R377). -/
  | sweepDone (t : Fin 64)
  /-- OVERLAY_DISARM (R418). -/
  | overlayDisarm
  /-- LPM_REBUILD_DONE (R427). -/
  | lpmRebuildDone
  /-- WALK_END (R509). -/
  | walkEnd (i : Nat)
  /-- AGER_PASS (R398). -/
  | agerPass
  /-- HEAD_ROLE_TAKE (R22). -/
  | headRoleTake
  /-- TRAIN_END (R443). -/
  | trainEnd
  /-- TOKEN_FRAME (R444). -/
  | tokenFrame (count : BitVec 6) (stamp : BitVec 32) (serial : BitVec 64) (seq : BitVec 8)
  /-- TOKEN_TIMEOUT (R445). -/
  | tokenTimeout
  /-- CHAIN_UP_TIMEOUT (R447). -/
  | chainUpTimeout
  /-- SEARCH_FRAME (R454). -/
  | searchFrame (profile : Fin 32) (key : BitVec 112) (fetchClass : BitVec 8)
  /-- ANSWER_FRAME (R456). -/
  | answerFrame (a : Answer)
  /-- STATUS_FRAME (R461). -/
  | statusFrame (r : Option StatusIn)
  /-- CMD_PACKET (R467). -/
  | cmdPacket (p : Packet)
  /-- RSP_PACKET (R467). -/
  | rspPacket (p : Packet)
  /-- EVENT_PACKET (R468). -/
  | eventPacket (p : Packet)
  /-- RFETCH_PACKET (R470). -/
  | rfetchPacket (p : Packet)
  /-- RDATA_PACKET (R469). -/
  | rdataPacket (p : Packet)
  /-- RDONE_PACKET (R469). -/
  | rdonePacket (p : Packet)
  /-- RFETCH_RESEND (R473). -/
  | rfetchResend (id : Nat)
  /-- CHAIN_UP_PACKET (R443). -/
  | chainUpPacket (p : Packet)
  /-- GROUPS_PACKET (R476). -/
  | groupsPacket (p : Packet)
  /-- GROUPS_COMMIT (R476). -/
  | groupsCommit
  /-- REG_PACKET (R789). -/
  | regPacket (p : Packet)
  /-- REG_RSP_PACKET (R466). -/
  | regRspPacket (p : Packet)
  /-- BOOT_PACKET (R474). -/
  | bootPacket (p : Packet)
  /-- BOOT_RSP_PACKET (R474). -/
  | bootRspPacket (p : Packet)
  /-- ENUMERATION_COMMIT (R475). -/
  | enumerationCommit
  /-- SLOT_INSERTION (R485). -/
  | slotInsertion (p : Port)
  /-- SLOT_REMOVAL (R489). -/
  | slotRemoval (p : Port)
  /-- SLOT_VCC_DELAYED_OFF (R98). -/
  | slotVccDelayedOff (p : Port)
  /-- EJECT_PULSE_END (R494). -/
  | ejectPulseEnd (p : Port)
  /-- UNMOUNT_DRAIN_END (R493). -/
  | unmountDrainEnd (p : Port)
  /-- DIE_OPERATION_COMPLETE (R483). -/
  | dieOperationComplete (p : Port) (die : Fin 8) (r : DieReply)
  /-- PAGE_DATA_RECEIVED (R502). -/
  | pageDataReceived (p : Port) (die : Fin 8) (page : List Byte)
  /-- SECTOR_DECRYPTED (R513). -/
  | sectorDecrypted (id : Nat)
  /-- FETCH_COMPLETION (R529). -/
  | fetchCompletion (c : Fin 16)
  /-- STREAM_REQUEST_TAKE (R523). -/
  | streamRequestTake (c : Fin 16)
  /-- EXTENT_KEY_LOADED (R565). -/
  | extentKeyLoaded (id : Nat)
  /-- FETCH_TIMEOUT (R533). -/
  | fetchTimeout (id : Nat)
  /-- SAVE_COMMIT (R518). -/
  | saveCommit (p : Port) (m : Mb)
  /-- TAG_TRANSACTION (R549). -/
  | tagTransaction (p : Port) (frame : List Byte)
  /-- TAG_RESULT_POLL (R552). -/
  | tagResultPoll (p : Port)
  /-- REAUTH_DUE (R571). -/
  | reauthDue (p : Port)
  /-- KEY_SLOT_ZEROISE (R598). -/
  | keySlotZeroise (k : Fin 85)
  /-- STEEP_READ (R611). -/
  | steepRead
  /-- SCRUB_DONE (R617). -/
  | scrubDone
  /-- AUDIT_DONE (R621). -/
  | auditDone
  /-- OTP_WORD_PROGRAMMED (R684). -/
  | otpWordProgrammed (readback : BitVec 32)
  /-- GLITCH_FILTER_PASS (R701). -/
  | glitchFilterPass (n : Fin 24) (level : Bool)
  /-- DEBOUNCE_EXPIRY (R702). -/
  | debounceExpiry (n : Fin 24)
  /-- UART_FRAME_RECEIVED (R716). -/
  | uartFrameReceived (u : Fin 2) (b : Byte) (framing parity brk : Bool)
  /-- UART_FRAME_SENT (R717). -/
  | uartFrameSent (u : Fin 2)
  /-- UART_DE_TAIL_END (R717). -/
  | uartDeTailEnd (u : Fin 2)
  /-- I2C_TRANSFER_END (R718). -/
  | i2cTransferEnd (outcome : Fin 6) (written : Nat) (data : List Byte)
  /-- PWM_PERIOD_BOUNDARY (R719). -/
  | pwmPeriodBoundary (k : Fin 4)
  /-- PWM_KILL (R719). -/
  | pwmKill
  /-- TIMER_COUNT (R720). -/
  | timerCount
  /-- TIMER_CAPTURE (R720). -/
  | timerCapture (i : Fin 8) (rising : Bool)
  /-- FAN_TACH_EDGE (R722). -/
  | fanTachEdge (k : Fin 2) (gap : Nat)
  /-- FAN_STALL (R722). -/
  | fanStall (k : Fin 2)
  /-- UIN_EDGE (R723). -/
  | uinEdge (i : Fin 8) (rising : Bool)
  /-- SMB_STATUS_READ (R726). -/
  | smbStatusRead
  /-- SMB_T_EST_READ (R726). -/
  | smbTEstRead
  /-- SMB_T_NTC_READ (R726). -/
  | smbTNtcRead
  /-- SMB_VIN_READ (R726). -/
  | smbVinRead
  /-- SMB_PIN_READ (R726). -/
  | smbPinRead
  /-- SMB_SUSTAIN_READ (R726). -/
  | smbSustainRead
  /-- SMB_CAUSE_READ (R728). -/
  | smbCauseRead
  /-- SMB_CAUSE_CLEAR (R729). -/
  | smbCauseClear (mask : BitVec 8) (pec : Option (BitVec 8))
  /-- SMB_SERIAL_READ (R726). -/
  | smbSerialRead
  /-- SMB_REGPTR_WRITE (R726). -/
  | smbRegptrWrite (off : BitVec 32) (pec : Option (BitVec 8))
  /-- SMB_REG_READ (R727). -/
  | smbRegRead
  /-- SMB_ALERT_RESPONSE (R729). -/
  | smbAlertResponse
  /-- SMB_TIMEOUT (R730). -/
  | smbTimeout
  /-- TAP_EXTEST (R773). -/
  | tapExtest (cells : BitVec 486) (levels : BitVec 24)
  /-- TAP_IDCODE (R771). -/
  | tapIdcode (levels : BitVec 24)
  /-- TAP_SAMPLE_PRELOAD (R770). -/
  | tapSamplePreload (cells : BitVec 486) (levels : BitVec 24)
  /-- TAP_CLAMP (R773). -/
  | tapClamp (levels : BitVec 24)
  /-- TAP_HIGHZ (R773). -/
  | tapHighz (levels : BitVec 24)
  /-- TAP_BYPASS (R770). -/
  | tapBypass (levels : BitVec 24)
  /-- SLOT_POWER_GOOD (R98). -/
  | slotPowerGood (p : Port)
  /-- TRAIN_FRAME (R443). -/
  | trainFrame (side : LinkSide) (phase : BitVec 6)
  /-- FRAME_ERROR (R463). -/
  | frameError (f : SampledFrame)
  /-- ISLAND_LOST (R52). -/
  | islandLost (isl : PllIsland)
  /-- CONFIGURATION_REQUEST (R775). -/
  | configurationRequest (r : CfgReq)
  /-- UNSUPPORTED_REQUEST (R202). -/
  | unsupportedRequest (u : Unserved)
  /-- TAP_RESET (R770). -/
  | tapReset (levels : BitVec 24)
  deriving DecidableEq, Repr

end Sys2Proof
end

