-- ==== Sys2Proof/Decode.lean ====
section
/-! DEFINITION. The commands that words spell. The block has no instruction words: no row of the table gives bits, so no
word spells a command. -/

namespace Sys2Proof

/-- The command that the low `nbits` bits of `w` spell by the table's bits: none, for every row of the table is without
bits. -/
def decodeTableWord (_nbits _w : Nat) : Option Instr := none

end Sys2Proof
end

