-- ==== Sys2Proof/Config.lean ====
section
/-! DEFINITION. What an implementation fixes and the spec leaves open: opaque constants without a body, so that no
proof can see a value of one. -/

namespace Sys2Proof.Config

/-- sustain_cw while every pole's r is 0: R170 divides by their sum and states no quotient (log entry 6). -/
opaque sustainNoResistance : Nat → BitVec 16

/-- A challenge nonce drawn from the random source of the security datapath (R555; log entry 7). -/
opaque nonce : Nat → BitVec 256

/-- The provisioning root hash that the ROM holds (R676; log entry 8). -/
opaque romRootHash : BitVec 256

/-- By how much the commit ply of a group map lies behind the 2 µs that R476 asks for at least (log entry 11). -/
opaque groupsSlack : Nat → BitVec 32

/-- The serial number of another member of the chain, by enumeration and address: no rule says how the head learns it (log
entry 12). -/
opaque memberSerial : Nat → Nat → BitVec 64

/-- The word of configuration RAM (R589) that holds an object of it: the manual gives the 64 KiB no layout (log entry
13). -/
opaque configRamWord : Nat → BitVec 13

/-- A dword of the configuration header whose contents the manual does not lay out, by its number (log entry 14). -/
opaque configWord : Nat → BitVec 32

/-- The places of the capabilities in configuration space (log entry 121). -/
opaque capPlace : Nat → Nat

/-- The outcome that TCAM_UPD_STATUS records for a request made while the port is busy: R363 has it recorded, and no code of
the table names it (log entry 125). -/
opaque updBusyOutcome : Nat → BitVec 3

/-- The level at each pad that nothing of the module drives while no row of the table tells it: behind a glitch filter, after the
pad has been released, or cut from its land by the boundary register (R700, R708, R773; log entry 15). -/
opaque padLevel : Nat → BitVec 24

/-- The level of each peripheral signal at an instant of a waveform (log entry 15). -/
opaque waveLevel : Nat → BitVec 64

/-- The levels of the fixed-function pads, in the order of PIN_FIXED, while no rule or row of the table tells them (R711; log entry
86). -/
opaque fixedLevel : Nat → BitVec 12

/-- A byte read from a die over lands that the boundary register has cut (R773; log entry 85). -/
opaque cutByte : Nat → Nat → BitVec 8

/-- The read capture phase that training finds for a die, in 1/64 unit interval (R764; log entry 148). -/
opaque readPhase : Nat → Nat → BitVec 6

/-- A byte of the sections, certificates and signature of the firmware image that the module leaves Ouvnuwell with, by caddy offset
(R781; log entry 166). -/
opaque factoryByte : Nat → BitVec 8

/-- The open fields of that image and of its slot record: the section lengths, the versions, the entry addresses and the ply of the
store (R630, R647, R781; log entry 166). -/
opaque factoryNum : Nat → Nat

/-- The parameter bytes of SET FEATURES, by feature address and transfer rate: the manual names the features alone (R479; log
entry 148). -/
opaque featureValue : Nat → Nat → BitVec 32

/-- A boundary register cell captured from a land whose level no rule gives (R772; log entry 16). -/
opaque boundaryCells : Nat → BitVec 486

/-- The program counter of a running core (DBG_CTL_PC, DBG_GRD_PC; log entry 17). -/
opaque corePc : Nat → BitVec 32

/-- The rate, in MB/s, of a remote fetch with DEGRADED at the member that serves it: R528 and R536 name no channel whose
deg_rate it is (log entry 115). -/
opaque remoteDegRate : BitVec 10

end Sys2Proof.Config
end

