-- ==== Sys2Proof/Machine/Store.lean ====
section
/-! DEFINITION. Sparse stores: lists of (key, value) pairs with strictly rising keys, in which a key that is not
listed reads as a default. They hold the register file, the structures' words and the entry tables as plain data. -/

namespace Sys2Proof.Machine

/-- A sparse store: (key, value) pairs, keys strictly rising. -/
abbrev Store (α : Type) := List (Nat × α)

/-- The value listed at key `k`, if any. -/
def storeGet? {α : Type} : Store α → Nat → Option α
  | [], _ => none
  | (k', v) :: t, k => if k = k' then some v else storeGet? t k

/-- The store with `v` listed at `k`. -/
def storePut {α : Type} : Store α → Nat → α → Store α
  | [], k, v => [(k, v)]
  | (k', v') :: t, k, v =>
    if k < k' then (k, v) :: (k', v') :: t
    else if k = k' then (k, v) :: t
    else (k', v') :: storePut t k v

/-- The store with nothing listed at `k`. -/
def storeDel {α : Type} (st : Store α) (k : Nat) : Store α := st.filter (fun e => e.1 != k)

/-- The store with nothing listed in `[lo, hi)`. -/
def storeDelRange {α : Type} (st : Store α) (lo hi : Nat) : Store α :=
  st.filter (fun e => e.1 < lo || hi ≤ e.1)

/-- The value at `k` of a store whose unlisted keys read as `d`. -/
def storeGetD {α : Type} (d : α) (st : Store α) (k : Nat) : α := (storeGet? st k).getD d

/-- The store with `v` at `k`, in canonical form: the value an unlisted key reads as is never listed. -/
def storeSetD {α : Type} [DecidableEq α] (d : α) (st : Store α) (k : Nat) (v : α) : Store α :=
  if v = d then storeDel st k else storePut st k v

/-- The canonical form of a store's keys: strictly rising. -/
abbrev storeSorted {α : Type} (st : Store α) : Prop := st.Pairwise (fun a b => a.1 < b.1)

/-- The canonical form of a store whose unlisted keys read as `d`. -/
abbrev storeWf {α : Type} [DecidableEq α] (d : α) (st : Store α) : Prop :=
  storeSorted st ∧ ∀ e ∈ st, e.2 ≠ d

/-- A store in canonical form with the same values. -/
def storeCanon {α : Type} [DecidableEq α] (dflt : Nat → α) (st : Store α) : Store α :=
  st.foldr (fun e acc => storeSetD (dflt e.1) acc e.1 e.2) []

/-- A list with its element `i` replaced; unchanged when it has none. -/
def listSet {α : Type} (l : List α) (i : Nat) (v : α) : List α := l.set i v

end Sys2Proof.Machine
end

