-- ==== Sys2Proof/Machine/Memory.lean ====
section
/-! DEFINITION. The addressed memories of the module: every structure of R589 with its copies and check bits, as one
list of (address, byte) pairs over one internal address space. The address of a byte is made of its structure code
(sid), its copy, whether it is data or a check byte, and its offset in the structure's window layout (R193, R317, R366).
The structures whose units are 8 bytes keep one check byte for each word, bit b covering byte b (R624); those whose
units are 32 bytes keep their check bits inside the unit (R317, R366). -/

namespace Sys2Proof.Machine

/-- The module's memories: (internal address, byte) pairs in canonical form. -/
abbrev Memory := List Host.Cell

/-- The bytes of one region of the internal address space. -/
def regionSize : Nat := 2 ^ 27

/-- Base of the data bytes of copy `copy` (0 for A or the single copy, 1 for B) of structure `sid`. -/
def dataBase (sid copy : Nat) : Nat := regionSize * ((sid * 2 + copy) * 2)

/-- Base of the check bytes, one a word, of copy `copy` of structure `sid`. -/
def checkBase (sid copy : Nat) : Nat := regionSize * ((sid * 2 + copy) * 2 + 1)

/-- Whether the units of a structure hold 32 bytes, with their check bits inside (R317, R366). -/
def unit32 (sid : Nat) : Bool := sid == 0x01 || sid == 0x10 || sid == 0x13

/-- Whether a structure is a paired bank (R589). -/
def paired (sid : Nat) : Bool :=
  sid == 0x02 || sid == 0x10 || sid == 0x13 || sid == 0x20 || (0x30 ≤ sid && sid ≤ 0x36)

/-- The bytes of a unit of a structure (R589). -/
def unitBytes (sid : Nat) : Nat := if unit32 sid then 32 else 8

/-! ### Parity (R587) -/

/-- The number of ones of a byte. -/
def byteOnes (b : Byte) : Nat := (List.range 8).foldl (fun n i => n + b2n (b.getLsbD i)) 0

/-- The odd parity bit of a byte: with it, the number of ones is odd. -/
def oddParity (b : Byte) : Bool := byteOnes b % 2 == 0

/-- The odd parity bit of a single-bit field (R587). -/
def oddParityBit (b : Bool) : Bool := !b

/-- The number whose bit `k` is element `k` of a list. -/
def bitsNat : List Bool → Nat
  | [] => 0
  | b :: bs => b2n b + 2 * bitsNat bs

/-- The check byte of an 8-byte word with fresh parity (R588). -/
def wordCheck (bytes : List Byte) : Byte := BitVec.ofNat 8 (bitsNat (bytes.map oddParity))

/-! ### The CRC of R6 -/

/-- CRC-32 of R6, one byte: eight steps of the reflected polynomial 0xEDB8_8320. -/
def crcStep (c : BitVec 32) : BitVec 32 := if c.getLsbD 0 then (c >>> 1) ^^^ 0xEDB88320 else c >>> 1

/-- The CRC register after the bytes of a list. -/
def crcRun (c : BitVec 32) : List Byte → BitVec 32
  | [] => c
  | b :: bs =>
    let x := c ^^^ b.setWidth 32
    crcRun (crcStep (crcStep (crcStep (crcStep (crcStep (crcStep (crcStep (crcStep x)))))))) bs

/-- CRC-32 over a byte string (R6). -/
def crc32 (bs : List Byte) : Nat := (crcRun 0xFFFFFFFF bs ^^^ 0xFFFFFFFF).toNat

/-! ### What nothing has written -/

/-- The lengths of the sections of the firmware that the module leaves Ouvnuwell with: free, within the bounds of R630. -/
def factoryCtl : Nat := 64 * (1 + Config.factoryNum 0 % 7168)
def factoryGrd : Nat := 64 * (1 + Config.factoryNum 1 % 3072)
def factoryLen : Nat := 128 + factoryCtl + factoryGrd + 448

/-- The version fields that the image's header and the slot's record share. -/
def factoryVersions : List Byte := (List.range 3).flatMap (fun i => leBytes 4 (Config.factoryNum (2 + i)))

/-- The 128-byte header of that image (R630). -/
def factoryHeader : List Byte :=
  leBytes 4 0x54384657 ++ leBytes 2 1 ++ leBytes 2 0 ++ factoryVersions ++ leBytes 4 factoryCtl ++ leBytes 4 factoryGrd ++
    leBytes 4 (Config.factoryNum 5 % factoryCtl) ++ leBytes 4 (Config.factoryNum 6 % factoryGrd) ++ List.replicate 92 0

/-- The 64-byte record of firmware slot 0 (R647). -/
def factoryRecord : List Byte :=
  let image := factoryHeader ++ (List.range (factoryLen - 128)).map (fun k => Config.factoryByte (0x10000 + 128 + k))
  let r := [1, 0, 0, 0] ++ leBytes 4 factoryLen ++ factoryVersions ++ leBytes 8 (Config.factoryNum 7) ++
    leBytes 4 (crc32 image) ++ List.replicate 28 0
  r ++ leBytes 4 (crc32 r)

/-- A byte of the caddy that belongs to the record or the image of firmware slot 0 (R647). -/
def factoryAt (off : Nat) : Bool := (0x40 ≤ off && off < 0x80) || (0x10000 ≤ off && off < 0x110000)

/-- What the module leaves Ouvnuwell with in a byte of the caddy: firmware slot 0 with its record and the image's header, whose other
bytes are free, and blank elsewhere (R781; log entry 166). -/
def factoryFill (off : Nat) : Byte :=
  if factoryAt off then
    if off < 0x80 then factoryRecord.getD (off - 0x40) 0
    else if off < 0x10080 then factoryHeader.getD (off - 0x10000) 0
    else Config.factoryByte off
  else 0

/-- What a byte that nothing has written reads as: in the caddy, its contents as the module leaves Ouvnuwell (R781); elsewhere the
START fill (R628), zero data with odd parity, so that the check field of an array slot is 0x007F_FFFF, that of a way or overflow entry
0x0FFF_FFFF, and the check byte of a word 0xFF. -/
def Memory.fill (addr : Nat) : Byte :=
  let region := addr / regionSize
  let off := addr % regionSize
  let sid := region / 4
  if region = 0x60 * 4 then factoryFill off
  else if region = 0x60 * 4 + 1 ∧ factoryAt (8 * off) then wordCheck ((List.range 8).map (fun k => factoryFill (8 * off + k)))
  else if region % 2 = 1 then 0xFF
  else if unit32 sid then
    let k := off % 32
    if k = 0x1C || k = 0x1D then 0xFF
    else if k = 0x1E then (if sid = 0x01 then 0x7F else 0xFF)
    else if k = 0x1F then (if sid = 0x01 then 0x00 else 0x0F)
    else 0
  else 0

/-! ### Bytes -/

/-- The byte at an internal address. -/
def memByte (m : Memory) (addr : Nat) : Byte := storeGetD (Memory.fill addr) m addr

/-- The memory with byte `v` at an internal address; a byte equal to the fill is not listed. -/
def memSetByte (m : Memory) (addr : Nat) (v : Byte) : Memory := storeSetD (Memory.fill addr) m addr v

/-- The memory with the bytes of a list from an internal address upward. -/
def memSetBytes : Memory → Nat → List Byte → Memory
  | m, _, [] => m
  | m, a, b :: bs => memSetBytes (memSetByte m a b) (a + 1) bs

/-- The `n` bytes from an internal address upward. -/
def memBytes (m : Memory) (a : Nat) : Nat → List Byte
  | 0 => []
  | n + 1 => memByte m a :: memBytes m (a + 1) n

/-- The canonical form: addresses strictly rising, and no byte listed that equals the fill. -/
abbrev Memory.wf (m : Memory) : Prop :=
  m.Pairwise (fun a b => a.1 < b.1) ∧ ∀ c ∈ m, c.2 ≠ Memory.fill c.1

/-- The fresh check field of a 32-byte unit, from its bytes (R317, R366). -/
def unitCheck (sid : Nat) (u : List Byte) : List Byte :=
  if sid = 0x01 then
    leBytes 4 (bitsNat ((u.take 10).map oddParity ++ ((u.drop 0x10).take 10).map oddParity ++
      [oddParityBit ((u.getD 0x0C 0).getLsbD 0)] ++ ((u.drop 0x0A).take 2).map oddParity))
  else leBytes 4 (bitsNat ((u.take 0x1C).map oddParity))

/-! ### Words and their checks -/

/-- One copy of an 8-byte word as stored: its data, and the bytes that fail their parity. -/
structure RawWord where
  data : List Byte
  syn : BitVec 8
  deriving DecidableEq, Repr

/-- The bytes of 8-byte-unit word `wi` that fail parity in one copy (R624). -/
def wordSyn (m : Memory) (sid copy wi : Nat) : BitVec 8 :=
  memByte m (checkBase sid copy + wi) ^^^ wordCheck (memBytes m (dataBase sid copy + 8 * wi) 8)

/-- The bytes of word `k` (0 to 3) of a 32-byte unit that fail parity, from the unit's stored and fresh check bits.
A failing valid bit counts at its ctrl byte. -/
def unitWordSyn (sid : Nat) (u : List Byte) (k : Nat) : BitVec 8 :=
  let d := leNat (u.drop 0x1C) ^^^ leNat (unitCheck sid u)
  if sid = 0x01 then
    let bad (i : Nat) : Bool :=
      if i < 10 then bitOf d i
      else if i = 0x0A then bitOf d 21 else if i = 0x0B then bitOf d 22
      else if i = 0x0C then bitOf d 20
      else if 0x10 ≤ i && i < 0x1A then bitOf d (i - 0x10 + 10) else false
    BitVec.ofNat 8 (bitsNat ((List.range 8).map (fun j => bad (8 * k + j))))
  else
    BitVec.ofNat 8 (bitsNat ((List.range 8).map (fun j => 8 * k + j < 0x1C && bitOf d (8 * k + j))))

/-- The stored bytes of a 32-byte unit in one copy. -/
def unitRaw (m : Memory) (sid copy ui : Nat) : List Byte := memBytes m (dataBase sid copy + 32 * ui) 32

/-- One copy of word `wi` of a structure (word offset from its base) as stored. -/
def readRaw (m : Memory) (sid copy wi : Nat) : RawWord :=
  if unit32 sid then
    let u := unitRaw m sid copy (wi / 4)
    ⟨(u.drop (8 * (wi % 4))).take 8, unitWordSyn sid u (wi % 4)⟩
  else ⟨memBytes m (dataBase sid copy + 8 * wi) 8, wordSyn m sid copy wi⟩

/-- The outcome of a consumer's read of one word: the data it gets, whether one copy was corrected, whether the word
left with poison, and the failing bytes of each copy (R591, R593). -/
structure ReadOut where
  data : List Byte
  corrected : Bool
  poison : Bool
  synA : BitVec 8
  synB : BitVec 8
  deriving DecidableEq, Repr

/-- A consumer's read of word `wi` of a structure (R591). An uncorrectable word of a pair is read from copy A. -/
def readWord (m : Memory) (sid wi : Nat) : ReadOut :=
  let a := readRaw m sid 0 wi
  if paired sid then
    let b := readRaw m sid 1 wi
    if a.syn = 0 then ⟨a.data, b.syn != 0, false, a.syn, b.syn⟩
    else if b.syn = 0 then ⟨b.data, true, false, a.syn, b.syn⟩
    else ⟨a.data, false, true, a.syn, b.syn⟩
  else ⟨a.data, false, a.syn != 0, a.syn, 0⟩

/-- The copies of a structure. -/
def copies (sid : Nat) : List Nat := if paired sid then [0, 1] else [0]

/-- One copy of a 32-byte unit written with given bytes, check field included. -/
def putUnitRaw (m : Memory) (sid copy ui : Nat) (u : List Byte) : Memory :=
  memSetBytes m (dataBase sid copy + 32 * ui) (u.take 32)

/-- A 32-byte unit written with fresh parity in every copy (R588, R590). -/
def putUnit (m : Memory) (sid ui : Nat) (u : List Byte) : Memory :=
  let v := u.take 0x1C ++ unitCheck sid u
  (copies sid).foldl (fun m c => putUnitRaw m sid c ui v) m

/-- One copy of an 8-byte word written with given data and check byte. -/
def putWordRaw (m : Memory) (sid copy wi : Nat) (d : List Byte) (chk : Byte) : Memory :=
  memSetByte (memSetBytes m (dataBase sid copy + 8 * wi) (d.take 8)) (checkBase sid copy + wi) chk

/-- An 8-byte word written with fresh parity in every copy (R588, R590). -/
def putWord (m : Memory) (sid wi : Nat) (d : List Byte) : Memory :=
  (copies sid).foldl (fun m c => putWordRaw m sid c wi d (wordCheck d)) m

/-- Poison stored in word `wi`: the data with every parity bit inverted, in every copy (R594). -/
def putPoison (m : Memory) (sid wi : Nat) (d : List Byte) : Memory :=
  if unit32 sid then
    (copies sid).foldl (fun m c =>
      let u := unitRaw m sid c (wi / 4)
      let v := u.take (8 * (wi % 4)) ++ d.take 8 ++ u.drop (8 * (wi % 4) + 8)
      -- every parity bit that covers a byte of this word is inverted; those of the other words keep their stored sense
      let old := leNat (u.drop 0x1C)
      let fresh := leNat (unitCheck sid v)
      let cover (i : Nat) : Nat :=
        if sid = 0x01 then
          if i < 10 then 2 ^ i else if i = 0x0A then 2 ^ 21 else if i = 0x0B then 2 ^ 22
          else if i = 0x0C then 2 ^ 20 else if 0x10 ≤ i && i < 0x1A then 2 ^ (i - 6) else 0
        else if i < 0x1C then 2 ^ i else 0
      let mask := (List.range 8).foldl (fun n j => n ||| cover (8 * (wi % 4) + j)) 0
      let chk := (old &&& (2 ^ 32 - 1 - mask)) ||| ((fresh ^^^ mask) &&& mask)
      putUnitRaw m sid c (wi / 4) (v.take 0x1C ++ leBytes 4 chk)) m
  else (copies sid).foldl (fun m c => putWordRaw m sid c wi d (wordCheck d ^^^ 0xFF)) m

/-- The memory with the units or words of a byte range of a structure back at the fill. -/
def clearRange (m : Memory) (sid lo len : Nat) : Memory :=
  (copies sid).foldl (fun m c =>
    storeDelRange (storeDelRange m (dataBase sid c + lo) (dataBase sid c + lo + len))
      (checkBase sid c + lo / 8) (checkBase sid c + (lo + len) / 8)) m

/-- A number inserted in a strictly rising list. -/
def insertNat : List Nat → Nat → List Nat
  | [], k => [k]
  | x :: xs, k => if k < x then k :: x :: xs else if k = x then x :: xs else x :: insertNat xs k

/-- The numbers of a list in strictly rising order. -/
def sortNat (l : List Nat) : List Nat := l.foldl insertNat []

/-- The units of a structure, by index, of which any copy holds a byte that differs from the fill: every other unit of
the structure is as the fill left it. -/
def listedUnits (m : Memory) (sid : Nat) : List Nat :=
  sortNat ((copies sid).flatMap (fun c =>
    m.filterMap (fun e =>
      if dataBase sid c ≤ e.1 && e.1 < dataBase sid c + regionSize then some ((e.1 - dataBase sid c) / unitBytes sid)
      else if !unit32 sid && checkBase sid c ≤ e.1 && e.1 < checkBase sid c + regionSize then
        some (e.1 - checkBase sid c)
      else none)))

end Sys2Proof.Machine
end

