-- ==== Sys2Proof/Machine/Regs.lean ====
section
/-! DEFINITION. The register map: one descriptor for every field of every register of BAR0, with its offset, bit
position, width, access code (R11) and the value it holds when START has completed, from the register tables of the
owning chapters. A register that comes in instances (per table, per slot, per channel) has one descriptor with a
stride. A Reset value of "OTP" is the one a blank array gives (R674 to R678); START loads the others. -/

namespace Sys2Proof.Machine

/-- The access codes of R11. -/
inductive Acc where
  | ro | rw | w1c | w1s | wo | rc
  deriving DecidableEq, Repr

/-- One field of a register, in `count` instances `stride` bytes apart. `reset` lists the instances' values when
START has completed; the last one stands for every further instance. -/
structure Fld where
  base : Nat
  lo : Nat
  width : Nat
  acc : Acc
  stride : Nat
  count : Nat
  reset : List Nat
  deriving DecidableEq, Repr

/-- The value that instance `i` of a field holds when START has completed. -/
def fldReset (f : Fld) (i : Nat) : Nat := f.reset.getD i (f.reset.getLastD 0)

/-- The key under which the register file holds instance `i` of a field. -/
def fldKey (f : Fld) (i : Nat) : Nat := (f.base + f.stride * i) * 32 + f.lo

end Sys2Proof.Machine

namespace Sys2Proof.Machine.Reg
open Sys2Proof.Machine

def CLK_ISL_STATUS_hli_run : Fld := ⟨0x03000, 0, 1, .ro, 0, 1, [0]⟩
def CLK_ISL_STATUS_sic_lock : Fld := ⟨0x03000, 1, 1, .ro, 0, 1, [1]⟩
def CLK_ISL_STATUS_sic_src : Fld := ⟨0x03000, 2, 1, .ro, 0, 1, [0]⟩
def CLK_ISL_STATUS_chn_lock : Fld := ⟨0x03000, 3, 1, .ro, 0, 1, [0]⟩
def CLK_ISL_STATUS_mda_run : Fld := ⟨0x03000, 4, 1, .ro, 0, 1, [0]⟩
def CLK_ISL_STATUS_mdb_run : Fld := ⟨0x03000, 5, 1, .ro, 0, 1, [0]⟩
def CLK_ISL_STATUS_mpu_lock : Fld := ⟨0x03000, 6, 1, .ro, 0, 1, [1]⟩
def CLK_ISL_STATUS_mon_run : Fld := ⟨0x03000, 7, 1, .ro, 0, 1, [1]⟩
def CLK_ISL_STATUS_aon_run : Fld := ⟨0x03000, 8, 1, .ro, 0, 1, [1]⟩
def CLK_ISL_STATUS_tck_seen : Fld := ⟨0x03000, 9, 1, .ro, 0, 1, [0]⟩
def CLK_EVENT_late : Fld := ⟨0x03004, 0, 1, .w1c, 0, 1, [0]⟩
def CLK_EVENT_EN_late : Fld := ⟨0x03008, 0, 1, .rw, 0, 1, [0]⟩
def CLK_EVENT_canary_floor : Fld := ⟨0x03004, 1, 1, .w1c, 0, 1, [0]⟩
def CLK_EVENT_EN_canary_floor : Fld := ⟨0x03008, 1, 1, .rw, 0, 1, [0]⟩
def CLK_EVENT_margin_exhausted : Fld := ⟨0x03004, 2, 1, .w1c, 0, 1, [0]⟩
def CLK_EVENT_EN_margin_exhausted : Fld := ⟨0x03008, 2, 1, .rw, 0, 1, [0]⟩
def CLK_EVENT_canary_miss : Fld := ⟨0x03004, 3, 1, .w1c, 0, 1, [0]⟩
def CLK_EVENT_EN_canary_miss : Fld := ⟨0x03008, 3, 1, .rw, 0, 1, [0]⟩
def CLK_EVENT_fifo_stall : Fld := ⟨0x03004, 4, 1, .w1c, 0, 1, [0]⟩
def CLK_EVENT_EN_fifo_stall : Fld := ⟨0x03008, 4, 1, .rw, 0, 1, [0]⟩
def CLK_EVENT_fifo_parity : Fld := ⟨0x03004, 5, 1, .w1c, 0, 1, [0]⟩
def CLK_EVENT_EN_fifo_parity : Fld := ⟨0x03008, 5, 1, .rw, 0, 1, [0]⟩
def CLK_EVENT_island_lost : Fld := ⟨0x03004, 6, 1, .w1c, 0, 1, [0]⟩
def CLK_EVENT_EN_island_lost : Fld := ⟨0x03008, 6, 1, .rw, 0, 1, [0]⟩
def CLK_PLY_LO_ply_lo : Fld := ⟨0x03010, 0, 32, .ro, 0, 1, [0]⟩
def CLK_PLY_HI_ply_hi : Fld := ⟨0x03014, 0, 32, .ro, 0, 1, [0]⟩
def CLK_CANARY_slack_last : Fld := ⟨0x03020, 0, 11, .ro, 0, 1, [0]⟩
def CLK_CANARY_MM_slack_min : Fld := ⟨0x03024, 0, 11, .ro, 0, 1, [2047]⟩
def CLK_CANARY_MM_slack_max : Fld := ⟨0x03024, 16, 11, .ro, 0, 1, [0]⟩
def CLK_CANARY_MM_mm_clear : Fld := ⟨0x03024, 31, 1, .wo, 0, 1, [0]⟩
def CLK_MARGIN_CTRL_canary_target : Fld := ⟨0x03028, 0, 8, .rw, 0, 1, [152]⟩
def CLK_MARGIN_CTRL_canary_hyst : Fld := ⟨0x03028, 8, 7, .rw, 0, 1, [16]⟩
def CLK_MARGIN_CTRL_canary_floor : Fld := ⟨0x03028, 16, 8, .rw, 0, 1, [51]⟩
def CLK_MARGIN_CTRL_canary_cal : Fld := ⟨0x03028, 24, 6, .rw, 0, 1, [0]⟩
def CLK_MARGIN_LIMIT_margin_code_min : Fld := ⟨0x0302C, 0, 6, .rw, 0, 1, [0]⟩
def CLK_MARGIN_LIMIT_margin_code_start : Fld := ⟨0x0302C, 8, 6, .ro, 0, 1, [56]⟩
def CLK_MARGIN_STATUS_margin_code : Fld := ⟨0x03030, 0, 6, .ro, 0, 1, [56]⟩
def CLK_MARGIN_STATUS_rail_mv : Fld := ⟨0x03030, 16, 10, .ro, 0, 1, [900]⟩
def CLK_MARGIN_STATUS_margin_exhausted : Fld := ⟨0x03030, 31, 1, .ro, 0, 1, [0]⟩
def CLK_MARGIN_STEPS_steps_up : Fld := ⟨0x03034, 0, 16, .rc, 0, 1, [0]⟩
def CLK_MARGIN_STEPS_steps_down : Fld := ⟨0x03034, 16, 16, .rc, 0, 1, [0]⟩
def CLK_FLOOR_COUNT_floor_count : Fld := ⟨0x03038, 0, 32, .rc, 0, 1, [0]⟩
def CLK_LATE_COUNT_late_count : Fld := ⟨0x03040, 0, 32, .rc, 0, 1, [0]⟩
def CLK_LATE_PLY_late_ply : Fld := ⟨0x03044, 0, 32, .ro, 0, 1, [0]⟩
def CLK_LATE_INFO_late_src : Fld := ⟨0x03048, 0, 2, .ro, 0, 1, [0]⟩
def CLK_LATE_INFO_late_profile : Fld := ⟨0x03048, 2, 6, .ro, 0, 1, [0]⟩
def CLK_LATE_INFO_late_discard : Fld := ⟨0x03048, 16, 16, .rc, 0, 1, [0]⟩
def CLK_ADMIT_PTR_admit_ptr : Fld := ⟨0x03050, 0, 2, .ro, 0, 1, [0]⟩
def CLK_ADMIT_Q_admit_q : Fld := ⟨0x03054, 0, 32, .rc, 0, 1, [0]⟩
def CLK_ADMIT_W_admit_w : Fld := ⟨0x03058, 0, 32, .rc, 0, 1, [0]⟩
def CLK_ADMIT_S_admit_s : Fld := ⟨0x0305C, 0, 32, .rc, 0, 1, [0]⟩
def CLK_ADMIT_CAPPED_admit_capped : Fld := ⟨0x03060, 0, 32, .rc, 0, 1, [0]⟩
def CLK_FIFO_STATUS_occupancy : Fld := ⟨0x03100, 0, 8, .ro, 4, 24, [0]⟩
def CLK_FIFO_STATUS_high_water : Fld := ⟨0x03100, 8, 8, .ro, 4, 24, [0]⟩
def CLK_FIFO_STATUS_depth : Fld := ⟨0x03100, 16, 8, .ro, 4, 24, [64, 32, 64, 128, 32, 128, 4, 96, 64, 64, 32, 64, 64, 32, 64, 64, 32, 32, 16, 16, 4, 4, 4, 4]⟩
def CLK_FIFO_STATUS_stall : Fld := ⟨0x03100, 24, 1, .w1c, 4, 24, [0]⟩
def CLK_FIFO_STATUS_parity_errs : Fld := ⟨0x03100, 25, 7, .rc, 4, 24, [0]⟩
def CLK_FIFO_HW_CLR_hw_clr : Fld := ⟨0x03160, 0, 24, .wo, 0, 1, [0]⟩
def PWR_STATE_state : Fld := ⟨0x01000, 0, 3, .ro, 0, 1, [1]⟩
def PWR_STATE_fw_state : Fld := ⟨0x01000, 4, 2, .ro, 0, 1, [0]⟩
def PWR_STATE_shdn_step : Fld := ⟨0x01000, 8, 3, .ro, 0, 1, [0]⟩
def PWR_STATE_refuse_reason : Fld := ⟨0x01000, 16, 3, .ro, 0, 1, [0]⟩
def PWR_CTRL_doze_req : Fld := ⟨0x01004, 0, 1, .wo, 0, 1, [0]⟩
def PWR_CTRL_wake_req : Fld := ⟨0x01004, 1, 1, .wo, 0, 1, [0]⟩
def PWR_CTRL_standby_req : Fld := ⟨0x01004, 2, 1, .wo, 0, 1, [0]⟩
def PWR_CTRL_shutdown_req : Fld := ⟨0x01004, 3, 1, .wo, 0, 1, [0]⟩
def PWR_CTRL_restart : Fld := ⟨0x01004, 4, 1, .wo, 0, 1, [0]⟩
def PWR_CTRL_ctrl_key : Fld := ⟨0x01004, 16, 16, .wo, 0, 1, [0]⟩
def PWR_VIN_vin_mv : Fld := ⟨0x01010, 0, 16, .ro, 0, 1, [0]⟩
def PWR_VIN_iin_ma : Fld := ⟨0x01010, 16, 16, .ro, 0, 1, [0]⟩
def PWR_PIN_pin_cw : Fld := ⟨0x01014, 0, 16, .ro, 0, 1, [0]⟩
def PWR_PIN_pin_max_cw : Fld := ⟨0x01014, 16, 16, .ro, 0, 1, [0]⟩
def PWR_VIN_MM_vin_min_mv : Fld := ⟨0x01018, 0, 16, .ro, 0, 1, [65535]⟩
def PWR_VIN_MM_vin_max_dv : Fld := ⟨0x01018, 16, 15, .ro, 0, 1, [0]⟩
def PWR_VIN_MM_mm_clear : Fld := ⟨0x01018, 31, 1, .wo, 0, 1, [0]⟩
def PWR_SLOT_I_vcc_a_ma : Fld := ⟨0x0101C, 0, 12, .ro, 0, 1, [0]⟩
def PWR_SLOT_I_vcc_b_ma : Fld := ⟨0x0101C, 16, 12, .ro, 0, 1, [0]⟩
def PWR_SLOTQ_I_vccq_a_ma : Fld := ⟨0x01020, 0, 12, .ro, 0, 1, [0]⟩
def PWR_SLOTQ_I_vccq_b_ma : Fld := ⟨0x01020, 16, 12, .ro, 0, 1, [0]⟩
def PWR_VIN_WARN_vin_warn_mv : Fld := ⟨0x01024, 0, 16, .rw, 0, 1, [9000]⟩
def PWR_VIN_WARN_vin_warn_en : Fld := ⟨0x01024, 16, 1, .rw, 0, 1, [0]⟩
def PWR_RAIL_STATUS_rail_pg : Fld := ⟨0x01028, 0, 8, .ro, 0, 1, [63]⟩
def PWR_EVENT_vin_warn : Fld := ⟨0x01030, 0, 1, .w1c, 0, 1, [0]⟩
def PWR_EVENT_EN_vin_warn : Fld := ⟨0x01034, 0, 1, .rw, 0, 1, [0]⟩
def PWR_EVENT_vin_high : Fld := ⟨0x01030, 1, 1, .w1c, 0, 1, [0]⟩
def PWR_EVENT_EN_vin_high : Fld := ⟨0x01034, 1, 1, .rw, 0, 1, [0]⟩
def PWR_EVENT_slot_fault_a : Fld := ⟨0x01030, 2, 1, .w1c, 0, 1, [0]⟩
def PWR_EVENT_EN_slot_fault_a : Fld := ⟨0x01034, 2, 1, .rw, 0, 1, [0]⟩
def PWR_EVENT_slot_fault_b : Fld := ⟨0x01030, 3, 1, .w1c, 0, 1, [0]⟩
def PWR_EVENT_EN_slot_fault_b : Fld := ⟨0x01034, 3, 1, .rw, 0, 1, [0]⟩
def PWR_EVENT_req_refused : Fld := ⟨0x01030, 4, 1, .w1c, 0, 1, [0]⟩
def PWR_EVENT_EN_req_refused : Fld := ⟨0x01034, 4, 1, .rw, 0, 1, [0]⟩
def PWR_EVENT_doze_exit : Fld := ⟨0x01030, 5, 1, .w1c, 0, 1, [0]⟩
def PWR_EVENT_EN_doze_exit : Fld := ⟨0x01034, 5, 1, .rw, 0, 1, [0]⟩
def PWR_EVENT_rail_fault : Fld := ⟨0x01030, 6, 1, .w1c, 0, 1, [0]⟩
def PWR_EVENT_EN_rail_fault : Fld := ⟨0x01034, 6, 1, .rw, 0, 1, [0]⟩
def PWR_LAST_CAUSE_cause : Fld := ⟨0x01040, 0, 4, .ro, 0, 1, [0]⟩
def PWR_LAST_CAUSE_step_reached : Fld := ⟨0x01040, 4, 3, .ro, 0, 1, [0]⟩
def PWR_LAST_CAUSE_journal_ok : Fld := ⟨0x01040, 7, 1, .ro, 0, 1, [0]⟩
def PWR_LAST_CAUSE_save_action : Fld := ⟨0x01040, 8, 2, .ro, 0, 1, [0]⟩
def PWR_LAST_CAUSE_also_seen : Fld := ⟨0x01040, 10, 6, .ro, 0, 1, [0]⟩
def PWR_SHDN_TIME_shdn_us : Fld := ⟨0x01044, 0, 32, .ro, 0, 1, [0]⟩
def PWR_START_TIME_start_us : Fld := ⟨0x01048, 0, 16, .ro, 0, 1, [0]⟩
def PWR_START_TIME_fill_us : Fld := ⟨0x01048, 16, 16, .ro, 0, 1, [0]⟩
def PWR_WAKE_CFG_wake_en : Fld := ⟨0x01050, 0, 5, .rw, 0, 1, [0]⟩
def PWR_WAKE_CFG_wake_n_assert : Fld := ⟨0x01050, 8, 1, .rw, 0, 1, [0]⟩
def PWR_STBY_TIMER_timer_s : Fld := ⟨0x01054, 0, 22, .rw, 0, 1, [0]⟩
def PWR_WAKE_CAUSE_wake_src : Fld := ⟨0x01058, 0, 5, .ro, 0, 1, [0]⟩
def THM_STATUS_t_est : Fld := ⟨0x02000, 0, 16, .ro, 0, 1, [0]⟩
def THM_STATUS_level : Fld := ⟨0x02000, 16, 3, .ro, 0, 1, [0]⟩
def THM_STATUS_state : Fld := ⟨0x02000, 20, 2, .ro, 0, 1, [0]⟩
def THM_STATUS_sensor_fault : Fld := ⟨0x02000, 22, 1, .ro, 0, 1, [0]⟩
def THM_STATUS_throttle_active : Fld := ⟨0x02000, 23, 1, .ro, 0, 1, [0]⟩
def THM_STATUS_est_valid : Fld := ⟨0x02000, 24, 1, .ro, 0, 1, [1]⟩
def THM_EVENT_warn : Fld := ⟨0x02004, 0, 1, .w1c, 0, 1, [0]⟩
def THM_EVENT_EN_warn : Fld := ⟨0x02008, 0, 1, .rw, 0, 1, [1]⟩
def THM_EVENT_enforce : Fld := ⟨0x02004, 1, 1, .w1c, 0, 1, [0]⟩
def THM_EVENT_EN_enforce : Fld := ⟨0x02008, 1, 1, .rw, 0, 1, [1]⟩
def THM_EVENT_critical : Fld := ⟨0x02004, 2, 1, .w1c, 0, 1, [0]⟩
def THM_EVENT_EN_critical : Fld := ⟨0x02008, 2, 1, .rw, 0, 1, [1]⟩
def THM_EVENT_release : Fld := ⟨0x02004, 3, 1, .w1c, 0, 1, [0]⟩
def THM_EVENT_EN_release : Fld := ⟨0x02008, 3, 1, .rw, 0, 1, [0]⟩
def THM_EVENT_level_change : Fld := ⟨0x02004, 4, 1, .w1c, 0, 1, [0]⟩
def THM_EVENT_EN_level_change : Fld := ⟨0x02008, 4, 1, .rw, 0, 1, [0]⟩
def THM_EVENT_sensor_fault : Fld := ⟨0x02004, 5, 1, .w1c, 0, 1, [0]⟩
def THM_EVENT_EN_sensor_fault : Fld := ⟨0x02008, 5, 1, .rw, 0, 1, [1]⟩
def THM_EVENT_sensor_ok : Fld := ⟨0x02004, 6, 1, .w1c, 0, 1, [0]⟩
def THM_EVENT_EN_sensor_ok : Fld := ⟨0x02008, 6, 1, .rw, 0, 1, [0]⟩
def THM_NTC_t_ntc : Fld := ⟨0x0200C, 0, 16, .ro, 0, 1, [0]⟩
def THM_NTC_ntc_raw : Fld := ⟨0x0200C, 16, 12, .ro, 0, 1, [0]⟩
def THM_PDIE_p_die_cw : Fld := ⟨0x02010, 0, 16, .ro, 0, 1, [0]⟩
def THM_PDIE_sustain_cw : Fld := ⟨0x02010, 16, 16, .ro, 0, 1, [0]⟩
def THM_LIMITS_warn_c : Fld := ⟨0x02014, 0, 8, .rw, 0, 1, [100]⟩
def THM_LIMITS_crit_c : Fld := ⟨0x02014, 8, 8, .rw, 0, 1, [118]⟩
def THM_LIMITS_hyst_c : Fld := ⟨0x02014, 16, 4, .rw, 0, 1, [3]⟩
def THM_LIMITS_step_c : Fld := ⟨0x02014, 20, 4, .rw, 0, 1, [4]⟩
def THM_LIMITS_hold_ms : Fld := ⟨0x02014, 24, 8, .rw, 0, 1, [10]⟩
def THM_GRACE_grace_ms : Fld := ⟨0x02018, 0, 14, .rw, 0, 1, [100]⟩
def THM_GRACE_grace_left_ms : Fld := ⟨0x02018, 16, 14, .ro, 0, 1, [0]⟩
def THM_FAULT_fault_src : Fld := ⟨0x0201C, 0, 4, .ro, 0, 1, [0]⟩
def THM_FAULT_fault_count : Fld := ⟨0x0201C, 16, 16, .rc, 0, 1, [0]⟩
def THM_MAX_t_est_max : Fld := ⟨0x02020, 0, 16, .ro, 0, 1, [0]⟩
def THM_MAX_mm_clear : Fld := ⟨0x02020, 31, 1, .wo, 0, 1, [0]⟩
def THM_WARN_COUNT_warn_count : Fld := ⟨0x02024, 0, 32, .rc, 0, 1, [0]⟩
def THM_ENF_COUNT_enforce_ms : Fld := ⟨0x02028, 0, 32, .rc, 0, 1, [0]⟩
def THM_LEVEL_adm_cap : Fld := ⟨0x02030, 0, 9, .rw, 4, 4, [300, 200, 100, 40]⟩
def THM_LEVEL_strm_cap : Fld := ⟨0x02030, 10, 10, .rw, 4, 4, [400, 200, 100, 40]⟩
def THM_LEVEL_media_pct : Fld := ⟨0x02030, 20, 7, .rw, 4, 4, [75, 50, 25, 10]⟩
def THM_MODEL_CTRL_k_eff : Fld := ⟨0x02040, 0, 16, .rw, 0, 1, [56361]⟩
def THM_MODEL_CTRL_p_other_cw : Fld := ⟨0x02040, 16, 12, .rw, 0, 1, [75]⟩
def THM_NTC_CAL_ntc_r25 : Fld := ⟨0x02044, 0, 16, .rw, 0, 1, [1000]⟩
def THM_NTC_CAL_ntc_beta : Fld := ⟨0x02044, 16, 16, .rw, 0, 1, [3435]⟩
def THM_POLE_R_r : Fld := ⟨0x02050, 0, 16, .rw, 8, 4, [358, 563, 922, 717]⟩
def THM_POLE_A_alpha : Fld := ⟨0x02054, 0, 24, .rw, 8, 4, [335544, 20972, 839, 28]⟩
def THM_POLE_DT_dt : Fld := ⟨0x02070, 0, 16, .ro, 4, 4, [0]⟩
def GLB_ID_die_rev : Fld := ⟨0x00000, 0, 8, .ro, 0, 1, [0]⟩
def GLB_ID_grade : Fld := ⟨0x00000, 8, 1, .ro, 0, 1, [0]⟩
def GLB_ID_part : Fld := ⟨0x00000, 16, 16, .ro, 0, 1, [132]⟩
def GLB_STATUS_bad_write : Fld := ⟨0x00004, 0, 1, .w1c, 0, 1, [0]⟩
def GLB_STATUS_bad_size : Fld := ⟨0x00004, 1, 1, .w1c, 0, 1, [0]⟩
def GLB_STATUS_poison_read : Fld := ⟨0x00004, 2, 1, .w1c, 0, 1, [0]⟩
def GLB_STATUS_ep_received : Fld := ⟨0x00004, 3, 1, .w1c, 0, 1, [0]⟩
def GLB_STATUS_cpl_timeout : Fld := ⟨0x00004, 4, 1, .w1c, 0, 1, [0]⟩
def GLB_STATUS_host_reset : Fld := ⟨0x00004, 5, 1, .w1c, 0, 1, [0]⟩
def GLB_STATUS_role : Fld := ⟨0x00004, 8, 2, .ro, 0, 1, [0]⟩
def GLB_STATUS_fatal : Fld := ⟨0x00004, 10, 1, .ro, 0, 1, [0]⟩
def GLB_STATUS_fw_ready : Fld := ⟨0x00004, 11, 1, .ro, 0, 1, [0]⟩
def GLB_BAD_ADDR_bad_off : Fld := ⟨0x00008, 0, 22, .ro, 0, 1, [0]⟩
def GLB_BAD_ADDR_bad_bar : Fld := ⟨0x00008, 22, 1, .ro, 0, 1, [0]⟩
def GLB_BAD_ADDR_bad_valid : Fld := ⟨0x00008, 31, 1, .w1c, 0, 1, [0]⟩
def GLB_CLAIM_claimed : Fld := ⟨0x0000C, 0, 21, .ro, 0, 1, [0]⟩
def GLB_LINK_width : Fld := ⟨0x00010, 0, 3, .ro, 0, 1, [0]⟩
def GLB_LINK_speed : Fld := ⟨0x00010, 3, 3, .ro, 0, 1, [0]⟩
def GLB_LINK_link_up : Fld := ⟨0x00010, 6, 1, .ro, 0, 1, [0]⟩
def GLB_LINK_in_l1 : Fld := ⟨0x00010, 7, 1, .ro, 0, 1, [0]⟩
def GLB_LINK_aspm_l1_en : Fld := ⟨0x00010, 8, 1, .ro, 0, 1, [0]⟩
def GLB_LINK_lanes_reversed : Fld := ⟨0x00010, 9, 1, .ro, 0, 1, [0]⟩
def GLB_LINK_CNT_link_down_count : Fld := ⟨0x00014, 0, 16, .rc, 0, 1, [0]⟩
def GLB_LINK_CNT_retrain_count : Fld := ⟨0x00014, 16, 16, .rc, 0, 1, [0]⟩
def GLB_IRQ_STATUS_blk_irq : Fld := ⟨0x00018, 0, 21, .ro, 0, 1, [0]⟩
def GLB_ERR_CNT_poison_rd : Fld := ⟨0x00020, 0, 16, .rc, 0, 1, [0]⟩
def GLB_ERR_CNT_ep_rx : Fld := ⟨0x00020, 16, 16, .rc, 0, 1, [0]⟩
def GLB_CPL_CNT_cpl_timeouts : Fld := ⟨0x00024, 0, 16, .rc, 0, 1, [0]⟩
def GLB_CPL_CNT_ur_sent : Fld := ⟨0x00024, 16, 16, .rc, 0, 1, [0]⟩
def GLB_RESET_CNT_host_link_resets : Fld := ⟨0x00028, 0, 16, .rc, 0, 1, [0]⟩
def GLB_VEC_SRC_vector : Fld := ⟨0x00040, 0, 5, .rw, 4, 34, [0, 1, 2, 3, 4, 5, 6, 7, 8, 9, 10, 11, 12, 13, 14, 15, 14, 15, 16, 17, 18, 19, 20, 21, 22, 23, 24, 25, 26, 27, 28, 29, 30, 31]⟩
def GLB_VEC_SRC_holdoff_us : Fld := ⟨0x00040, 8, 8, .rw, 4, 34, [0]⟩
def GLB_WIN_SEL_win_struct : Fld := ⟨0x00100, 0, 8, .rw, 8, 8, [0]⟩
def GLB_WIN_SEL_win_en : Fld := ⟨0x00100, 8, 1, .rw, 8, 8, [0]⟩
def GLB_WIN_BASE_win_base : Fld := ⟨0x00104, 0, 32, .rw, 8, 8, [0]⟩
def MBX_MB_STATUS_posted : Fld := ⟨0x05000, 0, 16, .ro, 4, 4, [0]⟩
def MBX_MB_STATUS_done : Fld := ⟨0x05000, 16, 16, .ro, 4, 4, [0]⟩
def MBX_MB_INFO_cur_opcode : Fld := ⟨0x05010, 0, 16, .ro, 4, 4, [0]⟩
def MBX_MB_INFO_mb_state : Fld := ⟨0x05010, 16, 3, .ro, 4, 4, [0]⟩
def MBX_MB_INFO_ring_faults : Fld := ⟨0x05010, 24, 8, .rc, 4, 4, [0]⟩
def MBX_EVT_STATUS_evt_written : Fld := ⟨0x05020, 0, 16, .ro, 0, 1, [0]⟩
def MBX_EVT_STATUS_evt_consumed : Fld := ⟨0x05020, 16, 16, .ro, 0, 1, [0]⟩
def MBX_EVT_LOST_evt_lost : Fld := ⟨0x05024, 0, 32, .rc, 0, 1, [0]⟩
def MBX_CFG_evt_irq : Fld := ⟨0x05028, 0, 1, .ro, 0, 1, [1]⟩
def MBX_CFG_reg_events : Fld := ⟨0x05028, 1, 1, .ro, 0, 1, [1]⟩
def MBX_CFG_mbx_event_en : Fld := ⟨0x05028, 16, 10, .ro, 0, 1, [0]⟩
def MBX_EVENT_ring_fault : Fld := ⟨0x05030, 0, 4, .w1c, 0, 1, [0]⟩
def MBX_EVENT_evt_ring_fault : Fld := ⟨0x05030, 4, 1, .w1c, 0, 1, [0]⟩
def MBX_EVENT_evt_lost : Fld := ⟨0x05030, 5, 1, .w1c, 0, 1, [0]⟩
def MBX_EVENT_void_issued : Fld := ⟨0x05030, 6, 1, .w1c, 0, 1, [0]⟩
def MBX_EVENT_abort_issued : Fld := ⟨0x05030, 7, 1, .w1c, 0, 1, [0]⟩
def MBX_EVENT_doorbell_refused : Fld := ⟨0x05030, 8, 1, .w1c, 0, 1, [0]⟩
def MBX_EVENT_expert_conflict : Fld := ⟨0x05030, 9, 1, .w1c, 0, 1, [0]⟩
def MBX_CONFLICT_last_block : Fld := ⟨0x05040, 0, 5, .ro, 0, 1, [0]⟩
def MBX_CONFLICT_conflict_count : Fld := ⟨0x05040, 16, 16, .rc, 0, 1, [0]⟩
def MBX_END_COUNT_timeouts : Fld := ⟨0x05044, 0, 16, .rc, 0, 1, [0]⟩
def MBX_END_COUNT_aborted : Fld := ⟨0x05044, 16, 16, .rc, 0, 1, [0]⟩
def MBX_VOID_COUNT_voided : Fld := ⟨0x05048, 0, 16, .rc, 0, 1, [0]⟩
def SRCH_STATUS_q_open : Fld := ⟨0x08000, 0, 16, .ro, 0, 1, [0]⟩
def SRCH_STATUS_q_stopped : Fld := ⟨0x08000, 16, 16, .ro, 0, 1, [0]⟩
def SRCH_EVENT_req_ring_fault : Fld := ⟨0x08004, 0, 1, .w1c, 0, 1, [0]⟩
def SRCH_EVENT_res_ring_fault : Fld := ⟨0x08004, 1, 1, .w1c, 0, 1, [0]⟩
def SRCH_EVENT_bad_desc : Fld := ⟨0x08004, 2, 1, .w1c, 0, 1, [0]⟩
def SRCH_EVENT_guard_not_ready : Fld := ⟨0x08004, 3, 1, .w1c, 0, 1, [0]⟩
def SRCH_EVENT_poison_result : Fld := ⟨0x08004, 4, 1, .w1c, 0, 1, [0]⟩
def SRCH_EVENT_orphan_result : Fld := ⟨0x08004, 5, 1, .w1c, 0, 1, [0]⟩
def SRCH_EVENT_profile_commit : Fld := ⟨0x08004, 6, 1, .w1c, 0, 1, [0]⟩
def SRCH_EVENT_EN_event_en : Fld := ⟨0x08008, 0, 7, .rw, 0, 1, [0]⟩
def SRCH_WIN_CFG_lane_en : Fld := ⟨0x08010, 0, 16, .rw, 0, 1, [0]⟩
def SRCH_WIN_CFG_win_pending : Fld := ⟨0x08010, 16, 6, .ro, 0, 1, [0]⟩
def SRCH_WIN_PMASK_win_pmask : Fld := ⟨0x08014, 0, 32, .rw, 0, 1, [0]⟩
def SRCH_PTRS_q_ptr : Fld := ⟨0x08018, 0, 4, .ro, 0, 1, [0]⟩
def SRCH_PTRS_s_ptr : Fld := ⟨0x08018, 4, 4, .ro, 0, 1, [0]⟩
def SRCH_HIT_COUNT_hits : Fld := ⟨0x08020, 0, 32, .rc, 0, 1, [0]⟩
def SRCH_MISS_COUNT_misses : Fld := ⟨0x08024, 0, 32, .rc, 0, 1, [0]⟩
def SRCH_DENY_COUNT_denied : Fld := ⟨0x08028, 0, 32, .rc, 0, 1, [0]⟩
def SRCH_BAD_COUNT_bad_count : Fld := ⟨0x0802C, 0, 16, .rc, 0, 1, [0]⟩
def SRCH_BAD_COUNT_last_bad_profile : Fld := ⟨0x0802C, 16, 5, .ro, 0, 1, [0]⟩
def SRCH_BAD_COUNT_last_bad_src : Fld := ⟨0x0802C, 21, 2, .ro, 0, 1, [0]⟩
def SRCH_BAD_COUNT_last_bad_reason : Fld := ⟨0x0802C, 23, 2, .ro, 0, 1, [0]⟩
def SRCH_FLAG_COUNT_pe_count : Fld := ⟨0x08030, 0, 16, .rc, 0, 1, [0]⟩
def SRCH_FLAG_COUNT_corr_count : Fld := ⟨0x08030, 16, 16, .rc, 0, 1, [0]⟩
def SRCH_PROF_VALID_valid : Fld := ⟨0x08040, 0, 32, .ro, 0, 1, [0]⟩
def SRCH_PROF_LOAD_prof_id : Fld := ⟨0x08044, 0, 5, .wo, 0, 1, [0]⟩
def SRCH_PROF_LOAD_load : Fld := ⟨0x08044, 8, 1, .wo, 0, 1, [0]⟩
def SRCH_PROF_LOAD_delete : Fld := ⟨0x08044, 9, 1, .wo, 0, 1, [0]⟩
def SRCH_PROF_PLY_commit_ply : Fld := ⟨0x08048, 0, 32, .ro, 0, 1, [0]⟩
def SRCH_PROF_STAGE_stage : Fld := ⟨0x080A0, 0, 32, .rw, 4, 24, [0]⟩
def SRCH_PROF_definition : Fld := ⟨0x08400, 0, 32, .ro, 4, 768, [0]⟩
def SRCH_Q_REQ_LO_req_base_lo : Fld := ⟨0x08100, 0, 32, .rw, 48, 16, [0]⟩
def SRCH_Q_REQ_HI_req_base_hi : Fld := ⟨0x08104, 0, 32, .rw, 48, 16, [0]⟩
def SRCH_Q_RES_LO_res_base_lo : Fld := ⟨0x08108, 0, 32, .rw, 48, 16, [0]⟩
def SRCH_Q_RES_HI_res_base_hi : Fld := ⟨0x0810C, 0, 32, .rw, 48, 16, [0]⟩
def SRCH_Q_WB_LO_wb_lo : Fld := ⟨0x08110, 0, 32, .rw, 48, 16, [0]⟩
def SRCH_Q_WB_HI_wb_hi : Fld := ⟨0x08114, 0, 32, .rw, 48, 16, [0]⟩
def SRCH_Q_CFG_req_k : Fld := ⟨0x08118, 0, 4, .rw, 48, 16, [0]⟩
def SRCH_Q_CFG_res_k : Fld := ⟨0x08118, 4, 4, .rw, 48, 16, [0]⟩
def SRCH_Q_CFG_req_128 : Fld := ⟨0x08118, 8, 1, .rw, 48, 16, [0]⟩
def SRCH_Q_CFG_res_full : Fld := ⟨0x08118, 9, 1, .rw, 48, 16, [0]⟩
def SRCH_Q_CFG_wb_en : Fld := ⟨0x08118, 10, 1, .rw, 48, 16, [0]⟩
def SRCH_Q_CFG_q_en : Fld := ⟨0x08118, 31, 1, .rw, 48, 16, [0]⟩
def SRCH_Q_PMASK_pmask : Fld := ⟨0x0811C, 0, 32, .rw, 48, 16, [0]⟩
def SRCH_Q_REQ_CNT_req_accepted : Fld := ⟨0x08120, 0, 16, .ro, 48, 16, [0]⟩
def SRCH_Q_REQ_CNT_req_admitted : Fld := ⟨0x08120, 16, 16, .ro, 48, 16, [0]⟩
def SRCH_Q_RES_CNT_res_written : Fld := ⟨0x08124, 0, 16, .ro, 48, 16, [0]⟩
def SRCH_Q_RES_CNT_res_consumed : Fld := ⟨0x08124, 16, 16, .ro, 48, 16, [0]⟩
def SRCH_Q_STATUS_req_fault : Fld := ⟨0x08128, 0, 1, .ro, 48, 16, [0]⟩
def SRCH_Q_STATUS_res_fault : Fld := ⟨0x08128, 1, 1, .ro, 48, 16, [0]⟩
def SRCH_Q_STATUS_res_full_wait : Fld := ⟨0x08128, 2, 1, .ro, 48, 16, [0]⟩
def SRCH_Q_STATUS_staged : Fld := ⟨0x08128, 8, 4, .ro, 48, 16, [0]⟩
def SRCH_Q_SEARCHES_searches : Fld := ⟨0x0812C, 0, 32, .rc, 48, 16, [0]⟩
def TCAM_STATUS_blocks_powered : Fld := ⟨0x09000, 0, 9, .ro, 0, 1, [8]⟩
def TCAM_STATUS_blocks_owned : Fld := ⟨0x09000, 16, 9, .ro, 0, 1, [8]⟩
def TCAM_STATUS_castle_pending : Fld := ⟨0x09000, 28, 1, .ro, 0, 1, [0]⟩
def TCAM_STATUS_upd_busy : Fld := ⟨0x09000, 29, 1, .ro, 0, 1, [0]⟩
def TCAM_EVENT_parity_excl : Fld := ⟨0x09004, 0, 1, .w1c, 0, 1, [0]⟩
def TCAM_EVENT_result_corrected : Fld := ⟨0x09004, 1, 1, .w1c, 0, 1, [0]⟩
def TCAM_EVENT_result_poison : Fld := ⟨0x09004, 2, 1, .w1c, 0, 1, [0]⟩
def TCAM_EVENT_castle_done : Fld := ⟨0x09004, 3, 1, .w1c, 0, 1, [0]⟩
def TCAM_EVENT_table_orphaned : Fld := ⟨0x09004, 4, 1, .w1c, 0, 1, [0]⟩
def TCAM_EVENT_upd_refused : Fld := ⟨0x09004, 5, 1, .w1c, 0, 1, [0]⟩
def TCAM_EVENT_EN_event_en : Fld := ⟨0x09008, 0, 6, .rw, 0, 1, [0]⟩
def TCAM_LOOKUPS_lookups : Fld := ⟨0x09010, 0, 32, .rc, 0, 1, [0]⟩
def TCAM_HITS_hits : Fld := ⟨0x09014, 0, 32, .rc, 0, 1, [0]⟩
def TCAM_PE_SEARCHES_pe_lookups : Fld := ⟨0x09018, 0, 32, .rc, 0, 1, [0]⟩
def TCAM_RES_COUNT_res_corrected : Fld := ⟨0x0901C, 0, 16, .rc, 0, 1, [0]⟩
def TCAM_RES_COUNT_res_poison : Fld := ⟨0x0901C, 16, 16, .rc, 0, 1, [0]⟩
def TCAM_PE_LOG_pe_slot : Fld := ⟨0x09020, 0, 20, .ro, 0, 1, [0]⟩
def TCAM_PE_LOG_pe_table : Fld := ⟨0x09020, 20, 6, .ro, 0, 1, [0]⟩
def TCAM_PE_LOG_pe_valid : Fld := ⟨0x09020, 31, 1, .w1c, 0, 1, [0]⟩
def TCAM_CASTLE_table_a : Fld := ⟨0x09030, 0, 6, .rw, 0, 1, [0]⟩
def TCAM_CASTLE_table_b : Fld := ⟨0x09030, 8, 6, .rw, 0, 1, [0]⟩
def TCAM_CASTLE_go : Fld := ⟨0x09030, 31, 1, .wo, 0, 1, [0]⟩
def TCAM_CASTLE_AT_LO_at_lo : Fld := ⟨0x09034, 0, 32, .rw, 0, 1, [0]⟩
def TCAM_CASTLE_AT_HI_at_hi : Fld := ⟨0x09038, 0, 32, .rw, 0, 1, [0]⟩
def TCAM_CASTLE_PLY_castle_ply : Fld := ⟨0x0903C, 0, 32, .ro, 0, 1, [0]⟩
def TCAM_CASTLE_COUNT_castlings : Fld := ⟨0x09040, 0, 32, .rc, 0, 1, [0]⟩
def TCAM_UPD_VAL_val : Fld := ⟨0x09100, 0, 32, .rw, 4, 20, [0]⟩
def TCAM_UPD_MASK_mask : Fld := ⟨0x09150, 0, 32, .rw, 4, 20, [0]⟩
def TCAM_UPD_PRIO_prio : Fld := ⟨0x091A0, 0, 16, .rw, 0, 1, [0]⟩
def TCAM_UPD_RES_LO_res_lo : Fld := ⟨0x091A8, 0, 32, .rw, 0, 1, [0]⟩
def TCAM_UPD_RES_HI_res_hi : Fld := ⟨0x091AC, 0, 32, .rw, 0, 1, [0]⟩
def TCAM_UPD_CMD_slot : Fld := ⟨0x091B0, 0, 20, .wo, 0, 1, [0]⟩
def TCAM_UPD_CMD_op : Fld := ⟨0x091B0, 20, 2, .wo, 0, 1, [0]⟩
def TCAM_UPD_CMD_go : Fld := ⟨0x091B0, 31, 1, .wo, 0, 1, [0]⟩
def TCAM_UPD_STATUS_busy : Fld := ⟨0x091B4, 0, 1, .ro, 0, 1, [0]⟩
def TCAM_UPD_STATUS_outcome : Fld := ⟨0x091B4, 1, 3, .ro, 0, 1, [0]⟩
def TCAM_UPD_PLY_upd_ply : Fld := ⟨0x091B8, 0, 32, .ro, 0, 1, [0]⟩
def TCAM_BLK_CTRL_owner : Fld := ⟨0x09400, 0, 6, .rw, 4, 256, List.replicate 248 0 ++ [63]⟩
def TCAM_BLK_CTRL_owned : Fld := ⟨0x09400, 6, 1, .rw, 4, 256, List.replicate 248 0 ++ [1]⟩
def TCAM_BLK_CTRL_pwr_state : Fld := ⟨0x09400, 8, 2, .ro, 4, 256, List.replicate 248 0 ++ [3]⟩
def TCAM_BLK_CTRL_gate_req : Fld := ⟨0x09400, 10, 1, .wo, 4, 256, [0]⟩
def TCAM_BLK_CTRL_ungate_req : Fld := ⟨0x09400, 11, 1, .wo, 4, 256, [0]⟩
def TCAM_BLK_CTRL_guard_block : Fld := ⟨0x09400, 12, 1, .ro, 4, 256, List.replicate 248 0 ++ [1]⟩
def TCAM_BLK_CTRL_valid_slots : Fld := ⟨0x09400, 16, 13, .ro, 4, 256, [0]⟩
def TCAM_TBL_CFG_defined : Fld := ⟨0x09800, 0, 1, .rw, 16, 64, List.replicate 63 0 ++ [1]⟩
def TCAM_TBL_CFG_engine : Fld := ⟨0x09800, 1, 3, .ro, 16, 64, List.replicate 63 0 ++ [1]⟩
/-- Table 63 has width code 1 (R567). DEDUCED: the register's own table gives every table the reset value 0. -/
def TCAM_TBL_CFG_width_code : Fld := ⟨0x09800, 4, 2, .rw, 16, 64, List.replicate 63 0 ++ [1]⟩
def TCAM_TBL_CFG_hidden : Fld := ⟨0x09800, 6, 1, .rw, 16, 64, [0]⟩
def TCAM_TBL_CFG_orphaned : Fld := ⟨0x09800, 7, 1, .ro, 16, 64, [0]⟩
def TCAM_TBL_CFG_slot_bind : Fld := ⟨0x09800, 8, 2, .rw, 16, 64, [3]⟩
def TCAM_TBL_CFG_castle_pending : Fld := ⟨0x09800, 10, 1, .ro, 16, 64, [0]⟩
def TCAM_TBL_ENT_entries : Fld := ⟨0x09804, 0, 21, .ro, 16, 64, [0]⟩
def TCAM_TBL_ENT_blocks : Fld := ⟨0x09804, 24, 8, .ro, 16, 64, List.replicate 63 0 ++ [8]⟩
def TCAM_TBL_HITS_tbl_hits : Fld := ⟨0x09808, 0, 32, .rc, 16, 64, [0]⟩
def TCAM_TBL_PLY_tbl_ply : Fld := ⟨0x0980C, 0, 32, .ro, 16, 64, [0]⟩
def HASH_USED_ways_used : Fld := ⟨0x0A000, 0, 22, .ro, 0, 1, [0]⟩
def HASH_OVF_ovf_used : Fld := ⟨0x0A004, 0, 15, .ro, 0, 1, [0]⟩
def HASH_OVF_sweep_busy : Fld := ⟨0x0A004, 16, 1, .ro, 0, 1, [0]⟩
def HASH_EVENT_insert_fail : Fld := ⟨0x0A008, 0, 1, .w1c, 0, 1, [0]⟩
def HASH_EVENT_learn_drop : Fld := ⟨0x0A008, 1, 1, .w1c, 0, 1, [0]⟩
def HASH_EVENT_parity_excl : Fld := ⟨0x0A008, 2, 1, .w1c, 0, 1, [0]⟩
def HASH_EVENT_result_corrected : Fld := ⟨0x0A008, 3, 1, .w1c, 0, 1, [0]⟩
def HASH_EVENT_result_poison : Fld := ⟨0x0A008, 4, 1, .w1c, 0, 1, [0]⟩
def HASH_EVENT_ovf_high : Fld := ⟨0x0A008, 5, 1, .w1c, 0, 1, [0]⟩
def HASH_EVENT_ager_overrun : Fld := ⟨0x0A008, 6, 1, .w1c, 0, 1, [0]⟩
def HASH_EVENT_sweep_done : Fld := ⟨0x0A008, 7, 1, .w1c, 0, 1, [0]⟩
def HASH_EVENT_EN_event_en : Fld := ⟨0x0A00C, 0, 8, .rw, 0, 1, [0]⟩
def HASH_SEED_hash_seed : Fld := ⟨0x0A010, 0, 32, .rw, 0, 1, [0]⟩
def HASH_LEARN_CTRL_learn_en : Fld := ⟨0x0A014, 0, 1, .rw, 0, 1, [0]⟩
def HASH_LEARN_CTRL_owner_learn_en : Fld := ⟨0x0A014, 1, 1, .rw, 0, 1, [0]⟩
def HASH_LEARN_CTRL_ager_en : Fld := ⟨0x0A014, 2, 1, .rw, 0, 1, [0]⟩
def HASH_LEARN_CTRL_ovf_thresh : Fld := ⟨0x0A014, 16, 15, .rw, 0, 1, [12288]⟩
def HASH_AGE_CFG_age_period_ms : Fld := ⟨0x0A018, 0, 16, .rw, 0, 1, [1000]⟩
def HASH_AGE_CFG_age_limit : Fld := ⟨0x0A018, 16, 16, .rw, 0, 1, [600]⟩
def HASH_LOOKUPS_lookups : Fld := ⟨0x0A020, 0, 32, .rc, 0, 1, [0]⟩
def HASH_HITS_hits : Fld := ⟨0x0A024, 0, 32, .rc, 0, 1, [0]⟩
def HASH_OVF_HITS_ovf_hits : Fld := ⟨0x0A028, 0, 32, .rc, 0, 1, [0]⟩
def HASH_PE_LOOKUPS_pe_lookups : Fld := ⟨0x0A02C, 0, 32, .rc, 0, 1, [0]⟩
def HASH_RES_COUNT_res_corrected : Fld := ⟨0x0A030, 0, 16, .rc, 0, 1, [0]⟩
def HASH_RES_COUNT_res_poison : Fld := ⟨0x0A030, 16, 16, .rc, 0, 1, [0]⟩
def HASH_PE_LOG_pe_index : Fld := ⟨0x0A034, 0, 24, .ro, 0, 1, [0]⟩
def HASH_PE_LOG_pe_valid : Fld := ⟨0x0A034, 31, 1, .w1c, 0, 1, [0]⟩
def HASH_LEARN_INS_inserts : Fld := ⟨0x0A040, 0, 32, .rc, 0, 1, [0]⟩
def HASH_LEARN_PRESENT_present : Fld := ⟨0x0A044, 0, 32, .rc, 0, 1, [0]⟩
def HASH_LEARN_FAIL_learn_fail : Fld := ⟨0x0A048, 0, 32, .rc, 0, 1, [0]⟩
def HASH_LEARN_DROP_drop_delete : Fld := ⟨0x0A04C, 0, 16, .rc, 0, 1, [0]⟩
def HASH_LEARN_DROP_drop_queue : Fld := ⟨0x0A04C, 16, 16, .rc, 0, 1, [0]⟩
def HASH_WALKS_walks : Fld := ⟨0x0A050, 0, 24, .rc, 0, 1, [0]⟩
def HASH_WALKS_in_flight : Fld := ⟨0x0A050, 24, 6, .ro, 0, 1, [0]⟩
def HASH_WALK_NF_walk_not_found : Fld := ⟨0x0A054, 0, 32, .rc, 0, 1, [0]⟩
def HASH_AGE_RETIRED_retired : Fld := ⟨0x0A058, 0, 32, .rc, 0, 1, [0]⟩
def HASH_AGE_PASS_passes : Fld := ⟨0x0A05C, 0, 32, .ro, 0, 1, [0]⟩
def HASH_HITMAP_IDX_hm_word : Fld := ⟨0x0A070, 0, 17, .rw, 0, 1, [0]⟩
def HASH_HITMAP_DATA_hm_data : Fld := ⟨0x0A074, 0, 32, .ro, 0, 1, [0]⟩
def HASH_UPD_CMD_table : Fld := ⟨0x0A118, 0, 6, .wo, 0, 1, [0]⟩
def HASH_UPD_CMD_type : Fld := ⟨0x0A118, 6, 2, .wo, 0, 1, [0]⟩
def HASH_UPD_CMD_learned : Fld := ⟨0x0A118, 8, 1, .wo, 0, 1, [0]⟩
def HASH_UPD_CMD_op : Fld := ⟨0x0A118, 9, 2, .wo, 0, 1, [0]⟩
def HASH_UPD_CMD_go : Fld := ⟨0x0A118, 31, 1, .wo, 0, 1, [0]⟩
def HASH_UPD_STATUS_busy : Fld := ⟨0x0A11C, 0, 1, .ro, 0, 1, [0]⟩
def HASH_UPD_STATUS_outcome : Fld := ⟨0x0A11C, 1, 3, .ro, 0, 1, [0]⟩
def HASH_UPD_STATUS_index : Fld := ⟨0x0A11C, 8, 24, .ro, 0, 1, [0]⟩
def HASH_TBL_CFG_defined : Fld := ⟨0x0A400, 0, 1, .rw, 16, 63, [0]⟩
def HASH_TBL_CFG_types : Fld := ⟨0x0A400, 1, 3, .rw, 16, 63, [0]⟩
def HASH_TBL_CFG_learn : Fld := ⟨0x0A400, 4, 2, .rw, 16, 63, [0]⟩
def HASH_TBL_CFG_slot_bind : Fld := ⟨0x0A400, 6, 2, .rw, 16, 63, [3]⟩
def HASH_TBL_CFG_hidden : Fld := ⟨0x0A400, 8, 1, .rw, 16, 63, [0]⟩
def HASH_TBL_CFG_orphaned : Fld := ⟨0x0A400, 9, 1, .ro, 16, 63, [0]⟩
def HASH_TBL_CFG_epoch : Fld := ⟨0x0A400, 10, 4, .ro, 16, 63, [0]⟩
def HASH_TBL_CFG_sweep : Fld := ⟨0x0A400, 14, 1, .ro, 16, 63, [0]⟩
def HASH_TBL_QUOTA_quota : Fld := ⟨0x0A404, 0, 22, .rw, 16, 63, [0]⟩
def HASH_TBL_ENT_entries : Fld := ⟨0x0A408, 0, 22, .ro, 16, 63, [0]⟩
def HASH_TBL_LRN_learned : Fld := ⟨0x0A40C, 0, 22, .ro, 16, 63, [0]⟩
def DIX_CFG_dix_limit : Fld := ⟨0x0B000, 0, 17, .rw, 0, 1, [0]⟩
def DIX_LOOKUPS_lookups : Fld := ⟨0x0B004, 0, 32, .rc, 0, 1, [0]⟩
def DIX_HITS_hits : Fld := ⟨0x0B008, 0, 32, .rc, 0, 1, [0]⟩
def DIX_RES_COUNT_corrected : Fld := ⟨0x0B00C, 0, 16, .rc, 0, 1, [0]⟩
def DIX_RES_COUNT_poison : Fld := ⟨0x0B00C, 16, 16, .rc, 0, 1, [0]⟩
def DIX_EVENT_corrected : Fld := ⟨0x0B010, 0, 1, .w1c, 0, 1, [0]⟩
def DIX_EVENT_poison : Fld := ⟨0x0B010, 1, 1, .w1c, 0, 1, [0]⟩
def DIX_EVENT_EN_event_en : Fld := ⟨0x0B014, 0, 2, .rw, 0, 1, [0]⟩
def DIX_UPD_LO_word_lo : Fld := ⟨0x0B020, 0, 32, .rw, 0, 1, [0]⟩
def DIX_UPD_HI_word_hi : Fld := ⟨0x0B024, 0, 32, .rw, 0, 1, [0]⟩
def DIX_UPD_CMD_handle : Fld := ⟨0x0B028, 0, 16, .wo, 0, 1, [0]⟩
def DIX_UPD_CMD_go : Fld := ⟨0x0B028, 31, 1, .wo, 0, 1, [0]⟩
def DIX_UPD_STATUS_busy : Fld := ⟨0x0B02C, 0, 1, .ro, 0, 1, [0]⟩
def LPM_STATUS_ovl_armed : Fld := ⟨0x0C000, 0, 1, .ro, 0, 1, [0]⟩
def LPM_STATUS_sweep_busy : Fld := ⟨0x0C000, 1, 1, .ro, 0, 1, [0]⟩
def LPM_STATUS_tables : Fld := ⟨0x0C000, 2, 3, .ro, 0, 1, [0]⟩
def LPM_STATUS_rebuild : Fld := ⟨0x0C000, 5, 1, .ro, 0, 1, [0]⟩
def LPM_EVENT_corrected : Fld := ⟨0x0C004, 0, 1, .w1c, 0, 1, [0]⟩
def LPM_EVENT_poison : Fld := ⟨0x0C004, 1, 1, .w1c, 0, 1, [0]⟩
def LPM_EVENT_no_room : Fld := ⟨0x0C004, 2, 1, .w1c, 0, 1, [0]⟩
def LPM_EVENT_sweep_done : Fld := ⟨0x0C004, 3, 1, .w1c, 0, 1, [0]⟩
def LPM_EVENT_upd_refused : Fld := ⟨0x0C004, 4, 1, .w1c, 0, 1, [0]⟩
def LPM_EVENT_EN_event_en : Fld := ⟨0x0C008, 0, 5, .rw, 0, 1, [0]⟩
def LPM_LOOKUPS_lookups : Fld := ⟨0x0C010, 0, 32, .rc, 0, 1, [0]⟩
def LPM_HITS_hits : Fld := ⟨0x0C014, 0, 32, .rc, 0, 1, [0]⟩
def LPM_RES_COUNT_corrected : Fld := ⟨0x0C018, 0, 16, .rc, 0, 1, [0]⟩
def LPM_RES_COUNT_poison : Fld := ⟨0x0C018, 16, 16, .rc, 0, 1, [0]⟩
def LPM_NODES_nodes_used : Fld := ⟨0x0C024, 0, 13, .ro, 4, 6, [0]⟩
def LPM_RECS_recs_used : Fld := ⟨0x0C040, 0, 17, .ro, 4, 7, [0]⟩
def LPM_OVL_PFX_LO_pfx_lo : Fld := ⟨0x0C060, 0, 32, .ro, 0, 1, [0]⟩
def LPM_OVL_PFX_HI_pfx_hi : Fld := ⟨0x0C064, 0, 32, .ro, 0, 1, [0]⟩
def LPM_OVL_RES_ovl_res : Fld := ⟨0x0C068, 0, 32, .ro, 0, 1, [0]⟩
def LPM_OVL_CTRL_ovl_len : Fld := ⟨0x0C06C, 0, 7, .ro, 0, 1, [0]⟩
def LPM_OVL_CTRL_ovl_op : Fld := ⟨0x0C06C, 8, 2, .ro, 0, 1, [0]⟩
def LPM_OVL_CTRL_ovl_root : Fld := ⟨0x0C06C, 10, 2, .ro, 0, 1, [0]⟩
def LPM_OVL_CTRL_q_len : Fld := ⟨0x0C06C, 12, 7, .ro, 0, 1, [0]⟩
def LPM_OVL_CTRL_q_hit : Fld := ⟨0x0C06C, 19, 1, .ro, 0, 1, [0]⟩
def LPM_OVL_CTRL_armed : Fld := ⟨0x0C06C, 31, 1, .ro, 0, 1, [0]⟩
def LPM_OVL_QRES_q_res : Fld := ⟨0x0C070, 0, 32, .ro, 0, 1, [0]⟩
def LPM_OVL_PLY_ovl_ply : Fld := ⟨0x0C074, 0, 32, .ro, 0, 1, [0]⟩
def LPM_ROOT_CFG_table : Fld := ⟨0x0C100, 0, 6, .rw, 16, 4, [0]⟩
def LPM_ROOT_CFG_defined : Fld := ⟨0x0C100, 6, 1, .rw, 16, 4, [0]⟩
def LPM_ROOT_CFG_slot_bind : Fld := ⟨0x0C100, 7, 2, .rw, 16, 4, [3]⟩
def LPM_ROOT_CFG_hidden : Fld := ⟨0x0C100, 9, 1, .rw, 16, 4, [0]⟩
def LPM_ROOT_CFG_orphaned : Fld := ⟨0x0C100, 10, 1, .ro, 16, 4, [0]⟩
def LPM_ROOT_CFG_sweep : Fld := ⟨0x0C100, 11, 1, .ro, 16, 4, [0]⟩
def LPM_ROOT_CFG_dflt_valid : Fld := ⟨0x0C100, 12, 1, .rw, 16, 4, [0]⟩
def LPM_ROOT_DFLT_dflt_result : Fld := ⟨0x0C104, 0, 32, .rw, 16, 4, [0]⟩
def LPM_ROOT_QUOTA_quota : Fld := ⟨0x0C108, 0, 20, .rw, 16, 4, [0]⟩
def LPM_ROOT_COUNT_prefixes : Fld := ⟨0x0C10C, 0, 20, .ro, 16, 4, [0]⟩
def LPM_UPD_CMD_table : Fld := ⟨0x0C20C, 0, 6, .wo, 0, 1, [0]⟩
def LPM_UPD_CMD_length : Fld := ⟨0x0C20C, 6, 7, .wo, 0, 1, [0]⟩
def LPM_UPD_CMD_op : Fld := ⟨0x0C20C, 13, 2, .wo, 0, 1, [0]⟩
def LPM_UPD_CMD_go : Fld := ⟨0x0C20C, 31, 1, .wo, 0, 1, [0]⟩
def LPM_UPD_STATUS_busy : Fld := ⟨0x0C210, 0, 1, .ro, 0, 1, [0]⟩
def LPM_UPD_STATUS_outcome : Fld := ⟨0x0C210, 1, 3, .ro, 0, 1, [0]⟩
def CHN_STATUS_role : Fld := ⟨0x07000, 0, 2, .ro, 0, 1, [0]⟩
def CHN_STATUS_address : Fld := ⟨0x07000, 8, 5, .ro, 0, 1, [0]⟩
def CHN_STATUS_members : Fld := ⟨0x07000, 16, 6, .ro, 0, 1, [1]⟩
def CHN_STATUS_state : Fld := ⟨0x07000, 24, 3, .ro, 0, 1, [0]⟩
def CHN_EVENT_enum_done : Fld := ⟨0x07004, 0, 1, .w1c, 0, 1, [0]⟩
def CHN_EVENT_broken : Fld := ⟨0x07004, 1, 1, .w1c, 0, 1, [0]⟩
def CHN_EVENT_link_down : Fld := ⟨0x07004, 2, 1, .w1c, 0, 1, [0]⟩
def CHN_EVENT_member_lost : Fld := ⟨0x07004, 3, 1, .w1c, 0, 1, [0]⟩
def CHN_EVENT_role_change : Fld := ⟨0x07004, 4, 1, .w1c, 0, 1, [0]⟩
def CHN_EVENT_void_issued : Fld := ⟨0x07004, 5, 1, .w1c, 0, 1, [0]⟩
def CHN_EVENT_frame_error : Fld := ⟨0x07004, 6, 1, .w1c, 0, 1, [0]⟩
def CHN_EVENT_groups_commit : Fld := ⟨0x07004, 7, 1, .w1c, 0, 1, [0]⟩
def CHN_EVENT_EN_event_en : Fld := ⟨0x07008, 0, 8, .rw, 0, 1, [15]⟩
def CHN_GROUP_MAP_group_map : Fld := ⟨0x07010, 0, 32, .ro, 0, 1, [1]⟩
def CHN_ALIVE_alive : Fld := ⟨0x07014, 0, 32, .ro, 0, 1, [0]⟩
def CHN_FAULT_fault : Fld := ⟨0x07018, 0, 32, .ro, 0, 1, [0]⟩
def CHN_CHAIN_PLY_chain_ply : Fld := ⟨0x0701C, 0, 32, .ro, 0, 1, [0]⟩
def CHN_LINK_IN_locked : Fld := ⟨0x07020, 0, 1, .ro, 0, 1, [0]⟩
def CHN_LINK_IN_in_ok : Fld := ⟨0x07020, 1, 1, .ro, 0, 1, [0]⟩
def CHN_LINK_IN_in_errors : Fld := ⟨0x07020, 16, 16, .rc, 0, 1, [0]⟩
def CHN_LINK_OUT_driving : Fld := ⟨0x07024, 0, 1, .ro, 0, 1, [0]⟩
def CHN_LINK_OUT_back_ok : Fld := ⟨0x07024, 1, 1, .ro, 0, 1, [0]⟩
def CHN_LINK_OUT_back_phase : Fld := ⟨0x07024, 2, 6, .ro, 0, 1, [0]⟩
def CHN_LINK_OUT_out_errors : Fld := ⟨0x07024, 16, 16, .rc, 0, 1, [0]⟩
def CHN_GROUP_k : Fld := ⟨0x07028, 0, 4, .ro, 0, 1, [1]⟩
def CHN_GROUP_group_level : Fld := ⟨0x07028, 4, 3, .ro, 0, 1, [0]⟩
def CHN_GSEARCH_gsearches : Fld := ⟨0x07030, 0, 32, .rc, 0, 1, [0]⟩
def CHN_FLOOD_floods : Fld := ⟨0x07034, 0, 32, .rc, 0, 1, [0]⟩
def CHN_VOID_COUNT_voids : Fld := ⟨0x07038, 0, 16, .rc, 0, 1, [0]⟩
def CHN_VOID_COUNT_late_own : Fld := ⟨0x07038, 16, 16, .rc, 0, 1, [0]⟩
def CHN_ADM_WAIT_wait_plies : Fld := ⟨0x0703C, 0, 32, .rc, 0, 1, [0]⟩
def CHN_RFETCH_rf_sent : Fld := ⟨0x07040, 0, 16, .rc, 0, 1, [0]⟩
def CHN_RFETCH_rf_served : Fld := ⟨0x07040, 16, 16, .rc, 0, 1, [0]⟩
def CHN_PKT_pkt_in : Fld := ⟨0x07044, 0, 16, .rc, 0, 1, [0]⟩
def CHN_PKT_pkt_out : Fld := ⟨0x07044, 16, 16, .rc, 0, 1, [0]⟩
def CHN_CTRL_enumerate : Fld := ⟨0x07050, 0, 1, .wo, 0, 1, [0]⟩
def CHN_CTRL_groups : Fld := ⟨0x07050, 1, 1, .wo, 0, 1, [0]⟩
def CHN_MAP_STAGE_map_stage : Fld := ⟨0x07054, 0, 32, .rw, 0, 1, [1]⟩
def SLOT_STATUS_state : Fld := ⟨0x0F000, 0, 3, .ro, 256, 2, [0]⟩
def SLOT_STATUS_present : Fld := ⟨0x0F000, 3, 1, .ro, 256, 2, [0]⟩
def SLOT_STATUS_vcc_on : Fld := ⟨0x0F000, 4, 1, .ro, 256, 2, [0]⟩
def SLOT_STATUS_vccq_on : Fld := ⟨0x0F000, 5, 1, .ro, 256, 2, [0]⟩
def SLOT_STATUS_vccq_1v2 : Fld := ⟨0x0F000, 6, 1, .ro, 256, 2, [0]⟩
def SLOT_STATUS_iface : Fld := ⟨0x0F000, 7, 1, .ro, 256, 2, [0]⟩
def SLOT_STATUS_rate_mts : Fld := ⟨0x0F000, 8, 10, .ro, 256, 2, [0]⟩
def SLOT_STATUS_dies : Fld := ⟨0x0F000, 18, 4, .ro, 256, 2, [0]⟩
def SLOT_STATUS_mount_fail : Fld := ⟨0x0F000, 22, 4, .ro, 256, 2, [0]⟩
def SLOT_EVENT_inserted : Fld := ⟨0x0F004, 0, 1, .w1c, 256, 2, [0]⟩
def SLOT_EVENT_removed : Fld := ⟨0x0F004, 1, 1, .w1c, 256, 2, [0]⟩
def SLOT_EVENT_mount_done : Fld := ⟨0x0F004, 2, 1, .w1c, 256, 2, [0]⟩
def SLOT_EVENT_mount_fail : Fld := ⟨0x0F004, 3, 1, .w1c, 256, 2, [0]⟩
def SLOT_EVENT_ecc_high : Fld := ⟨0x0F004, 4, 1, .w1c, 256, 2, [0]⟩
def SLOT_EVENT_uncorrectable : Fld := ⟨0x0F004, 5, 1, .w1c, 256, 2, [0]⟩
def SLOT_EVENT_save_commit : Fld := ⟨0x0F004, 6, 1, .w1c, 256, 2, [0]⟩
def SLOT_EVENT_eject_done : Fld := ⟨0x0F004, 7, 1, .w1c, 256, 2, [0]⟩
def SLOT_EVENT_EN_event_en : Fld := ⟨0x0F008, 0, 8, .rw, 256, 2, [3]⟩
def SLOT_CFG_det_debounce_ms : Fld := ⟨0x0F00C, 0, 8, .rw, 256, 2, [50]⟩
def SLOT_CFG_eject_ms : Fld := ⟨0x0F00C, 8, 10, .rw, 256, 2, [200]⟩
def SLOT_CFG_ecc_warn : Fld := ⟨0x0F00C, 18, 6, .rw, 256, 2, [28]⟩
def SLOT_CTRL_power_on : Fld := ⟨0x0F010, 0, 1, .wo, 256, 2, [0]⟩
def SLOT_CTRL_power_off : Fld := ⟨0x0F010, 1, 1, .wo, 256, 2, [0]⟩
def SLOT_CTRL_vccq_sel : Fld := ⟨0x0F010, 2, 1, .wo, 256, 2, [0]⟩
def SLOT_CTRL_eject : Fld := ⟨0x0F010, 3, 1, .wo, 256, 2, [0]⟩
def SLOT_CTRL_port_reset : Fld := ⟨0x0F010, 4, 1, .wo, 256, 2, [0]⟩
def SLOT_CART_LO_cart_id : Fld := ⟨0x0F020, 0, 32, .ro, 256, 2, [0]⟩
def SLOT_CART_HI_cart_id : Fld := ⟨0x0F024, 0, 32, .ro, 256, 2, [0]⟩
def SLOT_READS_reads : Fld := ⟨0x0F028, 0, 32, .rc, 256, 2, [0]⟩
def SLOT_ECC_corr_cw : Fld := ⟨0x0F02C, 0, 16, .rc, 256, 2, [0]⟩
def SLOT_ECC_max_bits : Fld := ⟨0x0F02C, 16, 6, .ro, 256, 2, [0]⟩
def SLOT_ECC_mm_clear : Fld := ⟨0x0F02C, 31, 1, .wo, 256, 2, [0]⟩
def SLOT_UNCORR_uncorrectable : Fld := ⟨0x0F030, 0, 16, .rc, 256, 2, [0]⟩
def SLOT_UNCORR_meta_fail : Fld := ⟨0x0F030, 16, 16, .rc, 256, 2, [0]⟩
def SLOT_PE_program_fail : Fld := ⟨0x0F034, 0, 16, .rc, 256, 2, [0]⟩
def SLOT_PE_erase_fail : Fld := ⟨0x0F034, 16, 16, .rc, 256, 2, [0]⟩
def SLOT_FAIL_LOG_row : Fld := ⟨0x0F038, 0, 24, .ro, 256, 2, [0]⟩
def SLOT_FAIL_LOG_die : Fld := ⟨0x0F038, 24, 4, .ro, 256, 2, [0]⟩
def SLOT_FAIL_LOG_cw : Fld := ⟨0x0F038, 28, 4, .ro, 256, 2, [0]⟩
def SLOT_OP_CMD_op : Fld := ⟨0x0F040, 0, 4, .wo, 256, 2, [0]⟩
def SLOT_OP_CMD_die : Fld := ⟨0x0F040, 4, 4, .wo, 256, 2, [0]⟩
def SLOT_OP_CMD_go : Fld := ⟨0x0F040, 31, 1, .wo, 256, 2, [0]⟩
def SLOT_OP_ROW_row : Fld := ⟨0x0F044, 0, 24, .rw, 256, 2, [0]⟩
def SLOT_OP_PTR_ptr : Fld := ⟨0x0F048, 0, 15, .rw, 256, 2, [0]⟩
def SLOT_OP_DATA_data : Fld := ⟨0x0F04C, 0, 32, .rw, 256, 2, [0]⟩
def SLOT_OP_STATUS_busy : Fld := ⟨0x0F050, 0, 1, .ro, 256, 2, [0]⟩
def SLOT_OP_STATUS_die_status : Fld := ⟨0x0F050, 8, 8, .ro, 256, 2, [0]⟩
def SLOT_OP_STATUS_outcome : Fld := ⟨0x0F050, 16, 3, .ro, 256, 2, [0]⟩
def STRM_STATUS_open : Fld := ⟨0x0E000, 0, 16, .ro, 0, 1, [0]⟩
def STRM_STATUS_halted : Fld := ⟨0x0E000, 16, 16, .ro, 0, 1, [0]⟩
def STRM_EVENT_req_ring_fault : Fld := ⟨0x0E004, 0, 1, .w1c, 0, 1, [0]⟩
def STRM_EVENT_cpl_ring_fault : Fld := ⟨0x0E004, 1, 1, .w1c, 0, 1, [0]⟩
def STRM_EVENT_poison_halt : Fld := ⟨0x0E004, 2, 1, .w1c, 0, 1, [0]⟩
def STRM_EVENT_gone_halt : Fld := ⟨0x0E004, 3, 1, .w1c, 0, 1, [0]⟩
def STRM_EVENT_fetch_timeout : Fld := ⟨0x0E004, 4, 1, .w1c, 0, 1, [0]⟩
def STRM_EVENT_EN_event_en : Fld := ⟨0x0E008, 0, 5, .rw, 0, 1, [0]⟩
def STRM_FETCHES_fetches : Fld := ⟨0x0E010, 0, 32, .rc, 0, 1, [0]⟩
def STRM_SECTORS_sectors : Fld := ⟨0x0E014, 0, 32, .rc, 0, 1, [0]⟩
def STRM_KEEP_SEL_channel : Fld := ⟨0x0E020, 0, 4, .rw, 0, 1, [0]⟩
def STRM_KEEP_SEL_word : Fld := ⟨0x0E020, 4, 9, .rw, 0, 1, [0]⟩
def STRM_KEEP_LO_kept : Fld := ⟨0x0E024, 0, 32, .ro, 0, 1, [0]⟩
def STRM_KEEP_HI_kept : Fld := ⟨0x0E028, 0, 32, .ro, 0, 1, [0]⟩
def STRM_CH_CFG_req_k : Fld := ⟨0x0E118, 0, 4, .rw, 64, 16, [0]⟩
def STRM_CH_CFG_cpl_k : Fld := ⟨0x0E118, 4, 4, .rw, 64, 16, [0]⟩
def STRM_CH_CFG_profile : Fld := ⟨0x0E118, 8, 5, .rw, 64, 16, [0]⟩
def STRM_CH_CFG_wb_en : Fld := ⟨0x0E118, 13, 1, .rw, 64, 16, [0]⟩
def STRM_CH_CFG_deg_rate : Fld := ⟨0x0E118, 14, 10, .rw, 64, 16, [25]⟩
def STRM_CH_CFG_en : Fld := ⟨0x0E118, 31, 1, .rw, 64, 16, [0]⟩
def STRM_CH_TMO_fetch_ms : Fld := ⟨0x0E11C, 0, 16, .rw, 64, 16, [1000]⟩
def STRM_CH_REQ_CNT_accepted : Fld := ⟨0x0E120, 0, 16, .ro, 64, 16, [0]⟩
def STRM_CH_REQ_CNT_taken : Fld := ⟨0x0E120, 16, 16, .ro, 64, 16, [0]⟩
def STRM_CH_CPL_CNT_written : Fld := ⟨0x0E124, 0, 16, .ro, 64, 16, [0]⟩
def STRM_CH_CPL_CNT_consumed : Fld := ⟨0x0E124, 16, 16, .ro, 64, 16, [0]⟩
def STRM_CH_STATUS_state : Fld := ⟨0x0E128, 0, 2, .ro, 64, 16, [0]⟩
def STRM_CH_STATUS_halt_reason : Fld := ⟨0x0E128, 2, 4, .ro, 64, 16, [0]⟩
def STRM_CH_STATUS_in_flight : Fld := ⟨0x0E128, 6, 3, .ro, 64, 16, [0]⟩
def STRM_CH_STATUS_resume : Fld := ⟨0x0E128, 9, 1, .wo, 64, 16, [0]⟩
def STRM_CH_FETCHES_fetches : Fld := ⟨0x0E12C, 0, 32, .rc, 64, 16, [0]⟩
def SEC_STATUS_guard_running : Fld := ⟨0x10000, 0, 1, .ro, 0, 1, [0]⟩
def SEC_STATUS_rules_loaded : Fld := ⟨0x10000, 1, 1, .ro, 0, 1, [0]⟩
def SEC_STATUS_guard_ready : Fld := ⟨0x10000, 2, 1, .ro, 0, 1, [0]⟩
def SEC_STATUS_live_half : Fld := ⟨0x10000, 3, 1, .ro, 0, 1, [0]⟩
def SEC_STATUS_debug_lock : Fld := ⟨0x10000, 4, 1, .ro, 0, 1, [0]⟩
def SEC_STATUS_load_open : Fld := ⟨0x10000, 5, 1, .ro, 0, 1, [0]⟩
def SEC_STATUS_castle_wait : Fld := ⟨0x10000, 6, 1, .ro, 0, 1, [0]⟩
def SEC_STATUS_key_gen : Fld := ⟨0x10000, 8, 8, .ro, 0, 1, [0]⟩
def SEC_STATUS_module_gen : Fld := ⟨0x10000, 16, 8, .ro, 0, 1, [0]⟩
def SEC_STATUS_console_class : Fld := ⟨0x10000, 24, 8, .ro, 0, 1, [0]⟩
def SEC_EVENT_rules_loaded : Fld := ⟨0x10004, 0, 1, .w1c, 0, 1, [0]⟩
def SEC_EVENT_rules_rejected : Fld := ⟨0x10004, 1, 1, .w1c, 0, 1, [0]⟩
def SEC_EVENT_auth_ok : Fld := ⟨0x10004, 2, 1, .w1c, 0, 1, [0]⟩
def SEC_EVENT_auth_fail : Fld := ⟨0x10004, 3, 1, .w1c, 0, 1, [0]⟩
def SEC_EVENT_reauth_fail : Fld := ⟨0x10004, 4, 1, .w1c, 0, 1, [0]⟩
def SEC_EVENT_guard_reset : Fld := ⟨0x10004, 5, 1, .w1c, 0, 1, [0]⟩
def SEC_EVENT_reauth_due : Fld := ⟨0x10004, 6, 1, .w1c, 0, 1, [0]⟩
def SEC_EVENT_fw_verify_fail : Fld := ⟨0x10004, 7, 1, .w1c, 0, 1, [0]⟩
def SEC_EVENT_EN_event_en : Fld := ⟨0x10008, 0, 8, .ro, 0, 1, [58]⟩
def SEC_RULES_rule_serial : Fld := ⟨0x10010, 0, 32, .ro, 0, 1, [0]⟩
def SEC_RULE_INFO_rule_count : Fld := ⟨0x10014, 0, 14, .ro, 0, 1, [0]⟩
def SEC_RULE_INFO_last_reject : Fld := ⟨0x10014, 16, 3, .ro, 0, 1, [0]⟩
def SEC_RULE_PLY_rule_ply : Fld := ⟨0x10018, 0, 32, .ro, 0, 1, [0]⟩
def SEC_CFG_reauth_s : Fld := ⟨0x1001C, 0, 16, .ro, 0, 1, [0]⟩
def SEC_DERIVE_derivations : Fld := ⟨0x10020, 0, 16, .rc, 0, 1, [0]⟩
def SEC_DERIVE_cache_hits : Fld := ⟨0x10020, 16, 16, .rc, 0, 1, [0]⟩
def SEC_AUTH_COUNT_auths : Fld := ⟨0x10024, 0, 16, .rc, 0, 1, [0]⟩
def SEC_AUTH_COUNT_auth_fails : Fld := ⟨0x10024, 16, 16, .rc, 0, 1, [0]⟩
def SEC_CTX_ctx_valid : Fld := ⟨0x10040, 0, 1, .ro, 16, 2, [0]⟩
def SEC_CTX_fail_reason : Fld := ⟨0x10040, 1, 3, .ro, 16, 2, [0]⟩
def SEC_CTX_tag_state : Fld := ⟨0x10040, 4, 4, .ro, 16, 2, [0]⟩
def SEC_CTX_region : Fld := ⟨0x10040, 8, 8, .ro, 16, 2, [0]⟩
def SEC_CTX_TITLE_title_id : Fld := ⟨0x10044, 0, 32, .ro, 16, 2, [0]⟩
def SEC_CTX_AGE_age_s : Fld := ⟨0x10048, 0, 32, .ro, 16, 2, [0]⟩
def SEC_CTX_PLY_auth_ply : Fld := ⟨0x1004C, 0, 32, .ro, 16, 2, [0]⟩
def SEC_KEY_META_valid : Fld := ⟨0x10400, 0, 1, .ro, 8, 85, [0]⟩
def SEC_KEY_META_class : Fld := ⟨0x10400, 1, 3, .ro, 8, 85, List.replicate 64 1 ++ [2, 2, 3, 3] ++ List.replicate 16 4 ++ [5]⟩
def SEC_KEY_META_slot : Fld := ⟨0x10400, 4, 1, .ro, 8, 85, [0]⟩
def SEC_KEY_META_area : Fld := ⟨0x10400, 5, 3, .ro, 8, 85, [0]⟩
def SEC_KEY_META_extent_id : Fld := ⟨0x10400, 8, 24, .ro, 8, 85, [0]⟩
def SEC_KEY_KCC_kcc : Fld := ⟨0x10404, 0, 32, .ro, 8, 85, [0]⟩
def TAG_STATUS_enabled : Fld := ⟨0x11000, 0, 1, .ro, 256, 2, [0]⟩
def TAG_STATUS_busy : Fld := ⟨0x11000, 1, 1, .ro, 256, 2, [0]⟩
def TAG_STATUS_present : Fld := ⟨0x11000, 2, 1, .ro, 256, 2, [0]⟩
def TAG_STATUS_last_status : Fld := ⟨0x11000, 8, 8, .ro, 256, 2, [0]⟩
def TAG_STATUS_last_cmd : Fld := ⟨0x11000, 16, 8, .ro, 256, 2, [0]⟩
def TAG_EVENT_crc_error : Fld := ⟨0x11004, 0, 1, .w1c, 256, 2, [0]⟩
def TAG_EVENT_timeout : Fld := ⟨0x11004, 1, 1, .w1c, 256, 2, [0]⟩
def TAG_EVENT_no_tag : Fld := ⟨0x11004, 2, 1, .w1c, 256, 2, [0]⟩
def TAG_EVENT_EN_event_en : Fld := ⟨0x11008, 0, 3, .ro, 256, 2, [0]⟩
def TAG_FRAMES_frames : Fld := ⟨0x1100C, 0, 16, .rc, 256, 2, [0]⟩
def TAG_FRAMES_crc_errors : Fld := ⟨0x1100C, 16, 16, .rc, 256, 2, [0]⟩
def TAG_POLLS_busy_polls : Fld := ⟨0x11010, 0, 16, .rc, 256, 2, [0]⟩
def TAG_POLLS_timeouts : Fld := ⟨0x11010, 16, 16, .rc, 256, 2, [0]⟩
def TAG_SERIAL_LO_serial_lo : Fld := ⟨0x11014, 0, 32, .ro, 256, 2, [0]⟩
def TAG_SERIAL_HI_serial_hi : Fld := ⟨0x11018, 0, 32, .ro, 256, 2, [0]⟩
def TAG_INFO_media : Fld := ⟨0x1101C, 0, 8, .ro, 256, 2, [0]⟩
def TAG_INFO_flags : Fld := ⟨0x1101C, 8, 8, .ro, 256, 2, [0]⟩
def TAG_INFO_version : Fld := ⟨0x1101C, 16, 8, .ro, 256, 2, [0]⟩
def TAG_INFO_records : Fld := ⟨0x1101C, 24, 8, .ro, 256, 2, [0]⟩
def INTEG_STATUS_steep_run : Fld := ⟨0x0D000, 0, 1, .ro, 0, 1, [0]⟩
def INTEG_STATUS_steep_paused : Fld := ⟨0x0D000, 1, 1, .ro, 0, 1, [0]⟩
def INTEG_STATUS_scrub_busy : Fld := ⟨0x0D000, 2, 1, .ro, 0, 1, [0]⟩
def INTEG_STATUS_audit_busy : Fld := ⟨0x0D000, 3, 1, .ro, 0, 1, [0]⟩
def INTEG_STATUS_seen_full : Fld := ⟨0x0D000, 4, 1, .ro, 0, 1, [0]⟩
def INTEG_STATUS_seen_count : Fld := ⟨0x0D000, 5, 9, .ro, 0, 1, [0]⟩
def INTEG_EVENT_corrected : Fld := ⟨0x0D004, 0, 1, .w1c, 0, 1, [0]⟩
def INTEG_EVENT_uncorrectable : Fld := ⟨0x0D004, 1, 1, .w1c, 0, 1, [0]⟩
def INTEG_EVENT_bite : Fld := ⟨0x0D004, 2, 1, .w1c, 0, 1, [0]⟩
def INTEG_EVENT_log_lost : Fld := ⟨0x0D004, 3, 1, .w1c, 0, 1, [0]⟩
def INTEG_EVENT_steep_lap : Fld := ⟨0x0D004, 4, 1, .w1c, 0, 1, [0]⟩
def INTEG_EVENT_scrub_done : Fld := ⟨0x0D004, 5, 1, .w1c, 0, 1, [0]⟩
def INTEG_EVENT_audit_done : Fld := ⟨0x0D004, 6, 1, .w1c, 0, 1, [0]⟩
def INTEG_EVENT_audit_mismatch : Fld := ⟨0x0D004, 7, 1, .w1c, 0, 1, [0]⟩
def INTEG_EVENT_flip_fired : Fld := ⟨0x0D004, 8, 1, .w1c, 0, 1, [0]⟩
def INTEG_EVENT_EN_event_en : Fld := ⟨0x0D008, 0, 9, .rw, 0, 1, [2]⟩
def INTEG_CORR_COUNT_corr_count : Fld := ⟨0x0D010, 0, 32, .rc, 0, 1, [0]⟩
def INTEG_UNCORR_COUNT_uncorr_count : Fld := ⟨0x0D014, 0, 32, .rc, 0, 1, [0]⟩
def INTEG_REPEAT_COUNT_repeat_count : Fld := ⟨0x0D018, 0, 32, .rc, 0, 1, [0]⟩
def INTEG_POISON_COUNT_poison_bites : Fld := ⟨0x0D01C, 0, 16, .rc, 0, 1, [0]⟩
def INTEG_POISON_COUNT_poison_stored : Fld := ⟨0x0D01C, 16, 16, .rc, 0, 1, [0]⟩
def INTEG_STEEP_CTRL_steep_en : Fld := ⟨0x0D040, 0, 1, .rw, 0, 1, [0]⟩
def INTEG_STEEP_CTRL_steep_repair_en : Fld := ⟨0x0D040, 1, 1, .rw, 0, 1, [0]⟩
def INTEG_STEEP_CTRL_steep_pace : Fld := ⟨0x0D040, 16, 10, .rw, 0, 1, [256]⟩
def INTEG_STEEP_POS_pos_sid : Fld := ⟨0x0D044, 0, 8, .ro, 0, 1, [1]⟩
def INTEG_STEEP_POS_pos_word : Fld := ⟨0x0D044, 8, 24, .ro, 0, 1, [0]⟩
def INTEG_LAP_LAST_lap_last : Fld := ⟨0x0D048, 0, 32, .ro, 0, 1, [0]⟩
def INTEG_LAP_MIN_lap_min : Fld := ⟨0x0D04C, 0, 32, .ro, 0, 1, [4294967295]⟩
def INTEG_LAP_MAX_lap_max : Fld := ⟨0x0D050, 0, 32, .ro, 0, 1, [0]⟩
def INTEG_LAPS_laps : Fld := ⟨0x0D054, 0, 31, .ro, 0, 1, [0]⟩
def INTEG_LAPS_mm_clear : Fld := ⟨0x0D054, 31, 1, .wo, 0, 1, [0]⟩
def INTEG_LAP_FOUND_lap_corr : Fld := ⟨0x0D058, 0, 16, .ro, 0, 1, [0]⟩
def INTEG_LAP_FOUND_lap_uncorr : Fld := ⟨0x0D058, 16, 16, .ro, 0, 1, [0]⟩
def INTEG_STEEP_REPAIRED_steep_repaired : Fld := ⟨0x0D05C, 0, 32, .rc, 0, 1, [0]⟩
def INTEG_SCRUB_CTRL_scrub_sid : Fld := ⟨0x0D080, 0, 8, .rw, 0, 1, [0]⟩
def INTEG_SCRUB_CTRL_scrub_repair : Fld := ⟨0x0D080, 8, 1, .rw, 0, 1, [0]⟩
def INTEG_SCRUB_CTRL_go : Fld := ⟨0x0D080, 31, 1, .wo, 0, 1, [0]⟩
def INTEG_SCRUB_START_start : Fld := ⟨0x0D084, 0, 32, .rw, 0, 1, [0]⟩
def INTEG_SCRUB_LEN_length : Fld := ⟨0x0D088, 0, 32, .rw, 0, 1, [0]⟩
def INTEG_SCRUB_CHECKED_checked : Fld := ⟨0x0D08C, 0, 32, .ro, 0, 1, [0]⟩
def INTEG_SCRUB_CORR_s_corr : Fld := ⟨0x0D090, 0, 32, .ro, 0, 1, [0]⟩
def INTEG_SCRUB_UNCORR_s_uncorr : Fld := ⟨0x0D094, 0, 32, .ro, 0, 1, [0]⟩
def INTEG_SCRUB_FIRST_first : Fld := ⟨0x0D098, 0, 32, .ro, 0, 1, [4294967295]⟩
def INTEG_SCRUB_REPAIRED_s_repaired : Fld := ⟨0x0D09C, 0, 32, .ro, 0, 1, [0]⟩
def INTEG_AUD_SHADOW_LO_shadow : Fld := ⟨0x0D0C0, 0, 32, .rw, 0, 1, [0]⟩
def INTEG_AUD_SHADOW_HI_shadow : Fld := ⟨0x0D0C4, 0, 32, .rw, 0, 1, [0]⟩
def INTEG_AUD_SHADOW_LEN_shadow_len : Fld := ⟨0x0D0C8, 0, 32, .rw, 0, 1, [0]⟩
def INTEG_AUD_RES_LO_res : Fld := ⟨0x0D0CC, 0, 32, .rw, 0, 1, [0]⟩
def INTEG_AUD_RES_HI_res : Fld := ⟨0x0D0D0, 0, 32, .rw, 0, 1, [0]⟩
def INTEG_AUD_RES_LEN_res_len : Fld := ⟨0x0D0D4, 0, 32, .rw, 0, 1, [0]⟩
def INTEG_AUD_CTRL_table : Fld := ⟨0x0D0D8, 0, 7, .rw, 0, 1, [0]⟩
def INTEG_AUD_CTRL_ignore_learned : Fld := ⟨0x0D0D8, 7, 1, .rw, 0, 1, [0]⟩
def INTEG_AUD_CTRL_go : Fld := ⟨0x0D0D8, 31, 1, .wo, 0, 1, [0]⟩
def INTEG_AUD_STATUS_outcome : Fld := ⟨0x0D0DC, 0, 2, .ro, 0, 1, [0]⟩
def INTEG_AUD_STATUS_table_changed : Fld := ⟨0x0D0DC, 2, 1, .ro, 0, 1, [0]⟩
def INTEG_AUD_COMPARED_compared : Fld := ⟨0x0D0E0, 0, 32, .ro, 0, 1, [0]⟩
def INTEG_AUD_MISMATCH_mismatches : Fld := ⟨0x0D0E4, 0, 32, .ro, 0, 1, [0]⟩
def INTEG_AUD_FIRST_first_mismatch : Fld := ⟨0x0D0E8, 0, 32, .ro, 0, 1, [4294967295]⟩
def INTEG_RAW_raw_en : Fld := ⟨0x0D100, 0, 1, .rw, 0, 1, [0]⟩
def INTEG_RAW_raw_sid : Fld := ⟨0x0D100, 8, 8, .rw, 0, 1, [0]⟩
def INTEG_RAW_CHECK_raw_check : Fld := ⟨0x0D104, 0, 8, .rw, 0, 1, [0]⟩
def INTEG_RAW_RDCHK_rdchk : Fld := ⟨0x0D108, 0, 16, .ro, 0, 1, [0]⟩
def INTEG_FLIP_SEL_flip_sid : Fld := ⟨0x0D110, 0, 8, .rw, 0, 1, [0]⟩
def INTEG_FLIP_SEL_flip_copy : Fld := ⟨0x0D110, 8, 2, .rw, 0, 1, [0]⟩
def INTEG_FLIP_SEL_flip_word : Fld := ⟨0x0D110, 10, 2, .rw, 0, 1, [0]⟩
def INTEG_FLIP_SEL_flip_armed : Fld := ⟨0x0D110, 31, 1, .w1s, 0, 1, [0]⟩
def INTEG_FLIP_DATA_LO_flip_data : Fld := ⟨0x0D114, 0, 32, .rw, 0, 1, [0]⟩
def INTEG_FLIP_DATA_HI_flip_data : Fld := ⟨0x0D118, 0, 32, .rw, 0, 1, [0]⟩
def INTEG_FLIP_CHK_flip_chk : Fld := ⟨0x0D11C, 0, 8, .rw, 0, 1, [0]⟩
def INTEG_FLIP_LAST_flip_offset : Fld := ⟨0x0D120, 0, 32, .ro, 0, 1, [0]⟩
def INTEG_LOG_STATUS_written : Fld := ⟨0x0D200, 0, 16, .ro, 0, 1, [0]⟩
def INTEG_LOG_STATUS_consumed : Fld := ⟨0x0D200, 16, 16, .ro, 0, 1, [0]⟩
def INTEG_LOG_CONS_cons : Fld := ⟨0x0D204, 0, 16, .wo, 0, 1, [0]⟩
def INTEG_LOG_LOST_log_lost : Fld := ⟨0x0D208, 0, 32, .rc, 0, 1, [0]⟩
def INTEG_SEEN_CLR_seen_clr : Fld := ⟨0x0D20C, 0, 1, .wo, 0, 1, [0]⟩
def INTEG_SID_COUNT_sid_corr : Fld := ⟨0x0D300, 0, 16, .rc, 4, 21, [0]⟩
def INTEG_SID_COUNT_sid_uncorr : Fld := ⟨0x0D300, 16, 16, .rc, 4, 21, [0]⟩
def INTEG_LOG_record : Fld := ⟨0x0D400, 0, 32, .ro, 4, 512, [0]⟩
def CORE_STATUS_ctl_state : Fld := ⟨0x12000, 0, 2, .ro, 0, 1, [1]⟩
def CORE_STATUS_grd_state : Fld := ⟨0x12000, 2, 2, .ro, 0, 1, [1]⟩
def CORE_STATUS_fatal : Fld := ⟨0x12000, 4, 1, .ro, 0, 1, [0]⟩
def CORE_STATUS_fw_source : Fld := ⟨0x12000, 5, 2, .ro, 0, 1, [0]⟩
def CORE_STATUS_active_slot : Fld := ⟨0x12000, 7, 1, .ro, 0, 1, [0]⟩
def CORE_STATUS_fallback : Fld := ⟨0x12000, 8, 1, .ro, 0, 1, [0]⟩
def CORE_STATUS_boot_src : Fld := ⟨0x12000, 9, 1, .ro, 0, 1, [0]⟩
def CORE_EVENT_ctl_fault : Fld := ⟨0x12004, 0, 1, .w1c, 0, 1, [0]⟩
def CORE_EVENT_grd_fault : Fld := ⟨0x12004, 1, 1, .w1c, 0, 1, [0]⟩
def CORE_EVENT_ctl_wdog : Fld := ⟨0x12004, 2, 1, .w1c, 0, 1, [0]⟩
def CORE_EVENT_grd_wdog : Fld := ⟨0x12004, 3, 1, .w1c, 0, 1, [0]⟩
def CORE_EVENT_dump_written : Fld := ⟨0x12004, 4, 1, .w1c, 0, 1, [0]⟩
def CORE_EVENT_fatal : Fld := ⟨0x12004, 5, 1, .w1c, 0, 1, [0]⟩
def CORE_EVENT_boot_failed : Fld := ⟨0x12004, 6, 1, .w1c, 0, 1, [0]⟩
def CORE_EVENT_fw_stored : Fld := ⟨0x12004, 7, 1, .w1c, 0, 1, [0]⟩
def CORE_EVENT_EN_event_en : Fld := ⟨0x12008, 0, 8, .rw, 0, 1, [115]⟩
def CORE_WDOG_ctl_wdog_ms : Fld := ⟨0x12010, 0, 10, .rw, 0, 1, [100]⟩
def CORE_WDOG_grd_wdog_ms : Fld := ⟨0x12010, 16, 10, .rw, 0, 1, [100]⟩
def CORE_RESTARTS_ctl_restarts : Fld := ⟨0x12014, 0, 16, .rc, 0, 1, [0]⟩
def CORE_RESTARTS_grd_restarts : Fld := ⟨0x12014, 16, 16, .rc, 0, 1, [0]⟩
def CORE_DUMP_dump_valid : Fld := ⟨0x12018, 0, 1, .ro, 0, 1, [0]⟩
def CORE_DUMP_host_copy : Fld := ⟨0x12018, 1, 1, .ro, 0, 1, [0]⟩
def CORE_DUMP_dump_seq_lo : Fld := ⟨0x12018, 16, 16, .ro, 0, 1, [0]⟩
def CORE_DUMP_HOST_LO_dump_addr : Fld := ⟨0x12020, 0, 32, .rw, 0, 1, [0]⟩
def CORE_DUMP_HOST_HI_dump_addr : Fld := ⟨0x12024, 0, 32, .rw, 0, 1, [0]⟩
def CORE_DUMP_HOST_LEN_dump_len : Fld := ⟨0x12028, 0, 32, .rw, 0, 1, [0]⟩
def CORE_BOOT_SERVED_served : Fld := ⟨0x12030, 0, 32, .ro, 0, 1, [0]⟩
def CORE_FAULT_CTL_fault : Fld := ⟨0x12100, 0, 32, .ro, 4, 16, [0]⟩
def CORE_FAULT_GRD_fault : Fld := ⟨0x12140, 0, 32, .ro, 4, 16, [0]⟩
def CADDY_STATUS_jrnl_en : Fld := ⟨0x13000, 0, 1, .ro, 0, 1, [0]⟩
def CADDY_STATUS_ckpt_run : Fld := ⟨0x13000, 1, 1, .ro, 0, 1, [0]⟩
def CADDY_STATUS_jrnl_full : Fld := ⟨0x13000, 2, 1, .ro, 0, 1, [0]⟩
def CADDY_STATUS_warm_run : Fld := ⟨0x13000, 3, 1, .ro, 0, 1, [0]⟩
def CADDY_EVENT_ckpt_done : Fld := ⟨0x13004, 0, 1, .w1c, 0, 1, [0]⟩
def CADDY_EVENT_jrnl_full : Fld := ⟨0x13004, 1, 1, .w1c, 0, 1, [0]⟩
def CADDY_EVENT_warm_done : Fld := ⟨0x13004, 2, 1, .w1c, 0, 1, [0]⟩
def CADDY_EVENT_caddy_poison : Fld := ⟨0x13004, 3, 1, .w1c, 0, 1, [0]⟩
def CADDY_EVENT_EN_event_en : Fld := ⟨0x13008, 0, 4, .rw, 0, 1, [2]⟩
def CADDY_JRNL_CFG_commit_ms : Fld := ⟨0x13010, 0, 16, .ro, 0, 1, [100]⟩
def CADDY_JRNL_MASK_LO_mask : Fld := ⟨0x13014, 0, 32, .ro, 0, 1, [0]⟩
def CADDY_JRNL_MASK_HI_mask : Fld := ⟨0x13018, 0, 32, .ro, 0, 1, [0]⟩
def CADDY_JRNL_SEQ_next_seq : Fld := ⟨0x13020, 0, 32, .ro, 0, 1, [0]⟩
def CADDY_JRNL_COMMIT_commit_seq : Fld := ⟨0x13024, 0, 32, .ro, 0, 1, [0]⟩
def CADDY_JRNL_USED_used : Fld := ⟨0x13028, 0, 32, .ro, 0, 1, [0]⟩
def CADDY_JRNL_PENDING_pending : Fld := ⟨0x1302C, 0, 32, .ro, 0, 1, [0]⟩
def CADDY_WRITES_lines_written : Fld := ⟨0x13030, 0, 32, .rc, 0, 1, [0]⟩
def CADDY_READS_lines_read : Fld := ⟨0x13034, 0, 32, .rc, 0, 1, [0]⟩
def DBG_STATUS_debug_lock : Fld := ⟨0x14000, 0, 1, .ro, 0, 1, [0]⟩
def DBG_STATUS_tap_active : Fld := ⟨0x14000, 1, 1, .ro, 0, 1, [0]⟩
def DBG_HALT_ctl_halt : Fld := ⟨0x14004, 0, 1, .rw, 0, 1, [0]⟩
def DBG_HALT_grd_halt : Fld := ⟨0x14004, 1, 1, .rw, 0, 1, [0]⟩
def DBG_CTL_PC_ctl_pc : Fld := ⟨0x14008, 0, 32, .ro, 0, 1, [0]⟩
def DBG_GRD_PC_grd_pc : Fld := ⟨0x1400C, 0, 32, .ro, 0, 1, [0]⟩
def OTP_STATUS_id_a_state : Fld := ⟨0x04000, 0, 2, .ro, 0, 1, [0]⟩
def OTP_STATUS_id_b_state : Fld := ⟨0x04000, 2, 2, .ro, 0, 1, [0]⟩
def OTP_STATUS_trim_state : Fld := ⟨0x04000, 4, 2, .ro, 0, 1, [0]⟩
def OTP_STATUS_sec_state : Fld := ⟨0x04000, 6, 2, .ro, 0, 1, [0]⟩
def OTP_STATUS_id_bad : Fld := ⟨0x04000, 8, 1, .ro, 0, 1, [1]⟩
def OTP_STATUS_trim_bad : Fld := ⟨0x04000, 9, 1, .ro, 0, 1, [1]⟩
def OTP_STATUS_sec_bad : Fld := ⟨0x04000, 10, 1, .ro, 0, 1, [0]⟩
def OTP_STATUS_debug_lock : Fld := ⟨0x04000, 11, 1, .ro, 0, 1, [0]⟩
def OTP_GEN_gen_in_force : Fld := ⟨0x04004, 0, 2, .ro, 0, 1, [0]⟩
def OTP_GEN_gen_valid : Fld := ⟨0x04004, 2, 1, .ro, 0, 1, [0]⟩
def OTP_GEN_spent : Fld := ⟨0x04004, 4, 4, .ro, 0, 1, [0]⟩
def OTP_GEN_next_pos : Fld := ⟨0x04004, 8, 3, .ro, 0, 1, [0]⟩
def OTP_SV_fw_min_sv : Fld := ⟨0x04008, 0, 7, .ro, 0, 1, [0]⟩
def OTP_SV_sv_array : Fld := ⟨0x04008, 8, 7, .ro, 0, 1, [0]⟩
def OTP_EVENT_region_bad : Fld := ⟨0x0400C, 0, 1, .w1c, 0, 1, [0]⟩
def OTP_EVENT_prog_done : Fld := ⟨0x0400C, 1, 1, .w1c, 0, 1, [0]⟩
def OTP_EVENT_prog_fail : Fld := ⟨0x0400C, 2, 1, .w1c, 0, 1, [0]⟩
def OTP_EVENT_exhausted : Fld := ⟨0x0400C, 3, 1, .w1c, 0, 1, [0]⟩
def OTP_EVENT_EN_event_en : Fld := ⟨0x04010, 0, 4, .rw, 0, 1, [5]⟩
def OTP_PROG_COUNT_words : Fld := ⟨0x04014, 0, 16, .rc, 0, 1, [0]⟩
def OTP_PROG_COUNT_retries : Fld := ⟨0x04014, 16, 16, .rc, 0, 1, [0]⟩
def OTP_PROG_ADDR_word : Fld := ⟨0x04020, 0, 9, .rw, 0, 1, [0]⟩
def OTP_PROG_DATA_data : Fld := ⟨0x04024, 0, 32, .rw, 0, 1, [0]⟩
def OTP_PROG_CMD_go : Fld := ⟨0x04028, 31, 1, .wo, 0, 1, [0]⟩
def OTP_PROG_STATUS_busy : Fld := ⟨0x0402C, 0, 1, .ro, 0, 1, [0]⟩
def OTP_PROG_STATUS_outcome : Fld := ⟨0x0402C, 1, 3, .ro, 0, 1, [0]⟩
def PIN_STATUS_conflict_any : Fld := ⟨0x06000, 0, 1, .ro, 0, 1, [0]⟩
def PIN_STATUS_smb_active : Fld := ⟨0x06000, 1, 1, .ro, 0, 1, [0]⟩
def PIN_STATUS_i2c_busy : Fld := ⟨0x06000, 2, 1, .ro, 0, 1, [0]⟩
def PIN_EVENT_pad_irq : Fld := ⟨0x06004, 0, 1, .w1c, 0, 1, [0]⟩
def PIN_EVENT_conflict : Fld := ⟨0x06004, 1, 1, .w1c, 0, 1, [0]⟩
def PIN_EVENT_u1_rx : Fld := ⟨0x06004, 2, 1, .w1c, 0, 1, [0]⟩
def PIN_EVENT_u2_rx : Fld := ⟨0x06004, 3, 1, .w1c, 0, 1, [0]⟩
def PIN_EVENT_uart_err : Fld := ⟨0x06004, 4, 1, .w1c, 0, 1, [0]⟩
def PIN_EVENT_i2c_done : Fld := ⟨0x06004, 5, 1, .w1c, 0, 1, [0]⟩
def PIN_EVENT_tcap : Fld := ⟨0x06004, 6, 1, .w1c, 0, 1, [0]⟩
def PIN_EVENT_tcmp : Fld := ⟨0x06004, 7, 1, .w1c, 0, 1, [0]⟩
def PIN_EVENT_fan_stall : Fld := ⟨0x06004, 8, 1, .w1c, 0, 1, [0]⟩
def PIN_EVENT_uin : Fld := ⟨0x06004, 9, 1, .w1c, 0, 1, [0]⟩
def PIN_EVENT_smb_timeout : Fld := ⟨0x06004, 10, 1, .w1c, 0, 1, [0]⟩
def PIN_EVENT_pwm_kill : Fld := ⟨0x06004, 11, 1, .w1c, 0, 1, [0]⟩
def PIN_EVENT_EN_event_en : Fld := ⟨0x06008, 0, 12, .rw, 0, 1, [0]⟩
def PIN_IN_pad_in : Fld := ⟨0x06010, 0, 24, .ro, 0, 1, [0]⟩
def PIN_FILT_pad_filt : Fld := ⟨0x06014, 0, 24, .ro, 0, 1, [0]⟩
def PIN_OUT_out : Fld := ⟨0x06018, 0, 24, .ro, 0, 1, [0]⟩
def PIN_SET_set : Fld := ⟨0x0601C, 0, 24, .wo, 0, 1, [0]⟩
def PIN_CLR_clr : Fld := ⟨0x06020, 0, 24, .wo, 0, 1, [0]⟩
def PIN_TGL_tgl : Fld := ⟨0x06024, 0, 24, .wo, 0, 1, [0]⟩
def PIN_IRQ_STATUS_irq : Fld := ⟨0x06028, 0, 24, .w1c, 0, 1, [0]⟩
def PIN_CONFLICT_LO_conflict : Fld := ⟨0x06030, 0, 32, .ro, 0, 1, [0]⟩
def PIN_CONFLICT_HI_conflict : Fld := ⟨0x06034, 0, 32, .ro, 0, 1, [0]⟩
def PIN_FIXED_fixed : Fld := ⟨0x06038, 0, 12, .ro, 0, 1, [0]⟩
def PIN_IRQ_CFG_LO_irq : Fld := ⟨0x06040, 0, 32, .rw, 0, 1, [0]⟩
def PIN_IRQ_CFG_HI_irq : Fld := ⟨0x06044, 0, 16, .rw, 0, 1, [0]⟩
def PIN_WAKE_pad : Fld := ⟨0x06060, 0, 5, .rw, 4, 8, [0]⟩
def PIN_WAKE_level : Fld := ⟨0x06060, 5, 1, .rw, 4, 8, [0]⟩
def PIN_WAKE_pull : Fld := ⟨0x06060, 6, 2, .rw, 4, 8, [0]⟩
def PIN_WAKE_en : Fld := ⟨0x06060, 8, 1, .rw, 4, 8, [0]⟩
def PIN_PAD_CFG_sig : Fld := ⟨0x06100, 0, 6, .rw, 4, 24, [0]⟩
def PIN_PAD_CFG_mode : Fld := ⟨0x06100, 6, 2, .rw, 4, 24, [0]⟩
def PIN_PAD_CFG_od : Fld := ⟨0x06100, 8, 1, .rw, 4, 24, [0]⟩
def PIN_PAD_CFG_inv : Fld := ⟨0x06100, 9, 1, .rw, 4, 24, [0]⟩
def PIN_PAD_CFG_pull : Fld := ⟨0x06100, 10, 2, .rw, 4, 24, [0]⟩
def PIN_PAD_CFG_strong : Fld := ⟨0x06100, 12, 1, .rw, 4, 24, [0]⟩
def PIN_PAD_CFG_glitch : Fld := ⟨0x06100, 16, 8, .rw, 4, 24, [0]⟩
def PIN_PAD_CFG_debounce_ms : Fld := ⟨0x06100, 24, 8, .rw, 4, 24, [0]⟩
def PIN_Uu_CFG_en : Fld := ⟨0x06200, 0, 1, .rw, 32, 2, [0]⟩
def PIN_Uu_CFG_bits7 : Fld := ⟨0x06200, 1, 1, .rw, 32, 2, [0]⟩
def PIN_Uu_CFG_parity : Fld := ⟨0x06200, 2, 2, .rw, 32, 2, [0]⟩
def PIN_Uu_CFG_stop2 : Fld := ⟨0x06200, 4, 1, .rw, 32, 2, [0]⟩
def PIN_Uu_CFG_flow : Fld := ⟨0x06200, 5, 1, .rw, 32, 2, [0]⟩
def PIN_Uu_CFG_de_en : Fld := ⟨0x06200, 6, 1, .rw, 32, 2, [0]⟩
def PIN_Uu_CFG_de_tail : Fld := ⟨0x06200, 8, 8, .rw, 32, 2, [0]⟩
def PIN_Uu_DIV_div_int : Fld := ⟨0x06204, 0, 16, .rw, 32, 2, [14]⟩
def PIN_Uu_DIV_div_frac : Fld := ⟨0x06204, 16, 4, .rw, 32, 2, [0]⟩
def PIN_Uu_STATUS_tx_level : Fld := ⟨0x06208, 0, 7, .ro, 32, 2, [0]⟩
def PIN_Uu_STATUS_rx_level : Fld := ⟨0x06208, 8, 7, .ro, 32, 2, [0]⟩
def PIN_Uu_STATUS_tx_busy : Fld := ⟨0x06208, 16, 1, .ro, 32, 2, [0]⟩
def PIN_Uu_STATUS_break_seen : Fld := ⟨0x06208, 17, 1, .w1c, 32, 2, [0]⟩
def PIN_Uu_ERR_framing : Fld := ⟨0x0620C, 0, 8, .rc, 32, 2, [0]⟩
def PIN_Uu_ERR_parity : Fld := ⟨0x0620C, 8, 8, .rc, 32, 2, [0]⟩
def PIN_Uu_ERR_overrun : Fld := ⟨0x0620C, 16, 8, .rc, 32, 2, [0]⟩
def PIN_Uu_ERR_tx_drop : Fld := ⟨0x0620C, 24, 8, .rc, 32, 2, [0]⟩
def PIN_Uu_TX_tx : Fld := ⟨0x06210, 0, 8, .wo, 32, 2, [0]⟩
def PIN_Uu_RX_rx : Fld := ⟨0x06214, 0, 8, .rc, 32, 2, [0]⟩
def PIN_Uu_RX_rx_valid : Fld := ⟨0x06214, 8, 1, .rc, 32, 2, [0]⟩
def PIN_I2C_CFG_en : Fld := ⟨0x06280, 0, 1, .rw, 0, 1, [0]⟩
def PIN_I2C_CFG_fast : Fld := ⟨0x06280, 1, 1, .rw, 0, 1, [0]⟩
def PIN_I2C_CFG_stretch_ms : Fld := ⟨0x06280, 8, 8, .rw, 0, 1, [25]⟩
def PIN_I2C_XFER_addr : Fld := ⟨0x06284, 0, 7, .rw, 0, 1, [0]⟩
def PIN_I2C_XFER_wr_len : Fld := ⟨0x06284, 8, 4, .rw, 0, 1, [0]⟩
def PIN_I2C_XFER_rd_len : Fld := ⟨0x06284, 12, 4, .rw, 0, 1, [0]⟩
def PIN_I2C_XFER_go : Fld := ⟨0x06284, 31, 1, .wo, 0, 1, [0]⟩
def PIN_I2C_BUF_LO_buf : Fld := ⟨0x06288, 0, 32, .rw, 0, 1, [0]⟩
def PIN_I2C_BUF_HI_buf : Fld := ⟨0x0628C, 0, 32, .rw, 0, 1, [0]⟩
def PIN_I2C_STATUS_busy : Fld := ⟨0x06290, 0, 1, .ro, 0, 1, [0]⟩
def PIN_I2C_STATUS_outcome : Fld := ⟨0x06290, 1, 3, .ro, 0, 1, [0]⟩
def PIN_I2C_STATUS_count : Fld := ⟨0x06290, 8, 8, .ro, 0, 1, [0]⟩
def PIN_PWM_PER_period_m1 : Fld := ⟨0x06300, 0, 16, .rw, 8, 4, [0]⟩
def PIN_PWM_PER_en : Fld := ⟨0x06300, 16, 1, .rw, 8, 4, [0]⟩
def PIN_PWM_PER_pol : Fld := ⟨0x06300, 17, 1, .rw, 8, 4, [0]⟩
def PIN_PWM_PER_kill_en : Fld := ⟨0x06300, 18, 1, .rw, 8, 4, [0]⟩
def PIN_PWM_DUTY_duty : Fld := ⟨0x06304, 0, 17, .rw, 8, 4, [0]⟩
def PIN_TMR_CTRL_en : Fld := ⟨0x06340, 0, 1, .rw, 0, 1, [0]⟩
def PIN_TMR_CTRL_clk_sel : Fld := ⟨0x06340, 1, 1, .rw, 0, 1, [0]⟩
def PIN_TMR_CTRL_prescale : Fld := ⟨0x06340, 8, 8, .rw, 0, 1, [0]⟩
def PIN_TMR_COUNT_count : Fld := ⟨0x06344, 0, 32, .ro, 0, 1, [0]⟩
def PIN_TCAP_cap : Fld := ⟨0x06360, 0, 32, .ro, 4, 8, [0]⟩
def PIN_TCFG_cap_edge : Fld := ⟨0x06380, 0, 2, .rw, 4, 8, [0]⟩
def PIN_TCFG_cmp_action : Fld := ⟨0x06380, 2, 2, .rw, 4, 8, [0]⟩
def PIN_TCMP_cmp : Fld := ⟨0x063A0, 0, 32, .rw, 4, 8, [0]⟩
def PIN_LED_mode_a : Fld := ⟨0x063C0, 0, 3, .rw, 0, 1, [0]⟩
def PIN_LED_mode_b : Fld := ⟨0x063C0, 4, 3, .rw, 0, 1, [0]⟩
def PIN_FAN_CFG_ppr0 : Fld := ⟨0x063C4, 0, 2, .rw, 0, 1, [0]⟩
def PIN_FAN_CFG_ppr1 : Fld := ⟨0x063C4, 2, 2, .rw, 0, 1, [0]⟩
def PIN_FAN_CFG_en0 : Fld := ⟨0x063C4, 4, 1, .rw, 0, 1, [0]⟩
def PIN_FAN_CFG_en1 : Fld := ⟨0x063C4, 5, 1, .rw, 0, 1, [0]⟩
def PIN_FAN_rpm : Fld := ⟨0x063C8, 0, 16, .ro, 4, 2, [0]⟩
def PIN_FAN_stalled : Fld := ⟨0x063C8, 16, 1, .ro, 4, 2, [0]⟩
def PIN_UIN_CFG_uin_edge : Fld := ⟨0x063D0, 0, 16, .rw, 0, 1, [0]⟩
def PIN_UIN_STATUS_uin : Fld := ⟨0x063D4, 0, 8, .w1c, 0, 1, [0]⟩
def PIN_CLKOUT_div : Fld := ⟨0x063D8, 0, 8, .rw, 0, 1, [0]⟩
def PIN_CLKOUT_en : Fld := ⟨0x063D8, 8, 1, .rw, 0, 1, [0]⟩
def PIN_UOUT_uout_mask : Fld := ⟨0x063E0, 0, 21, .rw, 4, 8, [0]⟩
def PIN_SMB_CFG_smb_addr : Fld := ⟨0x06400, 0, 7, .rw, 0, 1, [76]⟩
def PIN_SMB_CFG_en : Fld := ⟨0x06400, 8, 1, .rw, 0, 1, [0]⟩
def PIN_SMB_CFG_pec_en : Fld := ⟨0x06400, 9, 1, .rw, 0, 1, [0]⟩
def PIN_SMB_CFG_alert_mask : Fld := ⟨0x06400, 16, 8, .rw, 0, 1, [0]⟩
def PIN_SMB_CAUSE_cause : Fld := ⟨0x06404, 0, 7, .w1c, 0, 1, [0]⟩
def PIN_SMB_COUNT_transactions : Fld := ⟨0x06408, 0, 16, .rc, 0, 1, [0]⟩
def PIN_SMB_COUNT_pec_errors : Fld := ⟨0x06408, 16, 8, .rc, 0, 1, [0]⟩
def PIN_SMB_COUNT_timeouts : Fld := ⟨0x06408, 24, 8, .rc, 0, 1, [0]⟩
def PIN_SMB_REGPTR_offset : Fld := ⟨0x0640C, 0, 22, .ro, 0, 1, [0]⟩
def GLB_STATUS_EN_bad_write : Fld := ⟨0x0001C, 0, 1, .rw, 0, 1, [0]⟩
def GLB_STATUS_EN_bad_size : Fld := ⟨0x0001C, 1, 1, .rw, 0, 1, [0]⟩
def GLB_STATUS_EN_poison_read : Fld := ⟨0x0001C, 2, 1, .rw, 0, 1, [0]⟩
def GLB_STATUS_EN_ep_received : Fld := ⟨0x0001C, 3, 1, .rw, 0, 1, [0]⟩
def GLB_STATUS_EN_cpl_timeout : Fld := ⟨0x0001C, 4, 1, .rw, 0, 1, [0]⟩
def GLB_STATUS_EN_host_reset : Fld := ⟨0x0001C, 5, 1, .rw, 0, 1, [0]⟩
def STRM_CH_REQ_LO_lo : Fld := ⟨0x0E100, 0, 32, .rw, 64, 16, [0]⟩
def STRM_CH_REQ_HI_hi : Fld := ⟨0x0E104, 0, 32, .rw, 64, 16, [0]⟩
def STRM_CH_CPL_LO_lo : Fld := ⟨0x0E108, 0, 32, .rw, 64, 16, [0]⟩
def STRM_CH_CPL_HI_hi : Fld := ⟨0x0E10C, 0, 32, .rw, 64, 16, [0]⟩
def STRM_CH_WB_LO_lo : Fld := ⟨0x0E110, 0, 32, .rw, 64, 16, [0]⟩
def STRM_CH_WB_HI_hi : Fld := ⟨0x0E114, 0, 32, .rw, 64, 16, [0]⟩
def HASH_UPD_KEY_key : Fld := ⟨0x0A100, 0, 32, .rw, 4, 4, [0]⟩
def HASH_UPD_RES_LO_lo : Fld := ⟨0x0A110, 0, 32, .rw, 0, 1, [0]⟩
def HASH_UPD_RES_HI_hi : Fld := ⟨0x0A114, 0, 32, .rw, 0, 1, [0]⟩
def HASH_FAIL_KEY0_key : Fld := ⟨0x0A200, 0, 32, .ro, 32, 8, [0]⟩
def HASH_FAIL_KEY1_key : Fld := ⟨0x0A204, 0, 32, .ro, 32, 8, [0]⟩
def HASH_FAIL_KEY2_key : Fld := ⟨0x0A208, 0, 32, .ro, 32, 8, [0]⟩
def HASH_FAIL_KEY3_key : Fld := ⟨0x0A20C, 0, 32, .ro, 32, 8, [0]⟩
def HASH_FAIL_INFO_table : Fld := ⟨0x0A210, 0, 6, .ro, 32, 8, [0]⟩
def HASH_FAIL_INFO_type : Fld := ⟨0x0A210, 6, 2, .ro, 32, 8, [0]⟩
def HASH_FAIL_INFO_valid : Fld := ⟨0x0A210, 31, 1, .w1c, 32, 8, [0]⟩
def HASH_FAIL_PLY_ply : Fld := ⟨0x0A214, 0, 32, .ro, 32, 8, [0]⟩
def HASH_FAIL_NEXT_next : Fld := ⟨0x0A300, 0, 3, .ro, 0, 1, [0]⟩
def LPM_UPD_PFX_LO_lo : Fld := ⟨0x0C200, 0, 32, .rw, 0, 1, [0]⟩
def LPM_UPD_PFX_HI_hi : Fld := ⟨0x0C204, 0, 32, .rw, 0, 1, [0]⟩
def LPM_UPD_RES_res : Fld := ⟨0x0C208, 0, 32, .rw, 0, 1, [0]⟩
def LPM_UPD_INDEX_index : Fld := ⟨0x0C214, 0, 32, .ro, 0, 1, [0]⟩
def MSIX_TBL_ADDR_LO_addr_lo : Fld := ⟨0x20000, 0, 32, .rw, 16, 32, [0]⟩
def MSIX_TBL_ADDR_HI_addr_hi : Fld := ⟨0x20004, 0, 32, .rw, 16, 32, [0]⟩
def MSIX_TBL_DATA_data : Fld := ⟨0x20008, 0, 32, .rw, 16, 32, [0]⟩
def MSIX_TBL_CTRL_mask : Fld := ⟨0x2000C, 0, 1, .rw, 16, 32, [1]⟩
def MSIX_PBA_pending : Fld := ⟨0x21000, 0, 32, .ro, 0, 1, [0]⟩

def fields00_0 : List Fld := [GLB_ID_die_rev, GLB_ID_grade, GLB_ID_part, GLB_STATUS_bad_write, GLB_STATUS_bad_size, GLB_STATUS_poison_read, GLB_STATUS_ep_received, GLB_STATUS_cpl_timeout, GLB_STATUS_host_reset, GLB_STATUS_role, GLB_STATUS_fatal, GLB_STATUS_fw_ready, GLB_BAD_ADDR_bad_off, GLB_BAD_ADDR_bad_bar, GLB_BAD_ADDR_bad_valid, GLB_CLAIM_claimed, GLB_LINK_width, GLB_LINK_speed, GLB_LINK_link_up, GLB_LINK_in_l1, GLB_LINK_aspm_l1_en, GLB_LINK_lanes_reversed, GLB_LINK_CNT_link_down_count, GLB_LINK_CNT_retrain_count, GLB_IRQ_STATUS_blk_irq, GLB_ERR_CNT_poison_rd, GLB_ERR_CNT_ep_rx, GLB_CPL_CNT_cpl_timeouts, GLB_CPL_CNT_ur_sent, GLB_RESET_CNT_host_link_resets]
def fields00_1 : List Fld := [GLB_VEC_SRC_vector, GLB_VEC_SRC_holdoff_us, GLB_WIN_SEL_win_struct, GLB_WIN_SEL_win_en, GLB_WIN_BASE_win_base, GLB_STATUS_EN_bad_write, GLB_STATUS_EN_bad_size, GLB_STATUS_EN_poison_read, GLB_STATUS_EN_ep_received, GLB_STATUS_EN_cpl_timeout, GLB_STATUS_EN_host_reset]
/-- The fields of the registers of the GLB page. -/
def fields00 : List Fld := fields00_0 ++ fields00_1
def fields01_0 : List Fld := [PWR_STATE_state, PWR_STATE_fw_state, PWR_STATE_shdn_step, PWR_STATE_refuse_reason, PWR_CTRL_doze_req, PWR_CTRL_wake_req, PWR_CTRL_standby_req, PWR_CTRL_shutdown_req, PWR_CTRL_restart, PWR_CTRL_ctrl_key, PWR_VIN_vin_mv, PWR_VIN_iin_ma, PWR_PIN_pin_cw, PWR_PIN_pin_max_cw, PWR_VIN_MM_vin_min_mv, PWR_VIN_MM_vin_max_dv, PWR_VIN_MM_mm_clear, PWR_SLOT_I_vcc_a_ma, PWR_SLOT_I_vcc_b_ma, PWR_SLOTQ_I_vccq_a_ma, PWR_SLOTQ_I_vccq_b_ma, PWR_VIN_WARN_vin_warn_mv, PWR_VIN_WARN_vin_warn_en, PWR_RAIL_STATUS_rail_pg, PWR_EVENT_vin_warn, PWR_EVENT_EN_vin_warn, PWR_EVENT_vin_high, PWR_EVENT_EN_vin_high, PWR_EVENT_slot_fault_a, PWR_EVENT_EN_slot_fault_a]
def fields01_1 : List Fld := [PWR_EVENT_slot_fault_b, PWR_EVENT_EN_slot_fault_b, PWR_EVENT_req_refused, PWR_EVENT_EN_req_refused, PWR_EVENT_doze_exit, PWR_EVENT_EN_doze_exit, PWR_EVENT_rail_fault, PWR_EVENT_EN_rail_fault, PWR_LAST_CAUSE_cause, PWR_LAST_CAUSE_step_reached, PWR_LAST_CAUSE_journal_ok, PWR_LAST_CAUSE_save_action, PWR_LAST_CAUSE_also_seen, PWR_SHDN_TIME_shdn_us, PWR_START_TIME_start_us, PWR_START_TIME_fill_us, PWR_WAKE_CFG_wake_en, PWR_WAKE_CFG_wake_n_assert, PWR_STBY_TIMER_timer_s, PWR_WAKE_CAUSE_wake_src]
/-- The fields of the registers of the PWR page. -/
def fields01 : List Fld := fields01_0 ++ fields01_1
def fields02_0 : List Fld := [THM_STATUS_t_est, THM_STATUS_level, THM_STATUS_state, THM_STATUS_sensor_fault, THM_STATUS_throttle_active, THM_STATUS_est_valid, THM_EVENT_warn, THM_EVENT_EN_warn, THM_EVENT_enforce, THM_EVENT_EN_enforce, THM_EVENT_critical, THM_EVENT_EN_critical, THM_EVENT_release, THM_EVENT_EN_release, THM_EVENT_level_change, THM_EVENT_EN_level_change, THM_EVENT_sensor_fault, THM_EVENT_EN_sensor_fault, THM_EVENT_sensor_ok, THM_EVENT_EN_sensor_ok, THM_NTC_t_ntc, THM_NTC_ntc_raw, THM_PDIE_p_die_cw, THM_PDIE_sustain_cw, THM_LIMITS_warn_c, THM_LIMITS_crit_c, THM_LIMITS_hyst_c, THM_LIMITS_step_c, THM_LIMITS_hold_ms, THM_GRACE_grace_ms]
def fields02_1 : List Fld := [THM_GRACE_grace_left_ms, THM_FAULT_fault_src, THM_FAULT_fault_count, THM_MAX_t_est_max, THM_MAX_mm_clear, THM_WARN_COUNT_warn_count, THM_ENF_COUNT_enforce_ms, THM_LEVEL_adm_cap, THM_LEVEL_strm_cap, THM_LEVEL_media_pct, THM_MODEL_CTRL_k_eff, THM_MODEL_CTRL_p_other_cw, THM_NTC_CAL_ntc_r25, THM_NTC_CAL_ntc_beta, THM_POLE_R_r, THM_POLE_A_alpha, THM_POLE_DT_dt]
/-- The fields of the registers of the THM page. -/
def fields02 : List Fld := fields02_0 ++ fields02_1
def fields03_0 : List Fld := [CLK_ISL_STATUS_hli_run, CLK_ISL_STATUS_sic_lock, CLK_ISL_STATUS_sic_src, CLK_ISL_STATUS_chn_lock, CLK_ISL_STATUS_mda_run, CLK_ISL_STATUS_mdb_run, CLK_ISL_STATUS_mpu_lock, CLK_ISL_STATUS_mon_run, CLK_ISL_STATUS_aon_run, CLK_ISL_STATUS_tck_seen, CLK_EVENT_late, CLK_EVENT_EN_late, CLK_EVENT_canary_floor, CLK_EVENT_EN_canary_floor, CLK_EVENT_margin_exhausted, CLK_EVENT_EN_margin_exhausted, CLK_EVENT_canary_miss, CLK_EVENT_EN_canary_miss, CLK_EVENT_fifo_stall, CLK_EVENT_EN_fifo_stall, CLK_EVENT_fifo_parity, CLK_EVENT_EN_fifo_parity, CLK_EVENT_island_lost, CLK_EVENT_EN_island_lost, CLK_PLY_LO_ply_lo, CLK_PLY_HI_ply_hi, CLK_CANARY_slack_last, CLK_CANARY_MM_slack_min, CLK_CANARY_MM_slack_max, CLK_CANARY_MM_mm_clear]
def fields03_1 : List Fld := [CLK_MARGIN_CTRL_canary_target, CLK_MARGIN_CTRL_canary_hyst, CLK_MARGIN_CTRL_canary_floor, CLK_MARGIN_CTRL_canary_cal, CLK_MARGIN_LIMIT_margin_code_min, CLK_MARGIN_LIMIT_margin_code_start, CLK_MARGIN_STATUS_margin_code, CLK_MARGIN_STATUS_rail_mv, CLK_MARGIN_STATUS_margin_exhausted, CLK_MARGIN_STEPS_steps_up, CLK_MARGIN_STEPS_steps_down, CLK_FLOOR_COUNT_floor_count, CLK_LATE_COUNT_late_count, CLK_LATE_PLY_late_ply, CLK_LATE_INFO_late_src, CLK_LATE_INFO_late_profile, CLK_LATE_INFO_late_discard, CLK_ADMIT_PTR_admit_ptr, CLK_ADMIT_Q_admit_q, CLK_ADMIT_W_admit_w, CLK_ADMIT_S_admit_s, CLK_ADMIT_CAPPED_admit_capped, CLK_FIFO_STATUS_occupancy, CLK_FIFO_STATUS_high_water, CLK_FIFO_STATUS_depth, CLK_FIFO_STATUS_stall, CLK_FIFO_STATUS_parity_errs, CLK_FIFO_HW_CLR_hw_clr]
/-- The fields of the registers of the CLK page. -/
def fields03 : List Fld := fields03_0 ++ fields03_1
def fields04_0 : List Fld := [OTP_STATUS_id_a_state, OTP_STATUS_id_b_state, OTP_STATUS_trim_state, OTP_STATUS_sec_state, OTP_STATUS_id_bad, OTP_STATUS_trim_bad, OTP_STATUS_sec_bad, OTP_STATUS_debug_lock, OTP_GEN_gen_in_force, OTP_GEN_gen_valid, OTP_GEN_spent, OTP_GEN_next_pos, OTP_SV_fw_min_sv, OTP_SV_sv_array, OTP_EVENT_region_bad, OTP_EVENT_prog_done, OTP_EVENT_prog_fail, OTP_EVENT_exhausted, OTP_EVENT_EN_event_en, OTP_PROG_COUNT_words, OTP_PROG_COUNT_retries, OTP_PROG_ADDR_word, OTP_PROG_DATA_data, OTP_PROG_CMD_go, OTP_PROG_STATUS_busy, OTP_PROG_STATUS_outcome]
/-- The fields of the registers of the OTP page. -/
def fields04 : List Fld := fields04_0
def fields05_0 : List Fld := [MBX_MB_STATUS_posted, MBX_MB_STATUS_done, MBX_MB_INFO_cur_opcode, MBX_MB_INFO_mb_state, MBX_MB_INFO_ring_faults, MBX_EVT_STATUS_evt_written, MBX_EVT_STATUS_evt_consumed, MBX_EVT_LOST_evt_lost, MBX_CFG_evt_irq, MBX_CFG_reg_events, MBX_CFG_mbx_event_en, MBX_EVENT_ring_fault, MBX_EVENT_evt_ring_fault, MBX_EVENT_evt_lost, MBX_EVENT_void_issued, MBX_EVENT_abort_issued, MBX_EVENT_doorbell_refused, MBX_EVENT_expert_conflict, MBX_CONFLICT_last_block, MBX_CONFLICT_conflict_count, MBX_END_COUNT_timeouts, MBX_END_COUNT_aborted, MBX_VOID_COUNT_voided]
/-- The fields of the registers of the MBX page. -/
def fields05 : List Fld := fields05_0
def fields06_0 : List Fld := [PIN_STATUS_conflict_any, PIN_STATUS_smb_active, PIN_STATUS_i2c_busy, PIN_EVENT_pad_irq, PIN_EVENT_conflict, PIN_EVENT_u1_rx, PIN_EVENT_u2_rx, PIN_EVENT_uart_err, PIN_EVENT_i2c_done, PIN_EVENT_tcap, PIN_EVENT_tcmp, PIN_EVENT_fan_stall, PIN_EVENT_uin, PIN_EVENT_smb_timeout, PIN_EVENT_pwm_kill, PIN_EVENT_EN_event_en, PIN_IN_pad_in, PIN_FILT_pad_filt, PIN_OUT_out, PIN_SET_set, PIN_CLR_clr, PIN_TGL_tgl, PIN_IRQ_STATUS_irq, PIN_CONFLICT_LO_conflict, PIN_CONFLICT_HI_conflict, PIN_FIXED_fixed, PIN_IRQ_CFG_LO_irq, PIN_IRQ_CFG_HI_irq, PIN_WAKE_pad, PIN_WAKE_level]
def fields06_1 : List Fld := [PIN_WAKE_pull, PIN_WAKE_en, PIN_PAD_CFG_sig, PIN_PAD_CFG_mode, PIN_PAD_CFG_od, PIN_PAD_CFG_inv, PIN_PAD_CFG_pull, PIN_PAD_CFG_strong, PIN_PAD_CFG_glitch, PIN_PAD_CFG_debounce_ms, PIN_Uu_CFG_en, PIN_Uu_CFG_bits7, PIN_Uu_CFG_parity, PIN_Uu_CFG_stop2, PIN_Uu_CFG_flow, PIN_Uu_CFG_de_en, PIN_Uu_CFG_de_tail, PIN_Uu_DIV_div_int, PIN_Uu_DIV_div_frac, PIN_Uu_STATUS_tx_level, PIN_Uu_STATUS_rx_level, PIN_Uu_STATUS_tx_busy, PIN_Uu_STATUS_break_seen, PIN_Uu_ERR_framing, PIN_Uu_ERR_parity, PIN_Uu_ERR_overrun, PIN_Uu_ERR_tx_drop, PIN_Uu_TX_tx, PIN_Uu_RX_rx, PIN_Uu_RX_rx_valid]
def fields06_2 : List Fld := [PIN_I2C_CFG_en, PIN_I2C_CFG_fast, PIN_I2C_CFG_stretch_ms, PIN_I2C_XFER_addr, PIN_I2C_XFER_wr_len, PIN_I2C_XFER_rd_len, PIN_I2C_XFER_go, PIN_I2C_BUF_LO_buf, PIN_I2C_BUF_HI_buf, PIN_I2C_STATUS_busy, PIN_I2C_STATUS_outcome, PIN_I2C_STATUS_count, PIN_PWM_PER_period_m1, PIN_PWM_PER_en, PIN_PWM_PER_pol, PIN_PWM_PER_kill_en, PIN_PWM_DUTY_duty, PIN_TMR_CTRL_en, PIN_TMR_CTRL_clk_sel, PIN_TMR_CTRL_prescale, PIN_TMR_COUNT_count, PIN_TCAP_cap, PIN_TCFG_cap_edge, PIN_TCFG_cmp_action, PIN_TCMP_cmp, PIN_LED_mode_a, PIN_LED_mode_b, PIN_FAN_CFG_ppr0, PIN_FAN_CFG_ppr1, PIN_FAN_CFG_en0]
def fields06_3 : List Fld := [PIN_FAN_CFG_en1, PIN_FAN_rpm, PIN_FAN_stalled, PIN_UIN_CFG_uin_edge, PIN_UIN_STATUS_uin, PIN_CLKOUT_div, PIN_CLKOUT_en, PIN_UOUT_uout_mask, PIN_SMB_CFG_smb_addr, PIN_SMB_CFG_en, PIN_SMB_CFG_pec_en, PIN_SMB_CFG_alert_mask, PIN_SMB_CAUSE_cause, PIN_SMB_COUNT_transactions, PIN_SMB_COUNT_pec_errors, PIN_SMB_COUNT_timeouts, PIN_SMB_REGPTR_offset]
/-- The fields of the registers of the PIN page. -/
def fields06 : List Fld := fields06_0 ++ fields06_1 ++ fields06_2 ++ fields06_3
def fields07_0 : List Fld := [CHN_STATUS_role, CHN_STATUS_address, CHN_STATUS_members, CHN_STATUS_state, CHN_EVENT_enum_done, CHN_EVENT_broken, CHN_EVENT_link_down, CHN_EVENT_member_lost, CHN_EVENT_role_change, CHN_EVENT_void_issued, CHN_EVENT_frame_error, CHN_EVENT_groups_commit, CHN_EVENT_EN_event_en, CHN_GROUP_MAP_group_map, CHN_ALIVE_alive, CHN_FAULT_fault, CHN_CHAIN_PLY_chain_ply, CHN_LINK_IN_locked, CHN_LINK_IN_in_ok, CHN_LINK_IN_in_errors, CHN_LINK_OUT_driving, CHN_LINK_OUT_back_ok, CHN_LINK_OUT_back_phase, CHN_LINK_OUT_out_errors, CHN_GROUP_k, CHN_GROUP_group_level, CHN_GSEARCH_gsearches, CHN_FLOOD_floods, CHN_VOID_COUNT_voids, CHN_VOID_COUNT_late_own]
def fields07_1 : List Fld := [CHN_ADM_WAIT_wait_plies, CHN_RFETCH_rf_sent, CHN_RFETCH_rf_served, CHN_PKT_pkt_in, CHN_PKT_pkt_out, CHN_CTRL_enumerate, CHN_CTRL_groups, CHN_MAP_STAGE_map_stage]
/-- The fields of the registers of the CHN page. -/
def fields07 : List Fld := fields07_0 ++ fields07_1
def fields08_0 : List Fld := [SRCH_STATUS_q_open, SRCH_STATUS_q_stopped, SRCH_EVENT_req_ring_fault, SRCH_EVENT_res_ring_fault, SRCH_EVENT_bad_desc, SRCH_EVENT_guard_not_ready, SRCH_EVENT_poison_result, SRCH_EVENT_orphan_result, SRCH_EVENT_profile_commit, SRCH_EVENT_EN_event_en, SRCH_WIN_CFG_lane_en, SRCH_WIN_CFG_win_pending, SRCH_WIN_PMASK_win_pmask, SRCH_PTRS_q_ptr, SRCH_PTRS_s_ptr, SRCH_HIT_COUNT_hits, SRCH_MISS_COUNT_misses, SRCH_DENY_COUNT_denied, SRCH_BAD_COUNT_bad_count, SRCH_BAD_COUNT_last_bad_profile, SRCH_BAD_COUNT_last_bad_src, SRCH_BAD_COUNT_last_bad_reason, SRCH_FLAG_COUNT_pe_count, SRCH_FLAG_COUNT_corr_count, SRCH_PROF_VALID_valid, SRCH_PROF_LOAD_prof_id, SRCH_PROF_LOAD_load, SRCH_PROF_LOAD_delete, SRCH_PROF_PLY_commit_ply, SRCH_PROF_STAGE_stage]
def fields08_1 : List Fld := [SRCH_PROF_definition, SRCH_Q_REQ_LO_req_base_lo, SRCH_Q_REQ_HI_req_base_hi, SRCH_Q_RES_LO_res_base_lo, SRCH_Q_RES_HI_res_base_hi, SRCH_Q_WB_LO_wb_lo, SRCH_Q_WB_HI_wb_hi, SRCH_Q_CFG_req_k, SRCH_Q_CFG_res_k, SRCH_Q_CFG_req_128, SRCH_Q_CFG_res_full, SRCH_Q_CFG_wb_en, SRCH_Q_CFG_q_en, SRCH_Q_PMASK_pmask, SRCH_Q_REQ_CNT_req_accepted, SRCH_Q_REQ_CNT_req_admitted, SRCH_Q_RES_CNT_res_written, SRCH_Q_RES_CNT_res_consumed, SRCH_Q_STATUS_req_fault, SRCH_Q_STATUS_res_fault, SRCH_Q_STATUS_res_full_wait, SRCH_Q_STATUS_staged, SRCH_Q_SEARCHES_searches]
/-- The fields of the registers of the SRCH page. -/
def fields08 : List Fld := fields08_0 ++ fields08_1
def fields09_0 : List Fld := [TCAM_STATUS_blocks_powered, TCAM_STATUS_blocks_owned, TCAM_STATUS_castle_pending, TCAM_STATUS_upd_busy, TCAM_EVENT_parity_excl, TCAM_EVENT_result_corrected, TCAM_EVENT_result_poison, TCAM_EVENT_castle_done, TCAM_EVENT_table_orphaned, TCAM_EVENT_upd_refused, TCAM_EVENT_EN_event_en, TCAM_LOOKUPS_lookups, TCAM_HITS_hits, TCAM_PE_SEARCHES_pe_lookups, TCAM_RES_COUNT_res_corrected, TCAM_RES_COUNT_res_poison, TCAM_PE_LOG_pe_slot, TCAM_PE_LOG_pe_table, TCAM_PE_LOG_pe_valid, TCAM_CASTLE_table_a, TCAM_CASTLE_table_b, TCAM_CASTLE_go, TCAM_CASTLE_AT_LO_at_lo, TCAM_CASTLE_AT_HI_at_hi, TCAM_CASTLE_PLY_castle_ply, TCAM_CASTLE_COUNT_castlings, TCAM_UPD_VAL_val, TCAM_UPD_MASK_mask, TCAM_UPD_PRIO_prio, TCAM_UPD_RES_LO_res_lo]
def fields09_1 : List Fld := [TCAM_UPD_RES_HI_res_hi, TCAM_UPD_CMD_slot, TCAM_UPD_CMD_op, TCAM_UPD_CMD_go, TCAM_UPD_STATUS_busy, TCAM_UPD_STATUS_outcome, TCAM_UPD_PLY_upd_ply, TCAM_BLK_CTRL_owner, TCAM_BLK_CTRL_owned, TCAM_BLK_CTRL_pwr_state, TCAM_BLK_CTRL_gate_req, TCAM_BLK_CTRL_ungate_req, TCAM_BLK_CTRL_guard_block, TCAM_BLK_CTRL_valid_slots, TCAM_TBL_CFG_defined, TCAM_TBL_CFG_engine, TCAM_TBL_CFG_width_code, TCAM_TBL_CFG_hidden, TCAM_TBL_CFG_orphaned, TCAM_TBL_CFG_slot_bind, TCAM_TBL_CFG_castle_pending, TCAM_TBL_ENT_entries, TCAM_TBL_ENT_blocks, TCAM_TBL_HITS_tbl_hits, TCAM_TBL_PLY_tbl_ply]
/-- The fields of the registers of the TCAM page. -/
def fields09 : List Fld := fields09_0 ++ fields09_1
def fields0A_0 : List Fld := [HASH_USED_ways_used, HASH_OVF_ovf_used, HASH_OVF_sweep_busy, HASH_EVENT_insert_fail, HASH_EVENT_learn_drop, HASH_EVENT_parity_excl, HASH_EVENT_result_corrected, HASH_EVENT_result_poison, HASH_EVENT_ovf_high, HASH_EVENT_ager_overrun, HASH_EVENT_sweep_done, HASH_EVENT_EN_event_en, HASH_SEED_hash_seed, HASH_LEARN_CTRL_learn_en, HASH_LEARN_CTRL_owner_learn_en, HASH_LEARN_CTRL_ager_en, HASH_LEARN_CTRL_ovf_thresh, HASH_AGE_CFG_age_period_ms, HASH_AGE_CFG_age_limit, HASH_LOOKUPS_lookups, HASH_HITS_hits, HASH_OVF_HITS_ovf_hits, HASH_PE_LOOKUPS_pe_lookups, HASH_RES_COUNT_res_corrected, HASH_RES_COUNT_res_poison, HASH_PE_LOG_pe_index, HASH_PE_LOG_pe_valid, HASH_LEARN_INS_inserts, HASH_LEARN_PRESENT_present, HASH_LEARN_FAIL_learn_fail]
def fields0A_1 : List Fld := [HASH_LEARN_DROP_drop_delete, HASH_LEARN_DROP_drop_queue, HASH_WALKS_walks, HASH_WALKS_in_flight, HASH_WALK_NF_walk_not_found, HASH_AGE_RETIRED_retired, HASH_AGE_PASS_passes, HASH_HITMAP_IDX_hm_word, HASH_HITMAP_DATA_hm_data, HASH_UPD_CMD_table, HASH_UPD_CMD_type, HASH_UPD_CMD_learned, HASH_UPD_CMD_op, HASH_UPD_CMD_go, HASH_UPD_STATUS_busy, HASH_UPD_STATUS_outcome, HASH_UPD_STATUS_index, HASH_TBL_CFG_defined, HASH_TBL_CFG_types, HASH_TBL_CFG_learn, HASH_TBL_CFG_slot_bind, HASH_TBL_CFG_hidden, HASH_TBL_CFG_orphaned, HASH_TBL_CFG_epoch, HASH_TBL_CFG_sweep, HASH_TBL_QUOTA_quota, HASH_TBL_ENT_entries, HASH_TBL_LRN_learned, HASH_UPD_KEY_key, HASH_UPD_RES_LO_lo]
def fields0A_2 : List Fld := [HASH_UPD_RES_HI_hi, HASH_FAIL_KEY0_key, HASH_FAIL_KEY1_key, HASH_FAIL_KEY2_key, HASH_FAIL_KEY3_key, HASH_FAIL_INFO_table, HASH_FAIL_INFO_type, HASH_FAIL_INFO_valid, HASH_FAIL_PLY_ply, HASH_FAIL_NEXT_next]
/-- The fields of the registers of the HASH page. -/
def fields0A : List Fld := fields0A_0 ++ fields0A_1 ++ fields0A_2
def fields0B_0 : List Fld := [DIX_CFG_dix_limit, DIX_LOOKUPS_lookups, DIX_HITS_hits, DIX_RES_COUNT_corrected, DIX_RES_COUNT_poison, DIX_EVENT_corrected, DIX_EVENT_poison, DIX_EVENT_EN_event_en, DIX_UPD_LO_word_lo, DIX_UPD_HI_word_hi, DIX_UPD_CMD_handle, DIX_UPD_CMD_go, DIX_UPD_STATUS_busy]
/-- The fields of the registers of the DIX page. -/
def fields0B : List Fld := fields0B_0
def fields0C_0 : List Fld := [LPM_STATUS_ovl_armed, LPM_STATUS_sweep_busy, LPM_STATUS_tables, LPM_STATUS_rebuild, LPM_EVENT_corrected, LPM_EVENT_poison, LPM_EVENT_no_room, LPM_EVENT_sweep_done, LPM_EVENT_upd_refused, LPM_EVENT_EN_event_en, LPM_LOOKUPS_lookups, LPM_HITS_hits, LPM_RES_COUNT_corrected, LPM_RES_COUNT_poison, LPM_NODES_nodes_used, LPM_RECS_recs_used, LPM_OVL_PFX_LO_pfx_lo, LPM_OVL_PFX_HI_pfx_hi, LPM_OVL_RES_ovl_res, LPM_OVL_CTRL_ovl_len, LPM_OVL_CTRL_ovl_op, LPM_OVL_CTRL_ovl_root, LPM_OVL_CTRL_q_len, LPM_OVL_CTRL_q_hit, LPM_OVL_CTRL_armed, LPM_OVL_QRES_q_res, LPM_OVL_PLY_ovl_ply, LPM_ROOT_CFG_table, LPM_ROOT_CFG_defined, LPM_ROOT_CFG_slot_bind]
def fields0C_1 : List Fld := [LPM_ROOT_CFG_hidden, LPM_ROOT_CFG_orphaned, LPM_ROOT_CFG_sweep, LPM_ROOT_CFG_dflt_valid, LPM_ROOT_DFLT_dflt_result, LPM_ROOT_QUOTA_quota, LPM_ROOT_COUNT_prefixes, LPM_UPD_CMD_table, LPM_UPD_CMD_length, LPM_UPD_CMD_op, LPM_UPD_CMD_go, LPM_UPD_STATUS_busy, LPM_UPD_STATUS_outcome, LPM_UPD_PFX_LO_lo, LPM_UPD_PFX_HI_hi, LPM_UPD_RES_res, LPM_UPD_INDEX_index]
/-- The fields of the registers of the LPM page. -/
def fields0C : List Fld := fields0C_0 ++ fields0C_1
def fields0D_0 : List Fld := [INTEG_STATUS_steep_run, INTEG_STATUS_steep_paused, INTEG_STATUS_scrub_busy, INTEG_STATUS_audit_busy, INTEG_STATUS_seen_full, INTEG_STATUS_seen_count, INTEG_EVENT_corrected, INTEG_EVENT_uncorrectable, INTEG_EVENT_bite, INTEG_EVENT_log_lost, INTEG_EVENT_steep_lap, INTEG_EVENT_scrub_done, INTEG_EVENT_audit_done, INTEG_EVENT_audit_mismatch, INTEG_EVENT_flip_fired, INTEG_EVENT_EN_event_en, INTEG_CORR_COUNT_corr_count, INTEG_UNCORR_COUNT_uncorr_count, INTEG_REPEAT_COUNT_repeat_count, INTEG_POISON_COUNT_poison_bites, INTEG_POISON_COUNT_poison_stored, INTEG_STEEP_CTRL_steep_en, INTEG_STEEP_CTRL_steep_repair_en, INTEG_STEEP_CTRL_steep_pace, INTEG_STEEP_POS_pos_sid, INTEG_STEEP_POS_pos_word, INTEG_LAP_LAST_lap_last, INTEG_LAP_MIN_lap_min, INTEG_LAP_MAX_lap_max, INTEG_LAPS_laps]
def fields0D_1 : List Fld := [INTEG_LAPS_mm_clear, INTEG_LAP_FOUND_lap_corr, INTEG_LAP_FOUND_lap_uncorr, INTEG_STEEP_REPAIRED_steep_repaired, INTEG_SCRUB_CTRL_scrub_sid, INTEG_SCRUB_CTRL_scrub_repair, INTEG_SCRUB_CTRL_go, INTEG_SCRUB_START_start, INTEG_SCRUB_LEN_length, INTEG_SCRUB_CHECKED_checked, INTEG_SCRUB_CORR_s_corr, INTEG_SCRUB_UNCORR_s_uncorr, INTEG_SCRUB_FIRST_first, INTEG_SCRUB_REPAIRED_s_repaired, INTEG_AUD_SHADOW_LO_shadow, INTEG_AUD_SHADOW_HI_shadow, INTEG_AUD_SHADOW_LEN_shadow_len, INTEG_AUD_RES_LO_res, INTEG_AUD_RES_HI_res, INTEG_AUD_RES_LEN_res_len, INTEG_AUD_CTRL_table, INTEG_AUD_CTRL_ignore_learned, INTEG_AUD_CTRL_go, INTEG_AUD_STATUS_outcome, INTEG_AUD_STATUS_table_changed, INTEG_AUD_COMPARED_compared, INTEG_AUD_MISMATCH_mismatches, INTEG_AUD_FIRST_first_mismatch, INTEG_RAW_raw_en, INTEG_RAW_raw_sid]
def fields0D_2 : List Fld := [INTEG_RAW_CHECK_raw_check, INTEG_RAW_RDCHK_rdchk, INTEG_FLIP_SEL_flip_sid, INTEG_FLIP_SEL_flip_copy, INTEG_FLIP_SEL_flip_word, INTEG_FLIP_SEL_flip_armed, INTEG_FLIP_DATA_LO_flip_data, INTEG_FLIP_DATA_HI_flip_data, INTEG_FLIP_CHK_flip_chk, INTEG_FLIP_LAST_flip_offset, INTEG_LOG_STATUS_written, INTEG_LOG_STATUS_consumed, INTEG_LOG_CONS_cons, INTEG_LOG_LOST_log_lost, INTEG_SEEN_CLR_seen_clr, INTEG_SID_COUNT_sid_corr, INTEG_SID_COUNT_sid_uncorr, INTEG_LOG_record]
/-- The fields of the registers of the INTEG page. -/
def fields0D : List Fld := fields0D_0 ++ fields0D_1 ++ fields0D_2
def fields0E_0 : List Fld := [STRM_STATUS_open, STRM_STATUS_halted, STRM_EVENT_req_ring_fault, STRM_EVENT_cpl_ring_fault, STRM_EVENT_poison_halt, STRM_EVENT_gone_halt, STRM_EVENT_fetch_timeout, STRM_EVENT_EN_event_en, STRM_FETCHES_fetches, STRM_SECTORS_sectors, STRM_KEEP_SEL_channel, STRM_KEEP_SEL_word, STRM_KEEP_LO_kept, STRM_KEEP_HI_kept, STRM_CH_CFG_req_k, STRM_CH_CFG_cpl_k, STRM_CH_CFG_profile, STRM_CH_CFG_wb_en, STRM_CH_CFG_deg_rate, STRM_CH_CFG_en, STRM_CH_TMO_fetch_ms, STRM_CH_REQ_CNT_accepted, STRM_CH_REQ_CNT_taken, STRM_CH_CPL_CNT_written, STRM_CH_CPL_CNT_consumed, STRM_CH_STATUS_state, STRM_CH_STATUS_halt_reason, STRM_CH_STATUS_in_flight, STRM_CH_STATUS_resume, STRM_CH_FETCHES_fetches]
def fields0E_1 : List Fld := [STRM_CH_REQ_LO_lo, STRM_CH_REQ_HI_hi, STRM_CH_CPL_LO_lo, STRM_CH_CPL_HI_hi, STRM_CH_WB_LO_lo, STRM_CH_WB_HI_hi]
/-- The fields of the registers of the STRM page. -/
def fields0E : List Fld := fields0E_0 ++ fields0E_1
def fields0F_0 : List Fld := [SLOT_STATUS_state, SLOT_STATUS_present, SLOT_STATUS_vcc_on, SLOT_STATUS_vccq_on, SLOT_STATUS_vccq_1v2, SLOT_STATUS_iface, SLOT_STATUS_rate_mts, SLOT_STATUS_dies, SLOT_STATUS_mount_fail, SLOT_EVENT_inserted, SLOT_EVENT_removed, SLOT_EVENT_mount_done, SLOT_EVENT_mount_fail, SLOT_EVENT_ecc_high, SLOT_EVENT_uncorrectable, SLOT_EVENT_save_commit, SLOT_EVENT_eject_done, SLOT_EVENT_EN_event_en, SLOT_CFG_det_debounce_ms, SLOT_CFG_eject_ms, SLOT_CFG_ecc_warn, SLOT_CTRL_power_on, SLOT_CTRL_power_off, SLOT_CTRL_vccq_sel, SLOT_CTRL_eject, SLOT_CTRL_port_reset, SLOT_CART_LO_cart_id, SLOT_CART_HI_cart_id, SLOT_READS_reads, SLOT_ECC_corr_cw]
def fields0F_1 : List Fld := [SLOT_ECC_max_bits, SLOT_ECC_mm_clear, SLOT_UNCORR_uncorrectable, SLOT_UNCORR_meta_fail, SLOT_PE_program_fail, SLOT_PE_erase_fail, SLOT_FAIL_LOG_row, SLOT_FAIL_LOG_die, SLOT_FAIL_LOG_cw, SLOT_OP_CMD_op, SLOT_OP_CMD_die, SLOT_OP_CMD_go, SLOT_OP_ROW_row, SLOT_OP_PTR_ptr, SLOT_OP_DATA_data, SLOT_OP_STATUS_busy, SLOT_OP_STATUS_die_status, SLOT_OP_STATUS_outcome]
/-- The fields of the registers of the SLOT page. -/
def fields0F : List Fld := fields0F_0 ++ fields0F_1
def fields10_0 : List Fld := [SEC_STATUS_guard_running, SEC_STATUS_rules_loaded, SEC_STATUS_guard_ready, SEC_STATUS_live_half, SEC_STATUS_debug_lock, SEC_STATUS_load_open, SEC_STATUS_castle_wait, SEC_STATUS_key_gen, SEC_STATUS_module_gen, SEC_STATUS_console_class, SEC_EVENT_rules_loaded, SEC_EVENT_rules_rejected, SEC_EVENT_auth_ok, SEC_EVENT_auth_fail, SEC_EVENT_reauth_fail, SEC_EVENT_guard_reset, SEC_EVENT_reauth_due, SEC_EVENT_fw_verify_fail, SEC_EVENT_EN_event_en, SEC_RULES_rule_serial, SEC_RULE_INFO_rule_count, SEC_RULE_INFO_last_reject, SEC_RULE_PLY_rule_ply, SEC_CFG_reauth_s, SEC_DERIVE_derivations, SEC_DERIVE_cache_hits, SEC_AUTH_COUNT_auths, SEC_AUTH_COUNT_auth_fails, SEC_CTX_ctx_valid, SEC_CTX_fail_reason]
def fields10_1 : List Fld := [SEC_CTX_tag_state, SEC_CTX_region, SEC_CTX_TITLE_title_id, SEC_CTX_AGE_age_s, SEC_CTX_PLY_auth_ply, SEC_KEY_META_valid, SEC_KEY_META_class, SEC_KEY_META_slot, SEC_KEY_META_area, SEC_KEY_META_extent_id, SEC_KEY_KCC_kcc]
/-- The fields of the registers of the SEC page. -/
def fields10 : List Fld := fields10_0 ++ fields10_1
def fields11_0 : List Fld := [TAG_STATUS_enabled, TAG_STATUS_busy, TAG_STATUS_present, TAG_STATUS_last_status, TAG_STATUS_last_cmd, TAG_EVENT_crc_error, TAG_EVENT_timeout, TAG_EVENT_no_tag, TAG_EVENT_EN_event_en, TAG_FRAMES_frames, TAG_FRAMES_crc_errors, TAG_POLLS_busy_polls, TAG_POLLS_timeouts, TAG_SERIAL_LO_serial_lo, TAG_SERIAL_HI_serial_hi, TAG_INFO_media, TAG_INFO_flags, TAG_INFO_version, TAG_INFO_records]
/-- The fields of the registers of the TAG page. -/
def fields11 : List Fld := fields11_0
def fields12_0 : List Fld := [CORE_STATUS_ctl_state, CORE_STATUS_grd_state, CORE_STATUS_fatal, CORE_STATUS_fw_source, CORE_STATUS_active_slot, CORE_STATUS_fallback, CORE_STATUS_boot_src, CORE_EVENT_ctl_fault, CORE_EVENT_grd_fault, CORE_EVENT_ctl_wdog, CORE_EVENT_grd_wdog, CORE_EVENT_dump_written, CORE_EVENT_fatal, CORE_EVENT_boot_failed, CORE_EVENT_fw_stored, CORE_EVENT_EN_event_en, CORE_WDOG_ctl_wdog_ms, CORE_WDOG_grd_wdog_ms, CORE_RESTARTS_ctl_restarts, CORE_RESTARTS_grd_restarts, CORE_DUMP_dump_valid, CORE_DUMP_host_copy, CORE_DUMP_dump_seq_lo, CORE_DUMP_HOST_LO_dump_addr, CORE_DUMP_HOST_HI_dump_addr, CORE_DUMP_HOST_LEN_dump_len, CORE_BOOT_SERVED_served, CORE_FAULT_CTL_fault, CORE_FAULT_GRD_fault]
/-- The fields of the registers of the CORE page. -/
def fields12 : List Fld := fields12_0
def fields13_0 : List Fld := [CADDY_STATUS_jrnl_en, CADDY_STATUS_ckpt_run, CADDY_STATUS_jrnl_full, CADDY_STATUS_warm_run, CADDY_EVENT_ckpt_done, CADDY_EVENT_jrnl_full, CADDY_EVENT_warm_done, CADDY_EVENT_caddy_poison, CADDY_EVENT_EN_event_en, CADDY_JRNL_CFG_commit_ms, CADDY_JRNL_MASK_LO_mask, CADDY_JRNL_MASK_HI_mask, CADDY_JRNL_SEQ_next_seq, CADDY_JRNL_COMMIT_commit_seq, CADDY_JRNL_USED_used, CADDY_JRNL_PENDING_pending, CADDY_WRITES_lines_written, CADDY_READS_lines_read]
/-- The fields of the registers of the CADDY page. -/
def fields13 : List Fld := fields13_0
def fields14_0 : List Fld := [DBG_STATUS_debug_lock, DBG_STATUS_tap_active, DBG_HALT_ctl_halt, DBG_HALT_grd_halt, DBG_CTL_PC_ctl_pc, DBG_GRD_PC_grd_pc]
/-- The fields of the registers of the DBG page. -/
def fields14 : List Fld := fields14_0
def fields20_0 : List Fld := [MSIX_TBL_ADDR_LO_addr_lo, MSIX_TBL_ADDR_HI_addr_hi, MSIX_TBL_DATA_data, MSIX_TBL_CTRL_mask, MSIX_PBA_pending]
/-- The fields of the registers of the MSI-X page. -/
def fields20 : List Fld := fields20_0

/-- The fields of the register page at BAR0 offset 0x1000 × `p` (R178); none for an unassigned page. -/
def pageFields : Nat → List Fld
  | 0 => fields00
  | 1 => fields01
  | 2 => fields02
  | 3 => fields03
  | 4 => fields04
  | 5 => fields05
  | 6 => fields06
  | 7 => fields07
  | 8 => fields08
  | 9 => fields09
  | 10 => fields0A
  | 11 => fields0B
  | 12 => fields0C
  | 13 => fields0D
  | 14 => fields0E
  | 15 => fields0F
  | 16 => fields10
  | 17 => fields11
  | 18 => fields12
  | 19 => fields13
  | 20 => fields14
  | 0x20 => fields20
  | 0x21 => fields20
  | _ => []

end Sys2Proof.Machine.Reg
end

