-- ==== Sys2Proof/Machine/State.lean ====
section
/-! DEFINITION. The state of the module: the register file, the memories, and every piece of state the manual gives the
blocks beside their registers, as plain data. A value that a register reports has its one home in the register file. -/

namespace Sys2Proof.Machine

/-- Why a step stops the machine. No rule of the manual stops the module, and no meaning answers a fault. -/
inductive Fault where
  /-- Raised by nobody: the block has no condition in which the manual lets it stop (safe). -/
  | stopped
  deriving DecidableEq, Repr

/-- Why a command has no meaning. -/
inductive Refusal where
  /-- A row of the table that the model does not give a meaning yet (safe). -/
  | notModelled (mnemonic : String)
  deriving DecidableEq, Repr

/-! ### Host link -/

/-- The status of a completion the module returns (R182, R202). -/
inductive CplStatus where
  | success | completerAbort | unsupported
  deriving DecidableEq, Repr

/-- One TLP the module has issued towards the host and not yet sent, oldest first: a posted DMA write, an MSI-X
message, the completion of a host read, or an error message (R202, R211 to R213). -/
inductive HostTx where
  | dmaWrite (addr : Nat) (data : List Byte)
  | msix (vector : Nat)
  | completion (data : List Byte) (ep : Bool) (st : CplStatus)
  | error (sev : ErrSeverity)
  deriving DecidableEq, Repr

/-- What a DMA read of the module is for. -/
inductive DmaUse where
  | queueEntry (q : Nat)
  | streamEntry (c : Nat)
  | auditShadow
  | bootImage
  | saveImage (m : Mb)
  /-- The consumer has gone: what still comes is discarded. -/
  | dropped
  deriving DecidableEq, Repr

/-- A DMA read of the module: its first address and length, the bytes requested so far, and the parts that have come, each
with its offset, lowest first (R172, R204). -/
structure DmaJob where
  id : Nat
  use : DmaUse
  addr : Nat
  len : Nat
  issued : Nat
  parts : List (Nat × List Byte)
  poison : Bool
  deriving DecidableEq, Repr

/-- An outstanding read request on the link: its tag, its address and length, and its job with the offset in it (R172,
R204). -/
structure DmaRead where
  tag : Nat
  addr : Nat
  len : Nat
  job : Nat
  off : Nat
  deriving DecidableEq, Repr

/-- The configuration space fields that the manual gives an effect (R172 to R177, R205, R210). -/
structure ConfigSpace where
  memEnable : Bool
  busMaster : Bool
  aspmL1 : Bool
  clockPm : Bool
  cplTimeoutValue : BitVec 4
  cplTimeoutDisable : Bool
  maxPayload : BitVec 3
  maxReadReq : BitVec 3
  msixEnable : Bool
  msixFuncMask : Bool
  d3hot : Bool
  bar0 : Nat
  bar2 : Nat
  /-- The error messages that Device Control enables (R202), and the margining control of each lane (R172). -/
  errEnable : List ErrSeverity
  margin : Vector (BitVec 16) 4
  deriving DecidableEq, Repr

/-- The reset values of the configuration space (base specification defaults; R205). -/
def ConfigSpace.reset : ConfigSpace :=
  { memEnable := false, busMaster := false, aspmL1 := false, clockPm := false, cplTimeoutValue := 0,
    cplTimeoutDisable := false, maxPayload := 0, maxReadReq := 2, msixEnable := false, msixFuncMask := false,
    d3hot := false, bar0 := 0, bar2 := 0, errEnable := [], margin := Vector.replicate 4 0x9C38#16 }

/-- The host link beside its registers. -/
structure HostLink where
  /-- PERST_N is deasserted. -/
  perstHigh : Bool
  /-- The link trains or has trained since PERST_N was deasserted (R41). -/
  training : Bool
  /-- The link is in L1 (R176). -/
  inL1 : Bool
  /-- WAKE_N is asserted (R122). -/
  wakeN : Bool
  cfg : ConfigSpace
  /-- The sticky AER registers: the errors signalled, the errors masked, and the uncorrectable ones whose severity is fatal
  (R202, R205). -/
  aer : List AerError
  aerMask : List AerError
  aerFatal : List AerError
  tx : List HostTx
  /-- DMA reads whose data has not all come, oldest first, and the requests outstanding for them. -/
  jobs : List DmaJob
  nextJob : Nat
  reads : List DmaRead
  nextTag : Nat
  /-- Vectors in their holdoff time (R209). -/
  holdoff : List Nat
  /-- Vectors in holdoff with an event waiting (R209). -/
  heldMsg : List Nat
  /-- The last value written to each doorbell, by BAR2 offset (R184). -/
  doorbells : Store Nat
  deriving DecidableEq, Repr

/-! ### Eupex -/

/-- Where a taken command stands: just taken, or waiting for the event that completes it. -/
inductive Stage where
  | fresh | waiting
  deriving DecidableEq, Repr

/-- The firmware's copy of a taken command: its header and its first `param_len` parameter bytes (R229, R233). -/
structure Cmd where
  opcode : Nat
  flags : Nat
  target : Nat
  tag : Nat
  timeoutMs : Nat
  params : List Byte
  stage : Stage
  /-- The command was sent over the chain and its response is awaited (R267). -/
  relayed : Bool
  /-- The status, detail and response that wait until a halted core runs again (R666). -/
  answer : Option (Nat × Nat × List Byte) := none
  /-- The status of a stopped command whose committed updates are still being taken back (R244). -/
  stop : Option Nat := none
  deriving DecidableEq, Repr

/-- One mailbox beside its registers: the command it runs, and the counts of its ACCEPTED commands that SYS.ABORT has
marked (R270). -/
structure Mailbox where
  taken : Option Cmd
  marked : List Nat
  deriving DecidableEq, Repr

/-- An event record before it is written into the ring (R259), without its tail. -/
structure EventRec where
  code : Nat
  kind : Nat
  block : Nat
  bit : Nat
  member : Nat
  ply : Nat
  payload : List Byte
  deriving DecidableEq, Repr

/-- A conflict count of R256: block, action, skipped (1) or waiting (2), and conflicts since the last record. -/
structure Conflict where
  block : Nat
  action : Nat
  how : Nat
  count : Nat
  /-- The ply of the last record posted for the block. -/
  lastPly : Option Nat
  deriving DecidableEq, Repr

/-- The mailbox engine and the firmware's part of it. -/
structure Eupex where
  /-- Mailboxes URGENT, TABLE, MEDIA, BULK, then the chain port's relayed command. -/
  mailboxes : List Mailbox
  /-- The mailbox from which the rotation of R240 takes next. -/
  nextMb : Nat
  /-- Events held in firmware RAM while the ring is full, oldest first, at most 32 (R262). -/
  evtHeld : List EventRec
  /-- Events dropped and not yet reported by a LOST record (R262). -/
  evtDropped : Nat
  /-- Events dropped since START (SYS.STATE_QUERY). -/
  evtLostTotal : Nat
  conflicts : List Conflict
  /-- A new follower still has to write ROLE_FOLLOWER into every command slot (R266). -/
  fillSlots : Bool
  ctlFwVersion : Nat
  grdFwVersion : Nat
  romVersion : Nat
  deriving DecidableEq, Repr

/-! ### Clocks, plies and the fabric -/

/-- A request at an arbiter: the requester, and who was granted while it waited (R80, R81). -/
structure ArbReq where
  who : Requester
  passedBy : List Requester
  deriving DecidableEq, Repr

/-- The limits a running canary measurement uses (R63). -/
structure CanaryRun where
  target : Nat
  hyst : Nat
  floor : Nat
  cal : Int
  /-- margin_code_min, which acts from the next measurement on as the others do (R83, R88). -/
  minCode : Nat
  deriving DecidableEq, Repr

/-- The timing of the module beside the CLK registers. -/
structure Clocks where
  /-- The 64-bit ply counter (R56). -/
  ply : Nat
  canary : Option CanaryRun
  slackMinStart : Nat
  slackMaxStart : Nat
  lateTotal : Nat
  floorTotal : Nat
  measurePly : Nat
  /-- The search fabric is gated (R112). -/
  gated : Bool
  /-- Admission waits for a qualifying measurement (R69). -/
  awaitSlack : Bool
  /-- Admission has stopped for a DOZE entry or a shutdown (R114, R126). -/
  admitStop : Bool
  /-- Searches admitted in the present microsecond window (R159). -/
  admittedThisUs : Nat
  /-- The admission level in force in the present window (R159). -/
  capLevel : Nat
  /-- The group level in force in the present window (R462). -/
  capGroup : Nat
  /-- The admission caps of levels 1 to 4 in the present window (R159, R169). -/
  admCaps : List Nat
  fifos : List (List FabricWord)
  /-- The stage behind each FIFO: the word that its consumer has not taken yet (R49). -/
  stages : List (Option FabricWord)
  arbiters : List (List ArbReq)
  deriving DecidableEq, Repr

/-! ### Power and heat -/

/-- The causes of a shutdown (PWR_LAST_CAUSE.cause). -/
inductive Cause where
  | none | vinFall | cmd | cmdRestart | thermal | standby | rail | cut
  deriving DecidableEq, Repr

/-- Power entry, start and shutdown beside the PWR registers. -/
structure Power where
  armed : Bool
  /-- The cause in force of the running sequence (R145). -/
  cause : Cause
  alsoSeen : Nat
  /-- The ply of the trigger instant (R651). -/
  triggerPly : Nat
  /-- The ply and the shutdown step at which the cause in force was recorded (R144). -/
  causePly : Nat
  causeStep : Nat
  saveAction : Nat
  journalOk : Bool
  /-- The running sequence began as a standby entry. -/
  standbyEntry : Bool
  wakeEn : Nat
  wakeNAssert : Bool
  timerS : Nat
  /-- A DOZE exit trigger met a DOZE entry that had not gated its blocks yet (R147). -/
  exitPending : Bool
  /-- Wake sources latched (R123). -/
  wakeLatched : Nat
  /-- The last VIN sample lay above the warning threshold (R94). -/
  vinAbove : Bool
  vinMinStart : Nat
  /-- The slot's outputs were opened by a current limit fault and not switched on again (R96). -/
  slotFault : List Bool
  /-- VCC of slot s waits 100 µs behind VCCQ (R98). -/
  vccPending : List Bool
  deriving DecidableEq, Repr

/-- The heat model beside the THM registers. -/
structure Heat where
  /-- ΔT_1 to ΔT_4 in units of 2^-32 °C. -/
  dT : List Int
  /-- T_est of the last model update, in units of 2^-32 °C. -/
  tEst : Int
  /-- A model update has been made since START. -/
  updated : Bool
  /-- The band level lies below the level in force: the hold count runs (R158). -/
  holdRun : Bool
  /-- The level whose stream cap is in force in the present 10 µs window (R159). -/
  strmLevel : Nat
  /-- The stream cap of that level in the present window, in units of 10 MB/s (R159, R169). -/
  strmCap : Nat
  /-- The bytes that the stream channels have written in the present window (R159). -/
  strmBytes : Nat
  critRun : Nat
  openRun : Nat
  shortRun : Nat
  isenseFail : Bool
  isensePass : Nat
  ntcOpen : Bool
  ntcShort : Bool
  stale : Bool
  /-- The bytes that each slot port has moved over its media cap: no transfer starts before they are paid (R159). -/
  mediaDebt : List Nat
  /-- The ply on which the grace timer started. -/
  gracePly : Nat
  warnTotal : Nat
  enforceTotalMs : Nat
  deriving DecidableEq, Repr

/-! ### Integrity -/

/-- A key of the seen list: structure, word offset and kind (R603). -/
structure SeenKey where
  sid : Nat
  offset : Nat
  kind : Nat
  deriving DecidableEq, Repr

/-- A running range scrub (R616, R617). -/
structure ScrubRun where
  sid : Nat
  start : Nat
  len : Nat
  repair : Bool
  /-- The command that waits for the summary, when one started it. -/
  mb : Option Mb
  /-- The range has been read, and the scrub waits for its repairs. -/
  read : Bool
  deriving DecidableEq, Repr

/-- A running shadow audit (R622). -/
structure AuditRun where
  table : Nat
  ignoreLearned : Bool
  shadowAddr : Nat
  shadowLen : Nat
  resAddr : Nat
  resLen : Nat
  mb : Option Mb
  /-- The ply of the table's last update at the start (R623). -/
  startPly : Nat
  /-- The shadow image, once its read has been answered, and whether that read brought poison. -/
  shadow : Option (List Byte)
  poison : Bool
  deriving DecidableEq, Repr

/-- A repair write that waits for the update port (R615): the word, the copy that failed, the data read, and whether a
scrub (else the steep) found it. -/
structure Repair where
  sid : Nat
  word : Nat
  badCopy : Nat
  data : List Byte
  scrub : Bool
  deriving DecidableEq, Repr

/-- The integrity block beside its registers. -/
structure Integ where
  seen : List SeenKey
  corrTotal : Nat
  uncorrTotal : Nat
  repeatTotal : Nat
  biteTotal : Nat
  lostTotal : Nat
  /-- Words found in the present lap, and its length so far in ms. -/
  lapCorr : Nat
  lapUncorr : Nat
  /-- The ply on which the present lap's first word was read. -/
  lapStart : Option Nat
  /-- The millisecond in which the steep last read, and the bytes it has read in it (R610). -/
  steepMs : Nat
  steepBytes : Nat
  scrub : Option ScrubRun
  audit : Option AuditRun
  repairs : List Repair
  /-- Ways and overflow entries reported under R379, at most 64, in the index form of R373. -/
  exactReported : List Nat
  /-- The words of configuration RAM that fail parity, by word number, each with its failing bytes (R601). -/
  cfgBad : List (Nat × Nat)
  /-- The register write under way arrived with poison (R203). -/
  epWrite : Bool
  deriving DecidableEq, Repr

/-! ### The chain -/


/-- A relayed command at a follower: the head that sent it, its packet tag, and the 256 bytes of its slot (R466). -/
structure RelayCmd where
  src : Nat
  tag : Nat
  slot : List Byte
  deriving DecidableEq, Repr

/-- What a head waits for from another member: the packet tag, the member, and the mailbox of the command. -/
structure AwaitRsp where
  tag : Nat
  member : Nat
  mb : Mb
  deriving DecidableEq, Repr

/-- The chain port beside the CHN registers. -/
structure Chain where
  /-- Packets that wait to be sent forward, oldest first. -/
  tx : List Packet
  nextTag : Nat
  relayQ : List RelayCmd
  relayCur : Option RelayCmd
  awaits : List AwaitRsp
  /-- Frames that wait to be sent: SEARCH frames forward, ANSWER and STATUS frames back. -/
  fwd : List Frame
  back : List Frame
  /-- The PKT_DATA frames of the packet under way (R441), and the frames of the last window begun on CHAIN_OUT and on
  CHAIN_IN (R432). -/
  sending : List Frame
  line : Option FrameBits
  lineBack : Option FrameBits
  /-- CHAIN_IN has been active since START completed, or since the module gave up a follower role (R22, R448). -/
  heard : Bool
  /-- The chain ply less the ply counter, modulo 2^64 (R444). -/
  plyOffset : Nat
  /-- A SEARCH frame received in the present window, whose lookups run on the next ply (R453). -/
  arriving : Option Frame
  /-- The enumeration that this head runs: the command that asked for it, if one did; its map and sequence number. -/
  enum : Option (Option Mb)
  enumMap : Nat
  enumSeq : Nat
  /-- The state and the members of the chain before that enumeration. -/
  enumPrev : Nat
  enumMembers : Nat
  /-- TRAIN frames are sent forward; the serial and sequence number of the token that follows them (R443). -/
  training : Bool
  tokSerial : Nat
  tokSeq : Nat
  /-- The ply on which the running enumeration begins step 1, while it waits for it, and whether the next enumeration has to
  wait (R447). -/
  startAt : Option Nat
  delayNext : Bool
  /-- The token, and then CHAIN_UP, have returned to this head. -/
  tokenIn : Bool
  upBack : Bool
  /-- The 2 ms of R447 are over, and the host link has not trained yet. -/
  upLate : Bool
  /-- Group maps that take effect on a chain ply (R476). -/
  groupsPend : List (Nat × Nat)
  /-- Invalid windows in a row in each receiving direction, and the ply of the last one (R463). -/
  badIn : Nat
  badInAt : Nat
  badOut : Nat
  badOutAt : Nat
  /-- The module gave up a follower role for want of a strobe and has taken no role since (R448). -/
  released : Bool
  /-- The alive mask of the STATUS frame before the last, and the members declared lost (R464). -/
  prevAlive : Nat
  lost : Nat
  /-- The STATUS frame last received from downstream (R461). -/
  statusIn : StatusIn
  /-- The chain port performs a register access of a REG packet, which R26 does not discard (R789). -/
  regPort : Bool
  deriving DecidableEq, Repr

/-! ### Searches -/

/-- One detection as a detector reports it (R602, R606). -/
structure Report where
  sid : Nat
  kind : Nat
  detector : Nat
  copies : Nat
  offset : Nat
  synA : Nat
  synB : Nat
  detail : Nat
  deriving DecidableEq, Repr

/-- The answer of one lookup, with the reports of the failing words it met (R602), the array slots and ways that failed
(R338, R379), and the hit-map bit of its answer (R397). -/
structure LookupOut where
  engine : Nat
  table : Nat
  outcome : Nat
  pe : Bool
  corrected : Bool
  index : Nat
  result : Nat
  prio : Nat
  wtype : Nat
  reports : List Report
  peSlots : List Nat
  peWays : List Nat
  hitBit : Option Nat
  deriving DecidableEq, Repr

/-- What a search was admitted for: a request of a queue pair, a read of a window lane, a fetch of a stream channel, or a
SEARCH frame of the chain. -/
inductive SearchSrc where
  | queue (q count : Nat)
  | window (lane len : Nat)
  | stream (fetch : Nat)
  | chain
  deriving DecidableEq, Repr

/-- A search in flight (R59, R60): the lookups' answers as its admission ply sees the tables, held until its delivery
edge. `down` is the answer of the downstream members of a GROUP search: none while no frame has come, `some none` for an
invalid one. -/
structure InFlight where
  tag : Nat
  due : Nat
  src : SearchSrc
  profile : Nat
  userTag : Nat
  /-- The reason of R292: 0 undefined profile, 1 outside the mask, 2 bad descriptor. -/
  bad : Option Nat
  /-- The profile holds a poisoned word (R601). -/
  poisoned : Bool
  outs : List LookupOut
  keys : List (List Byte)
  masks : List Nat
  guard : Nat
  /-- The cartridge slot of the profile's guard key. -/
  slot : Nat
  /-- The members that the search reaches (R450). -/
  k : Nat
  arrived : Bool
  down : Option (Option Answer)
  deriving DecidableEq, Repr

/-- A staged request of a queue pair: its count, its descriptor, and the key material in bits that its entry holds. -/
structure Staged where
  count : Nat
  desc : List Byte
  deriving DecidableEq, Repr

/-- A queue pair beside its registers. -/
structure QPair where
  staged : List Staged
  /-- The count whose entry is being read, and how often its tail word was wrong (R223). -/
  reading : Option Nat
  retries : Nat
  /-- Results delivered and not yet written, with their counts (R303). -/
  held : List (Nat × List Byte)
  /-- The count of the next result entry to be written is in SRCH_Q_RES_CNT. A close waits for the admitted searches
  (R313): its command, if a command asked for it. -/
  closing : Bool
  closer : Option Mb
  /-- A host-link reset or D3hot has stopped the pair: the results of its admitted searches are discarded (R205). -/
  gone : Bool
  deriving DecidableEq, Repr

/-- A pair with nothing staged. -/
def QPair.empty : QPair :=
  { staged := [], reading := none, retries := 0, held := [], closing := false, closer := none, gone := false }

/-- A window search that waits for admission: the lane and the bytes read (R306, R307). -/
structure WinRead where
  lane : Nat
  len : Nat
  deriving DecidableEq, Repr

/-- The search fabric beside its registers. -/
structure Searches where
  inFlight : List InFlight
  /-- Searches delivered LATE whose fabric completion is still to come (R73). -/
  late : List InFlight
  queues : List QPair
  window : List WinRead
  /-- The searches that each lane has served. -/
  laneCount : Store Nat
  deriving DecidableEq, Repr

/-! ### Tables, the update port and learning -/

/-- What the module counts of a table beside the registers: lookups and lookups with PARITY_EXCLUDED since its creation,
and the 64-bit ply of the last committed update (TABLE.QUERY). -/
structure TblInfo where
  lookups : Nat
  peLookups : Nat
  lastPly : Nat
  deriving DecidableEq, Repr

/-- A table with nothing counted. -/
def TblInfo.zero : TblInfo := { lookups := 0, peLookups := 0, lastPly := 0 }

/-- An update of the tables that waits for the update port (R333, R376, R385, R413). Keys, values and masks are byte
strings as the commands carry them. -/
inductive UpdOp where
  | tcamWrite (t : Nat) (idx : Option Nat) (prio result : Nat) (value mask : List Byte) (must free : Bool)
  | tcamDelete (t idx : Nat)
  | tcamResult (t idx result : Nat) (must : Bool)
  | tcamImage (t : Nat) (recs : List (List Byte)) (written : List Nat)
  | tcamUndo (f w : Nat)
  | tcamCreate (t hidden bind width : Nat) (blocks : List Nat)
  | grow (t : Nat) (blocks : List Nat)
  | shrink (t : Nat) (blocks : List Nat)
  | delTable (t : Nat)
  | hide (t hidden : Nat)
  | clear (t : Nat)
  | exactWrite (t type : Nat) (key : List Byte) (result : Nat) (learned must free : Bool)
  | exactDelete (t type : Nat) (key : List Byte)
  | exactResult (t type : Nat) (key : List Byte) (result : Nat)
  | exactBack (t type : Nat) (key : List Byte) (result age : Nat)
  | exactImage (t : Nat) (recs : List (List Byte)) (written : Nat)
  | exactCreate (t hidden bind types learn quota : Nat)
  | flush (t scope deleted : Nat) (rest : List Nat)
  | dixWrite (h w : Nat)
  | dixImage (recs : List (List Byte)) (written : Nat)
  | dixLimit (n : Nat)
  | lpmInsert (t pfx len result : Nat) (must free : Bool)
  | lpmDelete (t pfx len : Nat)
  | lpmResult (t pfx len result : Nat)
  | lpmImage (t : Nat) (recs : List (List Byte)) (written : Nat)
  | lpmDefault (t : Nat) (valid result : Option Nat)
  | lpmCreate (t hidden bind quota : Nat) (root : Option Nat)
  | guardWrite (f prio result : Nat) (value mask : List Byte)
  | guardClear (half : Nat)
  deriving DecidableEq, Repr

/-- Where a host update came from: a mailbox command, or an expert register of the TCAM, HASH, DIX or LPM block. `port`
marks the update port of the block, which has a busy bit; the other register writes have none. `warm` marks the updates
of a warm start for a table (R660), and `undo` those that take back what a mailbox's stopped command has committed (R244). -/
inductive UpdOrigin where
  | mb (m : Mb)
  | port (block : Nat)
  | reg
  | warm (t : Nat)
  | undo (m : Mb)
  deriving DecidableEq, Repr

/-- A waiting host update. -/
structure UpdReq where
  origin : UpdOrigin
  op : UpdOp
  /-- The updates that take back what an image load or a flush has committed, the last one first (R244). -/
  undo : List UpdOp := []
  /-- The register write that asked for the update arrived with poison: so does what its commit stores in configuration RAM
  (R203, R594). -/
  poison : Bool := false
  deriving DecidableEq, Repr

/-- A pending castling (R347, R348): its tables, its target ply (0 for the first free one), its command, if any, and whether it
waits behind a guard castling (R578). -/
structure Castle where
  a : Nat
  b : Nat
  atPly : Nat
  mb : Option Mb
  behind : Bool
  deriving DecidableEq, Repr

/-- A command that completes when blocks have become FREE (R355, R356) or a table's sweep has finished (R377, R423). -/
structure Release where
  mb : Mb
  blocks : List Nat
  sweep : Option Nat
  resp : List Byte
  deriving DecidableEq, Repr

/-- A learned insert that waits for the update port (R388, R389), with the LEARN.WALK commands whose keys it settles, and
whether the first of them started its walk (else a fetch or a group search did). -/
structure LearnIns where
  table : Nat
  type : Nat
  key : List Byte
  result : Nat
  startPly : Nat
  mbs : List Mb
  first : Bool
  deriving DecidableEq, Repr

/-- An entry as the ager visited it (R398): its index, table, type, key and age. -/
structure AgerVisit where
  index : Nat
  table : Nat
  type : Nat
  key : List Byte
  age : Nat
  deriving DecidableEq, Repr

/-- A learning-engine update (R393). -/
inductive LearnUpd where
  | insert (i : LearnIns)
  | age (v : AgerVisit) (age : Nat)
  | retire (v : AgerVisit)
  deriving DecidableEq, Repr

/-- Who waits for a catalog walk: the fetch of a stream channel, or a LEARN.WALK command. -/
inductive Walker where
  | fetch (id : Nat)
  | cmd (m : Mb)
  deriving DecidableEq, Repr

/-- A catalog walk in flight, or a miss that waits for a free walk (R387). -/
structure Walk where
  table : Nat
  key : List Byte
  /-- The cartridge slot walked. -/
  slot : Nat
  startPly : Nat
  walkers : List Walker
  /-- The descriptor of its key, once a codeword of the run has held it (R509). -/
  seen : Option Nat := none
  /-- Where the walk stands: the row and codeword read, and the codewords of the bucket's run that are left; none at the
  directory. -/
  leaf : Option (Nat × Nat × Nat)
  result : Option WalkResult
  deriving DecidableEq, Repr

/-- A running LEARN.WALK: the keys for which no walk has been asked yet, the keys outstanding, and its counts. -/
structure WalkCmd where
  mb : Mb
  table : Nat
  stop : Bool
  keys : List (List Byte)
  outstanding : Nat
  inserted : Nat
  present : Nat
  notFound : Nat
  noRoom : Nat
  dropped : Nat
  deriving DecidableEq, Repr

/-- An entry of the log of host deletes and writes of exact-match entries (R389). -/
structure HostDel where
  ply : Nat
  table : Nat
  type : Nat
  key : List Byte
  deriving DecidableEq, Repr

/-- Learning beside its registers. The totals count since START (LEARN.QUERY). -/
structure Learn where
  walks : List Walk
  waiting : List Walk
  updates : List LearnUpd
  /-- The last 256 host deletes and writes, oldest first. -/
  hostLog : List HostDel
  /-- The ply of the newest entry that has left the log. -/
  logLost : Option Nat
  /-- The ply of the last clear or deletion of each table (R389). -/
  clears : Store Nat
  cmds : List WalkCmd
  /-- A pass of the ager is due and starts when the running one ends (R399). -/
  agerDue : Bool
  inserts : Nat
  present : Nat
  fails : Nat
  dropDelete : Nat
  dropQueue : Nat
  walksTotal : Nat
  notFound : Nat
  retired : Nat
  ownerInserts : Nat
  deriving DecidableEq, Repr

/-- What an LPM update in progress has allocated at its commit: its record, and the nodes of its path from stage 1 on, each
with the one that was there before, if one was (R418). -/
structure LpmPlan where
  record : Nat
  nodes : List (Option Nat × Nat)
  deriving DecidableEq, Repr

/-- An orphaning that is due: its slot, the ply of its recognition, and whether an unmount asks for it (R491, R493). -/
structure Orphaning where
  slot : Nat
  since : Nat
  unmount : Bool
  deriving DecidableEq, Repr

/-- Tables and the update port beside their registers. -/
structure Tables where
  info : Store TblInfo
  /-- Host updates that wait for the port, in the order in which they reached it (R393). -/
  queue : List UpdReq
  /-- Guard core updates that wait for the port (R393, R577). -/
  guardQ : List UpdOp
  /-- The ply of the port's last commit: at most one update commits on a ply (R333). -/
  lastPly : Option Nat
  /-- The orphanings that wait for a ply of their own, in the order in which they commit (R491). -/
  orphans : List Orphaning
  castle : Option Castle
  /-- An accepted rule set waits for its castling (R577, R578). -/
  guardCastle : Bool
  /-- The half of the guard table that is live: 0 for blocks 248 to 251, 1 for blocks 252 to 255. -/
  guardLive : Nat
  /-- Blocks that are being ungated, at most 8, and blocks that wait for it (R330). -/
  ungating : List Nat
  ungateWait : List Nat
  /-- Blocks whose array slots are being invalidated (R331). -/
  invalidating : List Nat
  releases : List Release
  /-- The background rewrite that the armed overlay covers (R418). -/
  rewrite : Option LpmPlan
  /-- The bytes of stage memories that the host has written through a window since, which stand afterwards (R418). -/
  hostBytes : List (Nat × Nat) := []
  /-- The 64-bit commit plies of the profiles (PROFILE.GET). -/
  profPly : Store Nat
  deriving DecidableEq, Repr

/-! ### Cores and caddy -/

/-- The journal engine beside the CADDY registers. What is held here stands in the caddy too, and outlives START: the
head and the sequence number follow the last record written (R657, R658). -/
structure Journal where
  /-- Ring offset of the next record. -/
  head : Nat
  /-- Ring offset of the CKPT_BEGIN that the newer anchor names. -/
  tail : Nat
  /-- Bytes from the anchor to the head. -/
  used : Nat
  seq : Nat
  commitNo : Nat
  commitSeq : Nat
  /-- Uncommitted bytes, and the CRC register over them. -/
  pending : Nat
  crc : Nat
  /-- Head and bytes in use just behind the last COMMIT: START drops what follows it (R659). -/
  commitHead : Nat
  commitUsed : Nat
  /-- The running checkpoint: ring offset, sequence number and bytes in use at its CKPT_BEGIN. -/
  ckpt : Option (Nat × Nat × Nat)
  /-- The anchor copy that is written next, and the write count. -/
  anchorCopy : Nat
  anchorWrites : Nat
  deriving DecidableEq, Repr

/-- A dump being written (R653): its kind, its writer (1 control core, 2 guard core), the command that asked for it, and
the fault or request ply. -/
structure DumpRun where
  kind : Nat
  writer : Nat
  mb : Option Mb
  ply : Nat
  deriving DecidableEq, Repr

/-- A firmware image in parts (R663, R586). -/
structure StoreRun where
  slot : Nat
  total : Nat
  bytes : List Byte
  deriving DecidableEq, Repr

/-- A boot record request in progress (R636): 1 BOOT_HOST, 2 BOOT_CADDY, 3 BOOT_HOST_STORE. -/
structure BootRun where
  request : Nat
  slot : Nat
  addr : Nat
  len : Nat
  /-- The image bytes fetched so far. -/
  bytes : List Byte
  deriving DecidableEq, Repr

/-- A running warm start (R660): its command, its status byte for each table, the entries written, and the commit used. -/
structure WarmRun where
  mb : Mb
  status : List Nat
  written : Nat
  commitSeq : Nat
  deriving DecidableEq, Repr

/-- The cores and the caddy's engines. -/
structure Cores where
  /-- Plies of the unplanned restarts of each core (R643). -/
  ctlRestarts : List Nat
  grdRestarts : List Nat
  /-- The watchdog of a core has expired once without service (R641). -/
  ctlWdog : Bool
  grdWdog : Bool
  /-- A core is in an unrecoverable fault and has not been restarted (R642, R643). -/
  ctlDead : Bool
  grdDead : Bool
  securityVersion : Nat
  dump : Option DumpRun
  store : Option StoreRun
  boot : Option BootRun
  /-- A reload of both sections from the caddy is due (R633, R638). -/
  caddyBoot : Bool
  warm : Option WarmRun
  deriving DecidableEq, Repr

/-! ### Cartridge slots -/

/-- What an operation at a die is for. -/
inductive DieUse where
  | mount
  | portReset
  | fetch (id : Nat)
  | walk (table : Nat) (key : List Byte)
  | save (m : Mb)
  | page (m : Mb)
  | expert
  | dropped
  deriving DecidableEq, Repr

/-- A command of the ONFI interface, by its row of R479: READ ID with its address, and the feature commands with the address
of the feature and, for SET FEATURES, its parameter bytes. -/
inductive OnfiCmd where
  | reset
  | readId (addr : Nat)
  | readParam
  | setFeatures (addr : Nat) (value : BitVec 32)
  | getFeatures (addr : Nat)
  | readStatus
  | readStatusEnhanced
  | read
  | readCacheSequential
  | readCacheEnd
  | changeReadColumn
  | pageProgram
  | blockErase
  | zqCalibration
  deriving DecidableEq, Repr

/-- The command cycles of R479. -/
def OnfiCmd.cycles : OnfiCmd → List Byte
  | .reset => [0xFF]
  | .readId addr => [0x90, BitVec.ofNat 8 addr]
  | .readParam => [0xEC]
  | .setFeatures .. => [0xEF]
  | .getFeatures _ => [0xEE]
  | .readStatus => [0x70]
  | .readStatusEnhanced => [0x78]
  | .read => [0x00, 0x30]
  | .readCacheSequential => [0x31]
  | .readCacheEnd => [0x3F]
  | .changeReadColumn => [0x05, 0xE0]
  | .pageProgram => [0x80, 0x10]
  | .blockErase => [0x60, 0xD0]
  | .zqCalibration => [0xF9]

/-- An operation of a die (R479, R482). -/
inductive DieKind where
  | reset (sdr : Bool)
  | readId (sdr : Bool)
  | param
  | setFeature (addr : Nat) (value : BitVec 32)
  | getFeature (addr : Nat)
  | zq
  | read
  | program (page : List Byte)
  | erase
  deriving DecidableEq, Repr

/-- An operation in the media command queue of a port (R482): its die byte, its row (its block for an erase), and, for a
read, whether the array read is over and its data comes next, and whether READ CACHE SEQUENTIAL started it. -/
structure DieOp where
  die : Nat
  row : Nat
  kind : DieKind
  use : DieUse
  ready : Bool
  cached : Bool := false
  deriving DecidableEq, Repr

/-- A running mount (R486): its step, and for steps 4 and 5 what each die has answered. -/
structure MountRun where
  mb : Mb
  raw : Bool
  maxRate : Nat
  step : Nat
  /-- Dies with an ONFI signature, and dies that answer only in SDR. -/
  found : List Nat
  sdr : List Nat
  pages : List (Nat × ParamPage)
  deriving DecidableEq, Repr

/-- A slot that drains before it is switched off (R493): the command, and whether an eject pulse follows. -/
structure Drain where
  mb : Option Mb
  eject : Bool
  deriving DecidableEq, Repr

/-- A committed save copy as its commit page tells it (R515, R516). -/
structure CommitInfo where
  pages : Nat
  generation : Nat
  bytes : Nat
  head : List Byte
  mac : List Byte
  deriving DecidableEq, Repr

/-- What a save command does after it has found the current copy. -/
inductive SaveJob where
  | query | read | write
  deriving DecidableEq, Repr

/-- Where a save command stands: the search of a copy for its commit page, the read of that page, the read of data page
`i`, the image's way from the host, the erase of block `i`, the program of page `i`, and the final page program. -/
inductive SavePhase where
  | scan (copy lo hi : Nat)
  | commitPage (copy row : Nat)
  | data (i : Nat)
  | image
  | erase (i : Nat)
  | program (i : Nat)
  | final
  deriving DecidableEq, Repr

/-- A running save command (R516 to R520). -/
structure SaveRun where
  mb : Mb
  job : SaveJob
  area : Nat
  bytes : Nat
  addr : Nat
  phase : SavePhase
  copies : List (Option CommitInfo)
  /-- Ciphertext pages read so far, or the pages to be programmed. -/
  pages : List (List Byte)
  /-- The final page program of this write had been issued at the trigger instant of the running sequence (R131). -/
  issued : Bool
  deriving DecidableEq, Repr

/-- A page command that runs at a die: its flags and its mailbox data RAM reference. -/
structure PageRun where
  mb : Mb
  flags : Nat
  ref : Nat × Nat
  deriving DecidableEq, Repr

/-- A slot port beside its registers. -/
structure SlotPort where
  /-- VCC has reached 90 % of its set value (R98). -/
  vccGood : Bool
  /-- VCCQ has reached 90 % of its set value (R764). -/
  vccqGood : Bool
  mount : Option MountRun
  ops : List DieOp
  dies : List Nat
  param : Option ParamPage
  /-- The 512 header bytes accepted at mount (R504), none in RAW. -/
  header : List Byte
  drain : Option Drain
  /-- The eject pulse runs: the commands that it serves, none for a register write, each with the orphaning commit ply that it
  answers (R494). -/
  pulse : Option (List (Option Mb × Nat))
  saves : List SaveRun
  pageRuns : List PageRun
  /-- A port reset runs (R537): its command and the reads that it voided. -/
  portReset : Option (Option Mb × Nat)
  /-- The 17,632-byte page buffer; a byte beyond the list is 0. -/
  buf : List Byte
  /-- The dies trained in the last mount or port reset, each with its read capture phase in 1/64 unit interval (R764). -/
  capture : List (Nat × Nat) := []
  /-- The parameter pages that a port reset has read. -/
  resetPages : List ParamPage := []
  /-- The commands that the port issued last, and the die (R479). -/
  issued : List OnfiCmd := []
  issuedTo : Nat := 0
  deriving DecidableEq, Repr

/-- A port without a cartridge. -/
def SlotPort.empty : SlotPort :=
  { vccGood := false, vccqGood := false, mount := none, ops := [], dies := [], param := none, header := [], drain := none, pulse := none
    saves := [], pageRuns := [], portReset := none, buf := [] }

/-! ### Stream channels -/

/-- Whom a fetch serves: request `count` of a stream channel, or a remote fetch with a packet tag for a member (R470). -/
inductive FetchOwner where
  | chan (c count : Nat)
  | remote (member tag : Nat)
  deriving DecidableEq, Repr

/-- Where a fetch stands: its search offered, its search in flight, waiting for a catalog walk, for a reauthentication of
a cartridge slot (R31), for its key and its sectors, for the member that owns the key (R469) or for its next request to that member
(R473), or ended. -/
inductive FetchStage where
  | offered | searching | walking | media
  | reauth (slot : Nat)
  | remote (member : Nat)
  | retry (member : Nat)
  | ended
  deriving DecidableEq, Repr

/-- A sector that has been received and corrected: its number, its ciphertext, and the codewords that are poisoned. -/
structure SectorIn where
  index : Nat
  data : List Byte
  poison : List Bool
  deriving DecidableEq, Repr

/-- A fetch in progress. -/
structure Fetch where
  id : Nat
  owner : FetchOwner
  profile : Nat
  fetchClass : Nat
  keyLen : Nat
  key : List Byte
  offset : Nat
  len : Nat
  dest : Nat
  userTag : Nat
  stage : FetchStage
  /-- Its search has been submitted again after a reauthentication (R573), and after a walk that found its key (R32). -/
  again : Bool
  walked : Bool
  /-- The descriptor that a walk found (R33). -/
  found : Option Nat
  /-- The extent descriptor in use, and the CONTENT lookup's table and key of its last search. -/
  desc : Option Nat
  degraded : Bool
  corrected : Bool
  excluded : Bool
  wasRemote : Bool
  eccHigh : Bool
  maxBits : Nat
  ply : Nat
  written : Nat
  /-- Data that waits to be written, with its place in the destination (R159, R207, R469, R528). -/
  held : List (Nat × List Byte)
  /-- Bytes written and not yet paid for at deg_rate (R528). -/
  paced : Nat
  /-- The next sector to be decrypted, and the sectors received and not yet decrypted. -/
  next : Nat
  sectors : List SectorIn
  keySlot : Option Nat
  issued : Bool
  status : Nat
  /-- The outcome that waits until that data is written (R36). -/
  outcome : Option Nat := none
  /-- The cartridge slot of its guard lookup, from the profile as its last search was admitted (R31, R282). -/
  slot : Nat := 0
  deriving DecidableEq, Repr

/-- A stream channel beside its registers: the request entry being read, the entry read and not yet taken, a close that
waits, and whether its buffer keeps a sector (R530). -/
structure Channel where
  reading : Option Nat
  retries : Nat
  entry : Option (List Byte)
  closing : Bool
  closer : Option Mb
  kept : Bool
  deriving DecidableEq, Repr

/-- A channel with nothing read. -/
def Channel.empty : Channel :=
  { reading := none, retries := 0, entry := none, closing := false, closer := none, kept := false }

/-- A remote fetch that waits at a follower (R470). -/
structure RemoteReq where
  member : Nat
  tag : Nat
  profile : Nat
  fetchClass : Nat
  key : List Byte
  offset : Nat
  len : Nat
  userTag : Nat
  deriving DecidableEq, Repr

/-- The stream engine beside its registers. -/
structure Streams where
  channels : List Channel
  /-- The fetches in progress and those that wait for their completion entry, in the order in which they were taken. -/
  fetches : List Fetch
  nextId : Nat
  remoteQ : List RemoteReq
  deriving DecidableEq, Repr

/-! ### Guard -/

/-- Why a tag is authenticated: for a mount, for a restarted guard core (R584), or again by challenge alone (R573). -/
inductive AuthWhy where
  | mount | restart | again
  deriving DecidableEq, Repr

/-- The tag transaction that an authentication waits for. -/
inductive AuthStage where
  | info
  | certs (got : List Byte)
  | challenge
  | pause
  | poll
  | keys
  deriving DecidableEq, Repr

/-- A running authentication of a slot (R558, R573). -/
structure AuthRun where
  why : AuthWhy
  /-- The GUARD.REAUTH commands that wait for it. -/
  mbs : List Mb
  stage : AuthStage
  nonce : List Byte
  polls : Nat
  /-- The debug lock fuse as it stood when the authentication began (R687). -/
  lock : Bool
  deriving DecidableEq, Repr

/-- A transaction on a tag bus (R548): its command code and payload, how often it has been repeated, and the TAG_XFER
command with its reference when it is one's. -/
structure TagRun where
  cmd : Nat
  payload : List Byte
  tries : Nat
  xfer : Option (Mb × (Nat × Nat))
  deriving DecidableEq, Repr

/-- What the guard core keeps of a slot's tag: the info record, the certificate chain, the key generation used, the ply of
the last authentication, and the bus: the transaction that runs, and the guard core's own that waits behind a TAG_XFER's. -/
structure TagState where
  info : List Byte
  certs : List Byte
  keyGen : Nat
  authPly : Nat
  auth : Option AuthRun
  run : Option TagRun
  next : Option TagRun
  /-- The wrapped key record that the guard core used (R556), from which it derives the title key again (R598). -/
  wrapped : List Byte := []
  deriving DecidableEq, Repr

/-- A slot whose tag has not answered. -/
def TagState.empty : TagState :=
  { info := [], certs := [], keyGen := 0, authPly := 0, auth := none, run := none, next := none }

/-- A rule set being loaded, or an accepted one that waits for its castling (R575, R586). -/
structure RuleLoad where
  total : Nat
  bytes : List Byte
  /-- The command of the part that completed the image. -/
  mb : Option Mb
  deriving DecidableEq, Repr

/-- The guard core beside the SEC and TAG registers. -/
structure Guard where
  tags : List TagState
  load : Option RuleLoad
  /-- The accepted rule set that waits for its castling (R577, R578). -/
  due : Option RuleLoad := none
  rulePly : Nat
  derivations : Nat
  authFails : Nat
  /-- The order of use of the EXTENT key slots, least recent first (R565). -/
  lru : List Nat
  deriving DecidableEq, Repr

/-! ### One-time-programmable array -/

/-- What an OTP job is for: OTP.SETTINGS_WRITE of a position, OTP.SECURITY_WRITE of an image in a mailbox data RAM range,
OTP.LOCK_DEBUG, OTP.SV_RAISE, or one word through the registers (R680, R686 to R689). -/
inductive OtpWho where
  | settings (m : Mb) (pos : Nat)
  | security (m : Mb) (ref : Nat × Nat)
  | lock (m : Mb)
  | raise (m : Mb)
  | expert
  deriving DecidableEq, Repr

/-- A running OTP job: the words still to be programmed, word address and value, the present one first, whether the
present word has been programmed again (R684), and the status with which the command is stopped after the present word,
if it is. -/
structure OtpJob where
  who : OtpWho
  words : List (Nat × Nat)
  retried : Bool
  stop : Option Nat
  deriving DecidableEq, Repr

/-! ### Pins -/

/-- A UART beside its registers: the bytes waiting to be sent, the bytes received, the bits of the frame being sent in their order
on the line (R716), U_DE, and the PIN.UART_XFER commands that wait for the end of transmission with the bytes they had accepted (R717,
R732). -/
structure Uart where
  tx : List Byte
  rx : List Byte
  cur : Option (List Bool)
  de : Bool
  waits : List (Mb × Nat)
  deriving DecidableEq, Repr

/-- A running I2C transfer: the command that asked for it, if one did, its address, the bytes to write and the bytes to
read (R718). -/
structure I2cRun where
  mb : Option Mb
  addr : Nat
  wr : List Byte
  rd : Nat
  deriving DecidableEq, Repr

/-- What the I2C controller does on its bus (R718). -/
inductive I2cAct where
  | start
  | restart
  | address (a : Nat) (read : Bool)
  | write (b : Byte)
  | read (b : Byte)
  | clocks (n : Nat)
  | stop
  deriving DecidableEq, Repr

/-- A PWM channel: the period and duty in force, and whether PWM_KILL_N holds it inactive (R719). -/
structure Pwm where
  period : Nat
  duty : Nat
  killed : Bool
  deriving DecidableEq, Repr

/-- A fan input: whether a falling edge has been seen, and the last intervals, oldest first (R722). -/
structure Fan where
  seen : Bool
  gaps : List Nat
  deriving DecidableEq, Repr

/-- The current instruction of the TAP (R770). -/
inductive TapInstr where
  | extest | idcode | samplePreload | clamp | highz | bypass
  deriving DecidableEq, Repr

/-- The pads, their peripherals, the SMBus target and the TAP beside the PIN registers. -/
structure Pins where
  /-- Bit n: the level that the board last gave pad GPn while the module did not drive it. -/
  ext : Nat
  /-- Bit n: the outputs of pad n's glitch filter and debounce (R701, R702). -/
  filt : Nat
  deb : Nat
  uarts : List Uart
  i2c : Option I2cRun
  pwm : List Pwm
  fans : List Fan
  /-- Bit i: TCMP_i (R720). -/
  tcmp : Nat
  /-- SMB_ALERT_N is asserted (R729). -/
  smbAlert : Bool
  /-- The bytes that the SMBus target sent in the last transaction addressed to it; none: it did not acknowledge. -/
  smbOut : Option (List Byte)
  tap : TapInstr
  /-- The 486 cells of the boundary register (R772), cell 0 in bit 0. -/
  boundary : BitVec 486
  /-- The value that the selected identification or bypass register captures (R770, R771). -/
  tapCapture : BitVec 32
  /-- What the boundary register captured when it was last selected (R770, R772). -/
  sample : BitVec 486
  /-- The code in the instruction register, and what the register captured and gave at TDO as that code was shifted in (R770). -/
  tapIr : BitVec 5 := 1
  irOut : BitVec 5 := 0
  /-- PIN.I2C_XFER transfers that wait for the controller, oldest first, and what it did on the bus in its last one (R718, R732). -/
  i2cNext : List I2cRun := []
  i2cBus : List I2cAct := []
  /-- Rising edges of TCLK since the timer last counted (R720). -/
  tclk : Nat := 0
  deriving DecidableEq, Repr

/-- Pads and peripherals when START has completed (R698); the TAP, reset, selects IDCODE (R770, R771). -/
def Pins.reset : Pins :=
  { ext := 0, filt := 0, deb := 0
    uarts := List.replicate 2 { tx := [], rx := [], cur := none, de := false, waits := [] }
    i2c := none, pwm := List.replicate 4 { period := 0, duty := 0, killed := false }
    fans := List.replicate 2 { seen := false, gaps := [] }, tcmp := 0, smbAlert := false, smbOut := none
    tap := .idcode, boundary := 0, tapCapture := BitVec.ofNat 32 (0x7484 * 2 ^ 12 + 0x24B * 2 + 1), sample := 0 }

/-! ### The whole module -/

/-- The state of the module. -/
structure State where
  /-- The commands and events that wait, first in, first out. -/
  pending : List Instr
  /-- The register file: for each field instance (fldKey) its value, exclusive-or its reset value. -/
  regs : Store Nat
  mem : Memory
  host : HostLink
  eupex : Eupex
  clk : Clocks
  pwr : Power
  heat : Heat
  integ : Integ
  chain : Chain
  srch : Searches
  tbl : Tables
  learn : Learn
  jrnl : Journal
  cores : Cores
  slots : List SlotPort
  strm : Streams
  guard : Guard
  /-- Bytes 8 to 47 of the settings record in force (R678); none in force: empty. -/
  settings : List Byte
  otp : Option OtpJob
  pins : Pins
  /-- The number of free values taken so far; it picks the next one (the model's own field, not the spec's). -/
  free : Nat
  deriving DecidableEq, Repr

/-- The module right after START has completed with a blank OTP array and an empty caddy. -/
def State.reset : State :=
  { pending := []
    regs := []
    mem := []
    host := { perstHigh := false, training := false, inL1 := false, wakeN := false, cfg := ConfigSpace.reset,
              aer := [], aerMask := [.advisory, .internal]
              aerFatal := [.dlpError, .flowControl, .receiverOverflow, .malformedTlp, .internal], tx := []
              jobs := [], nextJob := 0, reads := [], nextTag := 0, holdoff := [], heldMsg := [], doorbells := [] }
    eupex := { mailboxes := List.replicate 5 { taken := none, marked := [] }, nextMb := 1, evtHeld := [],
               evtDropped := 0, evtLostTotal := 0, conflicts := [], fillSlots := false, ctlFwVersion := 0, grdFwVersion := 0,
               romVersion := 0 }
    clk := { ply := 0, canary := none, slackMinStart := 0x7FF, slackMaxStart := 0, lateTotal := 0, floorTotal := 0,
             measurePly := 0, gated := false, awaitSlack := false, admitStop := false, admittedThisUs := 0,
             capLevel := 0, capGroup := 0, admCaps := [], fifos := List.replicate 24 [], stages := List.replicate 24 none,
             arbiters := List.replicate 6 [] }
    pwr := { armed := false, cause := .none, alsoSeen := 0, triggerPly := 0, causePly := 0, causeStep := 0, saveAction := 0, journalOk := false,
             standbyEntry := false, wakeEn := 0, wakeNAssert := false, timerS := 0, exitPending := false, wakeLatched := 0,
             vinAbove := false, vinMinStart := 0xFFFF, slotFault := [false, false], vccPending := [false, false] }
    heat := { dT := [0, 0, 0, 0], tEst := 0, updated := false, holdRun := false, strmLevel := 0, strmCap := 0, strmBytes := 0, mediaDebt := [0, 0],
              critRun := 0, openRun := 0, shortRun := 0, isenseFail := false, isensePass := 0,
              ntcOpen := false, ntcShort := false, stale := false, gracePly := 0, warnTotal := 0, enforceTotalMs := 0 }
    integ := { seen := [], corrTotal := 0, uncorrTotal := 0, repeatTotal := 0, biteTotal := 0, lostTotal := 0,
               lapCorr := 0, lapUncorr := 0, lapStart := none, steepMs := 0, steepBytes := 0, scrub := none, audit := none, repairs := [], exactReported := [],
               cfgBad := [], epWrite := false }
    chain := { tx := [], nextTag := 0, relayQ := [], relayCur := none, awaits := [], fwd := [], back := [], sending := []
               line := none, lineBack := none, heard := false, startAt := none, delayNext := false, tokenIn := false, plyOffset := 0,
               arriving := none, enum := none, enumMap := 1, enumSeq := 0, enumPrev := 0, enumMembers := 1, training := false, tokSerial := 0, tokSeq := 0,
               upBack := false, upLate := false, groupsPend := [], badIn := 0, badInAt := 0, badOut := 0
               badOutAt := 0, released := false, prevAlive := 0, lost := 0, statusIn := StatusIn.empty, regPort := false }
    srch := { inFlight := [], late := [], queues := List.replicate 16 QPair.empty, window := [], laneCount := [] }
    tbl := { info := [], queue := [], guardQ := [], lastPly := none, orphans := [], castle := none, guardCastle := false, guardLive := 0, ungating := [], ungateWait := [],
             invalidating := [], releases := [], rewrite := none, profPly := [] }
    learn := { walks := [], waiting := [], updates := [], hostLog := [], logLost := none, clears := [], cmds := [], agerDue := false, inserts := 0,
               present := 0, fails := 0, dropDelete := 0, dropQueue := 0, walksTotal := 0, notFound := 0, retired := 0,
               ownerInserts := 0 }
    jrnl := { head := 0, tail := 0, used := 0, seq := 0, commitNo := 0, commitSeq := 0, pending := 0,
              crc := 0xFFFFFFFF, commitHead := 0, commitUsed := 0, ckpt := none, anchorCopy := 0, anchorWrites := 0 }
    cores := { ctlRestarts := [], grdRestarts := [], ctlWdog := false,
               grdWdog := false, ctlDead := false, grdDead := false, securityVersion := 0, dump := none, store := none,
               boot := none, caddyBoot := true, warm := none }
    slots := List.replicate 2 SlotPort.empty
    strm := { channels := List.replicate 16 Channel.empty, fetches := [], nextId := 0, remoteQ := [] }
    guard := { tags := List.replicate 2 TagState.empty, load := none, rulePly := 0, derivations := 0, authFails := 0
               lru := List.range 64 }
    settings := []
    otp := none
    pins := Pins.reset
    free := 0 }

end Sys2Proof.Machine
end

