-- ==== Sys2Proof/Machine/Ops.lean ====
section
/-! DEFINITION. The named operations over the register file, the memories, the host link and the integrity block that
every command shares. -/

namespace Sys2Proof.Machine
open Reg

/-- What a command answers. -/
abbrev Out := Host.Outcome State Fault Refusal

/-! ### The register file -/

/-- The value of instance `i` of a field. -/
def State.rdi (s : State) (f : Fld) (i : Nat) : Nat := storeGetD 0 s.regs (fldKey f i) ^^^ fldReset f i

/-- The value of a field that has one instance. -/
def State.rd (s : State) (f : Fld) : Nat := s.rdi f 0

/-- Instance `i` of a field set to the low bits of `v`. -/
def State.wri (s : State) (f : Fld) (i v : Nat) : State :=
  { s with regs := storeSetD 0 s.regs (fldKey f i) ((v % 2 ^ f.width) ^^^ fldReset f i) }

/-- A field that has one instance set to the low bits of `v`. -/
def State.wr (s : State) (f : Fld) (v : Nat) : State := s.wri f 0 v

/-- An event counter of `w` bits that a command reports, advanced by one; it holds its all-ones value once reached
(R13). -/
def countUp (w n : Nat) : Nat := min (n + 1) (2 ^ w - 1)

/-- An event counter advanced by `n`; it holds its all-ones value once reached (R13). -/
def State.addi (s : State) (f : Fld) (i n : Nat) : State := s.wri f i (min (s.rdi f i + n) (2 ^ f.width - 1))

/-- An event counter with one instance advanced by one (R13). -/
def State.inc (s : State) (f : Fld) : State := s.addi f 0 1

/-- Bit `k` of instance `i` of a field. -/
def State.bit (s : State) (f : Fld) (i k : Nat) : Bool := bitOf (s.rdi f i) k

/-- Bit `k` of instance `i` of a field set to `b`. -/
def State.setBit (s : State) (f : Fld) (i k : Nat) (b : Bool) : State :=
  let v := s.rdi f i
  s.wri f i (if b then v ||| 2 ^ k else v &&& (2 ^ f.width - 1 - 2 ^ k % 2 ^ f.width))

/-- The instance of a field that stands at a BAR0 offset, if one does. -/
def fldAt (f : Fld) (off : Nat) : Option Nat :=
  if f.stride = 0 then (if off = f.base then some 0 else none)
  else if f.base ≤ off ∧ (off - f.base) % f.stride = 0 ∧ (off - f.base) / f.stride < f.count then
    some ((off - f.base) / f.stride)
  else none

/-- The fields of the register at a BAR0 offset, each with its instance. -/
def regFields (off : Nat) : List (Fld × Nat) :=
  (pageFields (off / 4096)).filterMap (fun f => (fldAt f off).map (fun i => (f, i)))

/-- The register at a BAR0 offset as the register file holds it. -/
def State.rawReg (s : State) (off : Nat) : Nat :=
  (regFields off).foldl (fun n fi => n + s.rdi fi.1 fi.2 * 2 ^ fi.1.lo) 0

/-- A free value's number: the present one, and the state that will give the next. -/
def State.nextFree (s : State) : State := { s with free := s.free + 1 }

/-! ### Interrupts (R208 to R211) -/

/-- The event register of block `b`, for instance `i` of a block that has one a slot. -/
def eventReg (b i : Nat) : Nat :=
  match b with
  | 1 => 0x1030 | 4 => 0x400C | 5 => 0x5030 | 10 => 0xA008 | 11 => 0xB010
  | 15 => 0xF004 + 0x100 * i | 17 => 0x11004 + 0x100 * i
  | b => 0x1000 * b + 4

/-- The enable register of block `b`. -/
def enableReg (b i : Nat) : Nat :=
  match b with
  | 0 => 0x1C | 1 => 0x1034 | 4 => 0x4010 | 10 => 0xA00C | 11 => 0xB014
  | 15 => 0xF008 + 0x100 * i | 17 => 0x11008 + 0x100 * i
  | b => 0x1000 * b + 8

/-- The enable bits of block `b`. SYS.EVENT_CONFIG sets those of MBX. -/
def State.enables (s : State) (b i : Nat) : Nat :=
  if b = 5 then s.rd MBX_CFG_mbx_event_en else s.rawReg (enableReg b i)

/-- The event bits of block `b`; GLB_STATUS has six of them. -/
def State.eventBits (s : State) (b i : Nat) : Nat :=
  if b = 0 then s.rawReg 4 % 64 else s.rawReg (eventReg b i)

/-- Whether block `b` has a bit set in both its event and its enable register (GLB_IRQ_STATUS). -/
def State.blkIrq (s : State) (b : Nat) : Bool :=
  if b = 20 then false
  else if b = 15 ∨ b = 17 then
    s.eventBits b 0 &&& s.enables b 0 != 0 || s.eventBits b 1 &&& s.enables b 1 != 0
  else s.eventBits b 0 &&& s.enables b 0 != 0

/-- GLB_IRQ_STATUS.blk_irq: bit b for block b. -/
def State.irqStatus (s : State) : Nat := bitsNat ((List.range 21).map s.blkIrq)

/-- Whether the module may issue requests on the host link: the link is up, Bus Master Enable is set, and the function
is not in D3hot (R207). -/
def State.dmaOk (s : State) : Bool :=
  s.rd GLB_LINK_link_up == 1 && s.host.cfg.busMaster && !s.host.cfg.d3hot

/-- Whether a vector, or the whole function, is masked (R210). DESIGN CHOICE (log entry 190): it counts as masked while MSI-X is
disabled, Bus Master Enable is 0 or the link is down. -/
def State.vecMasked (s : State) (v : Nat) : Bool :=
  !s.host.cfg.msixEnable || s.host.cfg.msixFuncMask || s.rdi MSIX_TBL_CTRL_mask v == 1 || !s.dmaOk

/-- The greatest holdoff of the sources mapped to a vector (R209). -/
def State.vecHoldoff (s : State) (v : Nat) : Nat :=
  (List.range 34).foldl
    (fun n i => if s.rdi GLB_VEC_SRC_vector i = v then max n (s.rdi GLB_VEC_SRC_holdoff_us i) else n) 0

/-- A message on a vector: its pending bit while it is masked (R210), one message at the end of a running holdoff
(R209), else the message, after every DMA write issued before it (R211). -/
def State.sendVector (s : State) (v : Nat) : State :=
  if s.vecMasked v then s.setBit MSIX_PBA_pending 0 v true
  else if s.host.holdoff.contains v then
    { s with host := { s.host with
        heldMsg := if s.host.heldMsg.contains v then s.host.heldMsg else s.host.heldMsg ++ [v] } }
  else
    { s with host := { s.host with
        tx := s.host.tx ++ [.msix v], inL1 := false
        holdoff := if s.vecHoldoff v = 0 then s.host.holdoff else s.host.holdoff ++ [v] } }

/-- Interrupt source `i` of R208 raised. -/
def State.raiseSource (s : State) (i : Nat) : State := s.sendVector (s.rdi GLB_VEC_SRC_vector i)

/-- The state `t` reached from `s`, with the module interrupt raised when a bit of GLB_IRQ_STATUS has risen (R208). -/
def State.irqFrom (s t : State) : State :=
  if t.irqStatus &&& (2 ^ 21 - 1 - s.irqStatus) != 0 then t.raiseSource 0 else t

/-! ### BAR2 RAM (sid 0x72) and the other memories -/

/-- The structure code of BAR2 RAM. -/
def sidBar2 : Nat := 0x72

/-- Every key of the seen list that names a word of `[lo, hi)` of a structure removed (R604). -/
def State.forget (s : State) (sid lo hi : Nat) : State :=
  let keep := s.integ.seen.filter (fun k => !(k.sid == sid && lo ≤ k.offset + 7 && k.offset < hi))
  if keep.length = s.integ.seen.length then s
  else (({ s with integ := { s.integ with seen := keep } }).wr INTEG_STATUS_seen_count keep.length).wr
    INTEG_STATUS_seen_full 0

/-- A byte range of a structure back at the fill: its words are written (R604). -/
def State.fillRange (s : State) (sid lo len : Nat) : State :=
  ({ s with mem := clearRange s.mem sid lo len } : State).forget sid lo (lo + len)

/-- Bit `k` of the check field of a 32-byte unit covers byte `i` of the unit (R317, R366). -/
def checkCover (sid i : Nat) : Nat :=
  if sid = 0x01 then
    if i < 10 then 2 ^ i else if i = 0x0A then 2 ^ 21 else if i = 0x0B then 2 ^ 22
    else if i = 0x0C then 2 ^ 20 else if 0x10 ≤ i && i < 0x1A then 2 ^ (i - 6) else 0
  else if i < 0x1C then 2 ^ i else 0

/-- The flip-mask applied to word `w` of unit `ui` of copy `c` (R626). -/
def flipCopy (m : Memory) (sid c ui w data chk : Nat) : Memory :=
  let xorB (a : List Byte) (v : Nat) : List Byte := List.zipWith (· ^^^ ·) a (leBytes a.length v)
  if unit32 sid then
    let u := unitRaw m sid c ui
    let v := u.take (8 * w) ++ xorB ((u.drop (8 * w)).take 8) data ++ u.drop (8 * w + 8)
    let cm := (List.range 8).foldl (fun n j => if bitOf chk j then n ||| checkCover sid (8 * w + j) else n) 0
    putUnitRaw m sid c ui (v.take 0x1C ++ xorB (v.drop 0x1C) cm)
  else
    putWordRaw m sid c ui (xorB (memBytes m (dataBase sid c + 8 * ui) 8) data)
      (memByte m (checkBase sid c + ui) ^^^ BitVec.ofNat 8 chk)

/-- An event bit set in its register; the module interrupt follows when GLB_IRQ_STATUS rises. -/
def State.setEvent (s : State) (f : Fld) (i k : Nat) : State := s.irqFrom (s.setBit f i k true)

/-- The data mask of the flip-mask; the key store's data is never changed (R627). -/
def State.flipData (s : State) (sid : Nat) : Nat :=
  if sid = 0x73 then 0 else s.rd INTEG_FLIP_DATA_LO_flip_data + 2 ^ 32 * s.rd INTEG_FLIP_DATA_HI_flip_data

/-- The flip-mask is spent on the word at a byte offset (R626). -/
def State.flipSpent (s : State) (off : Nat) : State :=
  ((s.wr INTEG_FLIP_SEL_flip_armed 0).wr INTEG_FLIP_LAST_flip_offset off).setEvent INTEG_EVENT_flip_fired 0 0

/-- The armed flip-mask acts on the write of unit `ui` of its structure and disarms (R626). -/
def State.fireFlip (s : State) (sid ui : Nat) : State :=
  if s.rd INTEG_FLIP_SEL_flip_armed = 1 ∧ s.rd INTEG_FLIP_SEL_flip_sid = sid then
    let w := s.rd INTEG_FLIP_SEL_flip_word
    let cp := s.rd INTEG_FLIP_SEL_flip_copy
    let data := s.flipData sid
    let chk := s.rd INTEG_FLIP_CHK_flip_chk
    let sel := if paired sid then (copies sid).filter (fun c => bitOf cp c) else [0]
    let s1 := { s with mem := sel.foldl (fun m c => flipCopy m sid c ui w data chk) s.mem }
    s1.flipSpent (unitBytes sid * ui + 8 * w)
  else s

/-! ### Configuration RAM (sid 0x71; log entry 13) -/

/-- A register held in configuration RAM: a profile in force, the registry of a table, and the configuration of a queue pair
or a stream channel (R589). Word `w` of configuration RAM holds the registers at offsets 8w and 8w + 4. -/
def cfgReg (off : Nat) : Bool :=
  (0x8100 ≤ off && off < 0x8400 && (off - 0x8100) % 0x30 < 0x20) || (0x8400 ≤ off && off < 0x9000) ||
    (0x9800 ≤ off && off < 0x9C00 && off % 16 < 4) || (0xA400 ≤ off && off < 0xA7F0 && off % 16 < 8) ||
    (0xE100 ≤ off && off < 0xE500 && (off - 0xE100) % 0x40 < 0x20)

/-- Where word `w` of configuration RAM stands in its structure: the manual gives no layout (log entry 13). -/
def cfgPlace (w : Nat) : Nat := (Config.configRamWord w).toNat

/-- The failing bytes of a word of configuration RAM; 0 while it passes. -/
def State.cfgSyn (s : State) (w : Nat) : Nat := storeGetD 0 s.integ.cfgBad w

/-- A word of configuration RAM with its failing bytes. -/
def State.setCfgSyn (s : State) (w syn : Nat) : State :=
  { s with integ := { s.integ with cfgBad := storeSetD 0 s.integ.cfgBad w syn } }

/-- Some word of the registers of `[lo, hi)` fails parity. -/
def State.cfgFails (s : State) (lo hi : Nat) : Bool := s.integ.cfgBad.any (fun e => lo ≤ 8 * e.1 && 8 * e.1 < hi)

/-- The registers of a profile, a queue pair and a stream channel in configuration RAM. -/
def State.profFails (s : State) (p : Nat) : Bool := s.cfgFails (0x8400 + 0x60 * p) (0x8400 + 0x60 * p + 0x60)
def State.pairFails (s : State) (q : Nat) : Bool := s.cfgFails (0x8100 + 0x30 * q) (0x8100 + 0x30 * q + 0x20)
def State.chanFails (s : State) (c : Nat) : Bool := s.cfgFails (0xE100 + 0x40 * c) (0xE100 + 0x40 * c + 0x20)

/-- The fields of a register with the bits of `v` inverted. -/
def State.xorReg (s : State) (off v : Nat) : State :=
  (regFields off).foldl (fun s fi => s.wri fi.1 fi.2 (s.rdi fi.1 fi.2 ^^^ bitsOf v fi.1.lo fi.1.width)) s

/-- The bytes of a word in which `data` and `chk` break the parity, bit b for byte b. -/
def flipSyn (data chk : Nat) : Nat :=
  bitsNat ((List.range 8).map (fun b => oddParity (BitVec.ofNat 8 (data / 2 ^ (8 * b))) == bitOf chk b))

/-- The armed flip-mask acts on the word of a write that stands lowest in configuration RAM: its registers' bits are inverted,
and the bytes whose parity breaks fail (R601, R626). -/
def State.fireFlipCfg (s : State) (ws : List Nat) : State :=
  if s.rd INTEG_FLIP_SEL_flip_armed = 1 ∧ s.rd INTEG_FLIP_SEL_flip_sid = 0x71 then
    match ws.find? (fun w => ws.all (fun v => cfgPlace w ≤ cfgPlace v)) with
    | none => s
    | some w =>
      let d := s.flipData 0x71
      let flip (s : State) (off v : Nat) : State := if cfgReg off then s.xorReg off v else s
      let s1 := flip (flip s (8 * w) (d % 2 ^ 32)) (8 * w + 4) (d / 2 ^ 32)
      (s1.setCfgSyn w (s.cfgSyn w ^^^ flipSyn d (s.rd INTEG_FLIP_CHK_flip_chk))).flipSpent (8 * cfgPlace w)
  else s

/-- One word of configuration RAM written: with fresh parity it passes again, and a write that arrived with poison leaves all
of it failing; the seen list forgets it (R594, R601, R604). -/
def State.cfgWord (s : State) (w : Nat) : State :=
  let t := (if s.integ.epWrite then (s.setCfgSyn w 0xFF).inc INTEG_POISON_COUNT_poison_stored else s.setCfgSyn w 0)
  t.forget 0x71 (8 * cfgPlace w) (8 * cfgPlace w + 8)

/-- Registers of configuration RAM written, by their offsets; an armed flip-mask then acts (R601, R626). -/
def State.cfgWritten (s : State) (offs : List Nat) : State :=
  let ws := sortNat ((offs.filter cfgReg).map (· / 8))
  (ws.foldl State.cfgWord s).fireFlipCfg ws

/-- The registers from an offset on. -/
def regsFrom (off n : Nat) : List Nat := (List.range n).map (fun i => off + 4 * i)

/-- A 32-byte unit written with fresh parity in every copy by a writer other than the fill and repair. -/
def State.storeUnit (s : State) (sid ui : Nat) (u : List Byte) : State :=
  (({ s with mem := putUnit s.mem sid ui u }).forget sid (32 * ui) (32 * ui + 32)).fireFlip sid ui

/-- An 8-byte word written with fresh parity in every copy by a writer other than the fill and repair. -/
def State.storeWord (s : State) (sid wi : Nat) (d : List Byte) : State :=
  (({ s with mem := putWord s.mem sid wi d }).forget sid (8 * wi) (8 * wi + 8)).fireFlip sid wi

/-- One byte of an 8-byte-unit structure written with its own fresh parity bit, in every copy. -/
def putByte (m : Memory) (sid off : Nat) (b : Byte) : Memory :=
  (copies sid).foldl (fun m c =>
    let chk := memByte m (checkBase sid c + off / 8)
    let bit : Byte := BitVec.ofNat 8 (2 ^ (off % 8))
    memSetByte (memSetByte m (dataBase sid c + off) b) (checkBase sid c + off / 8)
      (if oddParity b then chk ||| bit else chk &&& ~~~ bit)) m

/-- Bytes of an 8-byte-unit structure written from offset `off` upward; a `none` is a byte enable that is off. -/
def putBytes : Memory → Nat → Nat → List (Option Byte) → Memory
  | m, _, _, [] => m
  | m, sid, off, none :: bs => putBytes m sid (off + 1) bs
  | m, sid, off, some b :: bs => putBytes (putByte m sid off b) sid (off + 1) bs

/-- Bytes of an 8-byte-unit structure written by a writer other than the fill and repair; an armed flip-mask acts on
the lowest word written. -/
def State.storeBytes (s : State) (sid off : Nat) (bs : List (Option Byte)) : State :=
  match bs.findIdx? (·.isSome) with
  | none => s
  | some k =>
    (({ s with mem := putBytes s.mem sid off bs }).forget sid (off + k) (off + bs.length)).fireFlip sid ((off + k) / 8)

/-- Bytes of BAR2 RAM written by the module. -/
def State.bar2Put (s : State) (off : Nat) (bs : List Byte) : State := s.storeBytes sidBar2 off (bs.map some)

/-- Bytes of BAR2 RAM. -/
def State.bar2Get (s : State) (off n : Nat) : List Byte := memBytes s.mem (dataBase sidBar2 0 + off) n

/-- A little-endian number of BAR2 RAM. -/
def State.bar2Nat (s : State) (off n : Nat) : Nat := leNat (s.bar2Get off n)

/-- Whether any word of a byte range of a single-copy structure holds poison. -/
def State.rangePoison (s : State) (sid off len : Nat) : Bool :=
  (List.range ((off + len + 7) / 8 - off / 8)).any (fun k => wordSyn s.mem sid 0 (off / 8 + k) != 0)

/-! ### Event records (R259 to R264) -/

/-- The module's own chain address. -/
def State.ownAddr (s : State) : Nat := s.rd CHN_STATUS_address

/-- The module holds the follower role. -/
def State.isFollower (s : State) : Bool := s.rd CHN_STATUS_role == 2

/-- The module holds the head role. -/
def State.isHead (s : State) : Bool := s.rd CHN_STATUS_role == 1

/-- `n` bytes of a list, padded with zeros. -/
def padTo (n : Nat) (l : List Byte) : List Byte := (l ++ List.replicate (n - l.length) 0).take n

/-- The bytes of an event record before its tail (R259). -/
def eventBody (r : EventRec) : List Byte :=
  leBytes 2 r.code ++ leBytes 1 r.kind ++ leBytes 1 r.block ++ leBytes 1 r.bit ++ leBytes 1 r.member ++
    leBytes 2 0 ++ leBytes 8 r.ply ++ padTo 40 r.payload

/-- An event written into the ring, body first, then its tail; source 1 follows while evt_irq is 1 (R261, R264). -/
def State.writeEvent (s : State) (r : EventRec) : State :=
  let c := s.rd MBX_EVT_STATUS_evt_written
  let at_ := 0x2000 + 0x40 * (c % 64)
  let s1 := (s.bar2Put at_ (eventBody r)).bar2Put (at_ + 0x38) (leBytes 8 c)
  let s2 := s1.wr MBX_EVT_STATUS_evt_written ((c + 1) % 65536)
  if s2.rd MBX_CFG_evt_irq = 1 then s2.raiseSource 1 else s2

/-- The event ring has room for the next event (R261). -/
def State.evtRoom (s : State) : Bool :=
  (s.rd MBX_EVT_STATUS_evt_written + 65536 - s.rd MBX_EVT_STATUS_evt_consumed) % 65536 < 64

/-- A packet queued for the chain (R465). -/
def State.sendPkt (s : State) (p : Packet) : State :=
  { s with chain := { s.chain with tx := s.chain.tx ++ [p] } }.inc CHN_PKT_pkt_out

/-- An event posted: into the ring, held when it is full, dropped when 32 are held (R261, R262); at a follower it
leaves as an EVENT packet instead (R266, R468). -/
def State.postEvent (s : State) (r : EventRec) : State :=
  if s.isFollower then
    s.sendPkt { dst := 0, src := s.ownAddr, kind := 3, tag := 0, fields := 0, payload := eventBody r ++ leBytes 8 0 }
  else if s.evtRoom && s.eupex.evtHeld.isEmpty && s.eupex.evtDropped == 0 then s.writeEvent r
  else if s.eupex.evtHeld.length < 32 && s.eupex.evtDropped == 0 then
    { s with eupex := { s.eupex with evtHeld := s.eupex.evtHeld ++ [r] } }
  else
    (({ s with eupex := { s.eupex with
        evtDropped := countUp 32 s.eupex.evtDropped, evtLostTotal := countUp 32 s.eupex.evtLostTotal } }).inc
      MBX_EVT_LOST_evt_lost).setEvent MBX_EVENT_evt_lost 0 0

/-- The LOST record of R262. -/
def State.lostRec (s : State) : EventRec :=
  { code := 0, kind := 4, block := 0xFF, bit := 0, member := s.ownAddr, ply := s.clk.ply,
    payload := leBytes 4 s.eupex.evtDropped }

/-- Held events written while the ring has room, after the LOST record when events were dropped (R262). -/
def State.drainEvents : Nat → State → State
  | 0, s => s
  | n + 1, s =>
    if !s.evtRoom then s
    else if s.eupex.evtDropped != 0 then
      State.drainEvents n
        ({ s.writeEvent s.lostRec with eupex := { (s.writeEvent s.lostRec).eupex with evtDropped := 0 } })
    else match s.eupex.evtHeld with
      | [] => s
      | r :: rs => State.drainEvents n ({ s with eupex := { s.eupex with evtHeld := rs } }.writeEvent r)

/-- A FIRMWARE event posted (R265). -/
def State.postFw (s : State) (code block : Nat) (payload : List Byte) : State :=
  s.postEvent { code := code, kind := 2, block := block, bit := 0, member := s.ownAddr, ply := s.clk.ply,
                payload := payload }

/-- Whether the setting of event bit `bit` of block `b` posts a REGISTER record: the bits of PWR, CLK and PIN that are
enabled, every bit of SEC, broken of CHN (R445), and five bits of THM whatever reg_events holds (R162, R260). -/
def State.postsRecord (s : State) (b bit : Nat) : Bool :=
  let en := bitOf (s.enables b 0) bit
  let reg := s.rd MBX_CFG_reg_events == 1
  if b = 2 ∧ (bit ≤ 3 ∨ bit = 5) then true
  else if b = 1 ∨ b = 2 ∨ b = 3 ∨ b = 6 then en && reg
  else if b = 16 ∨ (b = 7 ∧ bit = 1) then reg
  else false

/-- ALERT_N is asserted: in the fatal state (R643), and while vin_warn or a slot fault is set and enabled (PWR_EVENT). -/
def State.alertN (s : State) : Bool :=
  s.rd GLB_STATUS_fatal == 1 || (s.rd PWR_EVENT_vin_warn == 1 && s.rd PWR_EVENT_EN_vin_warn == 1) ||
    (s.rd PWR_EVENT_slot_fault_a == 1 && s.rd PWR_EVENT_EN_slot_fault_a == 1) ||
    (s.rd PWR_EVENT_slot_fault_b == 1 && s.rd PWR_EVENT_EN_slot_fault_b == 1)

/-- The condition of SMBus cause bit `b` has come true: the bit is set, and SMB_ALERT_N is asserted when the target is
enabled and alert_mask enables the bit (R728, R729). -/
def State.smbCause (s : State) (b : Nat) : State :=
  if s.bit PIN_SMB_CAUSE_cause 0 b then s
  else
    let t := s.setBit PIN_SMB_CAUSE_cause 0 b true
    if s.rd PIN_SMB_CFG_en = 1 ∧ s.bit PIN_SMB_CFG_alert_mask 0 b then
      { t with pins := { t.pins with smbAlert := true } }
    else t

/-- The state `t` reached from `s`, with the SMBus cause of ALERT_N when ALERT_N has become asserted. -/
def State.alertFrom (s t : State) : State := if !s.alertN && t.alertN then t.smbCause 3 else t

/-- Event bit `k` of instance `i` of a field set by the module: the bit, the interrupt of its block, and its REGISTER
record when the bit changes from 0 to 1. -/
def State.raiseAt (s : State) (f : Fld) (i k : Nat) : State :=
  let s0 := s.setEvent f i k
  let s1 := if f.base = 0x1030 then s.alertFrom s0 else s0
  if s.bit f i k then s1
  else if s.postsRecord (f.base / 4096) (f.lo + k) then
    s1.postEvent { code := 0, kind := 1, block := f.base / 4096, bit := f.lo + k, member := s.ownAddr,
                   ply := s.clk.ply, payload := [] }
  else s1

/-- A one-bit event field set by the module. -/
def State.raise (s : State) (f : Fld) : State := s.raiseAt f 0 0

/-- A one-bit event field of instance `i` set by the module. -/
def State.raisei (s : State) (f : Fld) (i : Nat) : State := s.raiseAt f i 0

/-! ### Integrity reports (R602 to R607) -/

/-- The counter index j of a structure (the table under *Structures*). -/
def sidIndex (sid : Nat) : Option Nat :=
  match sid with
  | 0x01 => some 0 | 0x02 => some 1 | 0x10 => some 2 | 0x13 => some 3 | 0x20 => some 4
  | 0x30 => some 5 | 0x31 => some 6 | 0x32 => some 7 | 0x33 => some 8 | 0x34 => some 9 | 0x35 => some 10
  | 0x36 => some 11 | 0x50 => some 12 | 0x51 => some 13 | 0x60 => some 14 | 0x70 => some 15 | 0x71 => some 16
  | 0x72 => some 17 | 0x73 => some 18 | 0x74 => some 19 | 0x75 => some 20 | _ => none

/-- The 32 bytes of log record `c` (R606). -/
def logBytes (r : Report) (c ply : Nat) : List Byte :=
  leBytes 1 r.sid ++ leBytes 1 r.kind ++ leBytes 1 r.detector ++ leBytes 1 r.copies ++ leBytes 4 r.offset ++
    leBytes 1 r.synA ++ leBytes 1 r.synB ++ leBytes 2 r.detail ++ leBytes 4 c ++ leBytes 8 ply ++ leBytes 8 0

/-- Log words written from register index `k` upward. -/
def State.putLog : State → Nat → List Byte → State
  | s, k, b0 :: b1 :: b2 :: b3 :: bs => State.putLog (s.wri INTEG_LOG_record k (leNat [b0, b1, b2, b3])) (k + 1) bs
  | s, _, _ => s

/-- A log record written while the log has room, else counted as lost (R607). -/
def State.logRecord (s : State) (r : Report) : State :=
  let c := s.rd INTEG_LOG_STATUS_written
  if (c + 65536 - s.rd INTEG_LOG_STATUS_consumed) % 65536 < 64 then
    (s.putLog (8 * (c % 64)) (logBytes r c s.clk.ply)).wr INTEG_LOG_STATUS_written ((c + 1) % 65536)
  else
    ({ s.inc INTEG_LOG_LOST_log_lost with
        integ := { (s.inc INTEG_LOG_LOST_log_lost).integ with lostTotal := countUp 32 s.integ.lostTotal } }).raise
      INTEG_EVENT_log_lost

/-- A new event's key taken into the seen list while it has room (R603). -/
def State.noteSeen (s : State) (key : SeenKey) : State :=
  if s.integ.seen.length < 256 then
    let seen := s.integ.seen ++ [key]
    ((({ s with integ := { s.integ with seen := seen } }).wr INTEG_STATUS_seen_count seen.length).wr
      INTEG_STATUS_seen_full (b2n (seen.length == 256)))
  else s

/-- The counter of the structure that a new event increments: the corrected one, or the uncorrectable one but for kind 4
(R603). -/
def State.countSid (s : State) (r : Report) : State :=
  match sidIndex r.sid with
  | none => s
  | some j => if r.kind = 1 then s.addi INTEG_SID_COUNT_sid_corr j 1
    else if r.kind != 4 then s.addi INTEG_SID_COUNT_sid_uncorr j 1 else s

/-- A detector's report: a repeat when its key is on the seen list, else a new event with its key, log record, counters
and event bit (R603, R605). -/
def State.report (s : State) (r : Report) : State :=
  let key : SeenKey := ⟨r.sid, r.offset, r.kind⟩
  if s.integ.seen.contains key then
    { s.inc INTEG_REPEAT_COUNT_repeat_count with
        integ := { s.integ with repeatTotal := countUp 32 s.integ.repeatTotal } }
  else
    let s3 := ((s.noteSeen key).logRecord r).countSid r
    if r.kind = 1 then
      ({ s3.inc INTEG_CORR_COUNT_corr_count with
          integ := { s3.integ with corrTotal := countUp 32 s3.integ.corrTotal } }).raise INTEG_EVENT_corrected
    else if r.kind = 3 then
      ({ s3.inc INTEG_POISON_COUNT_poison_bites with
          integ := { s3.integ with biteTotal := countUp 32 s3.integ.biteTotal } }).raise INTEG_EVENT_bite
    else
      ({ s3.inc INTEG_UNCORR_COUNT_uncorr_count with
          integ := { s3.integ with uncorrTotal := countUp 32 s3.integ.uncorrTotal } }).raise INTEG_EVENT_uncorrectable

/-- A consumer's read of word `wi` of a structure reported: correctable or uncorrectable as it came (R591, R593). -/
def State.reportRead (s : State) (sid wi detector detail : Nat) : State :=
  let r := readWord s.mem sid wi
  if r.poison then
    s.report ⟨sid, 2, detector, if paired sid then 3 else 1, 8 * wi, r.synA.toNat, r.synB.toNat, detail⟩
  else if r.corrected then
    s.report ⟨sid, 1, detector, b2n (r.synA != 0) + 2 * b2n (r.synB != 0), 8 * wi, r.synA.toNat, r.synB.toNat,
      detail⟩
  else s

/-- A consumer's reads of a byte range of a structure of 8-byte units reported: a word that differs from nothing the fill left
passes. -/
def State.reportRange (s : State) (sid off len detector : Nat) : State :=
  ((listedUnits s.mem sid).filter (fun w => off / 8 ≤ w && w < (off + len + 7) / 8)).foldl
    (fun s w => s.reportRead sid w detector 0xFFFF) s

/-- The failing words of configuration RAM among the registers of `[lo, hi)` reported (R601). -/
def State.cfgReport (s : State) (detector lo hi : Nat) : State :=
  (s.integ.cfgBad.filter (fun e => lo ≤ 8 * e.1 && 8 * e.1 < hi)).foldl
    (fun s e => s.report ⟨0x71, 2, detector, 1, 8 * cfgPlace e.1, e.2, 0, 0xFFFF⟩) s

/-- A consumer acted on poison that was set before it arrived (kind BITE). -/
def State.bite (s : State) (sid detector offset detail : Nat) : State :=
  s.report ⟨sid, 3, detector, 0, offset, 0, 0, detail⟩

/-- Poison stored in word `wi` of a structure (R594), counted in poison_stored. -/
def State.storePoison (s : State) (sid wi : Nat) (d : List Byte) : State :=
  ((({ s with mem := putPoison s.mem sid wi d }).forget sid (8 * wi) (8 * wi + 8)).fireFlip sid
    (if unit32 sid then wi / 4 else wi)).inc INTEG_POISON_COUNT_poison_stored

/-- Bytes of a structure of 8-byte units written, of which those at the positions `bad` arrive with poison: each word that
takes one of them is stored with poison, every other word with fresh parity (R594). -/
def State.storeMixed (s : State) (sid off : Nat) (bs : List Byte) (bad : List Nat) : State :=
  if bad.isEmpty then s.storeBytes sid off (bs.map some)
  else
    let words := sortNat (bad.map (fun i => (off + i) / 8))
    let m := words.foldl (fun m w => putPoison m sid w (memBytes m (dataBase sid 0 + 8 * w) 8))
      (putBytes s.mem sid off (bs.map some))
    words.foldl (fun s _ => s.inc INTEG_POISON_COUNT_poison_stored)
      ((({ s with mem := m } : State).forget sid off (off + bs.length)).fireFlip sid (off / 8))

/-! ### The host link's outgoing side -/

/-- The greatest payload of a TLP that the module sends, and the greatest read that it requests: what the host has set
(R172). -/
def ConfigSpace.payload (c : ConfigSpace) : Nat := min 512 (128 * 2 ^ c.maxPayload.toNat)
def ConfigSpace.request (c : ConfigSpace) : Nat := min 4096 (128 * 2 ^ c.maxReadReq.toNat)

/-- The bytes of the next TLP at an address: at most `most`, and none across a multiple of 4 KiB. -/
def tlpBytes (most addr : Nat) : Nat := min most (4096 - addr % 4096)

/-- The TLPs of a DMA write, in ascending order. -/
def writeTlps (most : Nat) : Nat → Nat → List Byte → List HostTx
  | 0, _, _ => []
  | _, _, [] => []
  | n + 1, a, d =>
    .dmaWrite a (d.take (tlpBytes most a)) :: writeTlps most n (a + tlpBytes most a) (d.drop (tlpBytes most a))

/-- A DMA write issued (R212, R213); none while the function may issue no request (R207). -/
def State.dmaWrite (s : State) (addr : Nat) (data : List Byte) : State :=
  if s.dmaOk then
    { s with host := { s.host with tx := s.host.tx ++ writeTlps s.host.cfg.payload data.length addr data, inL1 := false } }
  else s

/-- The first tag from `t` on that no outstanding request has; at most `n` are passed over. -/
def freeTag (used : List Nat) : Nat → Nat → Nat
  | 0, t => t
  | n + 1, t => if used.contains t then freeTag used n ((t + 1) % 256) else t

/-- The next read request of the oldest job that has bytes to be requested, while the module may issue requests and fewer
than 64 are outstanding (R172, R207). -/
def State.issueRead (s : State) : Option State :=
  match s.host.jobs.find? (fun j => j.issued < j.len) with
  | none => none
  | some j =>
    if s.dmaOk && s.host.reads.length < 64 then
      let a := j.addr + j.issued
      let n := min (j.len - j.issued) (tlpBytes s.host.cfg.request a)
      let t := freeTag (s.host.reads.map (·.tag)) 64 s.host.nextTag
      some { s with host := { s.host with
        jobs := s.host.jobs.map (fun x => if x.id = j.id then { x with issued := x.issued + n } else x)
        reads := s.host.reads ++ [{ tag := t, addr := a, len := n, job := j.id, off := j.issued }]
        nextTag := (t + 1) % 256, inL1 := false } }
    else none

/-- Read requests issued as far as they may be, at most `n` of them. -/
def State.issueReads : Nat → State → State
  | 0, s => s
  | n + 1, s => match s.issueRead with
    | some t => State.issueReads n t
    | none => s

/-- A DMA read: its requests go out as R172 and R207 allow, and it waits until all its data has come. -/
def State.dmaRead (s : State) (addr len : Nat) (use : DmaUse) : State :=
  State.issueReads 64
    { s with host := { s.host with
        jobs := s.host.jobs ++
          [{ id := s.host.nextJob, use := use, addr := addr, len := len, issued := 0, parts := [], poison := false }]
        nextJob := s.host.nextJob + 1 } }

/-- The consumer of DMA reads has gone: nothing more is requested for them, and what is outstanding is discarded when it
comes. -/
def State.dropJobs (s : State) (p : DmaUse → Bool) : State :=
  { s with host := { s.host with
      jobs := s.host.jobs.filterMap (fun j =>
        if !p j.use then some j
        else if s.host.reads.any (fun r => r.job == j.id) then
          some { j with use := .dropped, len := j.issued, parts := [], poison := false }
        else none) } }

/-- The completion of a host read, sent after every DMA write issued before its data was taken (R213). -/
def State.reply (s : State) (data : List Byte) (ep : Bool) (st : CplStatus) : State :=
  { s with host := { s.host with tx := s.host.tx ++ [.completion data ep st], inL1 := false } }

/-- The severity of an AER error: correctable, or as its severity bit says (R202). -/
def State.severity (s : State) (e : AerError) : ErrSeverity :=
  if [AerError.receiverError, .badTlp, .badDllp, .replayRollover, .replayTimeout, .advisory].contains e then .correctable
  else if s.host.aerFatal.contains e then .fatal else .nonFatal

/-- The status bit of an AER error set. -/
def State.aerBit (s : State) (e : AerError) : State :=
  if s.host.aer.contains e then s else { s with host := { s.host with aer := s.host.aer ++ [e] } }

/-- An AER error signalled (R202): its status bit, and its message where the error is not masked and the host has enabled
messages of its severity (log entry 121). -/
def State.aer (s : State) (e : AerError) : State :=
  let t := s.aerBit e
  if s.host.aerMask.contains e || !s.host.cfg.errEnable.contains (s.severity e) then t
  else { t with host := { t.host with tx := t.host.tx ++ [.error (s.severity e)], inL1 := false } }

/-- A case that the base specification treats as advisory (R202): the error is signalled as Advisory Non-Fatal while its
severity is non-fatal. -/
def State.aerAdvisory (s : State) (e : AerError) : State :=
  if s.severity e = .nonFatal then (s.aerBit e).aer .advisory else s.aer e

/-- A write that was discarded in whole or in part, or carried a 1 in a reserved bit: bad_write (R12, R14). -/
def State.badWrite (s : State) : State := s.raise GLB_STATUS_bad_write

/-- A discarded write of a wrong size: bad_size and bad_write (R181, R184, R194). -/
def State.badSize (s : State) : State := (s.raise GLB_STATUS_bad_size).raise GLB_STATUS_bad_write

/-! ### Claims -/

/-- Block `b` is claimed by the host (GLB_CLAIM). -/
def State.claimed (s : State) (b : Nat) : Bool := s.bit GLB_CLAIM_claimed 0 b

/-- The state with its memory and its register file in canonical form. The named operations keep that form, so that this
changes neither. -/
def State.settled (s : State) : State :=
  { s with mem := storeCanon Memory.fill s.mem, regs := storeCanon (fun _ => 0) s.regs }

/-- The end of every command: the next state. -/
def ok (s : State) : Out := .next s.settled

end Sys2Proof.Machine
end

