-- ==== Sys2Proof/Machine/Operands.lean ====
section
/-! DEFINITION. The operands of a Eupex command: its parameter bytes (R229, R233) and its references to mailbox data RAM
(R234). -/

namespace Sys2Proof.Machine

/-- `n` parameter bytes from byte `o`; a byte at or beyond param_len reads as 0 (R233). -/
def Cmd.bytes (c : Cmd) (o n : Nat) : List Byte := padTo n (c.params.drop o)

/-- The little-endian number in `n` parameter bytes from byte `o`. -/
def Cmd.nat (c : Cmd) (o n : Nat) : Nat := leNat (c.bytes o n)

/-- Parameter byte `o`. -/
def Cmd.u8 (c : Cmd) (o : Nat) : Nat := c.nat o 1

/-- The 16-bit parameter at byte `o`. -/
def Cmd.u16 (c : Cmd) (o : Nat) : Nat := c.nat o 2

/-- The 32-bit parameter at byte `o`. -/
def Cmd.u32 (c : Cmd) (o : Nat) : Nat := c.nat o 4

/-- The 64-bit parameter at byte `o`. -/
def Cmd.u64 (c : Cmd) (o : Nat) : Nat := c.nat o 8

/-- The first byte of `[o, o + n)` that is not 0, if any: the detail of a reserved range that fails (R238). -/
def Cmd.notZero (c : Cmd) (o n : Nat) : Option Nat :=
  if (c.bytes o n).all (· == 0) then none else some o

/-- A check that fails with a detail when its condition does not hold. -/
def need (cond : Bool) (detail : Nat) : Option Nat := if cond then none else some detail

/-- The first failing check of a list, in parameter order (R238, R239). -/
def firstFail : List (Option Nat) → Option Nat
  | [] => none
  | some d :: _ => some d
  | none :: cs => firstFail cs

/-- The mailbox data RAM reference at parameter byte `o`: offset and length (R234). -/
def Cmd.ref (c : Cmd) (o : Nat) : Nat × Nat := (c.u32 o, c.u32 (o + 4))

/-- The check of a mailbox data RAM reference (R234). -/
def Cmd.refCheck (c : Cmd) (o : Nat) : Option Nat :=
  let r := c.ref o
  need (r.1 % 64 == 0 && r.1 + r.2 ≤ 512 * 1024) o

/-- The BAR2 offset of mailbox data RAM. -/
def dataRam : Nat := 0x10000

/-- The bytes of a referenced range. -/
def State.refBytes (s : State) (r : Nat × Nat) : List Byte := s.bar2Get (dataRam + r.1) r.2

/-- Whether a referenced range holds poison (R597). -/
def State.refPoison (s : State) (r : Nat × Nat) : Bool := r.2 != 0 && s.rangePoison sidBar2 (dataRam + r.1) r.2

/-- Bytes written into a referenced range from its start. -/
def State.refPut (s : State) (r : Nat × Nat) (o : Nat) (bs : List Byte) : State := s.bar2Put (dataRam + r.1 + o) bs

/-- The bits of a byte string, bit k in byte k div 8 at k mod 8. -/
def bitmap (bs : List Byte) (k : Nat) : Bool := (bs.getD (k / 8) 0).getLsbD (k % 8)

/-- The numbers below `n` whose bit is set in a bitmap. -/
def bitmapList (bs : List Byte) (n : Nat) : List Nat := (List.range n).filter (bitmap bs)

/-- The `n`-byte bitmap of a list of numbers. -/
def listBitmap (n : Nat) (l : List Nat) : List Byte :=
  (List.range n).map (fun i => BitVec.ofNat 8 (bitsNat ((List.range 8).map (fun j => l.contains (8 * i + j)))))

end Sys2Proof.Machine
end

