-- ==== Sys2Proof/Machine/Mail.lean ====
section
/-! DEFINITION. The mailbox engine: slots, counts, responses, the taking and the completion of commands, claims and their
conflicts (chapter *Eupex mailboxes and the two levels of control*). -/

namespace Sys2Proof.Machine
open Reg

/-! ### Status codes (R268) -/

def stOk : Nat := 0x00
def stBusy : Nat := 0x01
def stBadOpcode : Nat := 0x02
def stBadParam : Nat := 0x03
def stNoRoom : Nat := 0x04
def stNotFound : Nat := 0x05
def stDenied : Nat := 0x06
def stWrongState : Nat := 0x07
def stMediaGone : Nat := 0x08
def stPoisoned : Nat := 0x09
def stTimeout : Nat := 0x0A
def stAborted : Nat := 0x0B
def stExpertHeld : Nat := 0x0C
def stOtpExhausted : Nat := 0x0D
def stVoid : Nat := 0x0E
def stRoleFollower : Nat := 0x0F

/-! ### Mailboxes -/

/-- The index of a mailbox; the chain port's place comes after the four of BAR2. -/
def mbIdx : Mb → Nat
  | .urgent => 0 | .table => 1 | .media => 2 | .bulk => 3 | .relay => 4

/-- Mailbox m of BAR2. -/
def mbOf : Nat → Mb
  | 0 => .urgent | 1 => .table | 2 => .media | 3 => .bulk | _ => .relay

/-- A mailbox's engine state. -/
def State.mbx (s : State) (m : Mb) : Mailbox := s.eupex.mailboxes.getD (mbIdx m) ⟨none, []⟩

/-- A mailbox's engine state replaced. -/
def State.setMbx (s : State) (m : Mb) (b : Mailbox) : State :=
  { s with eupex := { s.eupex with mailboxes := listSet s.eupex.mailboxes (mbIdx m) b } }

/-- The BAR2 offset of the slot of the command with count `c` of mailbox index `i` (R179, R229). -/
def slotAt (i c : Nat) : Nat := 0x800 * i + 0x100 * (c % 8)

/-- The last accepted doorbell count of a mailbox (R236). -/
def State.posted (s : State) (m : Mb) : Nat := s.rdi MBX_MB_STATUS_posted (mbIdx m)

/-- The done count of a mailbox (R237). -/
def State.doneCnt (s : State) (m : Mb) : Nat := s.rdi MBX_MB_STATUS_done (mbIdx m)

/-- The counts of END, ABORTED and VOID completions, and their MBX_EVENT bits. -/
def State.countEnd (s : State) (st : Nat) : State :=
  if st = stTimeout then s.inc MBX_END_COUNT_timeouts
  else if st = stAborted then (s.inc MBX_END_COUNT_aborted).raise MBX_EVENT_abort_issued
  else if st = stVoid then (s.inc MBX_VOID_COUNT_voided).raise MBX_EVENT_void_issued
  else s

/-- The next command of a mailbox in count order reaches DONE: response, resp_len, detail and status, then state 0x03
in a later access (R231, R232), then the done count (R237) and the interrupt that its flags ask for (R264). -/
def State.endSlot (s : State) (m : Mb) (flags st detail : Nat) (resp : List Byte) : State :=
  let c := s.doneCnt m
  let a := slotAt (mbIdx m) c
  let s1 := s.bar2Put (a + 0x10) resp
  let s2 := s1.bar2Put (a + 0x0C) (leBytes 2 resp.length ++ leBytes 2 detail)
  let s3 := (s2.bar2Put (a + 0x0A) (leBytes 1 st)).bar2Put (a + 0x0B) (leBytes 1 3)
  let s4 := (s3.wri MBX_MB_STATUS_done (mbIdx m) ((c + 1) % 65536)).countEnd st
  if flags % 2 = 1 then s4.raiseSource 1 else s4

/-- DONE of a command that has not been taken: its flags stand in its slot. -/
def State.finishSlot (s : State) (m : Mb) (st detail : Nat) (resp : List Byte) : State :=
  s.endSlot m (s.bar2Nat (slotAt (mbIdx m) (s.doneCnt m) + 2) 1) st detail resp

/-- Marked ACCEPTED commands that stand next in count order complete with ABORTED (R270). -/
def State.settleMarked : Nat → Mb → State → State
  | 0, _, s => s
  | n + 1, m, s =>
    let c := s.doneCnt m
    if (s.mbx m).taken.isNone && c != s.posted m && (s.mbx m).marked.contains c then
      State.settleMarked n m
        ((s.setMbx m { s.mbx m with marked := (s.mbx m).marked.filter (· != c) }).finishSlot m stAborted 0 [])
    else s

/-- A follower's ACCEPTED commands that stand next in count order complete with ROLE_FOLLOWER (R266). -/
def State.settleFollower : Nat → Mb → State → State
  | 0, _, s => s
  | n + 1, m, s =>
    let c := s.doneCnt m
    if (s.mbx m).taken.isNone && c != s.posted m then
      State.settleFollower n m
        ((s.setMbx m { s.mbx m with marked := (s.mbx m).marked.filter (· != c) }).finishSlot m stRoleFollower 0 [])
    else s

/-- A new follower writes ROLE_FOLLOWER into all 32 command slots once no mailbox holds a TAKEN command (R266). -/
def State.fillFollower (s : State) : State :=
  if s.eupex.fillSlots && (List.range 4).all (fun i => (s.mbx (mbOf i)).taken.isNone) then
    (List.range 32).foldl (fun s k =>
      let a := 0x800 * (k / 8) + 0x100 * (k % 8)
      (s.bar2Put (a + 0x0C) (leBytes 2 0)).bar2Put (a + 0x0A) (leBytes 1 stRoleFollower ++ leBytes 1 3))
      ({ s with eupex := { s.eupex with fillSlots := false } } : State)
  else s

/-- The mailbox data RAM reference that a command names (R234): its parameter byte, and whether the command writes the
range. -/
def cmdRefAt (op : Nat) : Option (Nat × Bool) :=
  match op with
  | 0x0402 => some (0, false)
  | 0x0403 => some (0, true)
  | 0x0502 => some (0, true)
  | 0x0608 => some (4, false)
  | 0x0609 => some (4, true)
  | 0x0903 => some (4, false)
  | 0x0A20 => some (8, true)
  | 0x0A21 => some (8, false)
  | 0x0C02 => some (0, false)
  | 0x0C07 => some (8, true)
  | 0x1002 => some (0, false)
  | 0x1106 => some (4, true)
  | 0x1107 => some (4, false)
  | _ => none

/-- The range that a command names, where its reference is well formed. -/
def Cmd.range (c : Cmd) : Option (Nat × Nat) :=
  match cmdRefAt c.opcode with
  | some (o, _) => if (c.refCheck o).isNone then some (c.ref o) else none
  | none => none

/-- The response slot of a relayed command: its image with the response written in (R231, R466). -/
def rspSlot (slot : List Byte) (st detail : Nat) (resp : List Byte) : List Byte :=
  padTo 10 slot ++ leBytes 1 st ++ leBytes 1 3 ++ leBytes 2 resp.length ++ leBytes 2 detail ++ resp ++
    (padTo 256 slot).drop (16 + resp.length)

/-- The range that a relayed command has written, for its RSP packet (R466). -/
def State.rspRange (s : State) (c : Cmd) : List Byte :=
  match cmdRefAt c.opcode, c.range with
  | some (_, true), some r => s.refBytes r
  | _, _ => []

/-- The command that a mailbox is running reaches DONE with a status, a detail and a response. A relayed command's
response returns to the head as an RSP packet, with the data RAM range that the command wrote (R466). At a follower the
ACCEPTED commands behind it follow with ROLE_FOLLOWER (R266). A mailbox that runs no command has nothing to complete. -/
def State.finish (s : State) (m : Mb) (st detail : Nat) (resp : List Byte) : State :=
  match m with
  | .relay =>
    match s.chain.relayCur with
    | none => s.setMbx .relay ⟨none, []⟩
    | some r =>
      let range := match (s.mbx .relay).taken with
        | some c => s.rspRange c
        | none => []
      (({ s with chain := { s.chain with relayCur := none } }.setMbx .relay ⟨none, []⟩).countEnd st).sendPkt
        { dst := r.src, src := s.ownAddr, kind := 2, tag := r.tag, fields := 0,
          payload := rspSlot r.slot st detail resp ++ range }
  | m =>
    match (s.mbx m).taken with
    | none => s
    | some c =>
      -- the flags are those of the copy (R233)
      let t := ((s.setMbx m { s.mbx m with taken := none }).wri MBX_MB_INFO_cur_opcode (mbIdx m) 0).endSlot m c.flags st detail
        resp
      if t.isFollower then (State.settleFollower 8 m t).fillFollower else State.settleMarked 8 m t

/-- The core that holds a command is halted: the guard core holds the GUARD commands beside the control core (R666). -/
def State.haltHolds (s : State) (c : Cmd) : Bool :=
  s.rd DBG_HALT_ctl_halt == 1 || (c.opcode / 256 == 0x0C && s.rd DBG_HALT_grd_halt == 1)

/-- A command completes; one that a halted core holds stays TAKEN with its answer until the core runs again (R666). -/
def State.done (s : State) (m : Mb) (st detail : Nat) (resp : List Byte) : State :=
  match (s.mbx m).taken with
  | none => s.finish m st detail resp
  | some c =>
    if s.haltHolds c then
      s.setMbx m { s.mbx m with taken := some { c with stage := .waiting, answer := some (c.answer.getD (st, detail, resp)) } }
    else s.finish m st detail resp

/-- DONE with OK and a response. -/
def State.okResp (s : State) (m : Mb) (resp : List Byte) : State := s.done m stOk 0 resp

/-- DONE with a status and no response. -/
def State.fail (s : State) (m : Mb) (st : Nat) : State := s.done m st 0 []

/-- DONE with BAD_PARAM and the offset of the first field that failed (R238). -/
def State.badParam (s : State) (m : Mb) (detail : Nat) : State := s.done m stBadParam detail []

/-- The command runs on until an event completes it. -/
def State.wait (s : State) (m : Mb) : State :=
  match (s.mbx m).taken with
  | none => s
  | some c => s.setMbx m { s.mbx m with taken := some { c with stage := .waiting } }

/-- The four mailboxes of BAR2. -/
def hostMbs : List Mb := [.urgent, .table, .media, .bulk]

/-- The command of a mailbox that waits, with opcode `op`. -/
def State.waiting (s : State) (m : Mb) (op : Nat) : Bool :=
  match (s.mbx m).taken with
  | some c => c.opcode == op && c.stage == .waiting && !c.relayed && c.answer.isNone && c.stop.isNone
  | none => false

/-- The mailboxes whose command with opcode `op` waits. -/
def State.waiters (s : State) (op : Nat) : List Mb := (hostMbs ++ [Mb.relay]).filter (fun m => s.waiting m op)

/-- A SYS.ABORT that waits for its target completes once that command is DONE (R270). -/
def State.settleAborts (s : State) : State :=
  (s.waiters 0x0106).foldl (fun s m =>
    match (s.mbx m).taken with
    | some c => if (s.mbx (mbOf (c.u8 0))).taken.isNone then s.okResp m [2] else s
    | none => s) s

/-- Updates that take back what a mailbox's command has committed are waiting at the port (R244). -/
def State.undoing (s : State) (m : Mb) : Bool := s.tbl.queue.any (fun r => r.origin == .undo m)

/-- A stopped command stays TAKEN while its updates are taken back; it keeps the first status (R244; log entry 60). -/
def State.holdStop (s : State) (m : Mb) (st : Nat) : State :=
  match (s.mbx m).taken with
  | none => s
  | some c => s.setMbx m { s.mbx m with taken := some { c with stage := .waiting, stop := some (c.stop.getD st) } }

/-- A stopped command completes, and a SYS.ABORT that waits for it (R270). -/
def State.endStopped (s : State) (m : Mb) (st : Nat) : State := (s.finish m st 0 []).settleAborts

/-- A stopped command completes once nothing of it is left to take back (R244). A load that a record's refusal has ended completes
as any command does. -/
def State.settleUndo (s : State) (m : Mb) : State :=
  if s.undoing m then s
  else match ((s.mbx m).taken.bind (·.stop)) with
    | none => s
    | some st => if st < stTimeout then s.fail m st else s.endStopped m st

/-- The answers that no halted core holds any more are given (R666). -/
def State.settleHalt (s : State) : State :=
  ((hostMbs ++ [Mb.relay]).foldl (fun s m =>
    match (s.mbx m).taken with
    | some c => match c.answer with
      | some a => if s.haltHolds c then s else s.finish m a.1 a.2.1 a.2.2
      | none => s
    | none => s) s).settleAborts

/-! ### Opcodes (R239) -/

/-- The opcodes that the module defines. -/
def opcodes : List Nat :=
  (List.range 8).map (0x0101 + ·) ++ (List.range 6).map (0x0201 + ·) ++ [0x0220, 0x0221] ++
  (List.range 4).map (0x0301 + ·) ++ (List.range 5).map (0x0401 + ·) ++ (List.range 5).map (0x0501 + ·) ++
  (List.range 12).map (0x0601 + ·) ++ (List.range 4).map (0x0701 + ·) ++
  [0x0801, 0x0802, 0x0803, 0x0810, 0x0811, 0x0812] ++ (List.range 4).map (0x0901 + ·) ++
  (List.range 5).map (0x0A01 + ·) ++ [0x0A10, 0x0A11, 0x0A12, 0x0A20, 0x0A21, 0x0A22] ++
  (List.range 4).map (0x0B01 + ·) ++ (List.range 7).map (0x0C01 + ·) ++ (List.range 6).map (0x0D01 + ·) ++
  (List.range 9).map (0x0E01 + ·) ++ (List.range 4).map (0x0F01 + ·) ++ (List.range 3).map (0x1001 + ·) ++
  (List.range 7).map (0x1101 + ·)

/-- Whether mailbox `m` accepts an opcode (the table of R239). -/
def accepts (m : Mb) (op : Nat) : Bool :=
  let d := op / 256
  if op = 0x0106 then m == .urgent
  else match m with
    | .urgent => [0x01, 0x02, 0x03, 0x0E, 0x0F].contains d
    | .table => [0x01, 0x06, 0x07, 0x08, 0x09, 0x0D, 0x05].contains d
    | .media => [0x01, 0x0A, 0x0B, 0x0C].contains d
    | .bulk => true
    | .relay => true

/-- The engine of a logical table: 1 TCAM, 2 EXACT, 4 LPM, 0 undefined (TCAM_TBL_CFG). -/
def State.tblEngine (s : State) (t : Nat) : Nat := if t < 64 then s.rdi TCAM_TBL_CFG_engine t else 0

/-- The block that a write to table `t` concerns; 0x40 names the direct index. -/
def State.tblBlock (s : State) (t : Nat) : List Nat :=
  if t = 0x40 then [11]
  else match s.tblEngine t with
    | 1 => [9] | 2 => [10] | 4 => [12] | _ => []

/-- The blocks whose registers or window structures a command writes (R255). -/
def State.cmdWrites (s : State) (c : Cmd) : List Nat :=
  match c.opcode with
  | 0x0103 => [18]
  | 0x0202 | 0x0203 | 0x0204 | 0x0205 | 0x0206 => [1]
  | 0x0221 => [3]
  | 0x0302 | 0x0303 => [2]
  | 0x0402 | 0x0403 | 0x0404 | 0x0405 => [4]
  | 0x0501 | 0x0503 | 0x0504 | 0x0505 => [7]
  | 0x0601 => match c.u8 1 with | 1 => [9] | 2 => [10] | 4 => [12] | _ => []
  | 0x0602 | 0x0608 | 0x060A | 0x060B => s.tblBlock (c.u8 0)
  | 0x0603 | 0x0604 | 0x0606 | 0x0607 => [9]
  | 0x060C => [11]
  | 0x0701 | 0x0702 | 0x0704 => s.tblBlock (c.u8 0)
  | 0x0801 | 0x0803 | 0x0810 | 0x0811 | 0x0812 => [8]
  | 0x0901 | 0x0903 | 0x0904 => [10]
  | 0x0A02 | 0x0A03 | 0x0A04 | 0x0A05 | 0x0A10 | 0x0A11 | 0x0A12 | 0x0A20 | 0x0A21 | 0x0A22 => [15]
  | 0x0B01 | 0x0B02 | 0x0B03 => [14]
  | 0x0D02 | 0x0D03 | 0x0D04 | 0x0D05 => [13]
  | 0x0D06 => if c.u8 1 % 2 = 1 then [13] else []
  | 0x0E01 | 0x0E03 | 0x0E04 | 0x0E05 | 0x0E06 | 0x0E07 | 0x0E08 | 0x0E09 => [6]
  | 0x0F01 | 0x0F03 => [18]
  | 0x0F04 => [18, 19]
  | 0x1002 => [19]
  | 0x1003 => if c.u8 1 = 1 then [18, 19] else [19]
  | 0x1102 | 0x1103 | 0x1104 | 0x1105 | 0x1107 => [19]
  | _ => []

/-- The block that an update at the port writes. -/
def State.updBlock (s : State) : UpdOp → List Nat
  | .tcamWrite .. | .tcamDelete .. | .tcamResult .. | .tcamImage .. | .tcamUndo .. | .tcamCreate .. | .grow .. | .shrink .. => [9]
  | .exactWrite .. | .exactDelete .. | .exactResult .. | .exactBack .. | .exactImage .. | .exactCreate .. | .flush .. => [10]
  | .dixWrite .. | .dixImage .. | .dixLimit _ => [11]
  | .lpmInsert .. | .lpmDelete .. | .lpmResult .. | .lpmImage .. | .lpmDefault .. | .lpmCreate .. => [12]
  | .delTable t => s.tblBlock t
  | .hide t _ => s.tblBlock t
  | .clear t => s.tblBlock t
  | .guardWrite .. | .guardClear _ => [9]

/-- The blocks that the running command of a mailbox writes: those of its opcode, of what it has at the update port, of the
updates of its warm start, and of a deleted table whose blocks or entries are not free yet (R253). -/
def State.runWrites (s : State) (m : Mb) (c : Cmd) : List Nat :=
  s.cmdWrites c ++
    s.tbl.queue.flatMap (fun r => match r.origin with
      | .mb n => if n = m then s.updBlock r.op else []
      | .warm _ => if s.cores.warm.map (·.mb) = some m then s.updBlock r.op else []
      | .undo n => if n = m then s.updBlock r.op else []
      | _ => []) ++
    s.tbl.releases.flatMap (fun r =>
      if r.mb ≠ m then []
      else match r.sweep with
        | none => [9]
        | some t => if t < 63 ∧ s.rdi HASH_TBL_CFG_sweep t = 1 then [10] else [12])

/-- The first claimed block among those a command writes (R238, R255). -/
def State.heldBlock (s : State) (c : Cmd) : Option Nat := (s.cmdWrites c).find? s.claimed

/-- The command with opcode `op` that mailbox `m` has taken and not begun, while the control core is not halted (R666). -/
def State.takenCmd (s : State) (m : Mb) (op : Nat) : Option Cmd :=
  match (s.mbx m).taken with
  | some c => if c.opcode = op ∧ c.stage = .fresh ∧ c.relayed = false ∧ s.rd DBG_HALT_ctl_halt = 0 then some c else none
  | none => none

/-- A command's meaning on the copy that its mailbox has taken: EXPERT_HELD when it writes a claimed block (R255), else
its body. DESIGN CHOICE (log entry 191): this comes before the checks of the parameters. Where the mailbox has not taken such a command,
nothing happens. -/
def runCmd (m : Mb) (op : Nat) (s : State) (body : Cmd → State → State) : Out :=
  match s.takenCmd m op with
  | none => ok s
  | some c =>
    match s.heldBlock c with
    | some b => ok (s.done m stExpertHeld b [])
    | none => ok (body c s)

/-- A command's body after its parameter checks: BAD_PARAM with the first failing offset, else the effect. -/
def checked (m : Mb) (checks : List (Option Nat)) (s : State) (effect : State → State) : State :=
  match firstFail checks with
  | some d => s.badParam m d
  | none => effect s

/-! ### Conflicts of R256 -/

/-- Work that needs a write to claimed block `b` is skipped (`how` 1) or waits (`how` 2): counted, and an
EXPERT_CONFLICT record posted, at most one per block in each 1 ms (400,000 plies). DESIGN CHOICE (log entry 192): what is counted in
that time is reported with the next conflict after it. -/
def State.conflict (s : State) (b action how : Nat) : State :=
  let s1 := (((s.inc MBX_CONFLICT_conflict_count).wr MBX_CONFLICT_last_block b)).raise MBX_EVENT_expert_conflict
  let old := ((s1.eupex.conflicts.find? (fun c => c.block == b)) : Option Conflict).getD ({ block := b, action := action, how := how, count := 0, lastPly := none } : Conflict)
  let rest : List Conflict := s1.eupex.conflicts.filter (fun c => c.block != b)
  let due := match old.lastPly with
    | none => true
    | some p => p + 400000 ≤ s1.clk.ply
  if due then
    ({ s1 with eupex := { s1.eupex with
        conflicts := rest ++ [Conflict.mk b action how 0 (some s1.clk.ply)] } } : State).postEvent
      { code := 0x0105, kind := 3, block := b, bit := 0, member := s1.ownAddr, ply := s1.clk.ply,
        payload := leBytes 2 action ++ leBytes 1 how ++ leBytes 1 0 ++ leBytes 4 (old.count + 1) }
  else
    { s1 with eupex := { s1.eupex with conflicts := rest ++ [Conflict.mk b action how (old.count + 1) old.lastPly] } }

end Sys2Proof.Machine
end

