-- ==== Sys2Proof/Machine/Access.lean ====
section
/-! DEFINITION. Register access by the host: the fields of a written register, the two levels of control, and the shape
of a register write that has an operation of its own (R11 to R18, R180 to R191). -/

namespace Sys2Proof.Machine
open Reg

/-- The value a written word carries in a field. -/
def fieldOf (w : RegWord) (f : Fld) : Nat := bitsOf w.toNat f.lo f.width

/-- The bits of a register that some field occupies; every other bit is reserved. -/
def coverMask (off : Nat) : Nat := (regFields off).foldl (fun n fi => n ||| ((2 ^ fi.1.width - 1) * 2 ^ fi.1.lo)) 0

/-- Whether a written word carries a 1 in a reserved bit (R12). -/
def reservedSet (off : Nat) (w : RegWord) : Bool := w.toNat &&& (2 ^ 32 - 1 - coverMask off) != 0

/-- bad_write set when a written word carries a 1 in a reserved bit (R12). -/
def State.noteReserved (s : State) (off : Nat) (w : RegWord) : State := if reservedSet off w then s.badWrite else s

/-- Every RW field of a register set to what a written word carries. -/
def State.wrRW (s : State) (off : Nat) (w : RegWord) : State :=
  (regFields off).foldl (fun s fi => if fi.1.acc = .rw then s.wri fi.1 fi.2 (fieldOf w fi.1) else s) s

/-- A 1 in a W1C bit clears it. -/
def State.wrW1C (s : State) (off : Nat) (w : RegWord) : State :=
  (regFields off).foldl (fun s fi =>
    if fi.1.acc = .w1c then
      s.wri fi.1 fi.2 (s.rdi fi.1 fi.2 &&& (2 ^ fi.1.width - 1 - fieldOf w fi.1))
    else s) s

/-- A 1 in a W1S bit sets it. -/
def State.wrW1S (s : State) (off : Nat) (w : RegWord) : State :=
  (regFields off).foldl (fun s fi =>
    if fi.1.acc = .w1s then s.wri fi.1 fi.2 (s.rdi fi.1 fi.2 ||| fieldOf w fi.1) else s) s

/-- Whether a register has a field with an access code. -/
def hasAcc (off : Nat) (a : Acc) : Bool := (regFields off).any (fun fi => fi.1.acc == a)

/-- Whether a written word carries a 1 in a field of an access code. -/
def carries (off : Nat) (w : RegWord) (a : Acc) : Bool :=
  (regFields off).any (fun fi => fi.1.acc == a && fieldOf w fi.1 != 0)

/-- The host may write every field of block `b`: GLB and the MSI-X pages always (R188), another block while it is
claimed (R190). -/
def State.hostOwns (s : State) (b : Nat) : Bool := b == 0 || 0x20 ≤ b || s.claimed b

/-- The registers whose WO fields clear statistics, mm_clear and hw_clr (R189). -/
def statClear (off : Nat) : Bool := [0x1018, 0x2020, 0x3024, 0x3160, 0xD054, 0xF02C, 0xF12C].contains off

/-- A write to a block that the host does not own is discarded but for its W1C and statistics-clear fields; it sets
bad_write when the discarded part carries a value for an RW field, or a 1 in a W1S or another WO field (R189). -/
def State.basicWrite (s : State) (off : Nat) (w : RegWord) : State :=
  if hasAcc off .rw || carries off w .w1s || (carries off w .wo && !statClear off) then s.badWrite else s

/-! ### The power state -/

/-- The states of R101, with the exit from DOZE and the standby entry that PWR_STATE tells apart. -/
inductive Phase where
  | off | run | doze | leavingDoze | shutdown | standbyEntry | start | standby
  deriving DecidableEq, Repr

/-- The code of a state in PWR_STATE.state; OFF, START and STANDBY, in which no host can read it, use 0, 6 and 7. -/
def phaseCode : Phase → Nat
  | .off => 0 | .run => 1 | .doze => 2 | .leavingDoze => 3 | .shutdown => 4 | .standbyEntry => 5
  | .start => 6 | .standby => 7

/-- The power state of the module. -/
def State.phase (s : State) : Phase :=
  match s.rd PWR_STATE_state with
  | 0 => .off | 1 => .run | 2 => .doze | 3 => .leavingDoze | 4 => .shutdown | 5 => .standbyEntry | 6 => .start
  | _ => .standby

/-- The power state entered. -/
def State.setPhase (s : State) (p : Phase) : State := s.wr PWR_STATE_state (phaseCode p)

/-- A shutdown or standby sequence runs. -/
def State.inSequence (s : State) : Bool := s.phase == .shutdown || s.phase == .standbyEntry

/-- The module serves: RUN, DOZE, or between them. -/
def State.alive (s : State) : Bool := s.phase == .run || s.phase == .doze || s.phase == .leavingDoze

/-- The module is in the fatal state (R643). -/
def State.fatal (s : State) : Bool := s.rd CORE_STATUS_fatal == 1

/-- The boundary register owns the covered lands, and every function of one acts as if its land were disconnected (R773). -/
def State.scanOwns (s : State) : Bool :=
  s.pins.tap == .extest || s.pins.tap == .clamp || s.pins.tap == .highz

/-! ### Leaving DOZE -/

/-- A DOZE request has been accepted and the blocks are not gated yet. -/
def State.dozeEntering (s : State) : Bool := s.phase == .run && s.clk.admitStop

/-- A trigger of R116: the module starts to leave DOZE (R117). A DOZE entry that has not gated its blocks yet is
followed by the exit. -/
def State.exitDoze (s : State) : State :=
  if s.phase = .doze then s.setPhase .leavingDoze
  else if s.dozeEntering then { s with pwr := { s.pwr with exitPending := true } }
  else s

/-- The blocks that DOZE gates: an access to a register of one of them is an exit trigger (R112, R116; log entry 62). -/
def gatedBlock (b : Nat) : Bool := (8 ≤ b && b ≤ 12) || b == 14

/-- An access to the register at an offset ends DOZE when its block is gated (R116). -/
def State.wakeReg (s : State) (off : Nat) : State := if gatedBlock (off / 4096) then s.exitDoze else s

/-- A ring size of a register write that is no encoding of its field: the write of the field sets bad_write (R14). -/
def State.sizesListed (s : State) (w : RegWord) (a b : Fld) : State :=
  if 4 ≤ fieldOf w a && fieldOf w a ≤ 12 && 4 ≤ fieldOf w b && fieldOf w b ≤ 12 then s else s.badWrite

/-! ### Register writes that have an operation of their own -/

/-- A register write is discarded: it arrives on the host link of a follower (R26), and not over the chain (R789). -/
def State.discards (s : State) : Bool := s.isFollower && !s.chain.regPort

/-- An access that arrives over the host link brings it back to L0 (R176). -/
def State.touchLink (s : State) : State := if s.chain.regPort then s else { s with host := { s.host with inL1 := false } }

/-- A register write arrives: the host link is in L0 (R176), and a write to a gated block has ended DOZE (R116). -/
def State.arrive (s : State) (off : Nat) : State := s.touchLink.wakeReg off

/-- A register write that has an operation of its own: discarded at a follower (R26, R191); at the basic level its W1C
fields act, before the access sets a bit of its own (R15), and the rest is discarded with bad_write (R189); at the expert
level the operation runs. -/
def State.regOp (s : State) (off : Nat) (w : RegWord) (act : State → State) : State :=
  if s.discards then s.touchLink
  else
    let s1 := ((s.arrive off).wrW1C off w).noteReserved off w
    if s.hostOwns (off / 4096) then act s1 else s1.basicWrite off w

/-- A refused register write: it changes nothing and sets bad_write. -/
def State.refuseWrite (s : State) : State := s.badWrite

/-! ### Roles -/

/-- The role and chain address taken, in CHN_STATUS; GLB_STATUS.role reports the same role. ROLE_CHANGE is posted while
the firmware is READY (R797). -/
def State.setRole (s : State) (role addr : Nat) : State :=
  let s1 := (((s.wr CHN_STATUS_role role).wr CHN_STATUS_address addr).wr GLB_STATUS_role role)
  if s.rd PWR_STATE_fw_state = 2 then
    -- a follower's own ring takes no further event (R266); the record leaves over the chain
    s1.postFw 0x0103 0xFF (leBytes 1 role ++ leBytes 1 addr)
  else s1

/-- The members of the search group of member `a`, downstream of it and itself included, in a chain of `n` members
whose group map is `map` (R449, R450). -/
def groupReach (map n a : Nat) : Nat :=
  let rec go : Nat → Nat → Nat
    | 0, _ => 0
    | fuel + 1, j => if j < n && !(bitOf map j && j != a) then 1 + go fuel (j + 1) else 0
  go 8 a

/-- The first member of the group of member `a` (R449). -/
def groupStart (map a : Nat) : Nat :=
  let rec go : Nat → Nat
    | 0 => 0
    | j + 1 => if bitOf map (j + 1) then j + 1 else go j
  go a

/-- The present chain ply: the module's own ply counter, and the token's offset at a follower (R444). A stamp carries 32 bits,
so a follower knows the chain ply modulo 2^32, and nothing in the model takes more of it. -/
def State.chainPly (s : State) : Nat := (s.clk.ply + s.chain.plyOffset) % 2 ^ 64

/-- The chain's members as this module knows them: 1 for a module without neighbours. -/
def State.members (s : State) : Nat := s.rd CHN_STATUS_members

/-- The members that a GROUP search admitted here reaches (R450); 1 while the chain is not UP. -/
def State.groupK (s : State) : Nat :=
  if s.rd CHN_STATUS_state = 2 ∨ s.rd CHN_STATUS_state = 4 then
    max 1 (groupReach (s.rd CHN_GROUP_MAP_group_map) s.members s.ownAddr)
  else 1

/-- The module belongs to a search group of more than one member (R113). -/
def State.inGroup (s : State) : Bool :=
  (s.rd CHN_STATUS_state == 2 || s.rd CHN_STATUS_state == 4) &&
    groupReach (s.rd CHN_GROUP_MAP_group_map) s.members (groupStart (s.rd CHN_GROUP_MAP_group_map) s.ownAddr) > 1

end Sys2Proof.Machine
end

