-- ==== Sys2Proof/Machine/Tables.lean ====
section
/-! DEFINITION. The registry of logical tables that every engine shares (chapter *The ternary array*), and what a lookup
answers (R283). -/

namespace Sys2Proof.Machine
open Reg

/-! ### The registry (TCAM_TBL_CFG, with the copies that the HASH and LPM blocks report) -/

def engTcam : Nat := 1
def engExact : Nat := 2
def engLpm : Nat := 4

/-- The LPM root that holds table `t`, defined or still swept. -/
def State.lpmRootOf (s : State) (t : Nat) : Option Nat :=
  (List.range 4).find? (fun r => s.rdi LPM_ROOT_CFG_table r == t &&
    (s.rdi LPM_ROOT_CFG_defined r == 1 || s.rdi LPM_ROOT_CFG_sweep r == 1))

/-- Table `t` is defined. -/
def State.tblDefined (s : State) (t : Nat) : Bool := t < 64 && s.rdi TCAM_TBL_CFG_defined t == 1

/-- Table `t` is defined with engine `e`. -/
def State.tblIs (s : State) (t e : Nat) : Bool := s.tblDefined t && s.rdi TCAM_TBL_CFG_engine t == e

/-- Table `t` is hidden. -/
def State.tblHidden (s : State) (t : Nat) : Bool := s.rdi TCAM_TBL_CFG_hidden t == 1

/-- Table `t` is orphaned (R352). -/
def State.tblOrphaned (s : State) (t : Nat) : Bool := s.rdi TCAM_TBL_CFG_orphaned t == 1

/-- The slot binding of table `t`: 0 A, 1 B, 3 none. -/
def State.tblBind (s : State) (t : Nat) : Nat := s.rdi TCAM_TBL_CFG_slot_bind t

/-- The array slots of an entry of table `t`: 1, 2, 4 or 8. -/
def State.tblW (s : State) (t : Nat) : Nat := 2 ^ s.rdi TCAM_TBL_CFG_width_code t

/-- The counts of table `t`. -/
def State.tblInfo (s : State) (t : Nat) : TblInfo := storeGetD TblInfo.zero s.tbl.info t

/-- The counts of table `t` replaced. -/
def State.setInfo (s : State) (t : Nat) (i : TblInfo) : State :=
  { s with tbl := { s.tbl with info := storeSetD TblInfo.zero s.tbl.info t i } }

/-- A committed update to table `t`: its last-update ply (TCAM_TBL_PLY, TABLE.QUERY). -/
def State.stamp (s : State) (t : Nat) : State :=
  (s.setInfo t { s.tblInfo t with lastPly := s.clk.ply }).wri TCAM_TBL_PLY_tbl_ply t s.clk.ply

/-- The offsets of TCAM_TBL_CFG_t and of HASH_TBL_CFG_t. -/
def tcamTblOff (t : Nat) : Nat := 0x9800 + 0x10 * t
def hashTblOff (t : Nat) : Nat := 0xA400 + 0x10 * t

/-- hidden of table `t` set, in the registry and in its engine's registers. -/
def State.setHidden (s : State) (t v : Nat) : State :=
  let s1 := (s.wri TCAM_TBL_CFG_hidden t v).cfgWritten [tcamTblOff t]
  if s.tblEngine t = engExact then (s1.wri HASH_TBL_CFG_hidden t v).cfgWritten [hashTblOff t]
  else if s.tblEngine t = engLpm then
    match s.lpmRootOf t with
    | some r => s1.wri LPM_ROOT_CFG_hidden r v
    | none => s1
  else s1

/-- Table `t` becomes orphaned (R352). -/
def State.setOrphaned (s : State) (t : Nat) : State :=
  let s1 := ((s.wri TCAM_TBL_CFG_orphaned t 1).cfgWritten [tcamTblOff t]).raise TCAM_EVENT_table_orphaned
  if s.tblEngine t = engExact then (s1.wri HASH_TBL_CFG_orphaned t 1).cfgWritten [hashTblOff t]
  else if s.tblEngine t = engLpm then
    match s.lpmRootOf t with
    | some r => s1.wri LPM_ROOT_CFG_orphaned r 1
    | none => s1
  else s1

/-- Table `t` becomes defined in the registry, with its counts at zero. -/
def State.defineTable (s : State) (t engine width hidden bind : Nat) : State :=
  let s1 := (((((s.wri TCAM_TBL_CFG_defined t 1).wri TCAM_TBL_CFG_engine t engine).wri TCAM_TBL_CFG_width_code t
    width).wri TCAM_TBL_CFG_hidden t hidden).wri TCAM_TBL_CFG_orphaned t 0).wri TCAM_TBL_CFG_slot_bind t bind
  ((s1.cfgWritten [tcamTblOff t]).setInfo t TblInfo.zero).stamp t

/-- Table `t` becomes undefined in the registry. -/
def State.undefineTable (s : State) (t : Nat) : State :=
  ((((((s.wri TCAM_TBL_CFG_defined t 0).wri TCAM_TBL_CFG_engine t 0).wri TCAM_TBL_CFG_width_code t 0).wri
    TCAM_TBL_CFG_hidden t 0).wri TCAM_TBL_CFG_orphaned t 0).wri TCAM_TBL_CFG_slot_bind t 3).cfgWritten [tcamTblOff t]

/-- A sweep of table number `t` runs (R377, R423). -/
def State.sweeping (s : State) (t : Nat) : Bool :=
  (t < 63 && s.rdi HASH_TBL_CFG_sweep t == 1) ||
    (List.range 4).any (fun r => s.rdi LPM_ROOT_CFG_table r == t && s.rdi LPM_ROOT_CFG_sweep r == 1)

/-! ### What a lookup answers -/

/-- The outcome codes of a lookup, as R294 numbers them. -/
def outMiss : Nat := 0
def outHit : Nat := 1
def outFlood : Nat := 2
def outOrphan : Nat := 3
def outPoison : Nat := 4
def outLate : Nat := 5
def outVoid : Nat := 6
def outNone : Nat := 15

/-- A lookup without an answer. -/
def LookupOut.miss (engine table : Nat) : LookupOut :=
  { engine := engine, table := table, outcome := outMiss, pe := false, corrected := false, index := 0, result := 0,
    prio := 0, wtype := 0, reports := [], peSlots := [], peWays := [], hitBit := none }

/-- A lookup that was not issued (R294). -/
def LookupOut.notIssued : LookupOut := { LookupOut.miss 0 0 with outcome := outNone }

/-- The report that a search lookup makes of word `wi` of a structure, if it fails in a copy (R591, R593). -/
def State.lookupReport (s : State) (sid wi table : Nat) : List Report :=
  let r := readWord s.mem sid wi
  if r.poison then
    [⟨sid, 2, 1, if paired sid then 3 else 1, 8 * wi, r.synA.toNat, r.synB.toNat, table⟩]
  else if r.corrected then
    [⟨sid, 1, 1, b2n (r.synA != 0) + 2 * b2n (r.synB != 0), 8 * wi, r.synA.toNat, r.synB.toNat, table⟩]
  else []

/-- The outcome of a lookup that its table's state decides before any entry is read: MISS for an undefined table or
another engine's (R283), ORPHAN for an orphaned one (R352), MISS for a hidden one (R324, R373, R404). -/
def State.tblGate (s : State) (t engine : Nat) : Option Nat :=
  if !s.tblIs t engine then some outMiss
  else if s.tblOrphaned t then some outOrphan
  else if s.tblHidden t then some outMiss
  else none

end Sys2Proof.Machine
end

