-- ==== Sys2Proof/Machine/Ternary.lean ====
section
/-! DEFINITION. The ternary array: matching, the priority tree, blocks, and the effects of its updates (chapter *The
ternary array*). -/

namespace Sys2Proof.Machine
open Reg

/-- The structure codes of the array and of result memory. -/
def sidArray : Nat := 0x01
def sidResult : Nat := 0x02

/-! ### Array slots (R317) -/

/-- The 32 bytes of array slot `i`. -/
def State.slot (s : State) (i : Nat) : List Byte := unitRaw s.mem sidArray 0 i

/-- The valid bit of an array slot. -/
def slotValid (u : List Byte) : Bool := (u.getD 0x0C 0).getLsbD 0

/-- The pe_seen bit of an array slot (R338). -/
def slotSeen (u : List Byte) : Bool := (u.getD 0x0C 0).getLsbD 1

/-- The 10 value bytes and the 10 mask bytes of an array slot. -/
def slotValue (u : List Byte) : List Byte := u.take 10
def slotMask (u : List Byte) : List Byte := (u.drop 0x10).take 10

/-- The priority of an array slot. -/
def slotPrio (u : List Byte) : Nat := leNat ((u.drop 0x0A).take 2)

/-- An array slot fails parity. -/
def slotBad (u : List Byte) : Bool := (leNat (u.drop 0x1C) ^^^ leNat (unitCheck sidArray u)) % 2 ^ 23 != 0

/-- The 32 bytes of a valid array slot without its check field (R317, R325). -/
def slotImage (value mask : List Byte) (prio : Nat) : List Byte :=
  List.zipWith (· &&& ·) (padTo 10 value) (padTo 10 mask) ++ leBytes 2 prio ++ leBytes 4 1 ++ padTo 10 mask ++
    leBytes 2 0

/-- The ctrl byte of an array slot replaced, with the parity of its valid bit; every other check bit stays. -/
def slotCtrl (u : List Byte) (ctrl : Byte) : List Byte :=
  let c := leNat (u.drop 0x1C)
  let p := b2n (oddParityBit (ctrl.getLsbD 0))
  u.take 0x0C ++ [ctrl] ++ (u.drop 0x0D).take 15 ++
    leBytes 4 (c % 2 ^ 20 + p * 2 ^ 20 + c / 2 ^ 21 * 2 ^ 21)

/-- The valid bit of array slot `i` cleared by an update; the rest of the slot stays (R336). -/
def State.slotInvalidate (s : State) (i : Nat) : State :=
  (({ s with mem := putUnitRaw s.mem sidArray 0 i (slotCtrl (s.slot i) 0) }).forget sidArray (32 * i + 8)
    (32 * i + 16)).fireFlip sidArray i

/-! ### Blocks (R327 to R331) -/

def blkGated : Nat := 0
def blkChanging : Nat := 1
def blkFree : Nat := 2
def blkOwned : Nat := 3

/-- The state of block `b`. -/
def State.blk (s : State) (b : Nat) : Nat := s.rdi TCAM_BLK_CTRL_pwr_state b

/-- Block `b` set to a state. -/
def State.setBlk (s : State) (b st : Nat) : State := s.wri TCAM_BLK_CTRL_pwr_state b st

/-- Block `b` belongs to table `t`. -/
def State.ownsBlk (s : State) (t b : Nat) : Bool := s.blk b == blkOwned && s.rdi TCAM_BLK_CTRL_owner b == t

/-- The blocks of table `t`. -/
def State.tblBlocks (s : State) (t : Nat) : List Nat := (List.range 256).filter (s.ownsBlk t)

/-- Block `b` given to table `t`. -/
def State.takeBlk (s : State) (t b : Nat) : State :=
  ((s.setBlk b blkOwned).wri TCAM_BLK_CTRL_owner b t).wri TCAM_BLK_CTRL_owned b 1

/-- The half of the guard table's blocks that is live serves lookups; every block of another table does. -/
def State.servesBlk (s : State) (t b : Nat) : Bool :=
  s.ownsBlk t b && (t != 63 || (b - 248) / 4 == s.tbl.guardLive)

/-- Blocks named by an update that has not committed: no other update may take them. -/
def State.reserved (s : State) : List Nat :=
  s.tbl.queue.flatMap (fun r => match r.op with
    | .tcamCreate _ _ _ _ bs => bs
    | .grow _ bs => bs
    | _ => [])

/-- Ungating of a block begins, at most eight at a time; the others wait (R330). A block is CHANGING from the request. -/
def State.ungate (s : State) (b : Nat) : State :=
  let s1 := s.setBlk b blkChanging
  if s1.tbl.ungating.length < 8 then { s1 with tbl := { s1.tbl with ungating := s1.tbl.ungating ++ [b] } }
  else { s1 with tbl := { s1.tbl with ungateWait := s1.tbl.ungateWait ++ [b] } }

/-- Ungating of the GATED blocks of a list. -/
def State.ungateAll (s : State) (bs : List Nat) : State :=
  bs.foldl (fun s b => if s.blk b = blkGated then s.ungate b else s) s

/-- The array slots of block `b` invalid with zero data and valid parity, and its result words zero in both copies. -/
def State.clearBlk (s : State) (b : Nat) : State :=
  (s.fillRange sidArray (b * 131072) 131072).fillRange sidResult (b * 32768) 32768

/-- A block loses power: it holds nothing. -/
def State.gate (s : State) (b : Nat) : State := (s.clearBlk b).setBlk b blkGated

/-- A block leaves its table: CHANGING until its array slots are invalidated (R331). -/
def State.releaseBlk (s : State) (b : Nat) : State :=
  let s1 := ((s.setBlk b blkChanging).wri TCAM_BLK_CTRL_owned b 0).wri TCAM_BLK_CTRL_owner b 0
  { s1 with tbl := { s1.tbl with invalidating := s1.tbl.invalidating ++ [b] } }

/-- The listed array slots of block `b`: every other slot of it is as the fill left it. -/
def State.blkSlots (s : State) (b : Nat) : List Nat := (listedUnits s.mem sidArray).filter (fun i => i / 4096 == b)

/-- The valid array slots of block `b` (TCAM_BLK_CTRL.valid_slots). -/
def State.blkValid (s : State) (b : Nat) : List Nat := (s.blkSlots b).filter (fun i => slotValid (s.slot i))

/-- Every array slot of a list of blocks invalidated by one write of their valid bits (R604): the flip-mask acts on the lowest unit it touches. -/
def State.invalidateBlks (s : State) (bs : List Nat) : State :=
  let s1 := (listedUnits s.mem sidArray).foldl (fun s i =>
    if bs.contains (i / 4096) then
      ({ s with mem := putUnitRaw s.mem sidArray 0 i (slotCtrl (s.slot i) 0) } : State).forget sidArray (32 * i + 8)
        (32 * i + 16)
    else s) s
  match bs.min? with
  | none => s1
  | some b => s1.fireFlip sidArray (4096 * b)

/-! ### Entries (R321, R322) -/

/-- The first array slots of the entry positions of table `t` that hold any listed slot, in ascending order; `live`
keeps only the blocks that serve lookups. -/
def State.positions (s : State) (t : Nat) (live : Bool) : List Nat :=
  let w := s.tblW t
  sortNat ((listedUnits s.mem sidArray).filterMap (fun i =>
    if (if live then s.servesBlk t (i / 4096) else s.ownsBlk t (i / 4096)) then some (i / w * w) else none))

/-- The array slots of the entry at first slot `f` of a table with `w` slots an entry. -/
def State.entrySlots (s : State) (f w : Nat) : List (List Byte) := (List.range w).map (fun k => s.slot (f + k))

/-- A position holds a valid entry when every one of its array slots is valid. -/
def State.entryValid (s : State) (f w : Nat) : Bool := (s.entrySlots f w).all slotValid

/-- A position is free when none of its array slots has valid set (R337). -/
def State.posFree (s : State) (f w : Nat) : Bool := (s.entrySlots f w).all (fun u => !slotValid u)

/-- The entry bits of a position: its value and its mask, in bit order (R321). -/
def State.entryValue (s : State) (f w : Nat) : List Byte := (s.entrySlots f w).flatMap slotValue
def State.entryMask (s : State) (f w : Nat) : List Byte := (s.entrySlots f w).flatMap slotMask

/-- A value and mask match a key: every compared bit is equal (R322). -/
def ternaryMatch (value mask key : List Byte) : Bool :=
  ((value.zip mask).zip key).all (fun x => (x.1.1 ^^^ x.2) &&& x.1.2 == 0)

/-- The priority tree: the lowest priority value, then the lowest first array slot (R323). -/
def bestEntry : List (Nat × Nat) → Option (Nat × Nat)
  | [] => none
  | (p, f) :: es =>
    match bestEntry es with
    | none => some (p, f)
    | some (p', f') => if p < p' ∨ (p = p' ∧ f ≤ f') then some (p, f) else some (p', f')

/-- The report of a failing array slot: its first failing word (R338). -/
def State.slotReport (s : State) (i t : Nat) : List Report :=
  match (List.range 4).find? (fun k => unitWordSyn sidArray (s.slot i) k != 0) with
  | none => []
  | some k => [⟨sidArray, 2, 1, 1, 32 * i + 8 * k, (unitWordSyn sidArray (s.slot i) k).toNat, 0, t⟩]

/-- A TCAM lookup of table `t` with a 640-bit key (R322 to R324, R338, R339, R341). -/
def State.tcamLookup (s : State) (t : Nat) (key : List Byte) : LookupOut :=
  let base := LookupOut.miss engTcam t
  if !s.tblIs t engTcam then base
  else
    let w := s.tblW t
    let slots := (listedUnits s.mem sidArray).filter (fun i => s.servesBlk t (i / 4096))
    let bad := slots.filter (fun i => slotBad (s.slot i))
    let unseen := bad.filter (fun i => !slotSeen (s.slot i))
    let flagged := { base with pe := !bad.isEmpty, peSlots := unseen }
    match s.tblGate t engTcam with
    | some o => { flagged with outcome := o }
    | none =>
      let matching := (s.positions t true).filter (fun f =>
        s.entryValid f w && bad.all (fun i => i / w * w != f) && ternaryMatch (s.entryValue f w) (s.entryMask f w) key)
      match bestEntry (matching.map (fun f => (slotPrio (s.slot f), f))) with
      | none => flagged
      | some (p, f) =>
        let r := readWord s.mem sidResult f
        let o := { flagged with reports := flagged.reports ++ s.lookupReport sidResult f t }
        if r.poison then { o with outcome := outPoison }
        else { o with outcome := outHit, index := f, prio := p, result := leNat r.data, corrected := r.corrected }

/-! ### What the updates do -/

/-- An entry written at first slot `f`: value, mask, priority and valid of its `w` array slots, and its result word
(R334); the priority stands in the first array slot only. -/
def State.putEntry (s : State) (f w prio result : Nat) (value mask : List Byte) : State :=
  ((List.range w).foldl (fun s k =>
    s.storeUnit sidArray (f + k) (slotImage ((value.drop (10 * k)).take 10) ((mask.drop (10 * k)).take 10)
      (if k = 0 then prio else 0))) s).storeWord sidResult f (leBytes 8 result)

/-- An entry deleted: the valid bits of its `w` array slots cleared (R336). -/
def State.dropEntry (s : State) (f w : Nat) : State := (List.range w).foldl (fun s k => s.slotInvalidate (f + k)) s

/-- The lowest `n` free positions of table `t`, in ascending order, without those of a list. -/
def State.freePositions (s : State) (t n : Nat) (skip : List Nat) : List Nat :=
  let w := s.tblW t
  let taken := (s.positions t false).filter (fun f => !s.posFree f w) ++ skip
  ((s.tblBlocks t).flatMap (fun b =>
    let mine := taken.filter (fun f => f / 4096 == b)
    -- the positions of a block are 4096 * b + w * k; those that none of the taken ones names
    ((List.range (min (4096 / w) (mine.length + n))).map (fun k => 4096 * b + w * k)).filter
      (fun f => !mine.contains f))).take n

/-- The lowest free position of table `t` (R337). -/
def State.lowestFree (s : State) (t : Nat) : Option Nat := (s.freePositions t 1 []).head?

/-- The number of valid entries of table `t`. -/
def State.tcamEntries (s : State) (t : Nat) : Nat :=
  ((s.positions t (t == 63)).filter (fun f => s.entryValid f (s.tblW t))).length

/-- The number of free entry positions of table `t`. -/
def State.tcamFree (s : State) (t : Nat) : Nat :=
  let w := s.tblW t
  let blocks := if t = 63 then 4 else (s.tblBlocks t).length
  blocks * (4096 / w) - ((s.positions t (t == 63)).filter (fun f => !s.posFree f w)).length

/-- The last-slot test of an index: aligned and inside the table's blocks. -/
def State.inTable (s : State) (t f : Nat) : Bool := f % s.tblW t == 0 && f < 1048576 && s.ownsBlk t (f / 4096)

/-- A castling that names table `t` is pending. -/
def State.castling (s : State) (t : Nat) : Bool :=
  match s.tbl.castle with
  | some c => c.a == t || c.b == t
  | none => false

/-- Castling: the block sets of two tables exchanged (R346); each keeps its hidden flag and its binding. -/
def State.exchange (s : State) (a b : Nat) : State :=
  let A := s.tblBlocks a
  let B := s.tblBlocks b
  B.foldl (fun s k => s.wri TCAM_BLK_CTRL_owner k a) (A.foldl (fun s k => s.wri TCAM_BLK_CTRL_owner k b) s)

/-- pe_seen set in an array slot that was reported, and TCAM_PE_LOG taken when it is free (R338). -/
def State.noteSlot (s : State) (t i : Nat) : State :=
  let u := s.slot i
  let v := u.take 0x0C ++ [u.getD 0x0C 0 ||| 2] ++ u.drop 0x0D
  let s1 : State := { s with mem := putUnitRaw s.mem sidArray 0 i v }
  let s2 := s1.raise TCAM_EVENT_parity_excl
  if s2.rd TCAM_PE_LOG_pe_valid = 1 then s2
  else ((s2.wr TCAM_PE_LOG_pe_slot i).wr TCAM_PE_LOG_pe_table t).wr TCAM_PE_LOG_pe_valid 1

end Sys2Proof.Machine
end

