-- ==== Sys2Proof/Machine/Exact.lean ====
section
/-! DEFINITION. The exact-match engine, the direct index, the learning queue and the ager (chapter *Exact match, direct
index and learning*). -/

namespace Sys2Proof.Machine
open Reg

/-- The structure codes of the buckets, the overflow store, the direct index and the hit map. -/
def sidBuckets : Nat := 0x10
def sidOverflow : Nat := 0x13
def sidDix : Nat := 0x20
def sidHitMap : Nat := 0x70

/-! ### Parts of 32-byte units -/

/-- Byte `i` of a 32-byte unit written with its own fresh parity (R588). -/
def unitPutByte (sid : Nat) (u : List Byte) (i : Nat) (b : Byte) : List Byte :=
  let v := u.take i ++ [b] ++ u.drop (i + 1)
  let c := leNat (v.drop 0x1C)
  let cover := checkCover sid i
  let p := if sid = 0x01 ∧ i = 0x0C then oddParityBit (b.getLsbD 0) else oddParity b
  if i < 0x1C then v.take 0x1C ++ leBytes 4 (if p then c ||| cover else c &&& (2 ^ 32 - 1 - cover)) else u

/-- Bytes of a 32-byte unit written from byte `i` on; `none` is a byte enable that is off. -/
def unitPutBytes (sid : Nat) : List Byte → Nat → List (Option Byte) → List Byte
  | u, _, [] => u
  | u, i, none :: bs => unitPutBytes sid u (i + 1) bs
  | u, i, some b :: bs => unitPutBytes sid (unitPutByte sid u i b) (i + 1) bs

/-- Bytes of unit `ui` written in every copy by a writer other than the fill and repair. -/
def State.storeUnitBytes (s : State) (sid ui i : Nat) (bs : List (Option Byte)) : State :=
  let m' := (copies sid).foldl (fun m c => putUnitRaw m sid c ui (unitPutBytes sid (unitRaw m sid c ui) i bs)) s.mem
  match bs.findIdx? (·.isSome) with
  | none => s
  | some k => (({ s with mem := m' } : State).forget sid (32 * ui + i + k) (32 * ui + i + bs.length)).fireFlip sid ui

/-! ### The bucket function (R368) -/

/-- The 32-bit little-endian word `i` of a key. -/
def keyWord (key : List Byte) (i : Nat) : BitVec 32 := BitVec.ofNat 32 (leNat ((key.drop (4 * i)).take 4))

/-- The bucket index of a key in table `t` under a seed (R368). -/
def bucketOf (seed : BitVec 32) (t : Nat) (key : List Byte) : Nat :=
  let f := keyWord key 0 ^^^ (keyWord key 1).rotateLeft 8 ^^^ (keyWord key 2).rotateLeft 16 ^^^
    (keyWord key 3).rotateLeft 24 ^^^ BitVec.ofNat 32 (t * 0x01041041) ^^^ seed
  (f.extractLsb' 0 19 ^^^ (f.extractLsb' 19 13).setWidth 19).toNat

/-- The bucket of a key in table `t` of the module (R368, R371). -/
def State.bucket (s : State) (t : Nat) (key : List Byte) : Nat :=
  bucketOf (BitVec.ofNat 32 (s.rd HASH_SEED_hash_seed)) t key

/-! ### Ways and overflow entries (R366) -/

/-- A way or an overflow entry by its structure code and unit number. -/
structure Place where
  sid : Nat
  unit : Nat
  deriving DecidableEq, Repr

/-- The index form of R373: the way index, or the overflow index with bit 23 set. -/
def placeIndex (p : Place) : Nat := if p.sid = sidOverflow then 2 ^ 23 + p.unit else p.unit

/-- The place that an index form names. -/
def indexPlace (i : Nat) : Place := if bitOf i 23 then ⟨sidOverflow, i % 16384⟩ else ⟨sidBuckets, i % 2097152⟩

/-- The merged view of a 32-byte unit: its four words as a consumer reads them (R591). -/
def State.unitWords (s : State) (p : Place) : List ReadOut := (List.range 4).map (fun k => readWord s.mem p.sid (4 * p.unit + k))

/-- The merged bytes of a unit. -/
def State.unitBytesOf (s : State) (p : Place) : List Byte := (s.unitWords p).flatMap (·.data)

/-- The fields of an entry, from its merged bytes. -/
def entKey (u : List Byte) : List Byte := u.take 16
def entResult (u : List Byte) : Nat := leNat ((u.drop 16).take 8)
def entCtrl (u : List Byte) : Nat := (u.getD 0x18 0).toNat
def entValid (u : List Byte) : Bool := bitOf (entCtrl u) 0
def entType (u : List Byte) : Nat := bitsOf (entCtrl u) 1 2
def entLearned (u : List Byte) : Bool := bitOf (entCtrl u) 3
def entEpoch (u : List Byte) : Nat := bitsOf (entCtrl u) 4 4
def entTable (u : List Byte) : Nat := (u.getD 0x19 0).toNat % 64
def entAge (u : List Byte) : Nat := leNat ((u.drop 0x1A).take 2)

/-- The 32 bytes of an entry without its check field. -/
def entImage (key : List Byte) (result type table epoch age : Nat) (learned : Bool) : List Byte :=
  padTo 16 key ++ leBytes 8 result ++ leBytes 1 (1 + 2 * type + 8 * b2n learned + 16 * epoch) ++ leBytes 1 table ++
    leBytes 2 age

/-- Both copies of a unit fail parity outside the result word (R379). -/
def State.placeBad (s : State) (p : Place) : Bool :=
  [0, 1, 3].any (fun k => (readWord s.mem p.sid (4 * p.unit + k)).poison)

/-- A unit fails parity in either copy (R381). -/
def State.placeFails (s : State) (p : Place) : Bool :=
  (s.unitWords p).any (fun r => r.synA != 0 || r.synB != 0)

/-- The epoch of table `t` (R377). -/
def State.epoch (s : State) (t : Nat) : Nat := s.rdi HASH_TBL_CFG_epoch t

/-- An entry answers a lookup of table `t` with a key and a type mask (R370). -/
def State.answers (s : State) (t mask : Nat) (key : List Byte) (p : Place) : Bool :=
  let u := s.unitBytesOf p
  entValid u && !s.placeBad p && entTable u == t && entEpoch u == s.epoch t && entType u != 0 &&
    bitOf mask (entType u - 1) && entKey u == padTo 16 key

/-- The ways of a key's bucket, and every overflow entry that anything has written. -/
def State.candidates (s : State) (t : Nat) (key : List Byte) : List Place :=
  (List.range 4).map (fun w => ⟨sidBuckets, 4 * s.bucket t key + w⟩) ++
    (listedUnits s.mem sidOverflow).map (fun n => ⟨sidOverflow, n⟩)

/-- The entry that answers, in the order CONTENT, TITLE, OWNER (R372). -/
def State.exactFind (s : State) (t mask : Nat) (key : List Byte) : Option Place :=
  let c := (s.candidates t key).filter (s.answers t mask key)
  [1, 3, 2].findSome? (fun ty => c.find? (fun p => entType (s.unitBytesOf p) == ty))

/-- The hit-map bit of a place (R397). -/
def hitBitOf (p : Place) : Nat := if p.sid = sidOverflow then 2097152 + p.unit else p.unit

/-- The report of an entry that fails in both copies outside its result word (R379). -/
def State.placeReport (s : State) (p : Place) (t : Nat) : List Report :=
  match [0, 1, 3].find? (fun k => (readWord s.mem p.sid (4 * p.unit + k)).poison) with
  | none => []
  | some k =>
    let r := readWord s.mem p.sid (4 * p.unit + k)
    [⟨p.sid, 2, 1, 3, 32 * p.unit + 8 * k, r.synA.toNat, r.synB.toNat, t⟩]

/-- An EXACT lookup (R370 to R373, R379, R380). -/
def State.exactLookup (s : State) (t mask : Nat) (key : List Byte) : LookupOut :=
  let base := LookupOut.miss engExact t
  match s.tblGate t engExact with
  | some o => { base with outcome := o }
  | none =>
    let bad := (s.candidates t key).filter s.placeBad
    let flagged := { base with pe := !bad.isEmpty, peWays := bad.map placeIndex }
    match s.exactFind t mask key with
    | none => flagged
    | some p =>
      let u := s.unitBytesOf p
      let o := { flagged with
        reports := flagged.reports ++ (List.range 4).flatMap (fun k => s.lookupReport p.sid (4 * p.unit + k) t) }
      if (readWord s.mem p.sid (4 * p.unit + 2)).poison then { o with outcome := outPoison }
      else { o with outcome := outHit, index := placeIndex p, result := entResult u, wtype := entType u
                    corrected := s.placeFails p, hitBit := some (hitBitOf p) }

/-! ### The direct index -/

/-- A DIX lookup (R382, R383). -/
def State.dixLookup (s : State) (h : Nat) : LookupOut :=
  let base := LookupOut.miss 3 0x40
  if h < s.rd DIX_CFG_dix_limit then
    let r := readWord s.mem sidDix h
    let o := { base with reports := s.lookupReport sidDix h 0x40 }
    if r.poison then { o with outcome := outPoison }
    else { o with outcome := outHit, index := h, result := leNat r.data, corrected := r.corrected }
  else base

/-! ### Entries of tables -/

/-- Every place that anything has written, ways first. -/
def State.places (s : State) : List Place :=
  (listedUnits s.mem sidBuckets).map (fun i => ⟨sidBuckets, i⟩) ++
    (listedUnits s.mem sidOverflow).map (fun n => ⟨sidOverflow, n⟩)

/-- The valid entries of the present epoch of table `t`, in ascending index order. -/
def State.exactEntries (s : State) (t : Nat) : List Place :=
  s.places.filter (fun p =>
    let u := s.unitBytesOf p
    entValid u && entTable u == t && entEpoch u == s.epoch t)

/-- The valid ways, stale ones included (HASH_USED). -/
def State.waysUsed (s : State) : Nat :=
  (s.places.filter (fun p => p.sid == sidBuckets && entValid (s.unitBytesOf p))).length

/-- The valid overflow entries (HASH_OVF). -/
def State.ovfUsed (s : State) : Nat :=
  (s.places.filter (fun p => p.sid == sidOverflow && entValid (s.unitBytesOf p))).length

/-- A place is free: valid is clear and it does not fail parity (R374, R381). -/
def State.placeFree (s : State) (p : Place) : Bool := !entValid (s.unitBytesOf p) && !s.placeFails p

/-- The lowest free overflow entry. -/
def State.freeOverflow (s : State) : Option Nat :=
  let taken := (listedUnits s.mem sidOverflow).filter (fun n => !s.placeFree ⟨sidOverflow, n⟩)
  (List.range (taken.length + 1)).find? (fun n => n < 16384 && !taken.contains n)

/-- Where a new entry of (t, key) goes: the lowest free way of the bucket, then the lowest free overflow entry (R374). -/
def State.freePlace (s : State) (t : Nat) (key : List Byte) : Option Place :=
  match ((List.range 4).map (fun w => (⟨sidBuckets, 4 * s.bucket t key + w⟩ : Place))).find? s.placeFree with
  | some p => some p
  | none => s.freeOverflow.map (fun n => ⟨sidOverflow, n⟩)

/-- A 32-byte unit of a structure has been written: the list of R379 forgets the entry there. -/
def State.unlist (s : State) (sid ui : Nat) : State :=
  if sid = sidBuckets ∨ sid = sidOverflow then
    { s with integ := { s.integ with exactReported := s.integ.exactReported.filter (· != placeIndex ⟨sid, ui⟩) } }
  else s

/-- An entry written whole into a place. -/
def State.putPlace (s : State) (p : Place) (u : List Byte) : State := (s.storeUnit p.sid p.unit u).unlist p.sid p.unit

/-- Bytes of an entry written. -/
def State.putPlaceBytes (s : State) (p : Place) (i : Nat) (bs : List Byte) : State :=
  (s.storeUnitBytes p.sid p.unit i (bs.map some)).unlist p.sid p.unit

/-- valid of an entry cleared; the other fields stay (R376). A place that fails is written whole, as its merged view reads, so that
it is free (R381). -/
def State.dropPlace (s : State) (p : Place) : State :=
  let u := s.unitBytesOf p
  let ctrl : Byte := BitVec.ofNat 8 (entCtrl u / 2 * 2)
  if s.placeFails p then s.putPlace p (u.take 0x18 ++ [ctrl] ++ (u.take 0x1C).drop 0x19) else s.putPlaceBytes p 0x18 [ctrl]

/-- ovf_high when an insert brings the overflow store to its threshold. -/
def State.noteOverflow (before s : State) : State :=
  if before.ovfUsed < s.rd HASH_LEARN_CTRL_ovf_thresh ∧ s.rd HASH_LEARN_CTRL_ovf_thresh ≤ s.ovfUsed then
    s.raise HASH_EVENT_ovf_high
  else s

/-- An insert of R374 into table `t`: the place it used, or none for want of room or of quota (R375). -/
def State.exactInsert (s : State) (t type : Nat) (key : List Byte) (result : Nat) (learned : Bool) :
    Option (State × Place) :=
  match s.exactFind t (2 ^ (type - 1)) key with
  | some p =>
    let ctrl := entCtrl (s.unitBytesOf p)
    let c := if learned then ctrl ||| 8 else ctrl &&& 0xF7
    some (s.putPlaceBytes p 0x10 (leBytes 8 result ++ leBytes 1 c), p)
  | none =>
    if s.rdi HASH_TBL_QUOTA_quota t ≤ (s.exactEntries t).length then none
    else
      match s.freePlace t key with
      | none => none
      | some p => some (s.noteOverflow (s.putPlace p (entImage key result type t (s.epoch t) 0 learned)), p)

/-- An advance of the epoch of table `t`, modulo 16, and the start of its sweep (R377). -/
def State.advanceEpoch (s : State) (t : Nat) : State :=
  ((s.wri HASH_TBL_CFG_epoch t ((s.epoch t + 1) % 16)).wri HASH_TBL_CFG_sweep t 1).cfgWritten [hashTblOff t]

/-- The stale entries of table `t`: valid, of another epoch than the present one. -/
def State.stale (s : State) (t : Nat) : List Place :=
  s.places.filter (fun p =>
    let u := s.unitBytesOf p
    entValid u && entTable u == t && entEpoch u != s.epoch t)

/-! ### The hit map (R397, R398) -/

/-- A hit-map bit is set. -/
def State.hitBit (s : State) (k : Nat) : Bool := (memByte s.mem (dataBase sidHitMap 0 + k / 8)).getLsbD (k % 8)

/-- The hit-map byte of a bit fails parity. -/
def State.hitBad (s : State) (k : Nat) : Bool := (wordSyn s.mem sidHitMap 0 (k / 64)).getLsbD (k / 8 % 8)

/-- A hit-map bit set or cleared. -/
def State.setHit (s : State) (k : Nat) (v : Bool) : State :=
  let b := memByte s.mem (dataBase sidHitMap 0 + k / 8)
  let m : Byte := BitVec.ofNat 8 (2 ^ (k % 8))
  s.storeBytes sidHitMap (k / 8) [some (if v then b ||| m else b &&& ~~~ m)]

/-! ### The log of host deletes and writes (R389) -/

/-- A host delete or write of an exact-match entry logged; the log holds the last 256. -/
def State.logHost (s : State) (t type : Nat) (key : List Byte) : State :=
  let l := s.learn.hostLog ++ [{ ply := s.clk.ply, table := t, type := type, key := padTo 16 key }]
  if l.length ≤ 256 then { s with learn := { s.learn with hostLog := l } }
  else { s with learn := { s.learn with hostLog := l.drop 1, logLost := (l.head?).map (·.ply) } }

/-- The ply of a clear of table `t` noted (R389). -/
def State.logClear (s : State) (t : Nat) : State :=
  { s with learn := { s.learn with clears := storePut s.learn.clears t s.clk.ply } }

/-- A learned insert loses against a host delete, write or clear on or after the start of its walk, or when the log has
wrapped past it (R389). -/
def State.overtaken (s : State) (i : LearnIns) : Bool :=
  s.learn.hostLog.any (fun d => d.table == i.table && d.type == i.type && d.key == padTo 16 i.key && i.startPly ≤ d.ply) ||
    (match s.learn.logLost with | some p => i.startPly ≤ p | none => false) ||
    (match storeGet? s.learn.clears i.table with | some p => i.startPly ≤ p | none => false)

/-- A type that a table accepts (R378). -/
def State.typeOk (s : State) (t type : Nat) : Bool := 1 ≤ type && type ≤ 3 && bitOf (s.rdi HASH_TBL_CFG_types t) (type - 1)

end Sys2Proof.Machine
end

