-- ==== Sys2Proof/Machine/Trie.lean ====
section
/-! DEFINITION. The prefix trie: stages, lookups, the update overlay and the background rewrite (chapter *The prefix
trie*). Keys and prefixes are 64-bit numbers. -/

namespace Sys2Proof.Machine
open Reg

/-! ### Stages and their memories (R405, R409) -/

/-- The bits consumed before stage `st`, and its stride. -/
def stageB (st : Nat) : Nat := if st = 0 then 0 else 8 + 8 * st
def stageS (st : Nat) : Nat := if st = 0 then 16 else 8

/-- The stage that resolves a prefix length from 1 to 64 (R405). -/
def stageOf (len : Nat) : Nat := if len ≤ 16 then 0 else (len - 9) / 8

/-- The structure code of a stage memory. -/
def sidStage (st : Nat) : Nat := 0x30 + st

/-- The word offset of a stage's first prefix record (R409). -/
def recBase (st : Nat) : Nat := (if st = 0 then 0x00200000 else if st ≤ 4 then 0x00800000 else 0x00400000) / 8

/-- The prefix records and the nodes of a stage (R409). -/
def recCount (st : Nat) : Nat := [32768, 65536, 98304, 98304, 98304, 65536, 65536].getD st 0
def nodeCount (st : Nat) : Nat := [4, 4096, 4096, 4096, 4096, 2048, 2048].getD st 0

/-- The word offset of entry `i` of root or node `n` of a stage. -/
def entryWord (st n i : Nat) : Nat := (if st = 0 then 65536 else 256) * n + i

/-- The key bits that index a stage. -/
def stageKey (st key : Nat) : Nat := bitsOf key (64 - stageB st - stageS st) (stageS st)

/-- The top `len` bits of a key (R402). -/
def topBits (key len : Nat) : Nat := key / 2 ^ (64 - len)

/-- A prefix of length `len` matches a key (R402). -/
def prefixMatch (pfx len key : Nat) : Bool := topBits pfx len == topBits key len

/-- A prefix has no 1 below bit 64 - `len` (R403). -/
def prefixOk (pfx len : Nat) : Bool := len ≤ 64 && pfx % 2 ^ (64 - len) == 0

/-- A root or node entry (R408). -/
structure Entry where
  result : Nat
  len : Nat
  childValid : Bool
  child : Nat
  deriving DecidableEq, Repr

/-- An entry from its word (R408). -/
def decodeEntry (v : Nat) : Entry :=
  { result := v % 2 ^ 32, len := bitsOf v 32 7, childValid := bitOf v 39, child := bitsOf v 40 12 }

/-- The word of an entry (R408). -/
def encodeEntry (e : Entry) : Nat := e.result + e.len * 2 ^ 32 + b2n e.childValid * 2 ^ 39 + e.child * 2 ^ 40

/-- Entry `i` of root or node `n` of a stage, as a consumer reads it. -/
def State.lpmEntry (s : State) (st n i : Nat) : Entry := decodeEntry (leNat (readWord s.mem (sidStage st) (entryWord st n i)).data)

/-- Words of a structure written by one update: the flip-mask acts on the lowest. -/
def State.storeWords (s : State) (sid : Nat) (ws : List (Nat × Nat)) : State :=
  let s1 := ws.foldl (fun s w => ({ s with mem := putWord s.mem sid w.1 (leBytes 8 w.2) } : State).forget sid (8 * w.1)
    (8 * w.1 + 8)) s
  match (ws.map (·.1)).min? with
  | none => s1
  | some k => s1.fireFlip sid k

/-! ### Lookups (R404, R407, R416, R425) -/

/-- The state of a lookup on its way down. -/
structure Walking where
  hit : Bool
  len : Nat
  res : Nat
  corrected : Bool
  poison : Bool
  reports : List Report
  deriving DecidableEq, Repr

/-- The walk of R407 from entry `n` of stage `st`, over at most `fuel` stages. -/
def State.lpmWalk (s : State) (table key : Nat) : Nat → Nat → Nat → Walking → Walking
  | 0, _, _, w => w
  | fuel + 1, st, n, w =>
    let wi := entryWord st n (stageKey st key)
    let r := readWord s.mem (sidStage st) wi
    let w1 := { w with corrected := w.corrected || r.corrected, poison := w.poison || r.poison
                       reports := w.reports ++ s.lookupReport (sidStage st) wi table }
    if r.poison then w1
    else
      let e := decodeEntry (leNat r.data)
      let w2 := if e.len ≠ 0 then { w1 with hit := true, len := e.len, res := e.result } else w1
      if st = 6 ∨ !e.childValid then w2 else s.lpmWalk table key fuel (st + 1) e.child w2

/-- The overlay's prefix. -/
def State.ovlPfx (s : State) : Nat := s.rd LPM_OVL_PFX_LO_pfx_lo + 2 ^ 32 * s.rd LPM_OVL_PFX_HI_pfx_hi

/-- The correction of R416. -/
def State.overlay (s : State) (r key : Nat) (w : Walking) : Walking :=
  let l := s.rd LPM_OVL_CTRL_ovl_len
  if s.rd LPM_OVL_CTRL_armed = 1 ∧ s.rd LPM_OVL_CTRL_ovl_root = r ∧ prefixMatch s.ovlPfx l key then
    if s.rd LPM_OVL_CTRL_ovl_op = 2 then
      if w.len = l then
        { w with hit := s.rd LPM_OVL_CTRL_q_hit == 1, len := s.rd LPM_OVL_CTRL_q_len, res := s.rd LPM_OVL_QRES_q_res }
      else w
    else if w.len ≤ l then { w with hit := true, len := l, res := s.rd LPM_OVL_RES_ovl_res }
    else w
  else w

/-- An LPM lookup (R404, R407, R416, R425). -/
def State.lpmLookup (s : State) (t key : Nat) : LookupOut :=
  let base := LookupOut.miss engLpm t
  match s.tblGate t engLpm, s.lpmRootOf t with
  | some o, _ => { base with outcome := o }
  | none, none => base
  | none, some r =>
    if s.rdi LPM_ROOT_CFG_sweep r = 1 then base
    else
      let start : Walking :=
        { hit := s.rdi LPM_ROOT_CFG_dflt_valid r == 1, len := 0, res := s.rdi LPM_ROOT_DFLT_dflt_result r
          corrected := false, poison := false, reports := [] }
      let w0 := s.lpmWalk t key 7 0 r start
      let w := s.overlay r key w0
      let o := { base with reports := w.reports }
      if w0.poison then { o with outcome := outPoison, corrected := w.corrected }
      else if w.hit then { o with outcome := outHit, index := w.len, result := w.res, corrected := w.corrected }
      else { o with corrected := w.corrected }

/-! ### Records and nodes (R410 to R412) -/

/-- The 16 bytes of a record, as a consumer reads them. -/
def State.recBytes (s : State) (st j : Nat) : List Byte :=
  (readWord s.mem (sidStage st) (recBase st + 2 * j)).data ++ (readWord s.mem (sidStage st) (recBase st + 2 * j + 1)).data

/-- The records of a stage that are valid, by number, in ascending order. -/
def State.recsUsed (s : State) (st : Nat) : List Nat :=
  (sortNat (((listedUnits s.mem (sidStage st)).filter (fun w => recBase st ≤ w)).map
    (fun w => (w - recBase st) / 2))).filter (fun j => ((s.recBytes st j).getD 13 0).getLsbD 7)

/-- The records of table `t` in a stage. -/
def State.tblRecs (s : State) (t st : Nat) : List Nat :=
  (s.recsUsed st).filter (fun j => ((s.recBytes st j).getD 13 0).toNat % 64 == t)

/-- The prefixes that table `t` stores, the default route excluded. -/
def State.prefixes (s : State) (t : Nat) : Nat := (List.range 7).foldl (fun n st => n + (s.tblRecs t st).length) 0

/-- The prefix, the length and the result of a record. -/
def recPfx (b : List Byte) : Nat := leNat (b.take 8)
def recResult (b : List Byte) : Nat := leNat ((b.drop 8).take 4)
def recLen (b : List Byte) : Nat := (b.getD 12 0).toNat

/-- The record of a stored prefix. -/
def State.findRec (s : State) (t pfx len : Nat) : Option Nat :=
  (s.tblRecs t (stageOf len)).find? (fun j =>
    let b := s.recBytes (stageOf len) j
    recPfx b == pfx && recLen b == len)

/-- The nodes of a stage in use: some entry is not zero (R411). -/
def State.nodesUsed (s : State) (st : Nat) : List Nat :=
  sortNat (((listedUnits s.mem (sidStage st)).filter (fun w =>
    w < recBase st && leNat (readWord s.mem (sidStage st) w).data != 0)).map (fun w => w / 256))

/-- The lowest free number below `n` that a list does not name. -/
def lowestNot (used : List Nat) (n : Nat) : Option Nat :=
  (List.range (used.length + 1)).find? (fun k => k < n && !used.contains k)

/-- The nodes on the path of a prefix, from stage 1 to the stage that resolves it: each is there, or not yet. -/
def State.path (s : State) (key : Nat) : Nat → Nat → Nat → List (Option Nat)
  | 0, _, _ => []
  | fuel + 1, st, n =>
    let e := s.lpmEntry st n (stageKey st key)
    if e.childValid then some e.child :: s.path key fuel (st + 1) e.child
    else List.replicate (fuel + 1) none

/-- The index form of a stored prefix. -/
def lpmIndex (st j : Nat) : Nat := st * 2 ^ 20 + j

/-- The longest stored prefix shorter than `len` that covers `pfx`, with its stage: Q of R416. -/
def State.coverQ (s : State) (t pfx : Nat) : Nat → Option (Nat × Nat)
  | 0 => none
  | len + 1 =>
    if len = 0 then none
    else match s.findRec t (topBits pfx len * 2 ^ (64 - len)) len with
      | some j => some (len, recResult (s.recBytes (stageOf len) j))
      | none => s.coverQ t pfx len

/-- The answer of Q: hit, length and result (R416). -/
def State.answerQ (s : State) (t r pfx len : Nat) : Bool × Nat × Nat :=
  match s.coverQ t pfx len with
  | some (l, res) => (true, l, res)
  | none =>
    if s.rdi LPM_ROOT_CFG_dflt_valid r = 1 then (true, 0, s.rdi LPM_ROOT_DFLT_dflt_result r) else (false, 0, 0)

/-- The overlay armed for an update of table root `r` (R416): op 1 insert, 2 delete, 3 result change. -/
def State.armOverlay (s : State) (t r op pfx len result : Nat) : State :=
  let q := s.answerQ t r pfx len
  let s1 := ((((s.wr LPM_OVL_PFX_LO_pfx_lo pfx).wr LPM_OVL_PFX_HI_pfx_hi (pfx / 2 ^ 32)).wr LPM_OVL_RES_ovl_res
    result).wr LPM_OVL_CTRL_ovl_len len).wr LPM_OVL_CTRL_ovl_op op
  let s2 := (((s1.wr LPM_OVL_CTRL_ovl_root r).wr LPM_OVL_CTRL_q_len q.2.1).wr LPM_OVL_CTRL_q_hit (b2n q.1)).wr
    LPM_OVL_QRES_q_res q.2.2
  ((s2.wr LPM_OVL_PLY_ovl_ply s.clk.ply).wr LPM_OVL_CTRL_armed 1).wr LPM_STATUS_ovl_armed 1

/-- The room that an insert of a new prefix needs: a record in its stage, and a node in each stage that it must add one
to (R415). -/
def State.lpmRoom (s : State) (r pfx len : Nat) : Bool :=
  let st := stageOf len
  (lowestNot (s.recsUsed st) (recCount st)).isSome &&
    ((s.path pfx st 0 r).zipIdx).all (fun x =>
      x.1.isSome || (lowestNot (s.nodesUsed (x.2 + 1)) (nodeCount (x.2 + 1))).isSome)

/-! ### The background rewrite (R417, R418) -/

/-- The covered entry indexes of a prefix in its stage (R406). -/
def coveredFrom (pfx len : Nat) : Nat :=
  let st := stageOf len
  let k := len - stageB st
  bitsOf pfx (64 - len) k * 2 ^ (stageS st - k)

/-- The number of covered entries (R406). -/
def coveredCount (len : Nat) : Nat := 2 ^ (stageB (stageOf len) + stageS (stageOf len) - len)

/-- The stages whose records the search for Q reads, from length `len` down (R416, R426). -/
def State.qStages (s : State) (t pfx : Nat) : Nat → List Nat
  | 0 => []
  | len + 1 =>
    if len = 0 then []
    else if (s.findRec t (topBits pfx len * 2 ^ (64 - len)) len).isSome then [stageOf len]
    else stageOf len :: s.qStages t pfx len

/-- An update of table `t` would read a word that fails parity in both copies (R426): an entry on the prefix's path, an
entry that the prefix covers, or a record of its stage or of one in which Q is looked for. -/
def State.lpmBad (s : State) (t r pfx len : Nat) : Option (Nat × Nat) :=
  let st := stageOf len
  let path := s.path pfx st 0 r
  let onPath := (List.range (st + 1)).map (fun k =>
    let n := if k = 0 then some r else path.getD (k - 1) none
    n.map (fun n => (sidStage k, entryWord k n (stageKey k pfx))))
  let listed := listedUnits s.mem (sidStage st)
  let covered := match (if st = 0 then some r else path.getD (st - 1) none) with
    | none => []
    | some n =>
      let w0 := entryWord st n (coveredFrom pfx len)
      (listed.filter (fun w => w0 ≤ w && w < w0 + coveredCount len)).map (fun w => some (sidStage st, w))
  let recs := (st :: (s.qStages t pfx len).filter (· != st)).flatMap (fun k =>
    ((listedUnits s.mem (sidStage k)).filter (fun w => recBase k ≤ w)).map (fun w => some (sidStage k, w)))
  ((onPath ++ covered ++ recs).filterMap id).find? (fun w => (readWord s.mem w.1 w.2).poison)

/-- The covered entries of a root or node rewritten, one masked pass over the row (R406, R417). -/
def State.rewriteCovered (s : State) (n pfx len : Nat) (f : Entry → Entry) : State :=
  let st := stageOf len
  s.storeWords (sidStage st) ((List.range (coveredCount len)).filterMap (fun k =>
    let i := coveredFrom pfx len + k
    let e := s.lpmEntry st n i
    if f e = e then none else some (entryWord st n i, encodeEntry (f e))))

/-- The nodes that the path of an insert lacks, allocated lowest first, as (stage, node) pairs from stage 1 on. -/
def State.allocPath (s : State) (key r len : Nat) : List (Option Nat × Nat) :=
  ((s.path key (stageOf len) 0 r).zipIdx).map (fun x =>
    (x.1, match x.1 with
      | some n => n
      | none => (lowestNot (s.nodesUsed (x.2 + 1)) (nodeCount (x.2 + 1))).getD 0))

/-- The record and the nodes of an update, allocated lowest first where it needs new ones (R411, R418). -/
def State.lpmPlan (s : State) (t r pfx len : Nat) : LpmPlan :=
  let st := stageOf len
  { record := (s.findRec t pfx len).getD ((lowestNot (s.recsUsed st) (recCount st)).getD 0)
    nodes := s.allocPath pfx r len }

/-- The root or node that holds a prefix of length `len` (R410). -/
def LpmPlan.target (p : LpmPlan) (r len : Nat) : Nat :=
  if stageOf len = 0 then r else (p.nodes.getD (stageOf len - 1) (none, 0)).2

/-- The record of a prefix written (R410). -/
def State.writeRec (s : State) (p : LpmPlan) (t r pfx len result : Nat) : State :=
  let w := recBase (stageOf len) + 2 * p.record
  s.storeWords (sidStage (stageOf len))
    [(w, pfx), (w + 1, result + len * 2 ^ 32 + (t + 128) * 2 ^ 40 + p.target r len * 2 ^ 48)]

/-- The commit of an LPM update: the overlay armed, and the rewrite begun, which allocates the nodes and writes the record
first (R416, R418). -/
def State.beginRewrite (s : State) (t r op pfx len result : Nat) : State :=
  let p := s.lpmPlan t r pfx len
  let a := s.armOverlay t r op pfx len result
  let s1 : State := { a with tbl := { a.tbl with rewrite := some p, hostBytes := [] } }
  if op = 2 then s1 else s1.writeRec p t r pfx len result

/-- The rest of the rewrite of an insert or a result change (R418): the covered entries, then the child pointers from the
deepest upward. -/
def State.rewriteInsert (s : State) (p : LpmPlan) (r pfx len result : Nat) : State :=
  let nodes := p.nodes
  let target := p.target r len
  let s2 := s.rewriteCovered target pfx len (fun e => if e.len ≤ len then { e with len := len, result := result } else e)
  (nodes.zipIdx.reverse).foldl (fun s x =>
    match x.1.1 with
    | some _ => s
    | none =>
      let parentStage := x.2
      let parent := if parentStage = 0 then r else (nodes.getD (parentStage - 1) (none, 0)).2
      let i := stageKey parentStage pfx
      let e := s.lpmEntry parentStage parent i
      s.storeWords (sidStage parentStage)
        [(entryWord parentStage parent i, encodeEntry { e with childValid := true, child := x.1.2 })]) s2

/-- Nodes that hold only zeros released, from the deepest upward (R411, R418). -/
def State.releaseNodes (s : State) (r key len : Nat) : State :=
  let nodes := s.path key (stageOf len) 0 r
  (nodes.zipIdx.reverse).foldl (fun s x =>
    match x.1 with
    | none => s
    | some n =>
      if (s.nodesUsed (x.2 + 1)).contains n then s
      else
        let parent := if x.2 = 0 then r else ((nodes.getD (x.2 - 1) none).getD 0)
        let i := stageKey x.2 key
        let e := s.lpmEntry x.2 parent i
        s.storeWords (sidStage x.2) [(entryWord x.2 parent i, encodeEntry { e with childValid := false, child := 0 })]) s

/-- The rewrite of a delete (R417, R418): the covered entries, then its record cleared and its free nodes released. -/
def State.rewriteDelete (s : State) (p : LpmPlan) (r pfx len : Nat) (q : Bool × Nat × Nat) : State :=
  let st := stageOf len
  let nodes := s.path pfx st 0 r
  let target := if st = 0 then some r else nodes.getD (st - 1) none
  let same := q.1 && q.2.1 != 0 && stageOf q.2.1 == st
  let s1 := match target with
    | none => s
    | some n => s.rewriteCovered n pfx len (fun e =>
        if e.len = len then { e with len := if same then q.2.1 else 0, result := if same then q.2.2 else 0 } else e)
  let s2 := s1.storeWords (sidStage st) [(recBase st + 2 * p.record, 0), (recBase st + 2 * p.record + 1, 0)]
  s2.releaseNodes r pfx len

/-- Byte `o` of a structure of 8-byte words as another memory holds it, with its check bit, in every copy. -/
def copyByte (old m : Memory) (sid o : Nat) : Memory :=
  let bit : Byte := BitVec.ofNat 8 (2 ^ (o % 8))
  (copies sid).foldl (fun m c =>
    let d := memBytes m (dataBase sid c + o / 8 * 8) 8
    let chk := memByte m (checkBase sid c + o / 8)
    putWordRaw m sid c (o / 8) (d.take (o % 8) ++ [memByte old (dataBase sid c + o)] ++ d.drop (o % 8 + 1))
      ((chk &&& ~~~ bit) ||| (memByte old (checkBase sid c + o / 8) &&& bit))) m

/-- The overlay's rewrite finished and the overlay disarmed (R418). What the host has written meanwhile stands. -/
def State.finishRewrite (s : State) : State :=
  let r := s.rd LPM_OVL_CTRL_ovl_root
  let len := s.rd LPM_OVL_CTRL_ovl_len
  let p := s.tbl.rewrite.getD (s.lpmPlan (s.rdi LPM_ROOT_CFG_table r) r s.ovlPfx len)
  let s0 : State := { s with tbl := { s.tbl with rewrite := none, hostBytes := [] } }
  let s1 :=
    if s.rd LPM_OVL_CTRL_ovl_op = 2 then
      s0.rewriteDelete p r s.ovlPfx len
        (s.rd LPM_OVL_CTRL_q_hit == 1, s.rd LPM_OVL_CTRL_q_len, s.rd LPM_OVL_QRES_q_res)
    else s0.rewriteInsert p r s.ovlPfx len (s.rd LPM_OVL_RES_ovl_res)
  let s2 : State := { s1 with mem := s.tbl.hostBytes.foldl (fun m w => copyByte s.mem m w.1 w.2) s1.mem }
  (s2.wr LPM_OVL_CTRL_armed 0).wr LPM_STATUS_ovl_armed 0

/-! ### Tables (R412, R423) -/

/-- The nodes of a table, stage by stage, from the entries of its root. -/
def State.childNodes (s : State) (st : Nat) (parents : List Nat) : List Nat :=
  (listedUnits s.mem (sidStage st)).filterMap (fun w =>
    let per := if st = 0 then 65536 else 256
    if w < recBase st && parents.contains (w / per) then
      let e := decodeEntry (leNat (readWord s.mem (sidStage st) w).data)
      if e.childValid then some e.child else none
    else none)

/-- The nodes of stages 1 to `n` reached from root `r`, stage 1 first. -/
def State.treeNodes (s : State) : Nat → Nat → List Nat → List (Nat × Nat)
  | 0, _, _ => []
  | n + 1, st, parents =>
    let c := s.childNodes st parents
    c.map (fun k => (st + 1, k)) ++ s.treeNodes n (st + 1) c

/-- A sweep of root `r` of table `t`: the root cleared, the nodes and the records released (R423). -/
def State.sweepLpm (s : State) (t r : Nat) : State :=
  let nodes := s.treeNodes 6 0 [r]
  let recs := (List.range 7).flatMap (fun st => (s.tblRecs t st).map (fun j => (st, j)))
  let s0 := s.fillRange (sidStage 0) (8 * 65536 * r) (8 * 65536)
  let s1 := nodes.foldl (fun s x => s.fillRange (sidStage x.1) (2048 * x.2) 2048) s0
  recs.foldl (fun s x => s.fillRange (sidStage x.1) (8 * recBase x.1 + 16 * x.2) 16) s1

/-- The LPM tables defined (LPM_STATUS.tables). -/
def State.lpmTables (s : State) : Nat := ((List.range 4).filter (fun r => s.rdi LPM_ROOT_CFG_defined r == 1)).length

/-- The lowest root that is neither defined nor still swept (R412). -/
def State.freeRoot (s : State) : Option Nat :=
  (List.range 4).find? (fun r => s.rdi LPM_ROOT_CFG_defined r == 0 && s.rdi LPM_ROOT_CFG_sweep r == 0)

end Sys2Proof.Machine
end

