-- ==== Sys2Proof/Machine/Image.lean ====
section
/-! DEFINITION. Table images: their header, the records of each engine, and the checks of a load (R358, R400, R424). -/

namespace Sys2Proof.Machine
open Reg

/-- The number of the direct index in table operands. -/
def dixTable : Nat := 0x40

/-- The engine code of an image of table `t`: 1 TCAM, 2 EXACT, 3 the direct index, 4 LPM; 0 when undefined. -/
def State.imgEngine (s : State) (t : Nat) : Nat := if t = dixTable then 3 else if s.tblDefined t then s.tblEngine t else 0

/-- The bytes of a record of an engine, for a table of `w` array slots an entry (R358, R400). -/
def recSize (engine w : Nat) : Nat :=
  match engine with
  | 1 => (16 + 20 * w + 7) / 8 * 8
  | 2 => 32
  | _ => 16

/-- The record of the TCAM entry at first slot `f` (R358), with the merged result word. -/
def State.tcamRec (s : State) (t f : Nat) : List Byte :=
  let w := s.tblW t
  padTo (recSize 1 w) (leBytes 4 f ++ leBytes 2 (slotPrio (s.slot f)) ++ leBytes 2 1 ++
    (readWord s.mem sidResult f).data ++ s.entryValue f w ++ s.entryMask f w)

/-- The record of an exact-match entry (R400). -/
def exactRec (key : List Byte) (result type : Nat) (learned : Bool) : List Byte :=
  padTo 32 (padTo 16 key ++ leBytes 8 result ++ leBytes 1 type ++ leBytes 1 (b2n learned))

/-- The record of the exact-match entry at a place. -/
def State.placeRec (s : State) (p : Place) : List Byte :=
  let u := s.unitBytesOf p
  exactRec (entKey u) (entResult u) (entType u) (entLearned u)

/-- The record of direct-index word `h` (R400). -/
def State.dixRec (s : State) (h : Nat) : List Byte :=
  leBytes 2 h ++ List.replicate 6 0 ++ (readWord s.mem sidDix h).data

/-- The record of a prefix, or of a default route with length 0 (*The prefix trie*, *Images*). -/
def lpmRec (pfx result len : Nat) : List Byte := leBytes 8 pfx ++ leBytes 4 result ++ leBytes 4 len

/-- The 16-byte header of an image (R358). -/
def imageHeader (width engine : Nat) (recs : List (List Byte)) : List Byte :=
  leBytes 4 0x474D4954 ++ leBytes 1 width ++ leBytes 1 engine ++ leBytes 2 0 ++ leBytes 4 recs.length ++
    leBytes 4 (crc32 recs.flatten)

/-- The entries of a table with their image indexes, in ascending index order from `first`. -/
def State.imageEntries (s : State) (t first : Nat) : List (Nat × List Byte) :=
  match s.imgEngine t with
  | 1 => ((s.positions t false).filter (fun f => first ≤ f && s.entryValid f (s.tblW t))).map (fun f => (f, s.tcamRec t f))
  | 2 => ((s.exactEntries t).filter (fun p => first ≤ placeIndex p)).map (fun p => (placeIndex p, s.placeRec p))
  | 3 => (((List.range (s.rd DIX_CFG_dix_limit)).drop first)).map (fun h => (h, s.dixRec h))
  | 4 =>
    (match s.lpmRootOf t with
     | some r => if first = 0 ∧ s.rdi LPM_ROOT_CFG_dflt_valid r = 1 then [(0, lpmRec 0 (s.rdi LPM_ROOT_DFLT_dflt_result r) 0)] else []
     | none => []) ++
      ((List.range 7).flatMap (fun st => (s.tblRecs t st).map (fun j =>
        let b := s.recBytes st j
        (lpmIndex st j, lpmRec (recPfx b) (recResult b) (recLen b))))).filter (fun e => first ≤ e.1)
  | _ => []

/-- Every record of a table, in image order. -/
def State.imageRecs (s : State) (t : Nat) : List (List Byte) := (s.imageEntries t 0).map (·.2)

/-- A byte string cut into records of `n` bytes. -/
def cutRecs (n : Nat) : Nat → List Byte → List (List Byte)
  | 0, _ => []
  | fuel + 1, l => if l.isEmpty || n == 0 then [] else l.take n :: cutRecs n fuel (l.drop n)

/-- The records of an image for an engine and width, when its header, its length and its CRC are right (R359). -/
def imageParse (engine width : Nat) (img : List Byte) : Option (List (List Byte)) :=
  let body := img.drop 16
  let n := recSize engine (2 ^ width)
  let count := leNat ((img.drop 8).take 4)
  if img.length < 16 || leNat (img.take 4) != 0x474D4954 || leNat ((img.drop 4).take 1) != width ||
      leNat ((img.drop 5).take 1) != engine || leNat ((img.drop 6).take 2) != 0 || count == 0 ||
      body.length != count * n || leNat ((img.drop 12).take 4) != crc32 body then none
  else some (cutRecs n count body)

/-! ### The words that a record comes from (R48, R594, R602) -/

/-- A field of a record: its position and length in the record, and the word that it is read from. -/
structure RecSrc where
  pos : Nat
  len : Nat
  sid : Nat
  word : Nat
  deriving DecidableEq, Repr

/-- The sources of the record of the TCAM entry at first slot `f` (R317, R358). -/
def State.tcamSrc (s : State) (t f : Nat) : List RecSrc :=
  let w := s.tblW t
  [⟨4, 2, sidArray, 4 * f + 1⟩, ⟨8, 8, sidResult, f⟩] ++ (List.range w).flatMap (fun k =>
    let q := 4 * (f + k)
    [⟨16 + 10 * k, 8, sidArray, q⟩, ⟨24 + 10 * k, 2, sidArray, q + 1⟩, ⟨16 + 10 * (w + k), 8, sidArray, q + 2⟩,
     ⟨24 + 10 * (w + k), 2, sidArray, q + 3⟩])

/-- The sources of an exact-match record, of a direct-index record and of a prefix record (R366, R400, R410). -/
def placeSrc (p : Place) : List RecSrc :=
  [⟨0, 8, p.sid, 4 * p.unit⟩, ⟨8, 8, p.sid, 4 * p.unit + 1⟩, ⟨16, 8, p.sid, 4 * p.unit + 2⟩, ⟨24, 2, p.sid, 4 * p.unit + 3⟩]
def dixSrc (h : Nat) : List RecSrc := [⟨8, 8, sidDix, h⟩]
def lpmSrc (st j : Nat) : List RecSrc :=
  [⟨0, 8, sidStage st, recBase st + 2 * j⟩, ⟨8, 8, sidStage st, recBase st + 2 * j + 1⟩]

/-- The sources of the image entry of table `t` with an index and a record. -/
def State.entrySrc (s : State) (t : Nat) (e : Nat × List Byte) : List RecSrc :=
  match s.imgEngine t with
  | 1 => s.tcamSrc t e.1
  | 2 => placeSrc (indexPlace e.1)
  | 3 => dixSrc e.1
  | 4 => if recLen e.2 = 0 then [] else lpmSrc (e.1 / 2 ^ 20) (e.1 % 2 ^ 20)
  | _ => []

/-- The positions of a record's bytes that are read from an uncorrectable word (R593). -/
def State.srcBad (s : State) (l : List RecSrc) : List Nat :=
  (l.filter (fun x => (readWord s.mem x.sid x.word).poison)).flatMap (fun x => (List.range x.len).map (x.pos + ·))

/-- The sources of image entries laid one after the other, records of `n` bytes from position `at_` on. -/
def State.imageSrc (s : State) (t n : Nat) : Nat → List (Nat × List Byte) → List RecSrc
  | _, [] => []
  | at_, e :: es => (s.entrySrc t e).map (fun x => { x with pos := at_ + x.pos }) ++ State.imageSrc s t n (at_ + n) es

/-- The failing words that firmware reads from a table reported, with the table's number (R602). -/
def State.reportSrc (s : State) (t : Nat) (l : List RecSrc) : State :=
  l.foldl (fun s x => s.reportRead x.sid x.word 3 t) s

/-! ### Fields of records -/

def recNat (r : List Byte) (o n : Nat) : Nat := leNat ((r.drop o).take n)

/-- Index, priority, result, value and mask of a TCAM record of width `w`. -/
def tcamRecIdx (r : List Byte) : Option Nat := if recNat r 0 4 = 0xFFFFFFFF then none else some (recNat r 0 4)
def tcamRecValue (w : Nat) (r : List Byte) : List Byte := (r.drop 16).take (10 * w)
def tcamRecMask (w : Nat) (r : List Byte) : List Byte := (r.drop (16 + 10 * w)).take (10 * w)

end Sys2Proof.Machine
end

