-- ==== Sys2Proof/Machine/Caddy.lean ====
section
/-! DEFINITION. The caddy: its layout, its journal engine and the reading back of a journal (R649 to R661; chapter *Cores,
caddy and the fatal dump*). -/

namespace Sys2Proof.Machine
open Reg

/-! ### The caddy's bytes (sid 0x60) -/

/-- The structure code of the caddy. -/
def sidCaddy : Nat := 0x60

/-- Places of the caddy's layout. -/
def cadSlotRec (i : Nat) : Nat := 0x40 + 0x40 * i
def cadShutdown : Nat := 0x1000
def cadAnchor (i : Nat) : Nat := 0x2000 + 0x40 * i
def cadSlot (i : Nat) : Nat := 0x10000 + 0x100000 * i
def cadDump : Nat := 0x210000
def cadScratch : Nat := 0x410000
def cadRing : Nat := 0x510000
def cadRingSize : Nat := 27584 * 1024

/-- The number of 64-byte lines that `n` bytes from offset `off` touch. -/
def linesOf (off n : Nat) : Nat := if n = 0 then 0 else (off + n + 63) / 64 - off / 64

/-- Bytes written into the caddy, counted in lines. -/
def State.cadPut (s : State) (off : Nat) (bs : List Byte) : State :=
  (s.storeBytes sidCaddy off (bs.map some)).addi CADDY_WRITES_lines_written 0 (linesOf off bs.length)

/-- Bytes of the caddy. -/
def State.cadGet (s : State) (off n : Nat) : List Byte := memBytes s.mem (dataBase sidCaddy 0 + off) n

/-- Bytes written into the caddy, of which those at the positions `bad` carry poison. -/
def State.cadPutBad (s : State) (off : Nat) (bs : List Byte) (bad : List Nat) : State :=
  (s.storeMixed sidCaddy off bs bad).addi CADDY_WRITES_lines_written 0 (linesOf off bs.length)

/-- A little-endian number of the caddy. -/
def State.cadNat (s : State) (off n : Nat) : Nat := leNat (s.cadGet off n)

/-- Lines read, counted. -/
def State.cadRead (s : State) (off n : Nat) : State := s.addi CADDY_READS_lines_read 0 (linesOf off n)

/-- active_slot of the caddy header. -/
def State.activeSlot (s : State) : Nat := s.cadNat 0 1 % 2

/-! ### The shutdown record (R651, R652) -/

/-- A signed 16-bit field. -/
def enc16z (v : Int) : Nat := (v % 65536).toNat

/-- The 64 bytes of the shutdown record. -/
def shutdownBytes (recState cause step journalOk save also us : Nat) (dt3 dt4 : Int) (ply : Nat) : List Byte :=
  let b := padTo 60 (leBytes 4 0x54385344 ++ leBytes 1 recState ++ leBytes 1 cause ++ leBytes 1 step ++
    leBytes 1 (journalOk + 2 * save) ++ leBytes 1 also ++ leBytes 3 0 ++ leBytes 4 us ++ leBytes 2 (enc16z dt3) ++
    leBytes 2 (enc16z dt4) ++ leBytes 8 ply)
  b ++ leBytes 4 (crc32 b)

/-- The shutdown record is present: magic, CRC, no poison, and rec_state open or complete (R652). -/
def State.shutdownRec (s : State) : Option (List Byte) :=
  let b := s.cadGet cadShutdown 64
  if leNat (b.take 4) == 0x54385344 && leNat ((b.drop 60).take 4) == crc32 (b.take 60) &&
      !s.rangePoison sidCaddy cadShutdown 64 && ((b.getD 4 0) == 1 || (b.getD 4 0) == 2) then some b
  else none

/-! ### The journal engine (R657, R658) -/

/-- Bytes written into the ring from a ring offset, wrapping at its end; those at the positions `bad` carry poison. -/
def State.ringPut (s : State) (off : Nat) (bs : List Byte) (bad : List Nat) : State :=
  let o := off % cadRingSize
  let n := min bs.length (cadRingSize - o)
  let s1 := s.cadPutBad (cadRing + o) (bs.take n) (bad.filter (· < n))
  if n < bs.length then s1.cadPutBad cadRing (bs.drop n) ((bad.filter (n ≤ ·)).map (· - n)) else s1

/-- Bytes of the ring from a ring offset, wrapping at its end. -/
def State.ringGet (s : State) (off n : Nat) : List Byte :=
  let o := off % cadRingSize
  let k := min n (cadRingSize - o)
  s.cadGet (cadRing + o) k ++ s.cadGet cadRing (n - k)

/-- A ring range holds poison. -/
def State.ringPoison (s : State) (off n : Nat) : Bool :=
  let o := off % cadRingSize
  let k := min n (cadRingSize - o)
  (k != 0 && s.rangePoison sidCaddy (cadRing + o) k) || (n - k != 0 && s.rangePoison sidCaddy cadRing (n - k))

/-- A number of bytes rounded up to whole lines. -/
def roundLine (n : Nat) : Nat := (n + 63) / 64 * 64

/-- A journal record with its header and its padding (R657). -/
def jrnlRecord (type op seq table : Nat) (payload : List Byte) : List Byte :=
  let h := leBytes 2 0x4A52 ++ leBytes 1 type ++ leBytes 1 op ++ leBytes 4 payload.length ++ leBytes 8 seq ++
    leBytes 4 table ++ leBytes 4 0 ++ leBytes 4 (crc32 payload)
  padTo (roundLine (32 + payload.length)) (h ++ leBytes 4 (crc32 h) ++ payload)

/-- The journal engine runs: enabled, not full, and the caddy not claimed. -/
def State.jrnlOn (s : State) : Bool :=
  s.rd CADDY_STATUS_jrnl_en == 1 && s.rd CADDY_STATUS_jrnl_full == 0 && !s.claimed 19

/-- A record appended at the head; when it would overwrite the last complete checkpoint, the engine stops instead and
sets jrnl_full. The payload's bytes at the positions `bad` carry poison. -/
def State.jrnlPut (s : State) (type op table : Nat) (payload : List Byte) (bad : List Nat := []) : State :=
  let r := jrnlRecord type op s.jrnl.seq table payload
  if cadRingSize < s.jrnl.used + r.length then
    (s.wr CADDY_STATUS_jrnl_full 1).raise CADDY_EVENT_jrnl_full
  else
    let s1 := s.ringPut s.jrnl.head r (bad.map (32 + ·))
    { s1 with jrnl := { s1.jrnl with
        head := (s1.jrnl.head + r.length) % cadRingSize, used := s1.jrnl.used + r.length, seq := s1.jrnl.seq + 1
        pending := s1.jrnl.pending + r.length
        crc := (crcRun (BitVec.ofNat 32 s1.jrnl.crc) r).toNat } }

/-- The journal mask. -/
def State.jrnlMask (s : State) : Nat :=
  s.rd CADDY_JRNL_MASK_LO_mask + 2 ^ 32 * s.rd CADDY_JRNL_MASK_HI_mask

/-- The COMMIT record: the records written so far are closed. -/
def State.jrnlClose (s : State) : State :=
  if !s.jrnlOn then s
  else
    let n := s.jrnl.commitNo + 1
    let q := s.jrnl.seq
    let s1 := s.jrnlPut 5 0 0xFF
      (leBytes 8 n ++ leBytes 8 s.clk.ply ++ leBytes 4 (s.jrnl.crc ^^^ 0xFFFFFFFF) ++ List.replicate 12 0)
    if s1.rd CADDY_STATUS_jrnl_full = 1 then s1
    else { s1 with jrnl := { s1.jrnl with
        commitNo := n, commitSeq := q, pending := 0, crc := 0xFFFFFFFF, commitHead := s1.jrnl.head
        commitUsed := s1.jrnl.used } }

/-- The records so far are committed at once when 256 KiB of them are not (R658). -/
def State.jrnlLimit (s : State) : State := if 262144 ≤ s.jrnl.pending then s.jrnlClose else s

/-- A checkpoint starts: CKPT_BEGIN at the head (R658). -/
def State.jrnlCheckpoint (s : State) : State :=
  if !s.jrnlOn then s
  else
    let at_ := (s.jrnl.head, s.jrnl.seq, s.jrnl.used)
    let s1 := s.jrnlPut 1 0 0xFF (leBytes 8 s.jrnlMask)
    if s1.rd CADDY_STATUS_jrnl_full = 1 then s1
    else (({ s1 with jrnl := { s1.jrnl with ckpt := some at_ } } : State).wr CADDY_STATUS_ckpt_run 1).jrnlLimit

/-- The running checkpoint ends without CKPT_END. -/
def State.dropCheckpoint (s : State) : State :=
  ({ s with jrnl := { s.jrnl with ckpt := none } } : State).wr CADDY_STATUS_ckpt_run 0

/-- A checkpoint starts when free space has fallen below a quarter of the ring (R658). -/
def State.jrnlSpace (s : State) : State :=
  if s.jrnl.ckpt.isNone && 4 * (cadRingSize - s.jrnl.used) < cadRingSize then s.jrnlCheckpoint else s

/-- A commit of the journal: the COMMIT record, then a checkpoint when space runs short (R658). -/
def State.jrnlCommit (s : State) : State := s.jrnlClose.jrnlSpace

/-- Records appended (R658). -/
def State.jrnlAppend (s : State) (type op table : Nat) (payload : List Byte) (bad : List Nat := []) : State :=
  if !s.jrnlOn then s
  else
    let s1 := s.jrnlPut type op table payload bad
    s1.jrnlLimit.jrnlSpace

/-- Table `t` is journaled (bit 63 of the mask stands for the direct index). -/
def State.journaled (s : State) (t : Nat) : Bool :=
  s.rd CADDY_STATUS_jrnl_en == 1 && (if t = dixTable then bitOf s.jrnlMask 63 else t < 63 && bitOf s.jrnlMask t)

/-- The TABLE_DEF payload of a table (R657). -/
def State.tableDef (s : State) (t : Nat) : List Byte :=
  let hid := s.tblHidden t
  let bind := s.tblBind t
  let head (engine flags : Nat) : List Byte :=
    leBytes 1 t ++ leBytes 1 engine ++ leBytes 1 flags ++ leBytes 1 (if bind = 3 then 0xFF else bind)
  let cart : List Byte :=
    if bind < 2 ∧ t ≠ dixTable then leBytes 4 (s.rdi SLOT_CART_LO_cart_id bind) ++ leBytes 4 (s.rdi SLOT_CART_HI_cart_id bind)
    else leBytes 8 0
  let tail (last : Nat) : List Byte := leBytes 1 (b2n hid) ++ leBytes 3 0 ++ cart ++ leBytes 8 last
  match s.imgEngine t with
  | 1 => padTo 40 (head 1 (b2n hid + 2) ++ leBytes 1 (s.rdi TCAM_TBL_CFG_width_code t) ++ leBytes 3 0 ++
      listBitmap 32 (s.tblBlocks t)) ++ tail 0
  | 2 => padTo 40 (head 2 (b2n hid) ++ leBytes 1 (s.rdi HASH_TBL_CFG_types t) ++ leBytes 1 (s.rdi HASH_TBL_CFG_learn t) ++
      leBytes 2 0 ++ leBytes 4 (s.rdi HASH_TBL_QUOTA_quota t)) ++ tail 0
  | 4 =>
    let r := (s.lpmRootOf t).getD 0
    padTo 40 (head 4 (b2n hid) ++ leBytes 4 (s.rdi LPM_ROOT_QUOTA_quota r)) ++
      tail (s.rdi LPM_ROOT_DFLT_dflt_result r + 2 ^ 32 * s.rdi LPM_ROOT_CFG_dflt_valid r)
  | 3 => padTo 40 (leBytes 1 dixTable ++ leBytes 1 3 ++ leBytes 1 0 ++ leBytes 1 0xFF) ++ leBytes 4 0 ++ leBytes 8 0 ++
      leBytes 8 (s.rd DIX_CFG_dix_limit)
  | _ => []

/-- A DELTA record of a committed update to table `t`; while the caddy is claimed nothing is appended and the conflict is
posted (R256, R658). The payload's bytes at the positions `bad` are read from uncorrectable words and carry poison (R594). -/
def State.delta (s : State) (op t : Nat) (payload : List Byte) (bad : List Nat := []) : State :=
  if !s.journaled t then s
  else if s.rd CADDY_STATUS_jrnl_full = 1 then s
  else if s.claimed 19 then s.conflict 19 2 1
  else s.jrnlAppend 4 op t payload bad

/-- The journaled tables that are defined, in ascending order, the direct index last. -/
def State.jrnlTables (s : State) : List Nat :=
  (List.range 63).filter (fun t => s.journaled t && s.tblDefined t) ++ (if s.journaled dixTable then [dixTable] else [])

/-- The end of a checkpoint: TABLE_DEF and IMAGE of each journaled table, CKPT_END, and the anchor (R658). -/
def State.finishCheckpoint (s : State) : State :=
  match s.jrnl.ckpt with
  | none => s
  | some (off, q, usedAt) =>
    if s.rd CADDY_STATUS_jrnl_en = 1 ∧ s.claimed 19 then s.conflict 19 2 1
    else if !s.jrnlOn then s
    else
      let s1 := s.jrnlTables.foldl (fun s t =>
        let recs := s.imageEntries t 0
        (s.jrnlAppend 2 0 t (s.tableDef t)).jrnlAppend 3 0 t (recs.flatMap (·.2))
          (s.srcBad (s.imageSrc t (recSize (s.imgEngine t) (s.tblW t)) 0 recs))) s
      let s2 := s1.jrnlAppend 6 0 0xFF (leBytes 8 q)
      if s2.rd CADDY_STATUS_jrnl_full = 1 then s2
      else
        let a := leBytes 4 off ++ leBytes 4 0 ++ leBytes 8 q ++ leBytes 8 (s2.jrnl.anchorWrites + 1) ++ List.replicate 36 0
        let s3 := s2.cadPut (cadAnchor s2.jrnl.anchorCopy) (a ++ leBytes 4 (crc32 a))
        (({ s3 with jrnl := { s3.jrnl with
            ckpt := none, tail := off, used := s3.jrnl.used - usedAt, commitUsed := s3.jrnl.commitUsed - usedAt
            anchorCopy := 1 - s3.jrnl.anchorCopy, anchorWrites := s3.jrnl.anchorWrites + 1 } } : State).wr
          CADDY_STATUS_ckpt_run 0).raise CADDY_EVENT_ckpt_done

/-- Journaling enabled: a checkpoint starts (R664). -/
def State.jrnlEnable (s : State) (mask : Nat) : State :=
  ((((s.wr CADDY_STATUS_jrnl_en 1).wr CADDY_JRNL_MASK_LO_mask mask).wr CADDY_JRNL_MASK_HI_mask
    (mask / 2 ^ 32)).dropCheckpoint).jrnlCheckpoint

/-- Journaling disabled: the pending records are committed and nothing more is appended (R664). -/
def State.jrnlDisable (s : State) : State :=
  let s1 := if s.jrnl.pending = 0 then s else s.jrnlClose
  s1.dropCheckpoint.wr CADDY_STATUS_jrnl_en 0

/-- Both anchors invalidated and the ring emptied (R664). -/
def State.jrnlClear (s : State) : State :=
  let s1 := (s.cadPut (cadAnchor 0) (List.replicate 64 0)).cadPut (cadAnchor 1) (List.replicate 64 0)
  let s2 : State := { s1 with
    mem := clearRange s1.mem sidCaddy cadRing cadRingSize
    jrnl := { s1.jrnl with head := 0, tail := 0, used := 0, pending := 0, crc := 0xFFFFFFFF, commitHead := 0
                           commitUsed := 0, ckpt := none } }
  let s3 := (s2.forget sidCaddy cadRing (cadRing + cadRingSize)).wr CADDY_STATUS_jrnl_full 0
  if s3.rd CADDY_STATUS_jrnl_en = 1 then (s3.wr CADDY_STATUS_ckpt_run 0).jrnlCheckpoint
  else s3.wr CADDY_STATUS_ckpt_run 0

/-! ### Reading a journal back (R659) -/

/-- A record read back: type, op, sequence number, table and payload, with its bytes. -/
structure JRec where
  type : Nat
  op : Nat
  seq : Nat
  table : Nat
  payload : List Byte
  bytes : List Byte
  deriving DecidableEq, Repr

/-- The record at a ring offset, when its header and payload pass their CRCs and no word holds poison. -/
def State.jrnlAt (s : State) (off : Nat) : Option JRec :=
  let h := s.ringGet off 32
  let n := leNat ((h.drop 4).take 4)
  if leNat (h.take 2) != 0x4A52 || leNat ((h.drop 28).take 4) != crc32 (h.take 28) || cadRingSize < 32 + n then none
  else
    let len := roundLine (32 + n)
    let b := s.ringGet off len
    let p := (b.drop 32).take n
    if leNat ((h.drop 24).take 4) != crc32 p || s.ringPoison off len then none
    else some { type := leNat ((h.drop 2).take 1), op := leNat ((h.drop 3).take 1), seq := leNat ((h.drop 8).take 8)
                table := leNat ((h.drop 16).take 4), payload := p, bytes := b }

/-- The consecutive records from a ring offset on, the first with sequence number `q`. -/
def State.jrnlRead (s : State) : Nat → Nat → Nat → List JRec
  | 0, _, _ => []
  | fuel + 1, off, q =>
    match s.jrnlAt off with
    | none => []
    | some r => if r.seq = q then r :: s.jrnlRead fuel ((off + r.bytes.length) % cadRingSize) (q + 1) else []

/-- The records between the COMMIT before the anchor and the anchor: line `k` back from the anchor is looked at first for a
record whose successors run up to it. Where no COMMIT stands before the anchor, they begin with the earliest such record (log
entry 165). -/
def State.jrnlBefore (s : State) (off q : Nat) (best : List JRec) : Nat → Nat → List JRec
  | 0, _ => best
  | fuel + 1, k =>
    let o := (off + cadRingSize - 64 * k) % cadRingSize
    match s.jrnlAt o with
    | some r =>
      if r.seq < q ∧ q ≤ r.seq + k then
        let l := s.jrnlRead (q - r.seq - 1) ((o + r.bytes.length) % cadRingSize) (r.seq + 1)
        if l.length = q - r.seq - 1 ∧ (l.map (fun r => r.bytes.length)).foldl (· + ·) r.bytes.length = 64 * k then
          (if r.type = 5 then l else s.jrnlBefore off q (r :: l) fuel (k + 1))
        else s.jrnlBefore off q best fuel (k + 1)
      else s.jrnlBefore off q best fuel (k + 1)
    | none => s.jrnlBefore off q best fuel (k + 1)

/-- The records through the last valid commit point, from those that follow the anchor; `crc` is the register over the
records since the previous COMMIT, `done` what is committed and `open_` what is not yet. -/
def jrnlValid (crc : BitVec 32) : List JRec → List JRec → List JRec → List JRec
  | done, _, [] => done
  | done, open_, r :: rs =>
    if r.type = 5 then
      if leNat ((r.payload.drop 16).take 4) = (crc ^^^ 0xFFFFFFFF).toNat then
        jrnlValid 0xFFFFFFFF (done ++ open_ ++ [r]) [] rs
      else done
    else jrnlValid (crcRun crc r.bytes) done (open_ ++ [r]) rs

/-- The newer anchor that passes its CRC: offset and sequence number of its CKPT_BEGIN. -/
def State.anchor (s : State) : Option (Nat × Nat) :=
  let a := ([0, 1].map (fun i => s.cadGet (cadAnchor i) 64)).filter (fun b =>
    leNat ((b.drop 60).take 4) == crc32 (b.take 60) && b.any (· != 0))
  match a with
  | [] => none
  | [b] => some (recNat b 0 4, recNat b 8 8)
  | b :: c :: _ =>
    if recNat b 16 8 < recNat c 16 8 then some (recNat c 0 4, recNat c 8 8) else some (recNat b 0 4, recNat b 8 8)

/-- The records that a warm start replays: from the anchor's CKPT_BEGIN through the last valid commit point. -/
def State.jrnlReplay (s : State) : Option (List JRec) :=
  match s.anchor with
  | none => none
  | some (off, q) =>
    let before := s.jrnlBefore off q [] 16384 1
    let l := s.jrnlRead 441344 off q
    some (jrnlValid (before.foldl (fun c r => crcRun c r.bytes) 0xFFFFFFFF) [] [] l)

/-! ### The state of a table that a journal holds -/

/-- A table as the journal holds it: its TABLE_DEF payload, its records, and whether its state is unknown. -/
structure JTable where
  defn : List Byte
  recs : List (List Byte)
  unknown : Bool
  deriving DecidableEq, Repr

/-- The key of a record of an engine: what a later record of the same entry replaces. -/
def recKey (engine : Nat) (r : List Byte) : List Byte :=
  match engine with
  | 1 => r.take 4
  | 2 => r.take 16 ++ (r.drop 24).take 1
  | 3 => r.take 2
  | _ => r.take 8 ++ (r.drop 12).take 1

/-- The journal mask of the last CKPT_BEGIN, the tables as a replay has them, and what a checkpoint that has not ended holds of
them. -/
structure JState where
  mask : Nat
  tabs : Store JTable
  ckpt : Store JTable
  deriving DecidableEq, Repr

/-- A table that a TABLE_DEF payload defines. -/
def jtableOf (p : List Byte) : JTable := { defn := p, recs := [], unknown := false }

/-- The engine of a table of the journal. -/
def JTable.engine (j : JTable) : Nat := leNat ((j.defn.drop 1).take 1)

/-- Replays a DELTA of table `t` over a store of tables. A create that names a table of the store changes its definition alone:
it records a grow, a shrink or a new dix_limit (log entry 164). A castle of two tables swaps their block sets and their entries,
and whether these are known (R659). -/
def jrnlDelta (mask op t : Nat) (p : List Byte) (st : Store JTable) : Store JTable :=
  let cur := storeGet? st t
  let upd (f : JTable → JTable) : Store JTable :=
    match cur with
    | none => st
    | some j => storePut st t (f j)
  let drop (j : JTable) : List (List Byte) := j.recs.filter (fun y => recKey j.engine y != recKey j.engine p)
  let setHid (v : Byte) (j : JTable) : JTable := { j with defn := j.defn.take 40 ++ [v] ++ j.defn.drop 41 }
  match op with
  | 1 | 3 => upd (fun j => { j with recs := drop j ++ [p] })
  | 2 => upd (fun j => { j with recs := drop j })
  | 4 => upd (fun j => { j with recs := [] })
  | 5 => storeDel st t
  | 6 => upd (setHid 1)
  | 7 => upd (setHid 0)
  | 9 =>
    match cur with
    | some j => storePut st t { j with defn := p }
    | none => storePut st t (jtableOf p)
  | 8 =>
    let b := leNat (p.take 1)
    match cur, storeGet? st b with
    | some x, some y =>
      if bitOf mask b then
        let blocks (j : JTable) : List Byte := (j.defn.drop 8).take 32
        let give (j k : JTable) : JTable :=
          { defn := j.defn.take 8 ++ blocks k ++ j.defn.drop 40, recs := k.recs, unknown := k.unknown }
        storePut (storePut st t (give x y)) b (give y x)
      else storePut st t { x with unknown := true }
    | some x, none => storePut st t { x with unknown := true }
    | _, _ => st
  | _ => st

/-- Replays one record (R659). What a checkpoint holds of a table takes the place of the table's state at its CKPT_END. -/
def jrnlStep (st : JState) (r : JRec) : JState :=
  match r.type with
  | 1 => { st with mask := leNat r.payload, ckpt := [] }
  | 2 => { st with ckpt := storePut st.ckpt r.table (jtableOf r.payload) }
  | 3 =>
    match storeGet? st.ckpt r.table with
    | none => st
    | some j =>
      let n := recSize j.engine (2 ^ leNat ((j.defn.drop 4).take 1))
      { st with ckpt := storePut st.ckpt r.table { j with recs := cutRecs n r.payload.length r.payload } }
  | 4 => { st with
           tabs := jrnlDelta st.mask r.op r.table r.payload st.tabs
           ckpt := if r.op = 8 then [] else jrnlDelta st.mask r.op r.table r.payload st.ckpt }
  | 6 => { st with tabs := st.ckpt.foldl (fun t e => storePut t e.1 e.2) st.tabs, ckpt := [] }
  | _ => st

/-- The tables that a journal holds. -/
def jrnlTablesOf (l : List JRec) : Store JTable := (l.foldl jrnlStep { mask := 0, tabs := [], ckpt := [] }).tabs

end Sys2Proof.Machine
end

