-- ==== Sys2Proof/Machine/Crypto.lean ====
section
/-! DEFINITION. The functions of the security datapath that the manual names by standard: SHA-256 and HMAC-SHA-256, the
counter-mode KDF of R562, ECDSA on P-256 (R5), AES-256 and its XTS mode (R513). -/

namespace Sys2Proof.Machine

/-! ### SHA-256 -/

/-- The root of degree `k` of `x`, rounded down, by its low `n` bits over the bits found so far. -/
def rootFloor (k x : Nat) : Nat → Nat → Nat
  | 0, r => r
  | n + 1, r => rootFloor k x n (if (r + 2 ^ n) ^ k ≤ x then r + 2 ^ n else r)

/-- The first 64 prime numbers. -/
def shaPrimes : List Nat :=
  (List.range 312).filter (fun p => 1 < p && [2, 3, 5, 7, 11, 13, 17].all (fun d => p == d || p % d != 0))

/-- A 32-bit word of SHA-256. -/
abbrev ShaWord := BitVec 32

/-- The first 32 bits of the fractional part of the root of degree `k` of a number (FIPS 180-4). -/
def fracRoot (k p : Nat) : ShaWord := BitVec.ofNat 32 (rootFloor k (p * 2 ^ (32 * k)) 37 0)

/-- The round constants: the cube roots of the primes. -/
def shaConsts : List ShaWord := shaPrimes.map (fracRoot 3)

/-- Several rotations of a word, exclusive-ored. -/
def rotations (rs : List Nat) (x : ShaWord) : ShaWord := rs.foldl (fun y r => y ^^^ x.rotateRight r) 0

/-- The big-endian word of four bytes. -/
def beWord (b : List Byte) : ShaWord := BitVec.ofNat 32 (leNat b.reverse)

/-- A message schedule, newest word first, made longer by `n` words. -/
def shaSchedule : Nat → List ShaWord → List ShaWord
  | 0, ws => ws
  | n + 1, ws =>
    let back (i : Nat) : ShaWord := ws.getD (i - 1) 0
    let near := rotations [17, 19] (back 2) ^^^ (back 2 >>> 10)
    let far := rotations [7, 18] (back 15) ^^^ (back 15 >>> 3)
    shaSchedule n ((near + back 7 + far + back 16) :: ws)

/-- The working variables as the two shift registers that they form, newest word first: a to d, and e to h. -/
structure ShaRegs where
  upper : List ShaWord
  lower : List ShaWord
  deriving DecidableEq, Repr

/-- The initial hash value: the square roots of the first eight primes. -/
def ShaRegs.initial : ShaRegs :=
  let h := (shaPrimes.take 8).map (fracRoot 2)
  { upper := h.take 4, lower := h.drop 4 }

/-- One step, with the sum of its constant and its schedule word. -/
def ShaRegs.next (v : ShaRegs) (kw : ShaWord) : ShaRegs :=
  let u (i : Nat) : ShaWord := v.upper.getD i 0
  let l (i : Nat) : ShaWord := v.lower.getD i 0
  let pick := l 2 ^^^ (l 0 &&& (l 1 ^^^ l 2))
  let most := (u 0 &&& (u 1 ||| u 2)) ||| (u 1 &&& u 2)
  let t := kw + pick + rotations [6, 11, 25] (l 0) + l 3
  { upper := (t + most + rotations [2, 13, 22] (u 0)) :: v.upper.take 3, lower := (u 3 + t) :: v.lower.take 3 }

/-- The first `n` chunks of `k` bytes of a byte string. -/
def chunks (k : Nat) : Nat → List Byte → List (List Byte)
  | 0, _ => []
  | n + 1, m => m.take k :: chunks k n (m.drop k)

/-- The hash value after one more block of 64 bytes. -/
def ShaRegs.absorb (v : ShaRegs) (block : List Byte) : ShaRegs :=
  let ws := (shaSchedule 48 ((chunks 4 16 block).map beWord).reverse).reverse
  let out := (List.zipWith (· + ·) shaConsts ws).foldl ShaRegs.next v
  { upper := List.zipWith (· + ·) v.upper out.upper, lower := List.zipWith (· + ·) v.lower out.lower }

/-- The `n` big-endian bytes of a number. -/
def beBytes (n v : Nat) : List Byte := (leBytes n v).reverse

/-- The big-endian number of a byte string. -/
def beNat (b : List Byte) : Nat := leNat b.reverse

/-- SHA-256 of a byte string (FIPS 180-4): padded with a 1 bit, zeros and its length in bits to whole blocks. -/
def sha256 (m : List Byte) : List Byte :=
  let blocks := (m.length + 72) / 64
  let tail := 0x80 :: List.replicate (64 * blocks - m.length - 9) 0
  let v := (chunks 64 blocks (m ++ tail ++ beBytes 8 (m.length * 8))).foldl ShaRegs.absorb ShaRegs.initial
  (v.upper ++ v.lower).flatMap (fun w => beBytes 4 w.toNat)

/-- HMAC-SHA-256 (FIPS 198-1). -/
def hmac (key m : List Byte) : List Byte :=
  let k0 := if 64 < key.length then sha256 key else key
  let k := k0 ++ List.replicate (64 - k0.length) 0
  sha256 (k.map (· ^^^ 0x5C) ++ sha256 (k.map (· ^^^ 0x36) ++ m))

/-- The bytes of an ASCII label. -/
def ascii (s : String) : List Byte := s.toList.map (fun c => BitVec.ofNat 8 c.toNat)

/-- The counter-mode KDF of NIST SP 800-108r1 with a 32-bit counter and HMAC-SHA-256 (R562); `bits` is a multiple of 8. -/
def kdf (key : List Byte) (label : String) (ctx : List Byte) (bits : Nat) : List Byte :=
  ((List.range ((bits + 255) / 256)).flatMap (fun i =>
    hmac key (beBytes 4 (i + 1) ++ ascii label ++ 0x00 :: ctx ++ beBytes 4 bits))).take (bits / 8)

/-! ### AES-256 (FIPS 197) -/

/-- Multiplication by x in GF(2^8). -/
def xtime (b : Byte) : Byte := if b.getLsbD 7 then (b <<< 1) ^^^ 0x1B else b <<< 1

/-- Multiplication in GF(2^8). -/
def gmul (a b : Byte) : Byte :=
  ((List.range 8).foldl (fun (s : Byte × Byte) i => (if b.getLsbD i then s.1 ^^^ s.2 else s.1, xtime s.2)) (0, a)).1

/-- The multiplicative inverse in GF(2^8), 0 of 0: the 254th power. -/
def ginv (a : Byte) : Byte :=
  let a2 := gmul a a
  let a4 := gmul a2 a2
  let a8 := gmul a4 a4
  let a16 := gmul a8 a8
  let a32 := gmul a16 a16
  let a64 := gmul a32 a32
  let a128 := gmul a64 a64
  gmul a2 (gmul a4 (gmul a8 (gmul a16 (gmul a32 (gmul a64 a128)))))

/-- The S-box. -/
def sbox (a : Byte) : Byte :=
  let i := ginv a
  i ^^^ i.rotateLeft 1 ^^^ i.rotateLeft 2 ^^^ i.rotateLeft 3 ^^^ i.rotateLeft 4 ^^^ 0x63

/-- The inverse S-box. -/
def invSbox (b : Byte) : Byte := ginv (b.rotateLeft 1 ^^^ b.rotateLeft 3 ^^^ b.rotateLeft 6 ^^^ 0x05)

/-- Exclusive-or of two byte strings. -/
def xorBytes (a b : List Byte) : List Byte := List.zipWith (· ^^^ ·) a b

/-- The key schedule of AES-256 as 4-byte words, newest first: `n` more words from word index `i`; `rc` is the next round
constant. -/
def aesExpand : Nat → Nat → Byte → List (List Byte) → List (List Byte)
  | 0, _, _, w => w
  | n + 1, i, rc, w =>
    let t := w.getD 0 []
    let old := w.getD 7 []
    if i % 8 = 0 then
      let r := ((t.drop 1) ++ t.take 1).map sbox
      aesExpand n (i + 1) (xtime rc) (xorBytes old (xorBytes r [rc, 0, 0, 0]) :: w)
    else if i % 8 = 4 then aesExpand n (i + 1) rc (xorBytes old (t.map sbox) :: w)
    else aesExpand n (i + 1) rc (xorBytes old t :: w)

/-- The fifteen round keys of an AES-256 key, in order of use. -/
def aesKeys (key : List Byte) : List (List Byte) :=
  let w0 := (List.range 8).map (fun i => (key.drop (4 * i)).take 4)
  let w := (aesExpand 52 8 1 w0.reverse).reverse
  (List.range 15).map (fun r => ((w.drop (4 * r)).take 4).flatten)

/-- The bytes of a state rearranged: byte i comes from byte `f i`. -/
def permute (f : Nat → Nat) (s : List Byte) : List Byte := (List.range 16).map (fun i => s.getD (f i) 0)

/-- ShiftRows, and its inverse, on a column-major state. -/
def shiftRows (s : List Byte) : List Byte := permute (fun i => (i + 4 * (i % 4)) % 16) s
def invShiftRows (s : List Byte) : List Byte := permute (fun i => (i + 12 * (i % 4)) % 16) s

/-- Every column multiplied by a circulant matrix with first row `c`. -/
def mixWith (c : List Byte) (s : List Byte) : List Byte :=
  (List.range 16).map (fun i =>
    (List.range 4).foldl (fun x j => x ^^^ gmul (c.getD ((j + 4 - i % 4) % 4) 0) (s.getD (i / 4 * 4 + j) 0)) 0)

/-- One block encrypted under round keys. -/
def aesEncrypt (keys : List (List Byte)) (blk : List Byte) : List Byte :=
  let s0 := xorBytes blk (keys.getD 0 [])
  let s1 := (List.range 13).foldl (fun s r =>
    xorBytes (mixWith [2, 3, 1, 1] (shiftRows (s.map sbox))) (keys.getD (r + 1) [])) s0
  xorBytes (shiftRows (s1.map sbox)) (keys.getD 14 [])

/-- One block decrypted under round keys. -/
def aesDecrypt (keys : List (List Byte)) (blk : List Byte) : List Byte :=
  let s0 := xorBytes blk (keys.getD 14 [])
  let s1 := (List.range 13).foldl (fun s r =>
    mixWith [14, 11, 13, 9] (xorBytes ((invShiftRows s).map invSbox) (keys.getD (13 - r) []))) s0
  xorBytes ((invShiftRows s1).map invSbox) (keys.getD 0 [])

/-- The XTS tweak of the next block: multiplication by x in GF(2^128), bytes little-endian (IEEE 1619). -/
def xtsNext (t : Nat) : Nat := if t / 2 ^ 127 % 2 = 1 then (2 * t % 2 ^ 128) ^^^ 0x87 else 2 * t

/-- `n` blocks of a data unit through XTS with a block function and a running tweak. -/
def xtsBlocks (f : List Byte → List Byte) : Nat → Nat → List Byte → List Byte
  | 0, _, _ => []
  | n + 1, t, d =>
    let tw := leBytes 16 t
    xorBytes (f (xorBytes (d.take 16) tw)) tw ++ xtsBlocks f n (xtsNext t) (d.drop 16)

/-- A 4,096-byte data unit decrypted with AES-256-XTS under Key1 ‖ Key2 and a data unit number (R513). -/
def xtsDecrypt (key : List Byte) (unit : Nat) (d : List Byte) : List Byte :=
  let t := leNat (aesEncrypt (aesKeys ((key.drop 32).take 32)) (leBytes 16 unit))
  xtsBlocks (aesDecrypt (aesKeys (key.take 32))) (d.length / 16) t d

/-- A data unit encrypted with AES-256-XTS. -/
def xtsEncrypt (key : List Byte) (unit : Nat) (d : List Byte) : List Byte :=
  let t := leNat (aesEncrypt (aesKeys ((key.drop 32).take 32)) (leBytes 16 unit))
  xtsBlocks (aesEncrypt (aesKeys (key.take 32))) (d.length / 16) t d

/-! ### ECDSA on P-256 (FIPS 186-5) -/

/-- The prime of the field, the curve's b, the order, and the base point of P-256. -/
def p256 : Nat := 0xffffffff00000001000000000000000000000000ffffffffffffffffffffffff
def p256b : Nat := 0x5ac635d8aa3a93e7b3ebbd55769886bc651d06b0cc53b0f63bce3c3e27d2604b
def p256n : Nat := 0xffffffff00000000ffffffffffffffffbce6faada7179e84f3b9cac2fc632551
def p256g : Nat × Nat :=
  (0x6b17d1f2e12c4247f8bce6e563a440f277037d812deb33a0f4a13945d898c296,
   0x4fe342e2fe1a7f9b8ee7eb4a7c0f9e162bce33576b315ececbb6406837bf51f5)

/-- Modular exponentiation with the low `fuel` bits of the exponent. -/
def modPow (m : Nat) : Nat → Nat → Nat → Nat
  | 0, _, _ => 1 % m
  | fuel + 1, b, e =>
    let r := modPow m fuel (b * b % m) (e / 2)
    if e % 2 = 1 then r * b % m else r

/-- The inverse modulo a prime. -/
def modInv (m a : Nat) : Nat := modPow m 256 (a % m) (m - 2)

/-- A point of the curve, none at infinity. -/
abbrev EcPoint := Option (Nat × Nat)

/-- The sum of two points. -/
def ecAdd (a b : EcPoint) : EcPoint :=
  match a, b with
  | none, q => q
  | q, none => q
  | some (x1, y1), some (x2, y2) =>
    if x1 = x2 ∧ (y1 + y2) % p256 = 0 then none
    else
      let l := if x1 = x2 then (3 * x1 * x1 + p256 - 3) % p256 * modInv p256 (2 * y1) % p256
        else (y2 + p256 - y1) % p256 * modInv p256 (x2 + p256 - x1) % p256
      let x3 := (l * l + 2 * p256 - x1 - x2) % p256
      some (x3, (l * (x1 + p256 - x3) + p256 - y1) % p256)

/-- A multiple of a point by the low `fuel` bits of a scalar. -/
def ecMul : Nat → Nat → EcPoint → EcPoint
  | 0, _, _ => none
  | fuel + 1, k, q =>
    let r := ecMul fuel (k / 2) (ecAdd q q)
    if k % 2 = 1 then ecAdd r q else r

/-- A public key is a valid point of P-256 (R554). -/
def ecValid (x y : Nat) : Bool :=
  x < p256 && y < p256 && (y * y) % p256 == (x * x * x + (p256 - 3) * x + p256b) % p256

/-- An ECDSA signature over a SHA-256 digest verifies with a public key. -/
def ecdsaVerify (pub : Nat × Nat) (digest : List Byte) (r s : Nat) : Bool :=
  if 1 ≤ r && r < p256n && 1 ≤ s && s < p256n && ecValid pub.1 pub.2 then
    let w := modInv p256n s
    match ecAdd (ecMul 256 (beNat digest * w % p256n) (some p256g)) (ecMul 256 (r * w % p256n) (some pub)) with
    | none => false
    | some (x, _) => x % p256n == r
  else false

end Sys2Proof.Machine
end

