-- ==== Sys2Proof/Machine/Bch.lean ====
section
/-! DEFINITION. The BCH code of the media format: GF(2^14), the generator of degree 560, encoding and the correction of
up to 40 bit errors in a codeword of 8,752 bits (R497 to R500). -/

namespace Sys2Proof.Machine

/-- An element of GF(2^14), with primitive polynomial x^14 + x^10 + x^6 + x + 1. -/
abbrev Gf := BitVec 14

/-- Multiplication by α. -/
def gfX (a : Gf) : Gf := if a.getLsbD 13 then (a <<< 1) ^^^ 0x0443 else a <<< 1

/-- Multiplication. -/
def gfMul (a b : Gf) : Gf :=
  ((List.range 14).foldl (fun (s : Gf × Gf) i => (if b.getLsbD i then s.1 ^^^ s.2 else s.1, gfX s.2)) (0, a)).1

/-- The power of an element by the low `fuel` bits of an exponent. -/
def gfPow : Nat → Gf → Nat → Gf
  | 0, _, _ => 1
  | fuel + 1, a, e =>
    let r := gfPow fuel (gfMul a a) (e / 2)
    if e % 2 = 1 then gfMul r a else r

/-- A power of α. -/
def gfAlpha (e : Nat) : Gf := gfPow 14 2 (e % 16383)

/-- The inverse of a non-zero element. -/
def gfInv (a : Gf) : Gf := gfPow 14 a 16382

/-- A polynomial over GF(2^14), lowest coefficient first. -/
abbrev GfPoly := List Gf

/-- A polynomial multiplied by (x + r). -/
def polyRoot (p : GfPoly) (r : Gf) : GfPoly :=
  List.zipWith (· ^^^ ·) (0 :: p) (p.map (gfMul r) ++ [0])

/-- The exponents of the conjugates of α^1 to α^80: the roots of the generator. -/
def bchRoots : List Nat :=
  ((List.range 40).flatMap (fun i => (List.range 14).map (fun j => (2 * i + 1) * 2 ^ j % 16383))).eraseDups

/-- The generator g(x) of degree 560, without its leading term, as a number: bit k is the coefficient of x^k (R497). -/
def bchGen : Nat :=
  bitsNat ((((bchRoots.map gfAlpha).foldl polyRoot [1]).take 560).map (fun c => c == 1))

/-- The bits of a byte string from bit 7 of byte 0 on: highest degree first (R497). -/
def msbBits (b : List Byte) : List Bool := b.flatMap (fun x => (List.range 8).map (fun i => x.getLsbD (7 - i)))

/-- Bytes from their bits, highest first. -/
def bitsMsb : Nat → List Bool → List Byte
  | 0, _ => []
  | n + 1, l => BitVec.ofNat 8 (bitsNat (l.take 8).reverse) :: bitsMsb n (l.drop 8)

/-- The 70 parity bytes of 1,024 data bytes: m(x) x^560 mod g(x) (R497). -/
def bchParity (data : List Byte) : List Byte :=
  let g := bchGen
  let r := (msbBits data).foldl (fun r b =>
    let top := r / 2 ^ 559 % 2 == 1
    let s := r * 2 % 2 ^ 560
    if top != b then s ^^^ g else s) 0
  beBytes 70 r

/-- The value of a codeword, given by its bits highest degree first, at α^e. -/
def syndrome (bits : List Bool) (e : Nat) : Gf :=
  let a := gfAlpha e
  bits.foldl (fun s b => gfMul s a ^^^ (if b then 1 else 0)) 0

/-- The state of the Berlekamp-Massey recursion: the locator, the previous one with its discrepancy, its length, and the
shift since. -/
structure BmState where
  c : GfPoly
  b : GfPoly
  len : Nat
  shift : Nat
  delta : Gf
  deriving DecidableEq, Repr

/-- Two polynomials added. -/
def polyAdd (p q : GfPoly) : GfPoly :=
  (List.range (max p.length q.length)).map (fun i => p.getD i 0 ^^^ q.getD i 0)

/-- One step of the recursion with syndrome number `n` (from 0) of the list `s`. -/
def bmStep (s : List Gf) (x : BmState) (n : Nat) : BmState :=
  let d := (List.range (x.len + 1)).foldl (fun d i => d ^^^ gfMul (x.c.getD i 0) (if i ≤ n then s.getD (n - i) 0 else 0)) 0
  if d = 0 then { x with shift := x.shift + 1 }
  else
    let q := gfMul d (gfInv x.delta)
    let c := polyAdd x.c (List.replicate x.shift 0 ++ x.b.map (gfMul q))
    if 2 * x.len ≤ n then { c := c, b := x.c, len := n + 1 - x.len, shift := 1, delta := d }
    else { x with c := c, shift := x.shift + 1 }

/-- The error locator of a list of syndromes, with its length. -/
def bmRun (s : List Gf) : BmState :=
  (List.range s.length).foldl (bmStep s) { c := [1], b := [1], len := 0, shift := 1, delta := 1 }

/-- The value of a polynomial at a point. -/
def polyEval (p : GfPoly) (x : Gf) : Gf := p.reverse.foldl (fun s c => gfMul s x ^^^ c) 0

/-- Flags, highest degree first, of the positions below degree `n` at which the locator has a root α^-degree. -/
def chien (p : GfPoly) : Nat → List Bool
  | 0 => []
  | n + 1 => (polyEval p (gfAlpha (16383 - n)) == 0) :: chien p n

/-- A decoded codeword: its data, the bits corrected, and whether it is uncorrectable. -/
structure Codeword where
  data : List Byte
  fixed : Nat
  bad : Bool
  deriving DecidableEq, Repr

/-- The zero bits of a byte string. -/
def zeroBits (b : List Byte) : Nat := (msbBits b).foldl (fun n x => n + b2n (!x)) 0

/-- A codeword of 1,094 bytes with at most 40 zero bits is erased (R498). -/
def cwErased (b : List Byte) : Bool := zeroBits b ≤ 40

/-- A codeword decoded: corrected when 40 or fewer of its bits are wrong, else uncorrectable and given as it came (R499,
R500). -/
def bchDecode (b : List Byte) : Codeword :=
  let bits := msbBits b
  let s := (List.range 80).map (fun i => syndrome bits (i + 1))
  if s.all (· == 0) then ⟨b.take 1024, 0, false⟩
  else
    let l := bmRun s
    let flags := chien l.c 8752
    let n := flags.foldl (fun n x => n + b2n x) 0
    if l.len ≤ 40 && n == l.len then ⟨bitsMsb 1024 ((List.zipWith xor bits flags).take 8192), n, false⟩
    else ⟨b.take 1024, 0, true⟩

end Sys2Proof.Machine
end

