-- ==== Sys2Proof/Machine/Media.lean ====
section
/-! DEFINITION. The cartridge as the module reads it: slot states, the media command queue, pages and their metadata, the
cartridge header and extent descriptors (R478 to R512). -/

namespace Sys2Proof.Machine
open Reg

/-! ### Slots -/

/-- The index of a slot port. -/
def portIdx : Port → Nat
  | .a => 0 | .b => 1

/-- The slot states of SLOT_STATUS.state. -/
def slEmpty : Nat := 0
def slPresent : Nat := 1
def slMounting : Nat := 2
def slReady : Nat := 3
def slRaw : Nat := 4
def slUnmounting : Nat := 5
def slFault : Nat := 6

/-- Port `p` beside its registers. -/
def State.port (s : State) (p : Nat) : SlotPort := s.slots.getD p SlotPort.empty

/-- Port `p` replaced. -/
def State.setPort (s : State) (p : Nat) (x : SlotPort) : State := { s with slots := listSet s.slots p x }

/-- Port `p` changed. -/
def State.updPort (s : State) (p : Nat) (f : SlotPort → SlotPort) : State := s.setPort p (f (s.port p))

/-- The state of slot `p`. -/
def State.slotState (s : State) (p : Nat) : Nat := s.rdi SLOT_STATUS_state p

/-- The state of slot `p` entered; a change is an SMBus cause (R728). -/
def State.setSlotState (s : State) (p st : Nat) : State :=
  let t := s.wri SLOT_STATUS_state p st
  if s.rdi SLOT_STATUS_state p = st then t else t.smbCause 5

/-- Slot `p` is mounted: READY or RAW. -/
def State.slotMounted (s : State) (p : Nat) : Bool := s.slotState p == slReady || s.slotState p == slRaw

/-- The cartridge_id of slot `p`. -/
def State.cartId (s : State) (p : Nat) : Nat :=
  s.rdi SLOT_CART_LO_cart_id p + 2 ^ 32 * s.rdi SLOT_CART_HI_cart_id p

/-! ### The cartridge header (R503 to R505) -/

/-- `n` bytes of a byte string from byte `o` as a little-endian number. -/
def fieldAt (b : List Byte) (o n : Nat) : Nat := leNat ((b.drop o).take n)

/-- A field of the header of the cartridge in slot `p`. -/
def State.hdr (s : State) (p o n : Nat) : Nat := fieldAt (s.port p).header o n

/-- The pages of a block, and dir_bits, of the cartridge in slot `p`. -/
def State.hdrPages (s : State) (p : Nat) : Nat := 2 ^ s.hdr p 21 1
def State.hdrDirBits (s : State) (p : Nat) : Nat := s.hdr p 36 1

/-- Save area `a` of the cartridge in slot `p`: the first blocks of its copies, blocks per copy, and max_bytes (R514). -/
def State.saveBlock (s : State) (p a copy : Nat) : Nat := s.hdr p (64 + 16 * a + 4 * copy) 4
def State.saveBlocks (s : State) (p a : Nat) : Nat := s.hdr p (64 + 16 * a + 8) 2
def State.saveMax (s : State) (p a : Nat) : Nat := s.hdr p (64 + 16 * a + 12) 4
def State.saveAreas (s : State) (p : Nat) : Nat := s.hdr p 56 1

/-! ### Extent descriptors (R511, R512) -/

/-- The fields of an extent descriptor. -/
def extDie (d : Nat) : Nat := bitsOf d 3 1 + 2 * bitsOf d 0 3
def extSlot (d : Nat) : Nat := bitsOf d 4 1
def extSectors (d : Nat) : Nat := bitsOf d 8 8
def extRow (d : Nat) : Nat := bitsOf d 16 24
def extId (d : Nat) : Nat := bitsOf d 40 24

/-- A descriptor with its slot bit set to a slot (R510). -/
def extWithSlot (d p : Nat) : Nat := d - 16 * bitsOf d 4 1 + 16 * p

/-! ### The media command queue (R482) -/

/-- An operation joins the queue of its port. -/
def State.queueOp (s : State) (p : Nat) (o : DieOp) : State := s.updPort p (fun x => { x with ops := x.ops ++ [o] })

/-- A page read joins the queue of its port. -/
def State.queueRead (s : State) (p die row : Nat) (use : DieUse) : State :=
  s.queueOp p { die := die, row := row, kind := .read, use := use, ready := false }

/-- The place in the queue of the oldest operation of a die. -/
def SlotPort.first (x : SlotPort) (die : Nat) : Option Nat := x.ops.findIdx? (fun o => o.die == die)

/-- The place in the queue of the operation that runs at a die: the oldest one of that die. -/
def State.dieRuns (s : State) (p die : Nat) : Option Nat := (s.port p).first die

/-- READ CACHE SEQUENTIAL leads from a read to the next one: consecutive pages of one fetch on one die (R482). -/
def DieOp.leadsTo (o q : DieOp) : Bool :=
  o.kind == .read && q.kind == .read && q.row == o.row + 1 && q.use == o.use &&
    (match o.use with | .fetch _ => true | _ => false)

/-- The place in the queue of the operation whose array operation runs at a die: the oldest one, or, while the data of the
oldest one comes, the read that READ CACHE SEQUENTIAL has started (R482). -/
def SlotPort.array (x : SlotPort) (die : Nat) : Option Nat :=
  match x.ops.zipIdx.filter (fun e => e.1.die == die) with
  | [] => none
  | [a] => if a.1.ready then none else some a.2
  | a :: b :: _ => if !a.1.ready then some a.2 else if a.1.leadsTo b.1 && !b.1.ready then some b.2 else none

/-- Operation `i` has been issued to its die. -/
def SlotPort.isIssued (x : SlotPort) (i : Nat) : Bool :=
  match x.ops[i]? with
  | some o => o.ready || x.first o.die == some i || x.array o.die == some i
  | none => false

/-- A fetch has had a read issued. -/
def SlotPort.fetchIssued (x : SlotPort) (id : Nat) : Bool := x.ops.zipIdx.any (fun e => e.1.use == .fetch id && x.isIssued e.2)

/-- The commands that an array operation of a die, or a transfer of its registers, takes (R479). READ STATUS follows every array
operation: PRESUMED (log entry 149), READ STATUS ENHANCED where other dies share the channel. -/
def SlotPort.cmdsOf (x : SlotPort) (o : DieOp) (behind : Bool) : List OnfiCmd :=
  let status := if x.dies.any (fun d => d != o.die && d % 2 == o.die % 2) then OnfiCmd.readStatusEnhanced else .readStatus
  match o.kind with
  | .reset _ => [.reset]
  | .readId _ => [.readId 0x00, .readId 0x20]
  | .param => [.readParam]
  | .setFeature a v => [.setFeatures a v]
  | .getFeature a => [.getFeatures a]
  | .zq => [.zqCalibration]
  | .read => [if behind then .readCacheSequential else .read, status]
  | .program _ => [.pageProgram, status]
  | .erase => [.blockErase, status]

/-- The bytes that an operation moves over the data bus before it runs. -/
def DieOp.moves (o : DieOp) : Nat := match o.kind with | .program page => page.length | _ => 0

/-- The port issues commands to a die. -/
def State.issue (s : State) (p die : Nat) (cs : List OnfiCmd) : State :=
  s.updPort p (fun x => { x with issued := cs, issuedTo := die })

/-- Operation `i` leaves the queue. -/
def State.dropOp (s : State) (p i : Nat) : State := s.updPort p (fun x => { x with ops := x.ops.eraseIdx i })

/-- The data of every queued read of a predicate will be dropped (R533). -/
def State.dropData (s : State) (p : Nat) (f : DieUse → Bool) : State :=
  s.updPort p (fun x => { x with ops := x.ops.map (fun o => if f o.use then { o with use := .dropped } else o) })

/-! ### The media cap (R159, R171) -/

/-- The data bus of slot `p` may start a transfer: what it has moved is paid for. -/
def State.busFree (s : State) (p : Nat) : Bool := s.heat.mediaDebt.getD p 0 == 0

/-- `n` bytes moved over the data bus of slot `p`, counted while a level is in force and the port runs at a rate. -/
def State.busMoves (s : State) (p n : Nat) : State :=
  if s.heat.strmLevel = 0 ∨ s.rdi SLOT_STATUS_rate_mts p = 0 then s
  else { s with heat := { s.heat with mediaDebt := listSet s.heat.mediaDebt p (s.heat.mediaDebt.getD p 0 + n) } }

/-! ### Pages (R496 to R502) -/

/-- Codeword `i` of a page, 1,094 bytes. -/
def pageCw (page : List Byte) (i : Nat) : List Byte := (page.drop (128 + 1094 * i)).take 1094

/-- The bytes of a physical page that the module uses. -/
def pageSize : Nat := 17632

/-- The metadata record in use: the first of the four copies whose CRC matches (R501). -/
def metaRecord (page : List Byte) : Option (List Byte) :=
  ((List.range 4).map (fun i => (page.drop (32 * i)).take 32)).find?
    (fun r => r.length == 32 && crc32 (r.take 28) == fieldAt r 28 4)

/-- The regions of a metadata record. -/
def regHeader : Nat := 1
def regCatalog : Nat := 2
def regContent : Nat := 3
def regSave : Nat := 4
def regCommit : Nat := 5

/-- The check of R502 on a metadata record, but for the extent_id of content pages. -/
def metaMatches (r : List Byte) (region row die cart : Nat) : Bool :=
  fieldAt r 2 1 == region && fieldAt r 4 3 == row && fieldAt r 7 1 == die / 2 % 8 + 8 * (die % 2) &&
    fieldAt r 8 8 == cart

/-- The metadata block of a page that the module writes: four copies of the record (R501, R515). -/
def metaBlock (region row die cart gen tail : Nat) : List Byte :=
  let r := leBytes 2 0x4D54 ++ leBytes 1 region ++ leBytes 1 1 ++ leBytes 3 row ++
    leBytes 1 (die / 2 % 8 + 8 * (die % 2)) ++ leBytes 8 cart ++ leBytes 4 gen ++ leBytes 4 tail ++ leBytes 4 0
  let rec4 := r ++ leBytes 4 (crc32 r)
  rec4 ++ rec4 ++ rec4 ++ rec4

/-- A page with its metadata block and 16,384 data bytes, the parity computed (R497). -/
def encodePage (block data : List Byte) : List Byte :=
  block ++ (List.range 16).flatMap (fun i =>
    let d := padTo 1024 (data.drop (1024 * i))
    d ++ bchParity d)

/-- An uncorrectable codeword recorded (R500). -/
def State.noteUncorr (s : State) (p die row cw : Nat) : State :=
  ((((s.addi SLOT_UNCORR_uncorrectable p 1).wri SLOT_FAIL_LOG_row p row).wri SLOT_FAIL_LOG_die p die).wri
    SLOT_FAIL_LOG_cw p cw).raisei SLOT_EVENT_uncorrectable p

/-- A corrected codeword recorded (R499). -/
def State.noteCorr (s : State) (p bits : Nat) : State :=
  let s1 := (s.addi SLOT_ECC_corr_cw p 1).wri SLOT_ECC_max_bits p (max (s.rdi SLOT_ECC_max_bits p) bits)
  if s.rdi SLOT_CFG_ecc_warn p ≤ bits then s1.raisei SLOT_EVENT_ecc_high p else s1

/-- Codeword `i` of a page decoded and counted. An erased codeword reads as 0xFF, and is uncorrectable where `erasedBad`
(R498). -/
def State.decodeCw (s : State) (p die row : Nat) (page : List Byte) (erasedBad : Bool) (i : Nat) : State × Codeword :=
  let raw := pageCw page i
  if cwErased raw then
    if erasedBad then (s.noteUncorr p die row i, ⟨List.replicate 1024 0xFF, 0, true⟩)
    else (s, ⟨List.replicate 1024 0xFF, 0, false⟩)
  else
    let c := bchDecode raw
    if c.bad then (s.noteUncorr p die row i, c)
    else if c.fixed = 0 then (s, c) else (s.noteCorr p c.fixed, c)

/-- Codewords of a page decoded in order. -/
def State.decodeCws (s : State) (p die row : Nat) (page : List Byte) (erasedBad : Bool) :
    List Nat → State × List Codeword
  | [] => (s, [])
  | i :: is =>
    let r := s.decodeCw p die row page erasedBad i
    let t := r.1.decodeCws p die row page erasedBad is
    (t.1, r.2 :: t.2)

/-- A page whose metadata check failed: every codeword of it is uncorrectable, and meta_fail counts (R502). -/
def State.metaFailed (s : State) (p die row : Nat) : State :=
  ((List.range 16).foldl (fun s i => s.noteUncorr p die row i) s).addi SLOT_UNCORR_meta_fail p 1

/-- The codewords `idx` of a received page, after its metadata has been checked with `good` (R502): uncorrectable all of
them when the check fails. -/
def State.takePage (s : State) (p die row : Nat) (page : List Byte) (erasedBad : Bool) (good : List Byte → Bool)
    (idx : List Nat) : State × List Codeword :=
  match metaRecord page with
  | some r =>
    if good r then s.decodeCws p die row page erasedBad idx
    else (s.metaFailed p die row, idx.map (fun i => ⟨(pageCw page i).take 1024, 0, true⟩))
  | none => (s.metaFailed p die row, idx.map (fun i => ⟨(pageCw page i).take 1024, 0, true⟩))

/-- The check of R502 for a page of the cartridge in slot `p`. -/
def State.metaGood (s : State) (p region row die : Nat) (r : List Byte) : Bool :=
  metaMatches r region row die (s.cartId p)

/-- A page on which nothing is programmed: every codeword of it is erased (R498, R516). -/
def pageErased (page : List Byte) : Bool := (List.range 16).all (fun i => cwErased (pageCw page i))

end Sys2Proof.Machine
end

