-- ==== Sys2Proof/Machine/Power.lean ====
section
/-! DEFINITION. Power entry, DOZE, standby and the shutdown triggers (chapter *Power entry, start and shutdown*). -/

namespace Sys2Proof.Machine
open Reg

/-! ### Causes -/

/-- The code of a cause in PWR_LAST_CAUSE. -/
def causeCode : Cause → Nat
  | .none => 0 | .vinFall => 1 | .cmd => 2 | .cmdRestart => 3 | .thermal => 4 | .standby => 5 | .rail => 6 | .cut => 7

/-- The bit of also_seen, counted from its own bit 0, of a trigger met during a sequence. -/
def alsoBit : Cause → Nat
  | .vinFall => 1 | .cmd => 2 | .cmdRestart => 2 | .thermal => 4 | .rail => 8 | _ => 0

/-! ### DOZE -/

/-- No admitted search waits for its delivery edge. -/
def State.inFlightEmpty (s : State) : Bool := s.srch.inFlight.isEmpty

/-- A media operation, a mount, a save command or a drain is outstanding at a port. -/
def State.mediaOpsOutstanding (s : State) : Bool :=
  s.slots.any (fun x => !x.ops.isEmpty || x.mount.isSome || !x.saves.isEmpty || x.drain.isSome || x.portReset.isSome)

/-- A remote fetch of another member is unfinished, which a stream channel of this one serves, or waits for one (R470, R536). -/
def State.remoteUnfinished (s : State) : Bool :=
  !s.strm.remoteQ.isEmpty || s.strm.fetches.any (fun f => match f.owner with
    | .remote .. => f.stage != .ended
    | .chan .. => false)

/-- A stream channel holds an unfinished fetch, or a media operation is outstanding (R113). -/
def State.mediaBusy (s : State) : Bool :=
  (List.range 16).any (fun c => s.rdi STRM_CH_STATUS_in_flight c != 0 || (s.bit STRM_STATUS_open 0 c &&
      !s.bit STRM_STATUS_halted 0 c && s.rdi STRM_CH_REQ_CNT_accepted c != s.rdi STRM_CH_REQ_CNT_taken c)) ||
    (List.range 2).any (fun p => s.rdi SLOT_OP_STATUS_busy p == 1) || s.mediaOpsOutstanding || s.remoteUnfinished

/-- The refusal of a DOZE request: its status and its refuse_reason (R113, PWR_STATE). -/
def State.dozeRefusal (s : State) : Option (Nat × Nat) :=
  if s.inSequence then some (stWrongState, 6)
  else if s.phase ≠ .run then some (stWrongState, 1)
  else if s.inGroup then some (stWrongState, 2)
  else if s.mediaBusy then some (stBusy, 3)
  else if s.rd INTEG_STATUS_scrub_busy = 1 ∨ s.rd INTEG_STATUS_audit_busy = 1 then some (stBusy, 4)
  else if s.rd TCAM_STATUS_castle_pending = 1 then some (stBusy, 5)
  else none

/-- An accepted DOZE request: admission stops on the next ply and the steep pauses (R114). The blocks are gated once
every admitted search is delivered (DOZE_GATE). -/
def State.acceptDoze (s : State) : State := { s with clk := { s.clk with admitStop := true } }

/-- The commands that need a gated block: those of the search engines, of the stream engine, of the guard and of the cartridge
but for its query, scrubs, audits and injections, which pass over the engines' memories, firmware images, which the security
datapath checks, and the warm start, which fills tables (R112, R116; log entry 62). -/
def needsGated (op : Nat) : Bool :=
  [0x06, 0x07, 0x08, 0x09, 0x0B, 0x0C].contains (op / 256) || (op / 256 == 0x0A && op != 0x0A01) ||
    [0x0D03, 0x0D04, 0x0D05, 0x1002, 0x1003, 0x1105].contains op

/-- Admission is possible again after an exit from DOZE (R117): RUN, the doze_exit event, and the PWR.WAKE commands
that waited complete. -/
def State.resumeAdmission (s : State) : State :=
  let s1 := { s with clk := { s.clk with awaitSlack := false, gated := false, admitStop := false } }
  if s.phase = .leavingDoze then
    let s2 := (s1.setPhase .run).raise PWR_EVENT_doze_exit
    (s2.waiters 0x0203).foldl (fun s m => s.okResp m []) s2
  else s1

/-! ### The shutdown sequence -/

/-- The place of a cause in the order of R144. -/
def causeRank : Cause → Nat
  | .vinFall => 0 | .rail => 1 | .thermal => 2 | _ => 3

/-- The trigger instant of the running sequence: its first step, which takes one ply, is not over. -/
def State.atTrigger (s : State) : Bool :=
  s.inSequence && s.rd PWR_STATE_shdn_step == 1 && s.pwr.triggerPly == s.clk.ply

/-- The instant at which the cause in force was recorded: nothing of the sequence has passed since (R144). -/
def State.atCause (s : State) : Bool :=
  s.inSequence && s.pwr.causePly == s.clk.ply && s.pwr.causeStep == s.rd PWR_STATE_shdn_step

/-- A trigger met while a sequence runs: recorded in also_seen, but at the instant of the cause in force the first cause of R144
is the cause and the other one is recorded. When the sequence began as a standby entry and its cause is still STANDBY, the
trigger becomes the cause and the overtaken bit is set (R145). DESIGN CHOICES: a trigger of a later instant than that is only
recorded (log entry 140), and PWR_STATE reads SHUTDOWN once a trigger has overtaken the entry (log entry 155). -/
def State.laterTrigger (s : State) (c : Cause) : State :=
  if s.pwr.standbyEntry ∧ s.pwr.cause = .standby then
    ({ s with pwr := { s.pwr with cause := c, alsoSeen := s.pwr.alsoSeen ||| 32, causePly := s.clk.ply
                                  causeStep := s.rd PWR_STATE_shdn_step } }).setPhase .shutdown
  else if s.atCause ∧ causeRank c < causeRank s.pwr.cause then
    { s with pwr := { s.pwr with cause := c, alsoSeen := s.pwr.alsoSeen ||| alsoBit s.pwr.cause } }
  else { s with pwr := { s.pwr with alsoSeen := s.pwr.alsoSeen ||| alsoBit c } }

/-- The save writes whose final page program has been issued to the die of the save region: it is the oldest operation of that
die (R482). -/
def SlotPort.markIssued (x : SlotPort) (free : Bool) : SlotPort :=
  let use := (x.ops.find? (fun o => o.die == 0)).map (·.use)
  { x with saves := x.saves.map (fun r => { r with issued := free && r.phase == .final && use == some (.save r.mb) }) }

/-- The sequence begins (R126 step 1): admission stops, and from here the mailbox engine, the stream channels and the
update port take nothing new (R251). In DOZE the module leaves DOZE first (R117). -/
def State.beginSequence (s : State) (c : Cause) (standby : Bool) : State :=
  let s1 := { s with
    slots := s.slots.mapIdx (fun p (x : SlotPort) => x.markIssued (s.heat.mediaDebt.getD p 0 == 0))
    pwr := { s.pwr with cause := c, alsoSeen := 0, triggerPly := s.clk.ply, causePly := s.clk.ply, causeStep := 1
                        saveAction := 0, journalOk := false
                        standbyEntry := standby, wakeLatched := 0 }
    clk := { s.clk with admitStop := true, gated := false, awaitSlack := false } }
  let s2 := if s.phase = .doze ∨ s.phase = .leavingDoze then s1.raise PWR_EVENT_doze_exit else s1
  (s2.setPhase (if standby then .standbyEntry else .shutdown)).wr PWR_STATE_shdn_step 1

/-- Step 1 of a sequence takes one ply; step 2 follows (R126). -/
def State.pastStep1 (s : State) : State :=
  if s.inSequence && s.rd PWR_STATE_shdn_step == 1 then s.wr PWR_STATE_shdn_step 2 else s

/-- A shutdown trigger (R125, R142): it begins the sequence in RUN or DOZE, and is recorded while one runs. -/
def State.trigger (s : State) (c : Cause) : State :=
  if s.alive then s.beginSequence c false
  else if s.inSequence then s.laterTrigger c
  else s

/-! ### PWR commands -/

/-- PWR.STATE_QUERY: its 24 response bytes. -/
def State.pwrStateResp (s : State) : List Byte :=
  leBytes 1 (s.rd PWR_STATE_state) ++ leBytes 1 (s.rd PWR_STATE_fw_state) ++ leBytes 1 (s.rd PWR_LAST_CAUSE_cause) ++
    leBytes 1 (b2n (s.claimed 1) + 2 * s.rd PWR_EVENT_vin_high + 4 * s.rd PWR_EVENT_slot_fault_a +
      8 * s.rd PWR_EVENT_slot_fault_b) ++
    leBytes 2 (s.rd PWR_VIN_vin_mv) ++ leBytes 2 (s.rd PWR_VIN_iin_ma) ++ leBytes 2 (s.rd PWR_PIN_pin_cw) ++
    leBytes 2 s.pwr.vinMinStart ++ leBytes 4 (s.rd PWR_START_TIME_start_us) ++
    leBytes 4 (if s.rd PWR_LAST_CAUSE_cause = 7 ∨ s.rd PWR_LAST_CAUSE_cause = 0 then 0
      else s.rd PWR_SHDN_TIME_shdn_us) ++
    leBytes 4 (s.rd PWR_WAKE_CAUSE_wake_src)

/-- PWR.STATE_QUERY (0x0201, R143). -/
def execPwrStateQuery (m : Mb) (s : State) : Out := runCmd m 0x0201 s (fun _ s => s.okResp m s.pwrStateResp)

/-- PWR.DOZE (0x0202, R113, R114): refused at once, or accepted and completed once the blocks are gated. -/
def execPwrDoze (m : Mb) (s : State) : Out :=
  runCmd m 0x0202 s (fun _ s =>
    match s.dozeRefusal with
    | some (st, _) => s.fail m st
    | none => s.acceptDoze.wait m)

/-- PWR.WAKE (0x0203, R116): OK at once in RUN, else once admission is possible again. -/
def execPwrWake (m : Mb) (s : State) : Out :=
  runCmd m 0x0203 s (fun _ s => if s.phase = .run then s.okResp m [] else s.exitDoze.wait m)

/-- PWR.STANDBY (0x0204, R119, R138): the response comes before step 1 of the entry. -/
def execPwrStandby (m : Mb) (s : State) : Out :=
  runCmd m 0x0204 s (fun c s =>
    checked m [need (c.u8 4 % 2 == 0 || (1 ≤ c.u32 0 && c.u32 0 ≤ 4194303)) 0,
               need (c.u8 4 < 32 && c.u8 4 != 0) 4, need (c.u8 5 ≤ 1) 5, c.notZero 6 2] s (fun s =>
      if !s.alive then s.fail m stWrongState
      else
        let s1 := s.okResp m []
        ({ s1 with pwr := { s1.pwr with wakeEn := c.u8 4, wakeNAssert := c.u8 5 == 1, timerS := c.u32 0 } } :
          State).beginSequence .standby true))

/-- PWR.SHUTDOWN (0x0205, R125, R139): the response comes before step 1. One at the instant of another trigger is a trigger
too (R144). -/
def execPwrShutdown (m : Mb) (s : State) : Out :=
  runCmd m 0x0205 s (fun c s =>
    checked m [need (c.u8 0 ≤ 1) 0, c.notZero 1 3] s (fun s =>
      if s.inSequence && !s.atTrigger then s.fail m stWrongState
      else (s.okResp m []).trigger (if c.u8 0 = 1 then .cmdRestart else .cmd)))

/-- PWR.VIN_WARN_SET (0x0206, R94). -/
def execPwrVinWarnSet (m : Mb) (s : State) : Out :=
  runCmd m 0x0206 s (fun c s =>
    checked m [need (9000 ≤ c.u16 0 && c.u16 0 ≤ 60000) 0, need (c.u8 2 ≤ 1) 2, c.notZero 3 1] s (fun s =>
      ((s.wr PWR_VIN_WARN_vin_warn_mv (c.u16 0)).wr PWR_VIN_WARN_vin_warn_en (c.u8 2)).okResp m []))

/-! ### PWR_CTRL requests (R140, R141) -/

/-- A write of PWR_CTRL whose bit `k` asks for something: bad_write when the key is wrong or more than one of bits
[3:0] is set (R140), else the request. -/
def State.pwrCtrl (s : State) (w : RegWord) (k : Nat) (req : State → State) : State :=
  s.regOp 0x1004 w (fun s =>
    let low := w.toNat % 16
    if w.toNat / 65536 ≠ 0x7E51 then s.badWrite
    else if low ≠ 1 ∧ low ≠ 2 ∧ low ≠ 4 ∧ low ≠ 8 ∧ low ≠ 0 then s.badWrite
    else if bitOf low k then req s else s)

/-- A request that is refused: req_refused and its reason (R141). -/
def State.refuseReq (s : State) (reason : Nat) : State :=
  (s.wr PWR_STATE_refuse_reason reason).raise PWR_EVENT_req_refused

/-- DOZE_REQ: doze_req, checked as the command. -/
def execDozeReq (w : RegWord) (s : State) : Out :=
  ok (s.pwrCtrl w 0 (fun s =>
    match s.dozeRefusal with
    | some (_, reason) => s.refuseReq reason
    | none => s.acceptDoze))

/-- WAKE_REQ: wake_req leaves DOZE (R116). -/
def execWakeReq (w : RegWord) (s : State) : Out :=
  ok (s.pwrCtrl w 1 (fun s => if s.inSequence then s.refuseReq 6 else s.exitDoze))

/-- STANDBY_REQ: a standby request from PWR_WAKE_CFG and PWR_STBY_TIMER (R119, R141). -/
def execStandbyReq (w : RegWord) (s : State) : Out :=
  ok (s.pwrCtrl w 2 (fun s =>
    if s.inSequence then s.refuseReq 6
    else if !s.alive then s.refuseReq 1
    else
      ({ s with pwr := { s.pwr with wakeEn := s.rd PWR_WAKE_CFG_wake_en
                                    wakeNAssert := s.rd PWR_WAKE_CFG_wake_n_assert == 1
                                    timerS := s.rd PWR_STBY_TIMER_timer_s } } : State).beginSequence .standby true))

/-- SHUTDOWN_REQ: shutdown_req is a shutdown trigger (R125), at the instant of another one too (R144); while a sequence runs
the write is refused (R141). -/
def execShutdownReq (w : RegWord) (s : State) : Out :=
  ok (s.pwrCtrl w 3 (fun s =>
    if s.inSequence && !s.atTrigger then s.refuseReq 6
    else s.trigger (if w.getLsbD 4 then .cmdRestart else .cmd)))

/-! ### Supply events -/

/-- RAIL_FAULT: a rail other than a slot output loses power-good in RUN or DOZE (R142). -/
def execRailFault (rail : Fin 6) (s : State) : Out :=
  let s1 := s.setBit PWR_RAIL_STATUS_rail_pg 0 rail.val false
  if s.alive then ok ((s1.raise PWR_EVENT_rail_fault).trigger .rail)
  else if s.inSequence then ok (s1.laterTrigger .rail)
  else ok s1

/-! ### DOZE events -/

/-- DOZE_UNGATE_DONE: the gated blocks are ungated; admission waits for the check of R69 (R117). -/
def execDozeUngateDone (s : State) : Out :=
  if s.phase = .leavingDoze ∧ s.clk.gated then
    ok { s with clk := { s.clk with gated := false, awaitSlack := true } }
  else ok s

/-- DOZE_GATE: every admitted search has been delivered, so the blocks of R112 are gated, margin_code goes to
margin_code_min and no canary runs (R112, R114, R115). The PWR.DOZE commands that waited complete; a trigger that came
meanwhile starts the exit (R147). Searches in flight keep the gate from closing. -/
def execDozeGate (s : State) : Out :=
  if s.dozeEntering ∧ s.inFlightEmpty then
    let code := s.rd CLK_MARGIN_LIMIT_margin_code_min
    let s1 := { s with clk := { s.clk with gated := true, canary := none }
                       pwr := { s.pwr with exitPending := false } }
    let s2 := ((s1.setPhase .doze).wr CLK_MARGIN_STATUS_margin_code code).wr CLK_MARGIN_STATUS_rail_mv (620 + 5 * code)
    let s3 := (s2.waiters 0x0202).foldl (fun s m => s.okResp m []) s2
    ok (if s.pwr.exitPending then s3.exitDoze else s3)
  else ok s

/-! ### STANDBY events -/

/-- A wake source latched or recorded: in STANDBY it is one of the sources that had fired (R121, R146); during a
standby entry it is latched (R123), and also_seen records it. WAKE_N is asserted from that instant (R122). DESIGN CHOICES: a
source that fires in step 1 of the entry is latched like a later one (log entry 137), one that fires once a trigger has overtaken
the entry is neither latched nor recorded (log entry 155), and START begins whatever VIN is above the 8.2 V of R124 (log entry
136). -/
def State.wake (s : State) (src : Nat) : State :=
  let bit := 2 ^ src
  if !bitOf s.pwr.wakeEn src then s
  else if s.phase = .standbyEntry then
    { s with pwr := { s.pwr with wakeLatched := s.pwr.wakeLatched ||| bit, alsoSeen := s.pwr.alsoSeen ||| 16 }
             host := { s.host with wakeN := s.host.wakeN || s.pwr.wakeNAssert } }
  else if s.phase = .standby then
    ({ s with pwr := { s.pwr with wakeLatched := s.pwr.wakeLatched ||| bit }
              host := { s.host with wakeN := s.host.wakeN || s.pwr.wakeNAssert } } : State).setPhase .start
  else if s.phase = .start ∧ s.pwr.wakeLatched ≠ 0 then
    -- a second source at the same AON tick is recorded with the first (R146)
    { s with pwr := { s.pwr with wakeLatched := s.pwr.wakeLatched ||| bit } }
  else s

/-- The debounced level of some wake pad equals the wake level of its enabled entry (R712, R714). -/
def State.padWakes (s : State) : Bool :=
  (List.range 8).any (fun k => s.rdi PIN_WAKE_en k == 1 && bitOf s.pins.deb (s.rdi PIN_WAKE_pad k) == (s.rdi PIN_WAKE_level k == 1))

/-- WAKE_SOURCE: an enabled wake source fires (R121 to R123, R146); the pads fire only at a wake level (R714). -/
def execWakeSource (src : Fin 5) (s : State) : Out :=
  if src.val = 4 ∧ s.padWakes = false then ok s else ok (s.wake src.val)

/-- STANDBY_TIMER: the AON timer reaches its count (R121 bit 0). -/
def execStandbyTimer (s : State) : Out := ok (s.wake 0)

end Sys2Proof.Machine
end

