-- ==== Sys2Proof/Machine/Learn.lean ====
section
/-! DEFINITION. Catalog walks and the learning queue (R386 to R399; chapter *Exact match, direct index and learning*). -/

namespace Sys2Proof.Machine
open Reg

/-! ### Walks (R386, R387) -/

/-- HASH_WALKS.in_flight reports the walks in flight. -/
def State.noteWalks (s : State) : State := s.wr HASH_WALKS_in_flight s.learn.walks.length

/-- A walker joins the walk of its (table, key) if one is in a list. -/
def joinWalk (l : List Walk) (t : Nat) (key : List Byte) (w : Walker) : Option (List Walk) :=
  if l.any (fun x => x.table == t && x.key == key) then
    some (l.map (fun x => if x.table = t ∧ x.key = key then { x with walkers := x.walkers ++ [w] } else x))
  else none

/-- The bucket of a key in the catalog of slot `p` (R509). -/
def State.walkBucket (s : State) (p : Nat) (key : List Byte) : Nat := fieldAt key 0 4 % 2 ^ s.hdrDirBits p

/-- The row and the codeword of the directory codeword of a bucket (R506). -/
def State.dirPlace (s : State) (p b : Nat) : Nat × Nat := (s.hdr p 40 4 + b / 124 / 16, b / 124 % 16)

/-- A walk starts on the present ply, with the read of its directory codeword (R509); the catalog lies on the die on
channel 0, chip enable 0. -/
def State.launchWalk (s : State) (x : Walk) : State :=
  let s1 : State := { s with learn := { s.learn with
    walks := s.learn.walks ++ [{ x with startPly := s.clk.ply }], walksTotal := countUp 32 s.learn.walksTotal } }
  ((s1.inc HASH_WALKS_walks).noteWalks).queueRead x.slot 0 (s.dirPlace x.slot (s.walkBucket x.slot x.key)).1
    (.walk x.table x.key)

/-- A miss that needs the catalog: it joins the walk of its table and key, starts one of at most 32, or waits (R387). -/
def State.startWalk (s : State) (t : Nat) (key : List Byte) (w : Walker) : State :=
  match joinWalk s.learn.walks t key w with
  | some l => { s with learn := { s.learn with walks := l } }
  | none =>
    match joinWalk s.learn.waiting t key w with
    | some l => { s with learn := { s.learn with waiting := l } }
    | none =>
      let x : Walk :=
        { table := t, key := key, slot := s.tblBind t, startPly := 0, walkers := [w], leaf := none, result := none }
      if s.learn.walks.length < 32 then s.launchWalk x
      else { s with learn := { s.learn with waiting := s.learn.waiting ++ [x] } }

/-- A free walk goes to the miss that has waited longest. -/
def State.nextWalk (s : State) : State :=
  match s.learn.waiting with
  | [] => s.noteWalks
  | x :: xs =>
    if s.learn.walks.length < 32 then
      ({ s with learn := { s.learn with waiting := xs } } : State).launchWalk x
    else s.noteWalks

/-- Walk `i` leaves the walks in flight. -/
def State.endWalk (s : State) (i : Nat) : State :=
  ({ s with learn := { s.learn with walks := s.learn.walks.eraseIdx i } } : State).nextWalk

/-- Misses that wait go on while walks are free, at most `n` of them. -/
def State.fillWalks : Nat → State → State
  | 0, s => s.noteWalks
  | n + 1, s => State.fillWalks n s.nextWalk

/-- Every walker of a predicate leaves every walk; a walk without walkers ends without an insert, and misses that wait take its
place (R387). -/
def State.dropWalkers (s : State) (p : Walker → Bool) : State :=
  let keep (l : List Walk) : List Walk :=
    (l.filter (fun x => !(x.walkers.any p && x.walkers.all p))).map (fun x => { x with walkers := x.walkers.filter (fun w => !p w) })
  State.fillWalks 32 { s with learn := { s.learn with walks := keep s.learn.walks, waiting := keep s.learn.waiting } }

/-! ### LEARN.WALK -/

/-- The running LEARN.WALK of a mailbox. -/
def State.walkCmd (s : State) (m : Mb) : Option WalkCmd := s.learn.cmds.find? (fun c => c.mb == m)

/-- A running LEARN.WALK changed. -/
def State.updWalkCmd (s : State) (m : Mb) (f : WalkCmd → WalkCmd) : State :=
  { s with learn := { s.learn with cmds := s.learn.cmds.map (fun c => if c.mb = m then f c else c) } }

/-- The five counts of a LEARN.WALK response. -/
def walkResp (c : WalkCmd) : List Byte :=
  leBytes 4 c.inserted ++ leBytes 4 c.present ++ leBytes 4 c.notFound ++ leBytes 4 c.noRoom ++ leBytes 4 c.dropped

/-- A walk asked for each key of a LEARN.WALK: it joins one in flight, starts one, or waits in its turn (R387). -/
def State.pumpKeys (m : Mb) (t : Nat) : List (List Byte) → State → State
  | [], s => s.updWalkCmd m (fun c => { c with keys := [] })
  | k :: ks, s =>
    State.pumpKeys m t ks ((s.startWalk t k (.cmd m)).updWalkCmd m (fun c => { c with outstanding := c.outstanding + 1 }))

/-- The keys of a LEARN.WALK whose walks have not started are given up. -/
def State.dropWaiting (s : State) (m : Mb) : State :=
  let mine (x : Walk) : Nat := (x.walkers.filter (fun w => w == .cmd m)).length
  let n := (s.learn.waiting.map mine).sum
  let keep := (s.learn.waiting.map (fun x => { x with walkers := x.walkers.filter (fun w => w != .cmd m) })).filter
    (fun x => !x.walkers.isEmpty)
  ({ s with learn := { s.learn with waiting := keep } } : State).updWalkCmd m
    (fun c => { c with keys := [], outstanding := c.outstanding - n })

/-- A LEARN.WALK goes on: walks are asked for its keys, and when no key is outstanding the command completes. A command that
stops at the first NO_ROOM starts no further walk after one. -/
def State.pumpWalk (s : State) (m : Mb) : State :=
  match s.walkCmd m with
  | none => s
  | some c =>
    let s1 := if c.stop && c.noRoom != 0 then s.dropWaiting m
      else State.pumpKeys m c.table c.keys s
    match s1.walkCmd m with
    | none => s1
    | some d =>
      if d.keys.isEmpty && d.outstanding == 0 then
        ({ s1 with learn := { s1.learn with cmds := s1.learn.cmds.filter (fun x => x.mb != m) } } : State).done m stOk 0
          (walkResp d)
      else s1

/-- One key of a LEARN.WALK is settled. -/
def State.settleKey (s : State) (m : Mb) (f : WalkCmd → WalkCmd) : State :=
  (s.updWalkCmd m (fun c => { f c with outstanding := c.outstanding - 1 })).pumpWalk m

/-- A running LEARN.WALK is given up: its walkers leave, and its inserts that settle no other key. -/
def State.dropWalkCmd (s : State) (m : Mb) : State :=
  let leave (u : LearnUpd) : Option LearnUpd := match u with
    | .insert i =>
      let mbs := i.mbs.filter (· != m)
      if i.first && mbs.isEmpty then none else some (.insert { i with mbs := mbs })
    | u => some u
  ({ s with learn := { s.learn with cmds := s.learn.cmds.filter (fun x => x.mb != m)
                                    updates := s.learn.updates.filterMap leave } } : State).dropWalkers
    (fun w => w == .cmd m)

/-- The walks of slot `p` that have not begun are given up, and a LEARN.WALK that waits for one completes MEDIA_GONE; the walks
that run complete (R493; log entry 160). -/
def State.dropWaitingWalks (s : State) (p : Nat) : State :=
  let here := s.learn.waiting.filter (fun w => w.slot == p)
  let mbs := (here.flatMap (fun w => w.walkers.filterMap (fun x => match x with | .cmd m => some m | _ => none))).eraseDups
  let mine (x : Walker) : Bool := match x with | .cmd m => mbs.contains m | _ => false
  mbs.foldl (fun s m => if (s.walkCmd m).isSome then
      ({ s with learn := { s.learn with cmds := s.learn.cmds.filter (fun c => c.mb != m) } } : State).fail m stMediaGone else s)
    { s with learn := { s.learn with
      waiting := s.learn.waiting.filter (fun w => w.slot != p)
      walks := s.learn.walks.map (fun w => { w with walkers := w.walkers.filter (fun x => !mine x) }) } }

/-! ### Inserts -/

/-- The inserts that wait in the learning queue. -/
def State.learnQueued (s : State) : Nat :=
  (s.learn.updates.filter (fun u => match u with | .insert _ => true | _ => false)).length

/-- The commands of a learned insert note what became of it. -/
def State.noteInsert (s : State) (i : LearnIns) (f : WalkCmd → WalkCmd) : State :=
  i.mbs.foldl (fun s m => s.settleKey m f) s

/-- A learned insert has been made: it counts as inserted for the command whose key started the walk, and as present for every
other key that it settles (log entry 124). -/
def State.noteInserted (s : State) (i : LearnIns) : State :=
  let here (s : State) (m : Mb) : State := s.settleKey m (fun c => { c with present := c.present + 1 })
  match i.first, i.mbs with
  | true, m :: ms => ms.foldl here (s.settleKey m (fun c => { c with inserted := c.inserted + 1 }))
  | _, ms => ms.foldl here s

/-- An insert queued; dropped and counted in drop_queue when 256 wait (R388). While HASH is claimed it is skipped, with a
conflict (R395), a sequence takes none (R126), learning stops in the fatal state (R644), and a table takes no type that it
does not accept (R378; log entry 158). -/
def State.queueInsert (s : State) (i : LearnIns) : State :=
  if s.inSequence || s.fatal || !s.typeOk i.table i.type then s.noteInsert i (fun c => { c with dropped := c.dropped + 1 })
  else if s.claimed 10 then (s.conflict 10 1 1).noteInsert i (fun c => { c with dropped := c.dropped + 1 })
  else if s.learnQueued < 256 then
    { s with learn := { s.learn with updates := s.learn.updates ++ [.insert i] } }
  else
    ((({ s with learn := { s.learn with dropQueue := countUp 32 s.learn.dropQueue } } : State).addi HASH_LEARN_DROP_drop_queue 0
      1).raise HASH_EVENT_learn_drop).noteInsert i (fun c => { c with dropped := c.dropped + 1 })

/-- A key in the failure log (R391): eight entries, written in turn. -/
def State.logFail (s : State) (t type : Nat) (key : List Byte) : State :=
  let j := s.rd HASH_FAIL_NEXT_next
  let k (i : Nat) : Nat := leNat (((padTo 16 key).drop (4 * i)).take 4)
  ((((((((s.wri HASH_FAIL_KEY0_key j (k 0)).wri HASH_FAIL_KEY1_key j (k 1)).wri HASH_FAIL_KEY2_key j (k 2)).wri
    HASH_FAIL_KEY3_key j (k 3)).wri HASH_FAIL_INFO_table j t).wri HASH_FAIL_INFO_type j type).wri
    HASH_FAIL_INFO_valid j 1).wri HASH_FAIL_PLY_ply j s.clk.ply).wr HASH_FAIL_NEXT_next ((j + 1) % 8)

/-- A learned insert dropped at its commit (R389). -/
def State.dropInsert (s : State) (i : LearnIns) : State :=
  ((({ s with learn := { s.learn with dropDelete := countUp 32 s.learn.dropDelete } } : State).addi HASH_LEARN_DROP_drop_delete 0
    1).raise HASH_EVENT_learn_drop).noteInsert i (fun c => { c with dropped := c.dropped + 1 })

/-- A learned insert at its commit (R389 to R391), and whether it writes; it needs its table still defined. -/
def State.commitInsert (s : State) (i : LearnIns) : State × Bool :=
  if s.overtaken i ∨ ¬ s.tblIs i.table engExact ∨ ¬ s.typeOk i.table i.type ∨ s.tblOrphaned i.table then (s.dropInsert i, false)
  else if (s.exactFind i.table (2 ^ (i.type - 1)) i.key).isSome then
    ((({ s with learn := { s.learn with present := countUp 32 s.learn.present } } : State).inc
      HASH_LEARN_PRESENT_present).noteInsert i (fun c => { c with present := c.present + 1 }), false)
  else
    match s.exactInsert i.table i.type i.key i.result true with
    | none =>
      ((((({ s with learn := { s.learn with fails := countUp 32 s.learn.fails } } : State).inc
        HASH_LEARN_FAIL_learn_fail).raise HASH_EVENT_insert_fail).logFail i.table i.type i.key).noteInsert i
        (fun c => { c with noRoom := c.noRoom + 1 }), false)
    | some (t, p) =>
      let s1 : State := { t with learn := { t.learn with
        inserts := countUp 32 t.learn.inserts
        ownerInserts := if i.type = 2 then countUp 32 t.learn.ownerInserts else t.learn.ownerInserts } }
      ((((s1.inc HASH_LEARN_INS_inserts).stamp i.table).delta 1 i.table (s1.placeRec p)).noteInserted i, true)

/-! ### The ager (R398) -/

/-- The ager updates that wait. -/
def State.agerQueued (s : State) : Nat :=
  (s.learn.updates.filter (fun u => match u with | .insert _ => false | _ => true)).length

/-- A pass has ended (HASH_AGE_PASS). -/
def State.countPass (s : State) : State := s.inc HASH_AGE_PASS_passes

/-- The entry at a place is one that the ager visits: valid, learned, of the current epoch of its table. -/
def State.agerVisits (s : State) (p : Place) : Bool :=
  let u := s.unitBytesOf p
  entValid u && entLearned u && entTable u < 63 && s.tblIs (entTable u) engExact && entEpoch u == s.epoch (entTable u)

/-- The entry at a place as a visit finds it. -/
def State.visited (s : State) (p : Place) : AgerVisit :=
  let u := s.unitBytesOf p
  { index := placeIndex p, table := entTable u, type := entType u, key := entKey u, age := entAge u }

/-- The update that a visit of the ager asks for, and whether it clears the hit bit (R398). -/
def State.visit (s : State) (p : Place) : Bool × Option LearnUpd :=
  let u := s.unitBytesOf p
  let k := hitBitOf p
  if s.hitBit k || s.hitBad k then (true, if entAge u ≠ 0 then some (.age (s.visited p) 0) else none)
  else if s.rd HASH_AGE_CFG_age_limit ≤ entAge u + 1 then (false, some (.retire (s.visited p)))
  else (false, some (.age (s.visited p) (entAge u + 1)))

/-- A pass of the ager over every valid learned entry of the current epoch (R398): its writes and deletes are
learning-engine updates. While HASH is claimed each is skipped, with a conflict (R395). -/
def State.agerVisitAll (s : State) : State :=
  (s.places.filter s.agerVisits).foldl (fun s p =>
    let v := s.visit p
    let s1 := if v.1 then s.setHit (hitBitOf p) false else s
    match v.2 with
    | none => s1
    | some u => if s1.claimed 10 then s1.conflict 10 1 1
                else { s1 with learn := { s1.learn with updates := s1.learn.updates ++ [u] } }) s

/-- The entry that the ager visited still stands at its place as it was. -/
def State.sameEntry (s : State) (v : AgerVisit) : Bool :=
  s.agerVisits (indexPlace v.index) && s.visited (indexPlace v.index) == v

/-- An ager write at its commit, and whether it writes; an entry that has changed since its visit is left alone. -/
def State.commitAge (s : State) (v : AgerVisit) (age : Nat) : State × Bool :=
  if s.sameEntry v then
    let p := indexPlace v.index
    let s1 := (s.putPlaceBytes p 0x1A (leBytes 2 age)).stamp v.table
    (s1.delta 1 v.table (s1.placeRec p) (s1.srcBad (placeSrc p)), true)
  else (s, false)

/-- An ager retirement at its commit, and whether it deletes. -/
def State.commitRetire (s : State) (v : AgerVisit) : State × Bool :=
  if s.sameEntry v then
    let p := indexPlace v.index
    let s1 := ((s.dropPlace p).stamp v.table).delta 2 v.table (s.placeRec p) (s.srcBad (placeSrc p))
    (({ s1 with learn := { s1.learn with retired := countUp 32 s1.learn.retired } } : State).inc HASH_AGE_RETIRED_retired, true)
  else (s, false)

/-- A pass of the ager begins; one that leaves no update has ended. -/
def State.beginPass (s : State) : State :=
  let s1 := s.agerVisitAll
  if s1.agerQueued = 0 then s1.countPass else s1

/-- A pass of the ager has ended; the one that was due meanwhile begins (R399). -/
def State.endPass (s : State) : State :=
  let s1 := ({ s with learn := { s.learn with agerDue := false } } : State).countPass
  if s.learn.agerDue && s.rd HASH_LEARN_CTRL_ager_en == 1 then s1.beginPass else s1

/-- AGER_PASS: a pass of the ager begins while ager_en is set; one that has not finished by the end of its period sets
ager_overrun, and the next starts when it ends (R398, R399). No pass begins while DOZE gates the engine (R112; DESIGN CHOICE,
log entry 143). -/
def execAgerPass (s : State) : Out :=
  if s.rd HASH_LEARN_CTRL_ager_en = 0 ∨ s.clk.gated ∨ s.inSequence ∨ s.fatal then ok s
  else if s.agerQueued ≠ 0 then
    ok (({ s with learn := { s.learn with agerDue := true } } : State).raise HASH_EVENT_ager_overrun)
  else ok s.beginPass

end Sys2Proof.Machine
end

