-- ==== Sys2Proof/Machine/UpdPort.lean ====
section
/-! DEFINITION. The table update port: what each update commits, in which order the waiting updates commit, and who is told
(R333 to R348, R374 to R385, R393, R413 to R423). -/

namespace Sys2Proof.Machine
open Reg

/-- What an update did when the port came to it: it committed, with the response of its command; it committed one record
of an image and goes on; or it was refused and committed nothing, with a status, a detail and the outcome code of its
expert port. -/
inductive UpdRes where
  | done (s : State) (resp : List Byte)
  | more (s : State) (op : UpdOp)
  | fail (s : State) (st detail port : Nat) (resp : List Byte)

/-- The 8 bytes of a commit ply. -/
def State.plyBytes (s : State) : List Byte := leBytes 8 s.clk.ply

/-- The 16-byte response of an ENTRY command: index, 0, commit ply. -/
def State.entryResp (s : State) (index : Nat) : List Byte := leBytes 4 index ++ leBytes 4 0 ++ s.plyBytes

/-- A refusal without a response. -/
def UpdRes.no (s : State) (st detail port : Nat) : UpdRes := .fail s st detail port []

/-! ### TCAM updates -/

/-- The table that owns the block of an array slot (R363). -/
def State.slotOwner (s : State) (slot : Nat) : Nat := s.rdi TCAM_BLK_CTRL_owner (slot / 4096)

/-- An entry write (R334, R337). -/
def State.commitTcamWrite (s : State) (t : Nat) (idx : Option Nat) (prio result : Nat) (value mask : List Byte)
    (must free : Bool) : UpdRes :=
  if !s.tblIs t engTcam then .no s stNotFound 0 1
  else if s.tblOrphaned t then .no s stMediaGone 0 4
  else
    let w := s.tblW t
    let put (f : Nat) : UpdRes :=
      let s1 := (s.putEntry f w prio result value mask).stamp t
      .done (s1.delta 1 t (s1.tcamRec t f)) (s1.entryResp f)
    match idx with
    | none => match s.lowestFree t with
      | none => .no s stNoRoom 0 1
      | some f => put f
    | some f =>
      if !s.inTable t f then .no s stBadParam 4 1
      else if must && !s.entryValid f w then .no s stNotFound 0 1
      else if free && !s.posFree f w then .no s stWrongState 0 1
      else put f

/-- An entry delete (R336). Deleting a free position changes nothing. -/
def State.commitTcamDelete (s : State) (t f : Nat) : UpdRes :=
  if !s.tblIs t engTcam then .no s stNotFound 0 1
  else if !s.inTable t f then .no s stBadParam 4 1
  else if s.posFree f (s.tblW t) then .done s s.plyBytes
  else
    let r := s.tcamRec t f
    let s1 := (s.dropEntry f (s.tblW t)).stamp t
    .done (s1.delta 2 t r (s.srcBad (s.tcamSrc t f))) s1.plyBytes

/-- A result write: both copies of the result word (R335). ENTRY.RESULT asks for an entry there; the update port does not
(R363). -/
def State.commitTcamResult (s : State) (t f result : Nat) (must : Bool) : UpdRes :=
  if !s.tblIs t engTcam then .no s stNotFound 0 1
  else if s.tblOrphaned t then .no s stMediaGone 0 4
  else if !s.inTable t f then .no s stBadParam 4 1
  else if must && s.posFree f (s.tblW t) then .no s stNotFound 0 1
  else
    let s1 := (s.storeWord sidResult f (leBytes 8 result)).stamp t
    .done (if s.posFree f (s.tblW t) then s1 else s1.delta 3 t (s1.tcamRec t f) (s1.srcBad (s1.tcamSrc t f))) s1.plyBytes

/-- The next record of a TCAM image (R344, R359). Each record names its position, fixed when the command was taken; a table
published since, or a position taken since, ends the load, and what it has written is taken back (log entry 122). -/
def State.commitTcamImage (s : State) (t : Nat) (recs : List (List Byte)) (written : List Nat) : UpdRes :=
  let resp (n : Nat) : List Byte := leBytes 4 n ++ s.plyBytes
  match recs with
  | [] => .done s (resp written.length)
  | r :: rs =>
    let w := s.tblW t
    if !s.tblIs t engTcam then .no s stNotFound 0 1
    else if s.tblOrphaned t then .no s stMediaGone 0 4
    else if !s.tblHidden t then .no s stWrongState 0 1
    else match (tcamRecIdx r).filter (fun f => s.inTable t f && s.posFree f w) with
      | none => .no s stWrongState 0 1
      | some f =>
        let s1 := (s.putEntry f w (recNat r 4 2) (recNat r 8 8) (tcamRecValue w r) (tcamRecMask w r)).stamp t
        let s2 := s1.delta 1 t (s1.tcamRec t f)
        if rs.isEmpty then .done s2 (resp (written.length + 1)) else .more s2 (.tcamImage t rs (written ++ [f]))

/-- An entry of a TCAM image invalidated, whichever table its block belongs to now (R344, R346). -/
def State.commitTcamUndo (s : State) (f w : Nat) : UpdRes :=
  if s.blk (f / 4096) ≠ blkOwned ∨ s.posFree f w = true then .done s []
  else
    let t := s.slotOwner f
    let s1 := (s.dropEntry f w).stamp t
    .done (s1.delta 2 t (s.tcamRec t f) (s.srcBad (s.tcamSrc t f))) []

/-- A table creation, once every block is FREE (R354). -/
def State.commitTcamCreate (s : State) (t hidden bind width : Nat) (blocks : List Nat) : UpdRes :=
  if s.tblDefined t then .no s stWrongState (s.tblEngine t) 0
  else if s.sweeping t then .no s stBusy 0 0
  else
    let s1 := blocks.foldl (fun s b => s.takeBlk t b) (s.defineTable t engTcam width hidden bind)
    .done (s1.delta 9 t (s1.tableDef t)) (listBitmap 32 blocks ++ s1.plyBytes)

/-- Blocks added (R356); the journal takes the table's new definition (R658, log entry 164). -/
def State.commitGrow (s : State) (t : Nat) (blocks : List Nat) : UpdRes :=
  if !s.tblIs t engTcam then .no s stNotFound 0 0
  else if s.tblOrphaned t then .no s stMediaGone 0 0
  else
    let s1 := (blocks.foldl (fun s b => s.takeBlk t b) s).stamp t
    .done (s1.delta 9 t (s1.tableDef t)) s1.plyBytes

/-- Blocks removed, none of them with a valid array slot (R356). -/
def State.commitShrink (s : State) (t : Nat) (blocks : List Nat) : UpdRes :=
  if !s.tblIs t engTcam then .no s stNotFound 0 0
  else if !blocks.all (s.ownsBlk t) then .no s stBadParam 8 0
  else match blocks.find? (fun b => !(s.blkValid b).isEmpty) with
    | some b => .no s stWrongState b 0
    | none =>
      let s1 := (blocks.foldl (fun s b => s.releaseBlk b) s).stamp t
      .done (s1.delta 9 t (s1.tableDef t)) s1.plyBytes

/-! ### Updates of any table -/

/-- An LPM table's root leaves its table: nothing matches from now, and the sweep runs (R423). -/
def State.clearRoot (s : State) (r : Nat) : State :=
  ((s.wri LPM_ROOT_CFG_sweep r 1).wri LPM_ROOT_CFG_dflt_valid r 0).wri LPM_ROOT_DFLT_dflt_result r 0

/-- A table deletion (R355, R377, R423): undefined from this ply; its blocks are released, or its sweep begins. -/
def State.commitDelTable (s : State) (t : Nat) : UpdRes :=
  if !s.tblDefined t then .no s stNotFound 0 0
  else
    let s0 := s.delta 5 t []
    let resp := s.plyBytes
    if s.tblEngine t = engTcam then
      .done ((s.tblBlocks t).foldl (fun s b => s.releaseBlk b) (s0.undefineTable t)) resp
    else if s.tblEngine t = engExact then
      let s1 := ((s0.advanceEpoch t).logClear t).undefineTable t
      .done ((((((((s1.wri HASH_TBL_CFG_defined t 0).wri HASH_TBL_CFG_types t 0).wri HASH_TBL_CFG_learn t 0).wri
        HASH_TBL_CFG_slot_bind t 3).wri HASH_TBL_CFG_hidden t 0).wri HASH_TBL_CFG_orphaned t 0).wri HASH_TBL_QUOTA_quota
        t 0).cfgWritten (regsFrom (hashTblOff t) 2)) resp
    else
      match s.lpmRootOf t with
      | none => .done (s0.undefineTable t) resp
      | some r =>
        .done (((((s0.clearRoot r).undefineTable t).wri LPM_ROOT_CFG_defined r 0).wri LPM_ROOT_CFG_hidden r 0).wri
          LPM_ROOT_CFG_orphaned r 0) resp

/-- A table hidden or published on one ply (R343). -/
def State.commitHide (s : State) (t hidden : Nat) : UpdRes :=
  if !s.tblDefined t then .no s stNotFound 0 0
  else
    let s1 := (s.setHidden t hidden).stamp t
    .done (s1.delta (if hidden = 1 then 6 else 7) t []) s1.plyBytes

/-- A table cleared on one ply (R361, R377, R423). -/
def State.commitClear (s : State) (t : Nat) : UpdRes :=
  if s.sweeping t then .no s stBusy 0 0
  else if !s.tblDefined t then .no s stNotFound 0 0
  else
    let s1 := if s.tblEngine t = engTcam then s.invalidateBlks (s.tblBlocks t)
      else if s.tblEngine t = engExact then (s.advanceEpoch t).logClear t
      else match s.lpmRootOf t with
        | some r => s.clearRoot r
        | none => s
    let s2 := s1.stamp t
    .done (s2.delta 4 t []) s2.plyBytes

/-! ### Exact-match and direct-index updates -/

/-- A host write of an exact-match entry (R374, R375, R376). -/
def State.commitExactWrite (s : State) (t type : Nat) (key : List Byte) (result : Nat) (learned must free : Bool) : UpdRes :=
  if !s.tblIs t engExact then .no s stNotFound 0 3
  else if s.tblOrphaned t then .no s stMediaGone 0 4
  else if !s.typeOk t type then .no s stBadParam 4 5
  else
    let old := s.exactFind t (2 ^ (type - 1)) key
    if must && old.isNone then .no s stNotFound 0 2
    else if free && old.isSome then .no s stWrongState 0 2
    else match s.exactInsert t type key result learned with
      | none => .no s stNoRoom 0 1
      | some (s1, p) =>
        let s2 := (s1.logHost t type key).stamp t
        .done (s2.delta 1 t (s2.placeRec p)) (s2.entryResp (placeIndex p))

/-- A host delete by key; deleting an absent key changes nothing (R376, R389). -/
def State.commitExactDelete (s : State) (t type : Nat) (key : List Byte) : UpdRes :=
  if !s.tblIs t engExact then .no s stNotFound 0 3
  else if !s.typeOk t type then .no s stBadParam 4 5
  else
    let s1 := s.logHost t type key
    match s.exactFind t (2 ^ (type - 1)) key with
    | none => .done s1 (s1.entryResp 0xFFFFFFFF)
    | some p =>
      let r := s.placeRec p
      let s2 := (s1.dropPlace p).stamp t
      .done (s2.delta 2 t r (s.srcBad (placeSrc p))) (s2.entryResp (placeIndex p))

/-- A host result write (R376). -/
def State.commitExactResult (s : State) (t type : Nat) (key : List Byte) (result : Nat) : UpdRes :=
  if !s.tblIs t engExact then .no s stNotFound 0 3
  else if s.tblOrphaned t then .no s stMediaGone 0 4
  else if !s.typeOk t type then .no s stBadParam 4 5
  else match s.exactFind t (2 ^ (type - 1)) key with
    | none => .no s stNotFound 0 2
    | some p =>
      let s1 := ((s.putPlaceBytes p 0x10 (leBytes 8 result)).logHost t type key).stamp t
      .done (s1.delta 3 t (s1.placeRec p) (s1.srcBad (placeSrc p))) (s1.entryResp (placeIndex p))

/-- A learned entry that a stopped flush has deleted, put back with its age (R244; log entry 60). -/
def State.commitExactBack (s : State) (t type : Nat) (key : List Byte) (result age : Nat) : UpdRes :=
  if !s.tblIs t engExact then .no s stNotFound 0 3
  else match s.exactInsert t type key result true with
    | none => .no s stNoRoom 0 1
    | some (s1, p) =>
      let s2 := (s1.putPlaceBytes p 0x1A (leBytes 2 age)).stamp t
      .done (s2.delta 1 t (s2.placeRec p)) []

/-- The next record of an exact-match image: an insert; NO_ROOM ends the load and keeps what is written (R400). -/
def State.commitExactImage (s : State) (t : Nat) (recs : List (List Byte)) (written : Nat) : UpdRes :=
  let resp (n : Nat) : List Byte := leBytes 4 n ++ s.plyBytes
  match recs with
  | [] => .done s (resp written)
  | r :: rs =>
    let key := r.take 16
    let type := recNat r 24 1
    if !s.tblIs t engExact then .no s stNotFound 0 3
    else if s.tblOrphaned t then .no s stMediaGone 0 4
    else match s.exactInsert t type key (recNat r 16 8) (bitOf (recNat r 25 1) 0) with
      | none => .fail s stNoRoom 0 1 (resp written)
      | some (s1, p) =>
        let s2 := (s1.logHost t type key).stamp t
        let s3 := s2.delta 1 t (s2.placeRec p)
        if rs.isEmpty then .done s3 (resp (written + 1)) else .more s3 (.exactImage t rs (written + 1))

/-- An exact-match table created (R374, R378). -/
def State.commitExactCreate (s : State) (t hidden bind types learn quota : Nat) : UpdRes :=
  if s.tblDefined t then .no s stWrongState (s.tblEngine t) 0
  else if s.sweeping t then .no s stBusy 0 0
  else
    let s1 := s.defineTable t engExact 0 hidden bind
    let s2 := ((((((s1.wri HASH_TBL_CFG_defined t 1).wri HASH_TBL_CFG_types t types).wri HASH_TBL_CFG_learn t learn).wri
      HASH_TBL_CFG_slot_bind t bind).wri HASH_TBL_CFG_hidden t hidden).wri HASH_TBL_QUOTA_quota t quota).cfgWritten
      (regsFrom (hashTblOff t) 2)
    .done (s2.delta 9 t (s2.tableDef t)) (List.replicate 32 0 ++ s2.plyBytes)

/-- The next entry that LEARN.FLUSH deletes, as a host update. -/
def State.commitFlush (s : State) (t scope deleted : Nat) (rest : List Nat) : UpdRes :=
  match rest with
  | [] => .done s (leBytes 4 deleted)
  | i :: is =>
    let p := indexPlace i
    let u := s.unitBytesOf p
    let hit := entValid u && entLearned u && entTable u == t && entEpoch u == s.epoch t
    let r := s.placeRec p
    let s1 := if hit then
        (((s.dropPlace p).logHost t (entType u) (entKey u)).stamp t).delta 2 t r (s.srcBad (placeSrc p))
      else s
    let n := if hit then deleted + 1 else deleted
    if is.isEmpty then .done s1 (leBytes 4 n) else .more s1 (.flush t scope n is)

/-- A committed update to the direct index: its last-update ply (R623). -/
def State.stampDix (s : State) : State := s.setInfo dixTable { s.tblInfo dixTable with lastPly := s.clk.ply }

/-- A direct-index word written (R385). -/
def State.commitDix (s : State) (h w : Nat) : UpdRes :=
  let s1 := (s.storeWord sidDix h (leBytes 8 w)).stampDix
  .done (s1.delta (if w = 0 then 2 else 1) dixTable (s1.dixRec h)) (s1.entryResp h)

/-- The next record of a direct-index image (R400). -/
def State.commitDixImage (s : State) (recs : List (List Byte)) (written : Nat) : UpdRes :=
  let resp (n : Nat) : List Byte := leBytes 4 n ++ s.plyBytes
  match recs with
  | [] => .done s (resp written)
  | r :: rs =>
    let s1 := (s.storeWord sidDix (recNat r 0 2) ((r.drop 8).take 8)).stampDix
    let s2 := s1.delta 1 dixTable (s1.dixRec (recNat r 0 2))
    if rs.isEmpty then .done s2 (resp (written + 1)) else .more s2 (.dixImage rs (written + 1))

/-- dix_limit changed on one ply (R384). -/
def State.commitDixLimit (s : State) (n : Nat) : UpdRes :=
  let s1 := (s.wr DIX_CFG_dix_limit n).stampDix
  .done (s1.delta 9 dixTable (s1.tableDef dixTable)) s1.plyBytes

/-! ### LPM updates -/

/-- The default route of root `r` set (R422). -/
def State.setDefault (s : State) (t r valid result : Nat) : State :=
  let s1 := ((s.wri LPM_ROOT_CFG_dflt_valid r valid).wri LPM_ROOT_DFLT_dflt_result r result).stamp t
  s1.delta (if valid = 1 then 1 else 2) t (lpmRec 0 result 0)

/-- The gate of an LPM update: the root of its table, or the refusal (R404, R413, R423). -/
def State.lpmGate (s : State) (t : Nat) (orphanStops : Bool) : Sum Nat (Nat × Nat) :=
  match s.lpmRootOf t with
  | some r =>
    if s.tblIs t engLpm then
      if orphanStops && s.tblOrphaned t then .inr (stMediaGone, 4)
      else if s.rdi LPM_ROOT_CFG_sweep r = 1 then .inr (stBusy, 7)
      else .inl r
    -- a deleted table whose sweep still runs
    else if s.tblDefined t then .inr (stNotFound, 3)
    else .inr (stBusy, 7)
  | none => .inr (stNotFound, 3)

/-- The index of the default route and of an absent prefix. -/
def lpmDefaultIdx : Nat := 0xFFFFFFFE
def lpmAbsent : Nat := 0xFFFFFFFF

/-- An update that would read a word bad in both copies commits nothing and reports it (R426). -/
def State.lpmPoisoned (s : State) (t : Nat) (w : Nat × Nat) : UpdRes := .no (s.reportRead w.1 w.2 0x09 t) stPoisoned 0 6

/-- An insert of a prefix, or of the default route (R414 to R416, R422). -/
def State.commitLpmInsert (s : State) (t pfx len result : Nat) (must free : Bool) : UpdRes :=
  match s.lpmGate t true with
  | .inr (st, p) => .no s st 0 p
  | .inl r =>
    if len = 0 then
      let present := s.rdi LPM_ROOT_CFG_dflt_valid r = 1
      if must ∧ ¬ present then .no s stNotFound 0 2
      else if free ∧ present then .no s stWrongState 0 2
      else .done (s.setDefault t r 1 result) (s.entryResp lpmDefaultIdx)
    else match s.lpmBad t r pfx len with
      | some w => s.lpmPoisoned t w
      | none =>
        match s.findRec t pfx len with
        | some j =>
          if free then .no s stWrongState 0 2
          else
            let s1 := (s.beginRewrite t r 3 pfx len result).stamp t
            .done (s1.delta 1 t (lpmRec pfx result len)) (s1.entryResp (lpmIndex (stageOf len) j))
        | none =>
          if must then .no s stNotFound 0 2
          else if s.rdi LPM_ROOT_QUOTA_quota r ≤ s.prefixes t ∨ ¬ s.lpmRoom r pfx len then
            .no (s.raise LPM_EVENT_no_room) stNoRoom 0 1
          else
            let j := (lowestNot (s.recsUsed (stageOf len)) (recCount (stageOf len))).getD 0
            let s1 := (s.beginRewrite t r 1 pfx len result).stamp t
            .done (s1.delta 1 t (lpmRec pfx result len)) (s1.entryResp (lpmIndex (stageOf len) j))

/-- A delete of a prefix, or of the default route; an absent one changes nothing (R421, R422). -/
def State.commitLpmDelete (s : State) (t pfx len : Nat) : UpdRes :=
  match s.lpmGate t false with
  | .inr (st, p) => .no s st 0 p
  | .inl r =>
    if len = 0 then
      if s.rdi LPM_ROOT_CFG_dflt_valid r = 1 then .done (s.setDefault t r 0 0) (s.entryResp lpmDefaultIdx)
      else .done s (s.entryResp lpmAbsent)
    else match s.lpmBad t r pfx len with
      | some w => s.lpmPoisoned t w
      | none =>
        match s.findRec t pfx len with
        | none => .done s (s.entryResp lpmAbsent)
        | some j =>
          let old := recResult (s.recBytes (stageOf len) j)
          let s1 := (s.beginRewrite t r 2 pfx len 0).stamp t
          .done (s1.delta 2 t (lpmRec pfx old len)) (s1.entryResp (lpmIndex (stageOf len) j))

/-- A result change. -/
def State.commitLpmResult (s : State) (t pfx len result : Nat) : UpdRes :=
  match s.lpmGate t true with
  | .inr (st, p) => .no s st 0 p
  | .inl r =>
    if len = 0 then
      if s.rdi LPM_ROOT_CFG_dflt_valid r = 1 then .done (s.setDefault t r 1 result) (s.entryResp lpmDefaultIdx)
      else .no s stNotFound 0 2
    else match s.lpmBad t r pfx len with
      | some w => s.lpmPoisoned t w
      | none =>
        match s.findRec t pfx len with
        | none => .no s stNotFound 0 2
        | some j =>
          let s1 := (s.beginRewrite t r 3 pfx len result).stamp t
          .done (s1.delta 3 t (lpmRec pfx result len)) (s1.entryResp (lpmIndex (stageOf len) j))

/-- The next record of an LPM image: an insert; NO_ROOM ends the load and keeps what is written (R424). -/
def State.commitLpmImage (s : State) (t : Nat) (recs : List (List Byte)) (written : Nat) : UpdRes :=
  let resp (n : Nat) : List Byte := leBytes 4 n ++ s.plyBytes
  match recs with
  | [] => .done s (resp written)
  | r :: rs =>
    match s.commitLpmInsert t (recPfx r) (recLen r) (recResult r) false false with
    | .done s1 _ => if rs.isEmpty then .done s1 (resp (written + 1)) else .more s1 (.lpmImage t rs (written + 1))
    | .fail s1 st d p _ => .fail s1 st d p (if st = stNoRoom then resp written else [])
    | .more s1 op => .more s1 op

/-- The default route's fields written through the registers of a root (R422). -/
def State.commitLpmDefault (s : State) (t : Nat) (valid result : Option Nat) : UpdRes :=
  match s.lpmGate t true with
  | .inr (st, p) => .no s st 0 p
  | .inl r =>
    let s1 := s.setDefault t r (valid.getD (s.rdi LPM_ROOT_CFG_dflt_valid r)) (result.getD (s.rdi LPM_ROOT_DFLT_dflt_result r))
    .done s1 s1.plyBytes

/-- An LPM table created on a root: the named one, else the lowest free one (R412). -/
def State.commitLpmCreate (s : State) (t hidden bind quota : Nat) (root : Option Nat) : UpdRes :=
  if s.tblDefined t then .no s stWrongState (s.tblEngine t) 0
  else if s.sweeping t then .no s stBusy 0 0
  else
    let r := match root with
      | some r => if s.rdi LPM_ROOT_CFG_defined r = 0 ∧ s.rdi LPM_ROOT_CFG_sweep r = 0 then some r else none
      | none => s.freeRoot
    match r with
    | none => .no s stNoRoom 0 0
    | some r =>
      let s1 := (((((((s.wri LPM_ROOT_CFG_table r t).wri LPM_ROOT_CFG_defined r 1).wri LPM_ROOT_CFG_slot_bind r bind).wri
        LPM_ROOT_CFG_hidden r hidden).wri LPM_ROOT_CFG_orphaned r 0).wri LPM_ROOT_CFG_dflt_valid r 0).wri
        LPM_ROOT_DFLT_dflt_result r 0).wri LPM_ROOT_QUOTA_quota r quota
      let s2 := s1.defineTable t engLpm 0 hidden bind
      .done (s2.delta 9 t (s2.tableDef t)) (leBytes 1 r ++ List.replicate 31 0 ++ s2.plyBytes)

/-! ### One update -/

/-- An update at the port on the present ply. -/
def State.commitOp (s : State) : UpdOp → UpdRes
  | .tcamWrite t idx prio result value mask must free => s.commitTcamWrite t idx prio result value mask must free
  | .tcamDelete t idx => s.commitTcamDelete t idx
  | .tcamResult t idx result must => s.commitTcamResult t idx result must
  | .tcamImage t recs written => s.commitTcamImage t recs written
  | .tcamUndo f w => s.commitTcamUndo f w
  | .tcamCreate t hidden bind width blocks => s.commitTcamCreate t hidden bind width blocks
  | .grow t blocks => s.commitGrow t blocks
  | .shrink t blocks => s.commitShrink t blocks
  | .delTable t => s.commitDelTable t
  | .hide t hidden => s.commitHide t hidden
  | .clear t => s.commitClear t
  | .exactWrite t type key result learned must free => s.commitExactWrite t type key result learned must free
  | .exactDelete t type key => s.commitExactDelete t type key
  | .exactResult t type key result => s.commitExactResult t type key result
  | .exactBack t type key result age => s.commitExactBack t type key result age
  | .exactImage t recs written => s.commitExactImage t recs written
  | .exactCreate t hidden bind types learn quota => s.commitExactCreate t hidden bind types learn quota
  | .flush t scope deleted rest => s.commitFlush t scope deleted rest
  | .dixWrite h w => s.commitDix h w
  | .dixImage recs written => s.commitDixImage recs written
  | .dixLimit n => s.commitDixLimit n
  | .lpmInsert t pfx len result must free => s.commitLpmInsert t pfx len result must free
  | .lpmDelete t pfx len => s.commitLpmDelete t pfx len
  | .lpmResult t pfx len result => s.commitLpmResult t pfx len result
  | .lpmImage t recs written => s.commitLpmImage t recs written
  | .lpmDefault t valid result => s.commitLpmDefault t valid result
  | .lpmCreate t hidden bind quota root => s.commitLpmCreate t hidden bind quota root
  | .guardWrite f prio result value mask => .done (s.putEntry f 2 prio result value mask) []
  | .guardClear half => .done (s.invalidateBlks ((List.range 4).map (fun k => 248 + 4 * half + k))) []

/-- The table that an update names. -/
def State.opTable (s : State) : UpdOp → Nat
  | .tcamWrite t .. => t | .tcamDelete t _ => t | .tcamResult t .. => t | .tcamImage t .. => t
  | .tcamUndo f _ => s.slotOwner f | .tcamCreate t .. => t
  | .grow t _ => t | .shrink t _ => t | .delTable t => t | .hide t _ => t | .clear t => t | .exactWrite t .. => t
  | .exactDelete t .. => t | .exactResult t .. => t | .exactBack t .. => t | .exactImage t .. => t | .exactCreate t .. => t | .flush t .. => t
  | .dixWrite .. => dixTable | .dixImage .. => dixTable | .dixLimit _ => dixTable | .lpmInsert t .. => t
  | .lpmDelete t .. => t | .lpmResult t .. => t | .lpmImage t .. => t | .lpmDefault t .. => t | .lpmCreate t .. => t
  | .guardWrite .. => 63 | .guardClear _ => 63

/-- An update may commit now: no castling of its table is pending (R348), its blocks are FREE (R354, R356), and, for an
LPM table, no overlay is armed and no rebuild runs (R420, R427). -/
def State.opReady (s : State) (op : UpdOp) : Bool :=
  let t := s.opTable op
  let free := match op with
    | .tcamCreate _ _ _ _ bs => bs.all (fun b => s.blk b == blkFree)
    | .grow _ bs => bs.all (fun b => s.blk b == blkFree)
    | _ => true
  let lpm := s.tblEngine t == engLpm || (match op with | .lpmCreate .. => true | _ => false)
  free && !(match s.tbl.castle with | some c => c.a == t || c.b == t | none => false) &&
    !(lpm && (s.rd LPM_OVL_CTRL_armed == 1 || s.rd LPM_STATUS_rebuild == 1))

/-! ### Who is told -/

/-- upd_busy of TCAM_STATUS: the port holds an uncommitted update. -/
def State.noteBusy (s : State) : State :=
  s.wr TCAM_STATUS_upd_busy (b2n (!s.tbl.queue.isEmpty || !s.tbl.guardQ.isEmpty || !s.learn.updates.isEmpty))

/-- The status of an expert port at the end of its update: its busy bit, its outcome and its index. -/
def State.portEnd (s : State) (block code : Nat) (resp : List Byte) : State :=
  match block with
  | 9 =>
    let s1 := (s.wr TCAM_UPD_STATUS_busy 0).wr TCAM_UPD_STATUS_outcome code
    if code = 0 then s1.wr TCAM_UPD_PLY_upd_ply s.clk.ply else s1.raise TCAM_EVENT_upd_refused
  | 10 =>
    let s1 := (s.wr HASH_UPD_STATUS_busy 0).wr HASH_UPD_STATUS_outcome code
    if code = 0 then s1.wr HASH_UPD_STATUS_index (leNat (resp.take 4)) else s1
  | 11 => s.wr DIX_UPD_STATUS_busy 0
  | 12 =>
    let s1 := (s.wr LPM_UPD_STATUS_busy 0).wr LPM_UPD_STATUS_outcome code
    if code = 0 then s1.wr LPM_UPD_INDEX_index (leNat (resp.take 4)) else s1.raise LPM_EVENT_upd_refused
  | _ => s

/-- The response of a running warm start (R660). -/
def warmResp (w : WarmRun) : List Byte :=
  (w.status.map (fun v => leBytes 1 v)).flatten ++ leBytes 4 w.written ++ leBytes 4 w.commitSeq

/-- A warm start whose updates have all been answered completes. -/
def State.warmCheck (s : State) : State :=
  match s.cores.warm with
  | none => s
  | some w =>
    if s.tbl.queue.any (fun r => match r.origin with | .warm _ => true | _ => false) then s
    else
      (((({ s with cores := { s.cores with warm := none } } : State).wr CADDY_STATUS_warm_run 0).raise
        CADDY_EVENT_warm_done).okResp w.mb (warmResp w))

/-- An update writes entries. -/
def opEntries : UpdOp → Bool
  | .tcamWrite .. => true | .exactWrite .. => true | .dixWrite .. => true | .lpmInsert .. => true | _ => false

/-- An update creates a table. -/
def opCreates : UpdOp → Bool
  | .tcamCreate .. => true | .exactCreate .. => true | .lpmCreate .. => true | _ => false

/-- What became of an update of a warm start: an entry is counted, a refusal is the table's status (R660). A table that
could not be created is not touched further; one that the host has defined meanwhile counts as already defined. -/
def State.warmNote (s : State) (t : Nat) (op : UpdOp) (committed : Bool) : State :=
  match s.cores.warm with
  | none => s
  | some w =>
    let i := if t = dixTable then 63 else t
    if committed then
      let w1 := if opEntries op then { w with written := w.written + 1 } else w
      ({ s with cores := { s.cores with warm := some w1 } } : State).warmCheck
    else
      let st := if opCreates op && s.tblDefined t then 2 else 4
      let q := if opCreates op then s.tbl.queue.filter (fun r => r.origin != .warm t) else s.tbl.queue
      ({ s with
          cores := { s.cores with warm := some { w with status := listSet w.status i st } }
          tbl := { s.tbl with queue := q } } : State).warmCheck

/-- The command of a table deletion waits until its blocks are FREE or its sweep has finished (R355, R377, R423). -/
def State.awaitRelease (s before : State) (m : Mb) (t : Nat) (resp : List Byte) : State :=
  let blocks := if before.tblEngine t = engTcam then before.tblBlocks t else []
  let sweep := if before.tblEngine t = engTcam then none else some t
  if blocks.isEmpty && sweep.isNone then s.okResp m resp
  else { s with tbl := { s.tbl with releases := s.tbl.releases ++ [{ mb := m, blocks := blocks, sweep := sweep, resp := resp }] } }

/-- The end of an update told to its origin. -/
def State.tell (s before : State) (o : UpdOrigin) (op : UpdOp) (res : UpdRes) : State :=
  match res, o with
  | .done _ resp, .mb m =>
    match op with
    | .delTable t => s.awaitRelease before m t resp
    | _ => s.okResp m resp
  | .fail _ st d _ resp, .mb m => s.done m st d resp
  | .done _ resp, .port b => s.portEnd b 0 resp
  | .fail _ _ _ p _, .port b => s.portEnd b p []
  | .done .., .warm t => s.warmNote t op true
  | .fail .., .warm t => s.warmNote t op false
  | .done .., .undo m => s.settleUndo m
  | .fail .., .undo m => s.settleUndo m
  | _, _ => s

/-! ### The port -/

/-- An update that a register write asks for is refused in a sequence (R126): the busy bit of its port is 0. No code is given
for that refusal, and it sets bad_write (log entry 142). -/
def State.refuseUpd (s : State) (o : UpdOrigin) : State :=
  let t := match o with
    | .port 9 => s.wr TCAM_UPD_STATUS_busy 0
    | .port 10 => s.wr HASH_UPD_STATUS_busy 0
    | .port 11 => s.wr DIX_UPD_STATUS_busy 0
    | .port _ => s.wr LPM_UPD_STATUS_busy 0
    | _ => s
  t.badWrite

/-- The host itself asks for an update, through a register. -/
def UpdOrigin.byRegister : UpdOrigin → Bool
  | .port _ => true
  | .reg => true
  | _ => false

/-- A host update queued at the port; a sequence takes none from a register (R126). -/
def State.queueUpd (s : State) (o : UpdOrigin) (op : UpdOp) : State :=
  if s.inSequence && o.byRegister then s.refuseUpd o
  else ({ s with tbl := { s.tbl with queue := s.tbl.queue ++ [{ origin := o, op := op, poison := s.integ.epWrite }] } } : State).noteBusy

/-- The port's ply is used. -/
def State.usePly (s : State) : State := { s with tbl := { s.tbl with lastPly := some s.clk.ply } }

/-- Nothing has committed on the present ply, no update and no removal (R333, R491). While DOZE gates
the engines no table changes (R112). -/
def State.portFree (s : State) : Bool :=
  !s.clk.gated && (match s.tbl.lastPly with
    | none => true
    | some p => p < s.clk.ply)

/-- A castling has first claim on the port: it is due on this ply, and it does not wait behind a guard castling (R347). -/
def State.castleDue (s : State) : Bool :=
  match s.tbl.castle with
  | some c => c.atPly ≤ s.clk.ply && !(s.tbl.guardCastle && c.behind)
  | none => false

/-- The update that puts back the entry that stands under an exact-match key, or its absence. -/
def State.exactBack (s : State) (t type : Nat) (key : List Byte) : UpdOp :=
  match s.exactFind t (2 ^ (type - 1)) key with
  | some p => .exactWrite t type key (entResult (s.unitBytesOf p)) (entLearned (s.unitBytesOf p)) false false
  | none => .exactDelete t type key

/-- The update that puts back a prefix, or its absence; length 0 stands for the default route. -/
def State.lpmBack (s : State) (t pfx len : Nat) : UpdOp :=
  if len = 0 then
    match s.lpmRootOf t with
    | some r => .lpmDefault t (some (s.rdi LPM_ROOT_CFG_dflt_valid r)) (some (s.rdi LPM_ROOT_DFLT_dflt_result r))
    | none => .lpmDelete t pfx len
  else
    match s.findRec t pfx len with
    | some j => .lpmInsert t pfx len (recResult (s.recBytes (stageOf len) j)) false false
    | none => .lpmDelete t pfx len

/-- What takes back the next record of an image load, or the next deletion of a flush (R244, R344). -/
def State.undoOf (s : State) : UpdOp → List UpdOp
  | .tcamImage t (r :: _) _ => (tcamRecIdx r).toList.map (fun f => .tcamUndo f (s.tblW t))
  | .exactImage t (r :: _) _ => [s.exactBack t (recNat r 24 1) (r.take 16)]
  | .dixImage (r :: _) _ => [.dixWrite (recNat r 0 2) (leNat (readWord s.mem sidDix (recNat r 0 2)).data)]
  | .lpmImage t (r :: _) _ => [s.lpmBack t (recPfx r) (recLen r)]
  | .flush t _ _ (i :: _) =>
    let u := s.unitBytesOf (indexPlace i)
    if entValid u && entLearned u && entTable u == t && entEpoch u == s.epoch t then
      [.exactBack t (entType u) (entKey u) (entResult u) (entAge u)]
    else []
  | _ => []

/-- Why the update port of the TCAM does not act on a slot, by its outcome code (R363). -/
def State.slotRefusal (s : State) (slot : Nat) : Option Nat :=
  let t := s.slotOwner slot
  if 248 ≤ slot / 4096 then some 3
  else if s.blk (slot / 4096) ≠ blkOwned then some 1
  else if slot % s.tblW t ≠ 0 then some 2
  else if s.tblOrphaned t then some 4
  else none

/-- The slot of a request at the update port of the TCAM. -/
def UpdReq.slot (r : UpdReq) : Option Nat :=
  if r.origin ≠ .port 9 then none
  else match r.op with
    | .tcamWrite _ f .. => f
    | .tcamDelete _ f => some f
    | .tcamResult _ f .. => some f
    | _ => none

/-- A waiting update as the present ply finds it: a request at the update port of the TCAM acts on the table that owns the block
of its slot, with that table's width (R363), which a castling may have changed meanwhile (R346). So does a shrink by the register
of a block (R364). -/
def State.opNow (s : State) (r : UpdReq) : UpdOp :=
  match r.slot with
  | none => match r.origin, r.op with
    | .reg, .shrink _ [b] => .shrink (s.slotOwner (4096 * b)) [b]
    | _, op => op
  | some f =>
    let t := s.slotOwner f
    match r.op with
    | .tcamWrite _ i prio res v m must free => .tcamWrite t i prio res (v.take (10 * s.tblW t)) (m.take (10 * s.tblW t)) must free
    | .tcamDelete _ i => .tcamDelete t i
    | .tcamResult _ i res must => .tcamResult t i res must
    | op => op

/-- Words of configuration RAM are written with poison, or with fresh parity (R594). -/
def State.setEp (s : State) (on : Bool) : State := { s with integ := { s.integ with epWrite := on } }

/-- An update's result with its state changed. -/
def UpdRes.map (f : State → State) : UpdRes → UpdRes
  | .done s resp => .done (f s) resp
  | .more s op => .more (f s) op
  | .fail s st d p resp => .fail (f s) st d p resp

/-- A waiting update on the present ply; one that a poisoned write asked for stores poison (R594). -/
def State.commitNow (s : State) (r : UpdReq) : UpdRes :=
  match r.slot.bind s.slotRefusal with
  | some code => .no s stWrongState 0 code
  | none => if r.poison then ((s.setEp true).commitOp (s.opNow r)).map (·.setEp false) else s.commitOp (s.opNow r)

/-- Updates that take back what a mailbox's command has committed, queued before every other one: each commits on a ply of its own
(R333; log entry 60). -/
def State.queueUndo (s : State) (m : Mb) (ops : List UpdOp) : State :=
  { s with tbl := { s.tbl with queue := ops.map (fun op => { origin := .undo m, op := op }) ++ s.tbl.queue } }

/-- A refused update told to its origin. The load of a TCAM image first takes back what it has written (log entry 122). -/
def State.tellFail (s before : State) (r : UpdReq) (st d p : Nat) (resp : List Byte) : State :=
  match r.op, r.origin with
  | .tcamImage .., .mb m =>
    if r.undo.isEmpty then s.tell before r.origin r.op (.fail s st d p resp) else (s.queueUndo m r.undo).holdStop m st
  | _, _ => s.tell before r.origin r.op (.fail s st d p resp)

/-- The host updates from index `i` on, tried in order: the first ready one that commits uses the ply; a refused one is
told and the next is tried (R333, R393). The result says whether one committed. -/
def State.tryHost (s : State) : Nat → Nat → State × Bool
  | 0, _ => (s, false)
  | fuel + 1, i =>
    match s.tbl.queue[i]? with
    | none => (s, false)
    | some r =>
      if !s.opReady (s.opNow r) then s.tryHost fuel (i + 1)
      else
        let out (t : State) : State := { t with tbl := { t.tbl with queue := t.tbl.queue.eraseIdx i } }
        match s.commitNow r with
        | .done t resp => (((out t).tell s r.origin r.op (.done t resp)).usePly.noteBusy, true)
        | .more t op =>
          ({ t with tbl := { t.tbl with queue := t.tbl.queue.set i { r with op := op, undo := s.undoOf r.op ++ r.undo } } }.usePly,
            true)
        | .fail t st d p resp =>
          (((out t).tellFail s r st d p resp).noteBusy).tryHost fuel i

/-- The guard core's next update. -/
def State.tryGuard (s : State) : State × Bool :=
  match s.tbl.guardQ with
  | [] => (s, false)
  | op :: ops =>
    match ({ s with tbl := { s.tbl with guardQ := ops } } : State).commitOp op with
    | .done t _ => (t.usePly.noteBusy, true)
    | .more t _ => (t.usePly, true)
    | .fail t .. => (t.noteBusy, false)

/-- A learning-engine update at its commit, and whether it writes; while HASH is claimed it is skipped with a conflict
(R395). -/
def State.commitLearn (s : State) (u : LearnUpd) : State × Bool :=
  if s.claimed 10 then
    let c := s.conflict 10 1 1
    match u with
    | .insert i => (c.noteInsert i (fun c => { c with dropped := c.dropped + 1 }), false)
    | _ => (c, false)
  else match u with
    | .insert i => s.commitInsert i
    | .age v age => s.commitAge v age
    | .retire v => s.commitRetire v

/-- The learning engine's updates in order: the first that writes uses the ply; one that is dropped or skipped does not, and
the next is tried (R333). -/
def State.tryLearn : Nat → State → State × Bool
  | 0, s => (s, false)
  | n + 1, s =>
    match s.learn.updates with
    | [] => (s, false)
    | u :: us =>
      let r := ({ s with learn := { s.learn with updates := us } } : State).commitLearn u
      let s1 := match u with
        | .insert _ => r.1
        | _ => if r.1.agerQueued = 0 then r.1.endPass else r.1
      if r.2 then (s1.usePly.noteBusy, true) else State.tryLearn n s1.noteBusy

/-- A sweep frees the stale ways of the lowest bucket that holds any, or the lowest stale overflow entry (R377, R393; log
entry 126). -/
def State.trySweep (s : State) : State × Bool :=
  let due := ((List.range 63).filter (fun t => s.rdi HASH_TBL_CFG_sweep t == 1)).flatMap s.stale
  match due with
  | [] => (s, false)
  | p :: _ =>
    let same := due.filter (fun q => q.sid == p.sid && (if p.sid = sidBuckets then q.unit / 4 == p.unit / 4 else q == p))
    ((same.foldl State.dropPlace s).usePly, true)

/-- A repair write (R615): the good copy over the bad one, when the good copy still holds the data that was read and the
bad copy still fails; otherwise it is dropped. -/
def State.commitRepair (s : State) (r : Repair) : State × Bool :=
  let good := readRaw s.mem r.sid (1 - r.badCopy) r.word
  let bad := readRaw s.mem r.sid r.badCopy r.word
  if good.syn = 0 && bad.syn != 0 && good.data == r.data then
    let m := if unit32 r.sid then
        let u := unitRaw s.mem r.sid (1 - r.badCopy) (r.word / 4)
        let v := unitRaw s.mem r.sid r.badCopy (r.word / 4)
        let k := 8 * (r.word % 4)
        let cover := (List.range 8).foldl (fun n j => n ||| checkCover r.sid (k + j)) 0
        let chk := (leNat (v.drop 0x1C) &&& (2 ^ 32 - 1 - cover)) ||| (leNat (u.drop 0x1C) &&& cover)
        -- the word's own bytes and the check bits that cover them; the last word holds the check field itself
        putUnitRaw s.mem r.sid r.badCopy (r.word / 4)
          ((v.take k ++ good.data ++ v.drop (k + 8)).take 0x1C ++ leBytes 4 chk)
      else putWordRaw s.mem r.sid r.badCopy r.word good.data (wordCheck good.data)
    let s1 := ({ s with mem := m } : State).forget r.sid (8 * r.word) (8 * r.word + 8)
    (if r.scrub then s1.inc INTEG_SCRUB_REPAIRED_s_repaired else s1.inc INTEG_STEEP_REPAIRED_steep_repaired, true)
  else (s, false)

/-- The repair writes, after every other kind of update; a dropped one leaves the port free. -/
def State.tryRepair : Nat → State → State × Bool
  | 0, s => (s, false)
  | n + 1, s =>
    match s.integ.repairs with
    | [] => (s, false)
    | r :: rs =>
      match ({ s with integ := { s.integ with repairs := rs } } : State).commitRepair r with
      | (t, true) => (t.usePly, true)
      | (t, false) => State.tryRepair n t

/-- UPDATE_COMMIT: the port commits the first ready update on the present ply, in the order of R393: host updates, guard
core updates, learning-engine updates, sweep frees, then repairs (R615). At most one update commits on a ply (R333), and a castling that is due
goes first (R347). -/
def execUpdateCommit (s : State) : Out :=
  if !s.portFree || s.castleDue then ok s
  else
    match s.tryHost s.tbl.queue.length 0 with
    | (t, true) => ok t
    | (t, false) =>
      match t.tryGuard with
      | (u, true) => ok u
      | (u, false) =>
        match State.tryLearn u.learn.updates.length u with
        | (v, true) => ok v
        | (v, false) =>
          match v.trySweep with
          | (x, true) => ok x
          | (x, false) => ok (State.tryRepair x.integ.repairs.length x).1

/-! ### Giving up -/

/-- castle_pending of TCAM_STATUS reports a castling of either kind, and castle_wait of SEC_STATUS a guard castling behind a
host castling (R348, R578). -/
def State.noteCastle (s : State) : State :=
  let first : Bool := match s.tbl.castle with | some c => !c.behind | none => false
  (s.wr TCAM_STATUS_castle_pending (b2n (s.tbl.castle.isSome || s.tbl.guardCastle))).wr SEC_STATUS_castle_wait
    (b2n (s.tbl.guardCastle && first))

/-- The pending castling, with the bits that report it (TCAM_STATUS, TCAM_TBL_CFG). -/
def State.setCastle (s : State) (c : Option Castle) : State :=
  let mark (s : State) (c : Option Castle) (v : Nat) : State := match c with
    | none => s
    | some x => (s.wri TCAM_TBL_CFG_castle_pending x.a v).wri TCAM_TBL_CFG_castle_pending x.b v
  let s1 := mark s s.tbl.castle 0
  (mark { s1 with tbl := { s1.tbl with castle := c } } c 1).noteCastle

/-- A guard castling becomes pending, or is no longer: a host castling behind it then waits for nothing (R578). -/
def State.setGuardCastle (s : State) (on : Bool) : State :=
  let c := if on then s.tbl.castle else s.tbl.castle.map (fun c => { c with behind := false })
  ({ s with tbl := { s.tbl with guardCastle := on, castle := c } } : State).noteCastle

/-- The updates of a mailbox's command leave the port, and updates that take back what an image load or a flush has committed
come in their place (R244). Without `undo` the entries of a TCAM image load remain (R344). -/
def State.cancelUpdates (s : State) (m : Mb) (undo : Bool) : State :=
  let mine := s.tbl.queue.filter (fun r => r.origin == .mb m)
  let back := mine.flatMap (fun r => match r.op with
    | .tcamImage .. => if undo then r.undo else []
    | _ => r.undo)
  let s2 := match s.tbl.castle with
    | some c => if c.mb = some m then s.setCastle none else s
    | none => s
  (({ s2 with tbl := { s2.tbl with
      queue := s2.tbl.queue.filter (fun r => !(r.origin == .mb m))
      releases := s2.tbl.releases.filter (fun r => r.mb != m) } } : State).queueUndo m back).noteBusy

end Sys2Proof.Machine
end

