-- ==== Sys2Proof/Machine/TableCmds.lean ====
section
/-! DEFINITION. The TABLE, ENTRY and LEARN commands of Eupex (chapters *The ternary array*, *Exact match, direct index and
learning*, *The prefix trie*). -/

namespace Sys2Proof.Machine
open Reg

/-! ### Shared parts -/

/-- The parameter length of a command that fixes one: a wrong one is a header fault (R233, R238). -/
def needLen (c : Cmd) (n : Nat) : Option Nat := need (c.params.length == n) 0xFFFF

/-- A command that writes a table waits in the port's queue. -/
def State.submit (s : State) (m : Mb) (op : UpdOp) : State := (s.queueUpd (.mb m) op).wait m

/-- A command that writes host table `t`: DENIED for the guard table, BAD_PARAM for a number that names no table
(R350). -/
def hostTable (m : Mb) (t : Nat) (s : State) (body : State → State) : State :=
  if t = 63 then s.fail m stDenied
  else if t < 63 then body s
  else s.badParam m 0

/-- slot_bind as the registers hold it. -/
def bindOf (v : Nat) : Nat := if v = 0xFF then 3 else v

/-- The blocks that TABLE.CREATE takes without a list: the lowest FREE ones, then the lowest GATED ones (R354). -/
def State.pickBlocks (s : State) (n : Nat) : List Nat :=
  let taken := s.reserved
  let free := (List.range 248).filter (fun b => s.blk b == blkFree && !taken.contains b)
  let gated := (List.range 248).filter (fun b => s.blk b == blkGated && !taken.contains b)
  (free ++ gated).take n

/-- The check of named blocks that an update takes: NO_ROOM for one that is OWNED, BUSY for one that is CHANGING or that
another update has named (R354). -/
def State.blocksAnswer (s : State) (bs : List Nat) : Option Nat :=
  let taken := s.reserved
  if bs.any (fun b => s.blk b == blkOwned) then some stNoRoom
  else if bs.any (fun b => s.blk b == blkChanging || taken.contains b) then some stBusy
  else none

/-! ### TABLE.CREATE, DELETE, GROW, SHRINK -/

/-- TABLE.CREATE of a TCAM table (R354). -/
def State.createTcam (s : State) (m : Mb) (c : Cmd) : State :=
  let named := bitmapList (c.bytes 8 32) 256
  let explicit := bitOf (c.u8 2) 1
  checked m [need (c.u8 2 < 4) 2, need (c.u8 3 ≤ 1 || c.u8 3 == 0xFF) 3, need (c.u8 4 ≤ 3) 4, c.notZero 5 1,
             need (explicit || c.u16 6 ≤ 248) 6, need (!explicit || named.all (· < 248)) 8] s (fun s =>
    let t := c.u8 0
    if s.tblDefined t then s.done m stWrongState (s.tblEngine t) []
    else if s.sweeping t then s.fail m stBusy
    else
      let bs := if explicit then named else s.pickBlocks (c.u16 6)
      if !explicit && bs.length < c.u16 6 then s.fail m stNoRoom
      else match s.blocksAnswer bs with
        | some st => s.fail m st
        | none => (s.ungateAll bs).submit m (.tcamCreate t (c.u8 2 % 2) (bindOf (c.u8 3)) (c.u8 4) (sortNat bs)))

/-- TABLE.CREATE of an exact-match table. -/
def State.createExact (s : State) (m : Mb) (c : Cmd) : State :=
  checked m [need (c.u8 2 < 2) 2, need (c.u8 3 ≤ 1 || c.u8 3 == 0xFF) 3, need (1 ≤ c.u8 4 && c.u8 4 < 8) 4,
             need (c.u8 5 < 4 && (c.u8 5 % 2 == 0 || c.u8 3 ≤ 1)) 5, c.notZero 6 2,
             need (1 ≤ c.u32 8 && c.u32 8 ≤ 2113536) 8, c.notZero 12 28] s (fun s =>
    let t := c.u8 0
    if s.tblDefined t then s.done m stWrongState (s.tblEngine t) []
    else if s.sweeping t then s.fail m stBusy
    else s.submit m (.exactCreate t (c.u8 2) (bindOf (c.u8 3)) (c.u8 4) (c.u8 5) (c.u32 8)))

/-- TABLE.CREATE of an LPM table (R412). -/
def State.createLpm (s : State) (m : Mb) (c : Cmd) : State :=
  checked m [need (c.u8 2 < 2) 2, need (c.u8 3 ≤ 1 || c.u8 3 == 0xFF) 3, need (1 ≤ c.u32 4 && c.u32 4 ≤ 524288) 4,
             c.notZero 8 32] s (fun s =>
    let t := c.u8 0
    if s.tblDefined t then s.done m stWrongState (s.tblEngine t) []
    else if s.sweeping t then s.fail m stBusy
    else if s.freeRoot.isNone then s.fail m stNoRoom
    else s.submit m (.lpmCreate t (c.u8 2) (bindOf (c.u8 3)) (c.u32 4) none))

/-- TABLE.CREATE (0x0601). -/
def execTableCreate (m : Mb) (s : State) : Out :=
  runCmd m 0x0601 s (fun c s =>
    hostTable m (c.u8 0) s (fun s =>
      match c.u8 1 with
      | 1 => s.createTcam m c
      | 2 => s.createExact m c
      | 4 => s.createLpm m c
      | _ => s.badParam m 1))

/-- TABLE.DELETE (0x0602, R355). -/
def execTableDelete (m : Mb) (s : State) : Out :=
  runCmd m 0x0602 s (fun c s =>
    hostTable m (c.u8 0) s (fun s =>
      checked m [c.notZero 1 3] s (fun s =>
        let t := c.u8 0
        if !s.tblDefined t then s.fail m stNotFound
        else if s.castling t then s.fail m stBusy
        else s.submit m (.delTable t))))

/-- TABLE.GROW (0x0603, R356). -/
def execTableGrow (m : Mb) (s : State) : Out :=
  runCmd m 0x0603 s (fun c s =>
    hostTable m (c.u8 0) s (fun s =>
      let t := c.u8 0
      let bs := bitmapList (c.bytes 8 32) 256
      checked m [c.notZero 1 7] s (fun s =>
        if bs.any (248 ≤ ·) then s.fail m stDenied
        else if !s.tblIs t engTcam then s.fail m stNotFound
        else if s.tblOrphaned t then s.fail m stMediaGone
        else match s.blocksAnswer bs with
          | some st => s.fail m st
          | none => (s.ungateAll bs).submit m (.grow t bs))))

/-- TABLE.SHRINK (0x0604, R356). While the table's castling is pending it waits, and the blocks are judged at its commit, when the
table owns those of the other (R346, R348). -/
def execTableShrink (m : Mb) (s : State) : Out :=
  runCmd m 0x0604 s (fun c s =>
    hostTable m (c.u8 0) s (fun s =>
      let t := c.u8 0
      let bs := bitmapList (c.bytes 8 32) 256
      checked m [c.notZero 1 7] s (fun s =>
        if bs.any (248 ≤ ·) then s.fail m stDenied
        else if !s.tblIs t engTcam then s.fail m stNotFound
        else if s.castling t then s.submit m (.shrink t bs)
        else if !bs.all (s.ownsBlk t) then s.badParam m 8
        else match bs.find? (fun b => !(s.blkValid b).isEmpty) with
          | some b => s.done m stWrongState b []
          | none => s.submit m (.shrink t bs))))

/-! ### TABLE.QUERY, CASTLE, BLOCK_POWER -/

/-- The learned entries of table `t` (HASH_TBL_LRN). -/
def State.learnedEntries (s : State) (t : Nat) : Nat :=
  ((s.exactEntries t).filter (fun p => entLearned (s.unitBytesOf p))).length

/-- The 64 bytes of a TABLE.QUERY response. -/
def State.tableQuery (s : State) (t : Nat) : List Byte :=
  let i := s.tblInfo t
  let eng := if s.tblDefined t then s.tblEngine t else 0
  let head (width : Nat) : List Byte :=
    leBytes 1 eng ++ leBytes 1 (b2n (s.tblHidden t) + 2 * b2n (s.tblOrphaned t) + 4 * b2n (s.castling t)) ++
      leBytes 1 (if s.tblBind t = 3 then 0xFF else s.tblBind t) ++ leBytes 1 width
  let tail : List Byte := leBytes 8 i.lastPly ++ leBytes 8 i.lookups
  match eng with
  | 1 => head (s.rdi TCAM_TBL_CFG_width_code t) ++ leBytes 4 (s.tcamEntries t) ++ leBytes 4 (s.tcamFree t) ++
      leBytes 4 i.peLookups ++ listBitmap 32 (s.tblBlocks t) ++ tail
  | 2 => head 0 ++ leBytes 4 (s.exactEntries t).length ++ leBytes 4 (s.rdi HASH_TBL_QUOTA_quota t) ++
      leBytes 4 ((s.exactEntries t).filter (fun p => p.sid == sidOverflow)).length ++ leBytes 4 (s.learnedEntries t) ++
      leBytes 4 i.peLookups ++ leBytes 1 (s.rdi HASH_TBL_CFG_types t) ++ leBytes 1 (s.rdi HASH_TBL_CFG_learn t) ++
      leBytes 1 (s.epoch t) ++ leBytes 1 (s.rdi HASH_TBL_CFG_sweep t) ++ List.replicate 20 0 ++ tail
  | 4 =>
    let r := (s.lpmRootOf t).getD 0
    head 0 ++ leBytes 4 (s.prefixes t) ++ leBytes 4 (s.rdi LPM_ROOT_QUOTA_quota r) ++
      (List.range 7).flatMap (fun st => leBytes 4 (s.tblRecs t st).length) ++ leBytes 1 r ++
      leBytes 1 (s.rdi LPM_ROOT_CFG_dflt_valid r + 2 * s.rdi LPM_ROOT_CFG_sweep r +
        4 * b2n (s.rd LPM_OVL_CTRL_armed == 1 && s.rd LPM_OVL_CTRL_ovl_root == r)) ++
      leBytes 2 0 ++ leBytes 4 (s.rdi LPM_ROOT_DFLT_dflt_result r) ++ tail
  | _ => head 0 ++ List.replicate 44 0 ++ tail

/-- TABLE.QUERY (0x0605). -/
def execTableQuery (m : Mb) (s : State) : Out :=
  runCmd m 0x0605 s (fun c s => checked m [need (c.u8 0 ≤ 63) 0] s (fun s => s.okResp m (s.tableQuery (c.u8 0))))

/-- The rule of R345 for two tables, orphaning apart. -/
def State.castleOk (s : State) (a b : Nat) : Bool :=
  a != b && s.tblIs a engTcam && s.tblIs b engTcam &&
    s.rdi TCAM_TBL_CFG_width_code a == s.rdi TCAM_TBL_CFG_width_code b && s.tblBind a == s.tblBind b

/-- A target ply in the range of TABLE.CASTLE: 0, or 800 to 400,000,000 plies ahead. -/
def State.plyOk (s : State) (p : Nat) : Bool := p == 0 || (s.clk.ply + 800 ≤ p && p ≤ s.clk.ply + 400000000)

/-- TABLE.CASTLE (0x0606, R345 to R349); behind a pending guard castling it waits (R578; log entry 123). -/
def execTableCastle (m : Mb) (s : State) : Out :=
  runCmd m 0x0606 s (fun c s =>
    let a := c.u8 0
    let b := c.u8 1
    if a = 63 ∨ b = 63 then s.fail m stDenied
    else
      checked m [need (a < 63) 0, need (b < 63 && b != a) 1, c.notZero 2 6, need (s.plyOk (c.u64 8)) 8] s (fun s =>
        if !s.tblDefined a || !s.tblDefined b then s.fail m stNotFound
        else if !s.castleOk a b then s.badParam m (if s.tblIs a engTcam then 1 else 0)
        else if s.tblOrphaned a || s.tblOrphaned b then s.fail m stMediaGone
        else if s.tbl.castle.isSome then s.fail m stBusy
        else (s.setCastle (some { a := a, b := b, atPly := c.u64 8, mb := some m, behind := s.tbl.guardCastle })).wait m))

/-- A command that completes once the blocks it is ungating are FREE. -/
def State.awaitUngate (s : State) (m : Mb) (bs : List Nat) : State :=
  if bs.isEmpty then s.okResp m []
  else
    ({ s with tbl := { s.tbl with releases := s.tbl.releases ++
        [{ mb := m, blocks := bs, sweep := none, resp := [] }] } } : State).wait m

/-- TABLE.BLOCK_POWER (0x0607, R329, R330, R357). -/
def execTableBlockPower (m : Mb) (s : State) : Out :=
  runCmd m 0x0607 s (fun c s =>
    let bs := bitmapList (c.bytes 8 32) 256
    checked m [need (c.u8 0 == 1 || c.u8 0 == 2) 0, c.notZero 1 7] s (fun s =>
      if bs.any (248 ≤ ·) then s.fail m stDenied
      else if c.u8 0 = 1 then (s.ungateAll bs).awaitUngate m (bs.filter (fun b => s.blk b == blkGated))
      else match bs.find? (fun b => s.blk b == blkOwned || s.blk b == blkChanging || s.reserved.contains b) with
        | some b => s.done m stWrongState b []
        | none => (bs.foldl (fun s b => if s.blk b = blkFree then s.gate b else s) s).okResp m []))

/-! ### Images -/

/-- The checks of a TCAM image whose header holds (R359): BAD_PARAM, WRONG_STATE and NO_ROOM. -/
def State.tcamImageStatus (s : State) (t : Nat) (recs : List (List Byte)) : Option (Nat × Nat) :=
  let idx := recs.filterMap tcamRecIdx
  let auto := recs.length - idx.length
  let w := s.tblW t
  if !idx.all (s.inTable t) then some (stBadParam, 4)
  else if !s.tblHidden t then some (stWrongState, 0)
  else if !idx.all (fun f => s.posFree f w) || idx.eraseDups.length != idx.length then some (stWrongState, 0)
  else if s.tcamFree t < auto + idx.length then some (stNoRoom, 0)
  else none

/-- The records of a TCAM image with a position for each: those with automatic placement take the lowest free positions that no
record of the image names, in image order (R337, R344). -/
def placeRecs : List (List Byte) → List Nat → List (List Byte)
  | [], _ => []
  | r :: rs, ps =>
    match tcamRecIdx r, ps with
    | none, p :: ps => (leBytes 4 p ++ r.drop 4) :: placeRecs rs ps
    | _, _ => r :: placeRecs rs ps

/-- A TCAM image as the port takes it. -/
def State.placedImage (s : State) (t : Nat) (recs : List (List Byte)) : List (List Byte) :=
  let idx := recs.filterMap tcamRecIdx
  placeRecs recs (s.freePositions t (recs.length - idx.length) idx)

/-- TABLE.IMAGE_LOAD (0x0608, R344, R359, R400, R424): the whole image is checked, then its records commit in turn. -/
def execTableImageLoad (m : Mb) (s : State) : Out :=
  runCmd m 0x0608 s (fun c s =>
    let t := c.u8 0
    if t = 63 then s.fail m stDenied
    else
      checked m [need (t < 63 || t == dixTable) 0, c.notZero 1 3, c.refCheck 4] s (fun s =>
        let e := s.imgEngine t
        if e = 0 then s.fail m stNotFound
        else if t ≠ dixTable ∧ s.tblOrphaned t then s.fail m stMediaGone
        else if s.refPoison (c.ref 4) then s.fail m stPoisoned
        else
          match imageParse e (if e = 1 then s.rdi TCAM_TBL_CFG_width_code t else 0) (s.refBytes (c.ref 4)) with
          | none => s.badParam m 4
          | some recs =>
            match e with
            | 1 =>
              match s.tcamImageStatus t recs with
              | some (st, d) => s.done m st d []
              | none => s.submit m (.tcamImage t (s.placedImage t recs) [])
            | 2 =>
              if recs.all (fun r => s.typeOk t (recNat r 24 1) && recNat r 25 1 < 2 && recNat r 26 6 == 0) then
                s.submit m (.exactImage t recs 0)
              else s.badParam m 4
            | 3 =>
              if recs.all (fun r => recNat r 2 6 == 0) then s.submit m (.dixImage recs 0) else s.badParam m 4
            | _ =>
              if s.sweeping t then s.fail m stBusy
              else if recs.all (fun r => prefixOk (recPfx r) (recLen r) && recNat r 13 3 == 0) then
                s.submit m (.lpmImage t recs 0)
              else s.badParam m 4))

/-- TABLE.IMAGE_SAVE (0x0609, R360, R400): header and records into the referenced range until it is full. What is read from
uncorrectable words is stored with poison, and every failing word is reported (R594, R602). -/
def execTableImageSave (m : Mb) (s : State) : Out :=
  runCmd m 0x0609 s (fun c s =>
    let t := c.u8 0
    checked m [need (t < 63 || t == dixTable) 0, c.notZero 1 3, c.refCheck 4] s (fun s =>
      let e := s.imgEngine t
      let w := if e = 1 then s.tblW t else 1
      let width := if e = 1 then s.rdi TCAM_TBL_CFG_width_code t else 0
      let first := c.u32 12
      if e = 0 then s.fail m stNotFound
      else if (c.ref 4).2 < 16 then s.badParam m 4
      else if e = 1 ∧ first % w ≠ 0 then s.badParam m 12
      else
        let all := s.imageEntries t first
        let n := ((c.ref 4).2 - 16) / recSize e w
        let saved := all.take n
        let some_ := saved.map (·.2)
        let srcs := s.imageSrc t (recSize e w) 16 saved
        let next := match (all.drop n).head? with
          | some x => x.1
          | none => 0xFFFFFFFF
        let s1 := (s.storeMixed sidBar2 (dataRam + (c.ref 4).1) (imageHeader width e some_ ++ some_.flatten)
          (s.srcBad srcs)).reportSrc t srcs
        s1.okResp m (leBytes 4 some_.length ++ leBytes 4 next)))

/-- TABLE.PUBLISH (0x060A, R343). -/
def execTablePublish (m : Mb) (s : State) : Out :=
  runCmd m 0x060A s (fun c s =>
    hostTable m (c.u8 0) s (fun s =>
      let t := c.u8 0
      checked m [need (c.u8 1 ≤ 1) 1, c.notZero 2 2] s (fun s =>
        if !s.tblDefined t then s.fail m stNotFound
        else if s.castling t then s.fail m stBusy
        else s.submit m (.hide t (c.u8 1)))))

/-- TABLE.CLEAR (0x060B, R361, R377, R423). -/
def execTableClear (m : Mb) (s : State) : Out :=
  runCmd m 0x060B s (fun c s =>
    hostTable m (c.u8 0) s (fun s =>
      let t := c.u8 0
      checked m [c.notZero 1 3] s (fun s =>
        if s.castling t || s.sweeping t then s.fail m stBusy
        else if !s.tblDefined t then s.fail m stNotFound
        else s.submit m (.clear t))))

/-- TABLE.DIX_LIMIT (0x060C, R384). -/
def execTableDixLimit (m : Mb) (s : State) : Out :=
  runCmd m 0x060C s (fun c s => checked m [need (c.u32 0 ≤ 65536) 0] s (fun s => s.submit m (.dixLimit (c.u32 0))))

/-! ### ENTRY commands -/

/-- The sweep of a cleared or deleted LPM table of number `t` runs (R423). -/
def State.lpmSweeping (s : State) (t : Nat) : Bool :=
  (List.range 4).any (fun r => s.rdi LPM_ROOT_CFG_table r == t && s.rdi LPM_ROOT_CFG_sweep r == 1)

/-- The forms of an ENTRY command by the engine of the table that byte 0 names; an undefined table is NOT_FOUND, but a write of
a deleted LPM table takes its form while the sweep runs. -/
def entryForms (m : Mb) (c : Cmd) (s : State) (writes : Bool) (tcam exact dix lpm : State → State) : State :=
  let t := c.u8 0
  if t = dixTable then dix s
  else if 63 < t then s.badParam m 0
  else if t = 63 ∧ writes then s.fail m stDenied
  else match s.imgEngine t with
    | 1 => tcam s
    | 2 => exact s
    | 4 => lpm s
    | _ => if writes && s.lpmSweeping t then lpm s else s.fail m stNotFound

/-- The parameter checks that the exact-match forms share. -/
def exactChecks (c : Cmd) (len : Nat) : List (Option Nat) :=
  [needLen c len, c.notZero 2 2, need (1 ≤ c.u8 4 && c.u8 4 ≤ 3) 4, c.notZero 5 3]

/-- The parameter checks that the LPM forms share. -/
def lpmChecks (c : Cmd) (len : Nat) : List (Option Nat) :=
  [needLen c len, c.notZero 2 2, need (c.u8 4 ≤ 64) 4, c.notZero 5 3, need (prefixOk (c.u64 8) (c.u8 4)) 8]

/-- A check that a table's state asks for before an update is queued. -/
def State.lpmBusy (s : State) (t : Nat) : Option Nat := if s.sweeping t then some stBusy else none

/-- ENTRY.WRITE (0x0701). -/
def execEntryWrite (m : Mb) (s : State) : Out :=
  runCmd m 0x0701 s (fun c s =>
    let t := c.u8 0
    let f := c.u8 1
    entryForms m c s true
      (fun s =>
        let w := s.tblW t
        let auto := bitOf f 0
        checked m [needLen c (24 + 20 * w), need (f < 8 && !(auto && bitOf f 1)) 1, c.notZero 2 2,
                   need (auto || s.castling t || s.inTable t (c.u32 4)) 4, c.notZero 10 6] s (fun s =>
          if s.tblOrphaned t then s.fail m stMediaGone
          else
            s.submit m (.tcamWrite t (if auto then none else some (c.u32 4)) (c.u16 8) (c.u64 16) (c.bytes 24 (10 * w))
              (c.bytes (24 + 10 * w) (10 * w)) (bitOf f 1) (bitOf f 2))))
      (fun s =>
        checked m ([need (f < 16 && !bitOf f 0 && !(bitOf f 1 && bitOf f 2)) 1] ++ exactChecks c 32 ++
            [need (s.typeOk t (c.u8 4)) 4]) s (fun s =>
          if s.tblOrphaned t then s.fail m stMediaGone
          else s.submit m (.exactWrite t (c.u8 4) (c.bytes 8 16) (c.u64 24) (bitOf f 3) (bitOf f 1) (bitOf f 2))))
      (fun s =>
        checked m [needLen c 16, c.notZero 1 3, c.notZero 6 2] s (fun s => s.submit m (.dixWrite (c.u16 4) (c.u64 8))))
      (fun s =>
        checked m ([need (f < 8 && !bitOf f 0 && !(bitOf f 1 && bitOf f 2)) 1] ++ lpmChecks c 24 ++ [c.notZero 20 4]) s
          (fun s =>
            match s.lpmBusy t with
            | some st => s.fail m st
            | none =>
              if s.tblOrphaned t then s.fail m stMediaGone
              else s.submit m (.lpmInsert t (c.u64 8) (c.u8 4) (c.u32 16) (bitOf f 1) (bitOf f 2)))))

/-- ENTRY.DELETE (0x0702). The position named on a table of a pending castling is checked on the commit ply, against the
image that the table then has (R346, R348). -/
def execEntryDelete (m : Mb) (s : State) : Out :=
  runCmd m 0x0702 s (fun c s =>
    let t := c.u8 0
    entryForms m c s true
      (fun s => checked m [c.notZero 1 3, need (s.castling t || s.inTable t (c.u32 4)) 4] s (fun s =>
        s.submit m (.tcamDelete t (c.u32 4))))
      (fun s =>
        checked m ([c.notZero 1 1] ++ exactChecks c 24 ++ [need (s.typeOk t (c.u8 4)) 4]) s (fun s =>
          s.submit m (.exactDelete t (c.u8 4) (c.bytes 8 16))))
      (fun s => checked m [needLen c 8, c.notZero 1 3, c.notZero 6 2] s (fun s => s.submit m (.dixWrite (c.u16 4) 0)))
      (fun s =>
        checked m ([c.notZero 1 1] ++ lpmChecks c 16) s (fun s =>
          match s.lpmBusy t with
          | some st => s.fail m st
          | none => s.submit m (.lpmDelete t (c.u64 8) (c.u8 4)))))

/-- ENTRY.RESULT (0x0704). -/
def execEntryResult (m : Mb) (s : State) : Out :=
  runCmd m 0x0704 s (fun c s =>
    let t := c.u8 0
    entryForms m c s true
      (fun s =>
        checked m [c.notZero 1 3, need (s.castling t || s.inTable t (c.u32 4)) 4] s (fun s =>
          if s.tblOrphaned t then s.fail m stMediaGone else s.submit m (.tcamResult t (c.u32 4) (c.u64 8) true)))
      (fun s =>
        checked m ([c.notZero 1 1] ++ exactChecks c 32 ++ [need (s.typeOk t (c.u8 4)) 4]) s (fun s =>
          if s.tblOrphaned t then s.fail m stMediaGone
          else s.submit m (.exactResult t (c.u8 4) (c.bytes 8 16) (c.u64 24))))
      (fun s => checked m [needLen c 16, c.notZero 1 3, c.notZero 6 2] s (fun s => s.submit m (.dixWrite (c.u16 4) (c.u64 8))))
      (fun s =>
        checked m ([c.notZero 1 1] ++ lpmChecks c 24 ++ [c.notZero 20 4]) s (fun s =>
          match s.lpmBusy t with
          | some st => s.fail m st
          | none =>
            if s.tblOrphaned t then s.fail m stMediaGone
            else s.submit m (.lpmResult t (c.u64 8) (c.u8 4) (c.u32 16)))))

/-- ENTRY.READ of a TCAM position: the layout of ENTRY.WRITE, with what is stored (POISONED keeps the response whole). -/
def State.readTcam (s : State) (m : Mb) (t f : Nat) : State :=
  let w := s.tblW t
  let u := s.entrySlots f w
  let r := readWord s.mem sidResult f
  let resp := leBytes 1 t ++ leBytes 1 (b2n (s.entryValid f w) + 2 * b2n (u.any slotSeen)) ++ leBytes 2 0 ++ leBytes 4 f ++
    leBytes 2 (slotPrio (s.slot f)) ++ leBytes 2 (leNat ((s.slot f).drop 0x1C)) ++ leBytes 4 0 ++ r.data ++
    s.entryValue f w ++ s.entryMask f w
  (s.reportSrc t (s.tcamSrc t f)).done m (if r.poison then stPoisoned else stOk) 0 resp

/-- ENTRY.READ (0x0703); firmware reports the failing words that it reads (R602). -/
def execEntryRead (m : Mb) (s : State) : Out :=
  runCmd m 0x0703 s (fun c s =>
    let t := c.u8 0
    entryForms m c s false
      (fun s => checked m [c.notZero 1 3, need (s.inTable t (c.u32 4)) 4] s (fun s => s.readTcam m t (c.u32 4)))
      (fun s =>
        checked m ([c.notZero 1 1] ++ exactChecks c 24 ++ [need (s.typeOk t (c.u8 4)) 4]) s (fun s =>
          match s.exactFind t (2 ^ (c.u8 4 - 1)) (c.bytes 8 16) with
          | none => s.fail m stNotFound
          | some p =>
            let u := s.unitBytesOf p
            let st := if (readWord s.mem p.sid (4 * p.unit + 2)).poison then stPoisoned else stOk
            (s.reportSrc t (placeSrc p)).done m st 0 (leBytes 1 t ++ leBytes 1 (1 + 8 * b2n (entLearned u)) ++ leBytes 2 0 ++ leBytes 1 (entType u) ++
              leBytes 3 0 ++ entKey u ++ leBytes 8 (entResult u) ++ leBytes 2 (entAge u) ++ leBytes 2 0 ++
              leBytes 4 (placeIndex p))))
      (fun s =>
        checked m [needLen c 8, c.notZero 1 3, c.notZero 6 2] s (fun s =>
          let r := readWord s.mem sidDix (c.u16 4)
          (s.reportSrc t (dixSrc (c.u16 4))).done m (if r.poison then stPoisoned else stOk) 0
            (leBytes 1 t ++ leBytes 3 0 ++ leBytes 2 (c.u16 4) ++ leBytes 2 0 ++ r.data)))
      (fun s =>
        checked m ([c.notZero 1 1] ++ lpmChecks c 16) s (fun s =>
          let len := c.u8 4
          let resp (result index : Nat) : List Byte :=
            leBytes 1 t ++ leBytes 1 1 ++ leBytes 2 0 ++ leBytes 1 len ++ leBytes 3 0 ++ leBytes 8 (c.u64 8) ++
              leBytes 4 result ++ leBytes 4 0 ++ leBytes 4 index
          let r := (s.lpmRootOf t).getD 0
          if len = 0 then
            if s.rdi LPM_ROOT_CFG_dflt_valid r = 1 then
              s.okResp m (resp (s.rdi LPM_ROOT_DFLT_dflt_result r) lpmDefaultIdx)
            else s.fail m stNotFound
          else match s.findRec t (c.u64 8) len with
            | none => s.fail m stNotFound
            | some j =>
              let st := stageOf len
              let bad := (readWord s.mem (sidStage st) (recBase st + 2 * j + 1)).poison
              (s.reportSrc t (lpmSrc st j)).done m (if bad then stPoisoned else stOk) 0 (resp (recResult (s.recBytes st j)) (lpmIndex st j)))))

/-! ### LEARN commands -/

/-- hash_seed may change: no way and no overflow entry is valid and no sweep runs (R369). -/
def State.seedFree (s : State) : Bool :=
  s.waysUsed == 0 && s.ovfUsed == 0 && !(List.range 63).any (fun t => s.rdi HASH_TBL_CFG_sweep t == 1)

/-- LEARN.CONFIG (0x0901). -/
def execLearnConfig (m : Mb) (s : State) : Out :=
  runCmd m 0x0901 s (fun c s =>
    let f := c.u8 0
    checked m [need (f < 8) 0, c.notZero 1 3, need (10 ≤ c.u16 4) 4, need (1 ≤ c.u16 6) 6, need (c.u32 12 ≤ 16384) 12] s
      (fun s =>
        if c.u32 8 ≠ s.rd HASH_SEED_hash_seed ∧ ¬ s.seedFree then s.fail m stWrongState
        else
          (((((((s.wr HASH_LEARN_CTRL_learn_en f).wr HASH_LEARN_CTRL_owner_learn_en (f / 2)).wr HASH_LEARN_CTRL_ager_en
            (f / 4)).wr HASH_AGE_CFG_age_period_ms (c.u16 4)).wr HASH_AGE_CFG_age_limit (c.u16 6)).wr HASH_SEED_hash_seed
            (c.u32 8)).wr HASH_LEARN_CTRL_ovf_thresh (c.u32 12)).okResp m []))

/-- LEARN.QUERY (0x0902): 64 bytes of counts since START. -/
def execLearnQuery (m : Mb) (s : State) : Out :=
  runCmd m 0x0902 s (fun _ s =>
    let l := s.learn
    s.okResp m (padTo 64 (([l.inserts, l.present, l.fails, l.dropDelete, l.dropQueue, l.walksTotal, l.notFound, l.retired,
      s.rd HASH_AGE_PASS_passes, s.waysUsed, s.ovfUsed, l.ownerInserts].map (leBytes 4)).flatten ++
      leBytes 1 l.walks.length)))

/-- LEARN.WALK (0x0903). -/
def execLearnWalk (m : Mb) (s : State) : Out :=
  runCmd m 0x0903 s (fun c s =>
    let t := c.u8 0
    let r := c.ref 4
    checked m [need (t ≤ 62) 0, need (c.u8 1 ≤ 1) 1, c.notZero 2 2, c.refCheck 4,
               need (r.2 % 16 == 0 && 16 ≤ r.2 && r.2 ≤ 16 * 32768) 4] s (fun s =>
      if !s.tblIs t engExact then s.fail m stNotFound
      else if s.rd HASH_LEARN_CTRL_learn_en = 0 ∨ s.rdi HASH_TBL_CFG_learn t % 2 = 0 then s.fail m stWrongState
      else if ¬ s.tblOrphaned t ∧ s.slotState (s.tblBind t) = slRaw then s.fail m stDenied
      else if s.tblOrphaned t ∨ s.slotState (s.tblBind t) ≠ slReady then s.fail m stMediaGone
      else if s.refPoison r then s.fail m stPoisoned
      else
        let w : WalkCmd :=
          { mb := m, table := t, stop := c.u8 1 == 1, keys := cutRecs 16 32768 (s.refBytes r), outstanding := 0
            inserted := 0, present := 0, notFound := 0, noRoom := 0, dropped := 0 }
        (({ s with learn := { s.learn with cmds := s.learn.cmds ++ [w] } } : State).wait m).pumpWalk m))

/-- LEARN.FLUSH (0x0904): every matching entry deleted as a host update. -/
def execLearnFlush (m : Mb) (s : State) : Out :=
  runCmd m 0x0904 s (fun c s =>
    let t := c.u8 0
    checked m [need (t ≤ 62) 0, need (1 ≤ c.u8 1 && c.u8 1 ≤ 3) 1, c.notZero 2 2] s (fun s =>
      if !s.tblIs t engExact then s.fail m stNotFound
      else
        let want (p : Place) : Bool :=
          let u := s.unitBytesOf p
          entLearned u && (c.u8 1 == 3 || (c.u8 1 == 1 && entType u == 1) || (c.u8 1 == 2 && entType u == 2))
        s.submit m (.flush t (c.u8 1) 0 (((s.exactEntries t).filter want).map placeIndex))))

end Sys2Proof.Machine
end

