-- ==== Sys2Proof/Machine/TableRegs.lean ====
section
/-! DEFINITION. The expert registers of the TCAM, HASH, DIX and LPM blocks, and the events of blocks, sweeps, castlings and
the overlay (R329 to R331, R345 to R349, R362 to R365, R401, R418, R423, R427, R428). -/

namespace Sys2Proof.Machine
open Reg

/-- The key under `n` registers of a field that hold consecutive 32-bit words, as bytes. -/
def State.regBytes (s : State) (f : Fld) (n : Nat) : List Byte := (List.range n).flatMap (fun i => leBytes 4 (s.rdi f i))

/-! ### Castling -/

/-- A castling whose table is orphaned does not commit: its command completes with MEDIA_GONE (R349). -/
def State.dropOrphanCastle (s : State) : State :=
  match s.tbl.castle with
  | none => s
  | some c =>
    if s.tblOrphaned c.a || s.tblOrphaned c.b then
      let s1 := s.setCastle none
      match c.mb with
      | some m => s1.fail m stMediaGone
      | none => s1
    else s

/-- CASTLE_GO: a write of TCAM_CASTLE; go asks for a castling under R345 and R362. -/
def execCastleGo (w : RegWord) (s : State) : Out :=
  ok (s.regOp 0x9030 w (fun s =>
    let s1 := s.wrRW 0x9030 w
    if fieldOf w TCAM_CASTLE_go = 0 then s1
    else
      let a := s1.rd TCAM_CASTLE_table_a
      let b := s1.rd TCAM_CASTLE_table_b
      let at_ := s1.rd TCAM_CASTLE_AT_LO_at_lo + 2 ^ 32 * s1.rd TCAM_CASTLE_AT_HI_at_hi
      if a = 63 ∨ b = 63 ∨ ¬ s1.castleOk a b ∨ s1.tblOrphaned a ∨ s1.tblOrphaned b ∨ ¬ s1.plyOk at_ ∨
          s1.tbl.castle.isSome ∨ s1.tbl.guardCastle ∨ s1.inSequence then s1.badWrite
      else s1.setCastle (some { a := a, b := b, atPly := at_, mb := none, behind := false })))

/-- The journal's part in a castling: one castle delta, the end of a running checkpoint, and a new one (R658). -/
def State.jrnlCastle (s : State) (a b : Nat) : State :=
  if s.journaled a ∨ s.journaled b then
    let s1 := if s.journaled a then s.delta 8 a (leBytes 1 b) else s.delta 8 b (leBytes 1 a)
    s1.dropCheckpoint.jrnlCheckpoint
  else s

/-- CASTLING_COMMIT: on its target ply, or on the first later ply on which the port is free and no guard castling is
pending, the block sets of the two tables change places (R345 to R347). -/
def execCastlingCommit (s : State) : Out :=
  match s.tbl.castle with
  | none => ok s
  | some c =>
    if s.castleDue && s.portFree then
      let s1 := (((s.exchange c.a c.b).stamp c.a).stamp c.b).setCastle none
      let s2 := (((s1.wr TCAM_CASTLE_PLY_castle_ply s1.clk.ply).inc TCAM_CASTLE_COUNT_castlings).raise
        TCAM_EVENT_castle_done).usePly
      let s3 := s2.jrnlCastle c.a c.b
      ok (match c.mb with
        | some m => s3.okResp m s3.plyBytes
        | none => s3)
    else ok s

/-! ### The TCAM update port (R363) -/

/-- A write of TCAM_UPD_CMD with operation `op`: an accepted request is queued, a refused one records its outcome; the one of
a request while busy is a free value, for no code is given (log entry 125). -/
def State.tcamUpd (s : State) (w : RegWord) (op : Nat) (mk : State → Nat → Nat → UpdOp) : State :=
  if fieldOf w TCAM_UPD_CMD_op ≠ op then s
  else s.regOp 0x91B0 w (fun s =>
    let slot := fieldOf w TCAM_UPD_CMD_slot
    if fieldOf w TCAM_UPD_CMD_go = 0 then s
    else if s.rd TCAM_UPD_STATUS_busy = 1 then
      ((s.wr TCAM_UPD_STATUS_outcome (Config.updBusyOutcome s.free).toNat).nextFree).raise TCAM_EVENT_upd_refused
    else match (s.slotRefusal slot).orElse (fun _ => if s.castling (s.slotOwner slot) then some 5 else none) with
      | some code => (s.wr TCAM_UPD_STATUS_outcome code).raise TCAM_EVENT_upd_refused
      | none =>
        (s.wr TCAM_UPD_STATUS_busy 1).queueUpd (.port 9) (mk s (s.slotOwner slot) slot))

/-- The result word of the TCAM update registers. -/
def State.tcamUpdRes (s : State) : Nat := s.rd TCAM_UPD_RES_LO_res_lo + 2 ^ 32 * s.rd TCAM_UPD_RES_HI_res_hi

/-- TCAM_UPD_ENTRY_WRITE. -/
def execTcamUpdEntryWrite (w : RegWord) (s : State) : Out :=
  ok (s.tcamUpd w 1 (fun s t f =>
    .tcamWrite t (some f) (s.rd TCAM_UPD_PRIO_prio) s.tcamUpdRes (s.regBytes TCAM_UPD_VAL_val 20)
      (s.regBytes TCAM_UPD_MASK_mask 20) false false))

/-- TCAM_UPD_ENTRY_DELETE. -/
def execTcamUpdEntryDelete (w : RegWord) (s : State) : Out := ok (s.tcamUpd w 2 (fun _ t f => .tcamDelete t f))

/-- TCAM_UPD_RESULT_WRITE. -/
def execTcamUpdResultWrite (w : RegWord) (s : State) : Out :=
  ok (s.tcamUpd w 3 (fun s t f => .tcamResult t f s.tcamUpdRes false))

/-! ### Blocks (R364) -/

/-- The offset of TCAM_BLK_CTRL_b. -/
def blkOff (b : Nat) : Nat := 0x9400 + 4 * b

/-- What a write of the register of a block from 0 to 247 says of an OWNED block (R356, R357, R364): with owned 0 its table shrinks by
it, when it holds no valid array slot; a change of owner is refused. -/
def State.ownedWrite (s : State) (b : Nat) (w : RegWord) : State :=
  let t := fieldOf w TCAM_BLK_CTRL_owner
  if s.rdi TCAM_BLK_CTRL_owner b ≠ t then s.badWrite
  else if fieldOf w TCAM_BLK_CTRL_owned = 1 then s
  else if !(s.blkValid b).isEmpty then s.badWrite
  else s.queueUpd .reg (.shrink t [b])

/-- The owner field of a write names a table of another engine (R364). -/
def State.foreignOwner (s : State) (w : RegWord) : Bool :=
  let t := fieldOf w TCAM_BLK_CTRL_owner
  s.tblDefined t && !s.tblIs t engTcam

/-- The owner field stored, of a block that no table owns. -/
def State.putOwner (s : State) (b : Nat) (w : RegWord) : State :=
  if s.rdi TCAM_BLK_CTRL_owned b = 0 then s.wri TCAM_BLK_CTRL_owner b (fieldOf w TCAM_BLK_CTRL_owner) else s

/-- A gate request for a block that no table owns: a FREE block is gated, a GATED one stays so, a CHANGING one is refused (R357). -/
def State.gateWrite (s : State) (b : Nat) (w : RegWord) : State :=
  if s.blk b = blkGated then s.putOwner b w
  else if s.blk b = blkFree ∧ ¬ s.reserved.contains b then (s.gate b).putOwner b w
  else s.badWrite

/-- owned written 1 for a block that no table owns: the table that owner names grows by it. -/
def State.growWrite (s : State) (b : Nat) (w : RegWord) : State :=
  let t := fieldOf w TCAM_BLK_CTRL_owner
  if s.inSequence ∨ t = 63 ∨ ¬ s.tblIs t engTcam ∨ s.tblOrphaned t ∨ (s.blocksAnswer [b]).isSome then s.badWrite
  else ((s.wri TCAM_BLK_CTRL_owner b t).ungateAll [b]).queueUpd .reg (.grow t [b])

/-- A word written to TCAM_BLK_CTRL_b, judged as a whole (R364): a guard block, an owner of another engine, and a gate request for an
OWNED block (R329) are refused. DEDUCED (log entry 31): a word performs one action, and one with gate_req beside ungate_req or
owned performs none. -/
def State.blkWord (s : State) (b : Nat) (w : RegWord) : State :=
  let gate := fieldOf w TCAM_BLK_CTRL_gate_req = 1
  let ungate := fieldOf w TCAM_BLK_CTRL_ungate_req = 1
  let owned := fieldOf w TCAM_BLK_CTRL_owned = 1
  if 248 ≤ b ∨ s.foreignOwner w then s.badWrite
  else if gate ∧ (ungate ∨ owned ∨ s.blk b = blkOwned) then s.badWrite
  else if gate then s.gateWrite b w
  else if s.blk b = blkOwned then s.ownedWrite b w
  else if owned then s.growWrite b w
  else if ungate then (s.ungateAll [b]).putOwner b w
  else s.putOwner b w

/-- A write of TCAM_BLK_CTRL_b. -/
def State.writeBlk (s : State) (b : Nat) (w : RegWord) : State := s.regOp (blkOff b) w (fun s => s.blkWord b w)

/-- BLK_OWNED_SET: a word with owned 1; it grows the table named by owner by this block. -/
def execBlkOwnedSet (b : Fin 256) (w : RegWord) (s : State) : Out :=
  if fieldOf w TCAM_BLK_CTRL_owned = 0 then ok s else ok (s.writeBlk b.val w)

/-- BLK_OWNED_CLEAR: a word with owned 0; it shrinks the owning table by this block. -/
def execBlkOwnedClear (b : Fin 256) (w : RegWord) (s : State) : Out :=
  if fieldOf w TCAM_BLK_CTRL_owned = 1 then ok s else ok (s.writeBlk b.val w)

/-- GATE_REQ: a word with gate_req 1; a FREE block is gated. -/
def execGateReq (b : Fin 256) (w : RegWord) (s : State) : Out :=
  if fieldOf w TCAM_BLK_CTRL_gate_req = 0 then ok s else ok (s.writeBlk b.val w)

/-- UNGATE_REQ: a word with ungate_req 1; a GATED block is ungated (R330). -/
def execUngateReq (b : Fin 256) (w : RegWord) (s : State) : Out :=
  if fieldOf w TCAM_BLK_CTRL_ungate_req = 0 then ok s else ok (s.writeBlk b.val w)

/-! ### The TCAM registry (R365) -/

/-- bad_write for a binding that the tables do not list, in a write that leaves the binding as it is (R14). -/
def State.noteBind (s : State) (bind : Nat) : State := if bind = 2 then s.badWrite else s

/-- TCAM_TBL_CREATE_WRITE: a TCAM table without blocks. -/
def execTcamTblCreateWrite (t : Fin 64) (w : RegWord) (s : State) : Out :=
  ok (s.regOp (tcamTblOff t.val) w (fun s =>
    let bind := fieldOf w TCAM_TBL_CFG_slot_bind
    if fieldOf w TCAM_TBL_CFG_defined = 0 then s
    else if t.val = 63 then s.badWrite
    else if s.tblDefined t.val then (if s.tblIs t.val engTcam then s else s.badWrite)
    else if bind = 2 ∨ s.sweeping t.val then s.badWrite
    else s.queueUpd .reg
      (.tcamCreate t.val (fieldOf w TCAM_TBL_CFG_hidden) bind (fieldOf w TCAM_TBL_CFG_width_code) [])))

/-- TCAM_TBL_DELETE_WRITE: a TCAM table that owns no blocks is deleted. -/
def execTcamTblDeleteWrite (t : Fin 64) (w : RegWord) (s : State) : Out :=
  ok (s.regOp (tcamTblOff t.val) w (fun s =>
    let s := s.noteBind (fieldOf w TCAM_TBL_CFG_slot_bind)
    if fieldOf w TCAM_TBL_CFG_defined = 1 then s
    else if t.val = 63 then s.badWrite
    else if !s.tblDefined t.val then s.cfgWritten [tcamTblOff t.val]
    else if !s.tblIs t.val engTcam || !(s.tblBlocks t.val).isEmpty || s.castling t.val then s.badWrite
    else s.queueUpd .reg (.delTable t.val)))

/-- TCAM_TBL_HIDDEN_WRITE: hide or publish (R343). A write that changes nothing writes the word all the same (R601, R626). -/
def execTcamTblHiddenWrite (t : Fin 64) (w : RegWord) (s : State) : Out :=
  ok (s.regOp (tcamTblOff t.val) w (fun s =>
    let h := fieldOf w TCAM_TBL_CFG_hidden
    let s := s.noteBind (fieldOf w TCAM_TBL_CFG_slot_bind)
    if fieldOf w TCAM_TBL_CFG_defined = 0 then s
    else if t.val = 63 ∨ ¬ s.tblIs t.val engTcam then s.badWrite
    else if s.rdi TCAM_TBL_CFG_hidden t.val = h then s.cfgWritten [tcamTblOff t.val]
    else if s.castling t.val then s.badWrite
    else s.queueUpd .reg (.hide t.val h)))

/-! ### The HASH registers (R401) -/

/-- A write of HASH_UPD_CMD with operation `op`; type 0 is a reserved encoding (R14, R366). -/
def State.hashUpd (s : State) (w : RegWord) (op : Nat) (mk : State → Nat → Nat → List Byte → UpdOp) : State :=
  if fieldOf w HASH_UPD_CMD_op ≠ op then s
  else s.regOp 0xA118 w (fun s =>
    if fieldOf w HASH_UPD_CMD_go = 0 then s
    else if s.rd HASH_UPD_STATUS_busy = 1 ∨ fieldOf w HASH_UPD_CMD_type = 0 then s.badWrite
    else (s.wr HASH_UPD_STATUS_busy 1).queueUpd (.port 10)
      (mk s (fieldOf w HASH_UPD_CMD_table) (fieldOf w HASH_UPD_CMD_type) (s.regBytes HASH_UPD_KEY_key 4)))

/-- The result word of the HASH update registers. -/
def State.hashUpdRes (s : State) : Nat := s.rd HASH_UPD_RES_LO_lo + 2 ^ 32 * s.rd HASH_UPD_RES_HI_hi

/-- HASH_UPD_INSERT: insert or replace (R374). -/
def execHashUpdInsert (w : RegWord) (s : State) : Out :=
  ok (s.hashUpd w 1 (fun s t ty key =>
    .exactWrite t ty key s.hashUpdRes (fieldOf w HASH_UPD_CMD_learned == 1) false false))

/-- HASH_UPD_DELETE: delete by key. -/
def execHashUpdDelete (w : RegWord) (s : State) : Out := ok (s.hashUpd w 2 (fun _ t ty key => .exactDelete t ty key))

/-- HASH_UPD_RESULT: result write. -/
def execHashUpdResult (w : RegWord) (s : State) : Out :=
  ok (s.hashUpd w 3 (fun s t ty key => .exactResult t ty key s.hashUpdRes))

/-- The rule of R378 for a table's learning and binding. -/
def learnOk (learn bind : Nat) : Bool := learn % 2 == 0 || bind ≤ 1

/-- HASH_TBL_CREATE_WRITE: an exact-match table with the quota of HASH_TBL_QUOTA. -/
def execHashTblCreateWrite (t : Fin 63) (w : RegWord) (s : State) : Out :=
  ok (s.regOp (hashTblOff t.val) w (fun s =>
    let bind := fieldOf w HASH_TBL_CFG_slot_bind
    let learn := fieldOf w HASH_TBL_CFG_learn
    let types := fieldOf w HASH_TBL_CFG_types
    if fieldOf w HASH_TBL_CFG_defined = 0 then s
    else if s.tblDefined t.val ∨ s.sweeping t.val ∨ bind = 2 ∨ types = 0 ∨ ¬ learnOk learn bind then s.badWrite
    else s.queueUpd .reg
      (.exactCreate t.val (fieldOf w HASH_TBL_CFG_hidden) bind types learn (s.rdi HASH_TBL_QUOTA_quota t.val))))

/-- HASH_TBL_DELETE_WRITE: acts as TABLE.DELETE. -/
def execHashTblDeleteWrite (t : Fin 63) (w : RegWord) (s : State) : Out :=
  ok (s.regOp (hashTblOff t.val) w (fun s =>
    let s := s.noteBind (fieldOf w HASH_TBL_CFG_slot_bind)
    if fieldOf w HASH_TBL_CFG_defined = 1 then s
    else if !s.tblIs t.val engExact then s.cfgWritten [hashTblOff t.val]
    else s.queueUpd .reg (.delTable t.val)))

/-- HASH_TBL_HIDDEN_WRITE: hide or publish on one ply; the learn field of the same write is stored (R378). -/
def execHashTblHiddenWrite (t : Fin 63) (w : RegWord) (s : State) : Out :=
  ok (s.regOp (hashTblOff t.val) w (fun s =>
    let learn := fieldOf w HASH_TBL_CFG_learn
    let s := s.noteBind (fieldOf w HASH_TBL_CFG_slot_bind)
    if fieldOf w HASH_TBL_CFG_defined = 0 ∨ ¬ s.tblIs t.val engExact then s
    else if !learnOk learn (s.tblBind t.val) then s.badWrite
    else
      let s1 := (s.wri HASH_TBL_CFG_learn t.val learn).cfgWritten [hashTblOff t.val]
      if s.rdi HASH_TBL_CFG_hidden t.val = fieldOf w HASH_TBL_CFG_hidden then s1
      else s1.queueUpd .reg (.hide t.val (fieldOf w HASH_TBL_CFG_hidden))))

/-! ### The DIX registers -/

/-- DIX_UPD_WRITE: one word as a host update (R385). -/
def execDixUpdWrite (w : RegWord) (s : State) : Out :=
  ok (s.regOp 0xB028 w (fun s =>
    if fieldOf w DIX_UPD_CMD_go = 0 then s
    else if s.rd DIX_UPD_STATUS_busy = 1 then s.badWrite
    else (s.wr DIX_UPD_STATUS_busy 1).queueUpd (.port 11)
      (.dixWrite (fieldOf w DIX_UPD_CMD_handle) (s.rd DIX_UPD_LO_word_lo + 2 ^ 32 * s.rd DIX_UPD_HI_word_hi))))

/-- DIX_LIMIT_WRITE: dix_limit, 0 to 65,536 (R384). -/
def execDixLimitWrite (w : RegWord) (s : State) : Out :=
  ok (s.regOp 0xB000 w (fun s =>
    if 65536 < fieldOf w DIX_CFG_dix_limit then s.badWrite
    else s.queueUpd .reg (.dixLimit (fieldOf w DIX_CFG_dix_limit))))

/-! ### The LPM registers (R428) -/

/-- A write of LPM_UPD_CMD with operation `op`. -/
def State.lpmUpd (s : State) (w : RegWord) (op : Nat) (mk : State → Nat → Nat → Nat → UpdOp) : State :=
  if fieldOf w LPM_UPD_CMD_op ≠ op then s
  else s.regOp 0xC20C w (fun s =>
    let len := fieldOf w LPM_UPD_CMD_length
    let pfx := s.rd LPM_UPD_PFX_LO_lo + 2 ^ 32 * s.rd LPM_UPD_PFX_HI_hi
    if 64 < len then s.badWrite
    else if fieldOf w LPM_UPD_CMD_go = 0 then s
    else if s.rd LPM_UPD_STATUS_busy = 1 then s.badWrite
    else if !prefixOk pfx len then (s.wr LPM_UPD_STATUS_outcome 5).raise LPM_EVENT_upd_refused
    else (s.wr LPM_UPD_STATUS_busy 1).queueUpd (.port 12) (mk s (fieldOf w LPM_UPD_CMD_table) pfx len))

/-- LPM_UPD_INSERT. -/
def execLpmUpdInsert (w : RegWord) (s : State) : Out :=
  ok (s.lpmUpd w 1 (fun s t pfx len => .lpmInsert t pfx len (s.rd LPM_UPD_RES_res) false false))

/-- LPM_UPD_DELETE. -/
def execLpmUpdDelete (w : RegWord) (s : State) : Out := ok (s.lpmUpd w 2 (fun _ t pfx len => .lpmDelete t pfx len))

/-- LPM_UPD_RESULT_CHANGE. -/
def execLpmUpdResultChange (w : RegWord) (s : State) : Out :=
  ok (s.lpmUpd w 3 (fun s t pfx len => .lpmResult t pfx len (s.rd LPM_UPD_RES_res)))

/-- The offset of LPM_ROOT_CFG_r. -/
def lpmRootOff (r : Nat) : Nat := 0xC100 + 0x10 * r

/-- LPM_ROOT_CREATE_WRITE: an LPM table on this root. -/
def execLpmRootCreateWrite (r : Fin 4) (w : RegWord) (s : State) : Out :=
  ok (s.regOp (lpmRootOff r.val) w (fun s =>
    let t := fieldOf w LPM_ROOT_CFG_table
    let bind := fieldOf w LPM_ROOT_CFG_slot_bind
    if fieldOf w LPM_ROOT_CFG_defined = 0 then s
    else if s.rdi LPM_ROOT_CFG_defined r.val = 1 ∨ s.rdi LPM_ROOT_CFG_sweep r.val = 1 ∨ s.tblDefined t ∨ s.sweeping t ∨
        bind = 2 then s.badWrite
    else
      let s1 := s.queueUpd .reg
        (.lpmCreate t (fieldOf w LPM_ROOT_CFG_hidden) bind (s.rdi LPM_ROOT_QUOTA_quota r.val) (some r.val))
      if fieldOf w LPM_ROOT_CFG_dflt_valid = 1 then
        s1.queueUpd .reg (.lpmDefault t (some 1) (some (s.rdi LPM_ROOT_DFLT_dflt_result r.val)))
      else s1))

/-- The table and binding that a write outside the creating one must leave as they are. -/
def State.rootKept (s : State) (r : Nat) (w : RegWord) : Bool :=
  s.rdi LPM_ROOT_CFG_table r == fieldOf w LPM_ROOT_CFG_table &&
    s.rdi LPM_ROOT_CFG_slot_bind r == fieldOf w LPM_ROOT_CFG_slot_bind

/-- LPM_ROOT_DELETE_WRITE: acts as TABLE.DELETE. A write that changes the table or the binding is refused (R428), and so is
the reserved binding (R14). -/
def execLpmRootDeleteWrite (r : Fin 4) (w : RegWord) (s : State) : Out :=
  ok (s.regOp (lpmRootOff r.val) w (fun s =>
    if fieldOf w LPM_ROOT_CFG_defined = 1 then s
    else if fieldOf w LPM_ROOT_CFG_slot_bind = 2 ∨ ¬ s.rootKept r.val w then s.badWrite
    else if s.rdi LPM_ROOT_CFG_defined r.val = 0 then s
    else s.queueUpd .reg (.delTable (s.rdi LPM_ROOT_CFG_table r.val))))

/-- LPM_ROOT_HIDDEN_WRITE: hide or publish on one ply. -/
def execLpmRootHiddenWrite (r : Fin 4) (w : RegWord) (s : State) : Out :=
  ok (s.regOp (lpmRootOff r.val) w (fun s =>
    let h := fieldOf w LPM_ROOT_CFG_hidden
    if fieldOf w LPM_ROOT_CFG_defined = 0 ∨ s.rdi LPM_ROOT_CFG_defined r.val = 0 then s
    else if !s.rootKept r.val w then s.badWrite
    else if s.rdi LPM_ROOT_CFG_hidden r.val = h then s
    else s.queueUpd .reg (.hide (s.rdi LPM_ROOT_CFG_table r.val) h)))

/-- LPM_DEFAULT_ROUTE_WRITE: dflt_valid, or the result of the default route (R422). A root without a table only stores
the result. -/
def execLpmDefaultRouteWrite (r : Fin 4) (result : Bool) (w : RegWord) (s : State) : Out :=
  if result then
    ok (s.regOp (lpmRootOff r.val + 4) w (fun s =>
      if s.rdi LPM_ROOT_CFG_defined r.val = 1 then
        s.queueUpd .reg (.lpmDefault (s.rdi LPM_ROOT_CFG_table r.val) none (some w.toNat))
      else s.wri LPM_ROOT_DFLT_dflt_result r.val w.toNat))
  else
    ok (s.regOp (lpmRootOff r.val) w (fun s =>
      if fieldOf w LPM_ROOT_CFG_defined = 0 ∨ s.rdi LPM_ROOT_CFG_defined r.val = 0 then s
      else if !s.rootKept r.val w then s.badWrite
      else s.queueUpd .reg
        (.lpmDefault (s.rdi LPM_ROOT_CFG_table r.val) (some (fieldOf w LPM_ROOT_CFG_dflt_valid)) none)))

/-! ### Blocks and sweeps -/

/-- The commands whose blocks are FREE, or whose sweep has finished, complete (R355, R357, R377). -/
def State.settleReleases (s : State) : State :=
  let ready (r : Release) : Bool :=
    r.blocks.all (fun b => !s.tbl.invalidating.contains b && !s.tbl.ungating.contains b && !s.tbl.ungateWait.contains b) && (match r.sweep with | some t => !s.sweeping t | none => true)
  let done := s.tbl.releases.filter ready
  done.foldl (fun s r => s.okResp r.mb r.resp)
    { s with tbl := { s.tbl with releases := s.tbl.releases.filter (fun r => !ready r) } }

/-- BLOCK_UNGATE_DONE: the array slots and the result words of a block that was being ungated are filled, it is FREE, and the
next one that waits is ungated (R330). -/
def execBlockUngateDone (b : Fin 256) (s : State) : Out :=
  if s.tbl.ungating.contains b.val && !s.clk.gated then
    let rest := s.tbl.ungating.filter (· != b.val)
    let s1 := (s.clearBlk b.val).setBlk b.val blkFree
    ok ({ s1 with tbl := { s1.tbl with ungating := rest ++ s1.tbl.ungateWait.take (8 - rest.length)
                                       ungateWait := s1.tbl.ungateWait.drop (8 - rest.length) } } : State).settleReleases
  else ok s

/-- BLOCK_INVALIDATE_DONE: every array slot of a released block is invalid and the block is FREE (R331). -/
def execBlockInvalidateDone (b : Fin 256) (s : State) : Out :=
  if s.tbl.invalidating.contains b.val && !s.clk.gated then
    let s1 := (s.invalidateBlks [b.val]).setBlk b.val blkFree
    ok ({ s1 with tbl := { s1.tbl with invalidating := s1.tbl.invalidating.filter (· != b.val) } } : State).settleReleases
  else ok s

/-- SWEEP_DONE: the sweep of table number `t` ends once it has freed every stale entry, or clears its root and releases its
nodes and records (R377, R423). -/
def execSweepDone (t : Fin 64) (s : State) : Out :=
  if s.clk.gated then ok s else
  let s1 :=
    if t.val < 63 ∧ s.rdi HASH_TBL_CFG_sweep t.val = 1 ∧ (s.stale t.val).isEmpty then
      ((s.wri HASH_TBL_CFG_sweep t.val 0).cfgWritten [hashTblOff t.val]).raise HASH_EVENT_sweep_done
    else s
  let s2 :=
    match (List.range 4).find? (fun r => s1.rdi LPM_ROOT_CFG_table r == t.val && s1.rdi LPM_ROOT_CFG_sweep r == 1) with
    | none => s1
    | some r => ((s1.sweepLpm t.val r).wri LPM_ROOT_CFG_sweep r 0).raise LPM_EVENT_sweep_done
  ok s2.settleReleases

/-- OVERLAY_DISARM: the background rewrite has ended and the overlay is disarmed (R418). -/
def execOverlayDisarm (s : State) : Out := if s.rd LPM_OVL_CTRL_armed = 1 ∧ !s.clk.gated then ok s.finishRewrite else ok s

/-- LPM_REBUILD_DONE: the node and record maps are rebuilt from the stage memories (R427). -/
def execLpmRebuildDone (s : State) : Out :=
  if s.rd LPM_STATUS_rebuild = 1 ∧ !s.clk.gated then ok (s.wr LPM_STATUS_rebuild 0) else ok s

end Sys2Proof.Machine
end

