-- ==== Sys2Proof/Machine/Search.lean ====
section
/-! DEFINITION. Searches: descriptors, profiles and key cutting, the lookups and their merge, the guard code, answers and
result records (chapter *Searches, plies and profiles*; R449 to R460 for searches of scope GROUP). -/

namespace Sys2Proof.Machine
open Reg

/-! ### Descriptors (R273 to R275) -/

/-- A search descriptor as its carrier gives it. -/
structure Desc where
  profile : Nat
  fetchClass : Nat
  keyLen : Nat
  header : Nat
  material : Nat
  userTag : Nat
  bad : Bool
  deriving DecidableEq, Repr

/-- A descriptor from its bytes; `room` is the key material in bits that the carrier holds (R274, R275). -/
def parseDesc (b : List Byte) (room : Nat) : Desc :=
  let len := recNat b 2 2
  { profile := recNat b 0 1 % 32, fetchClass := recNat b 1 1, keyLen := len, header := leNat (b.take 16)
    material := leNat (padTo 80 (b.drop 16)) % 2 ^ (min len 640), userTag := recNat b 8 8
    bad := decide (min 640 room < len) }

/-- The descriptor as the members of a GROUP search see it (R451). -/
def groupDesc (d : Desc) : Desc :=
  { d with header := d.profile + d.fetchClass * 256, material := d.material % 2 ^ 112 }

/-! ### Profiles (R276 to R280) -/

/-- The 96 bytes of profile `p`. -/
def State.profBytes (s : State) (p : Nat) : List Byte :=
  (List.range 24).flatMap (fun i => leBytes 4 (s.rdi SRCH_PROF_definition (24 * p + i)))

/-- Profile `p` is defined. -/
def State.profDefined (s : State) (p : Nat) : Bool := s.bit SRCH_PROF_VALID_valid 0 p

/-- One lookup of a profile. -/
structure Look where
  engine : Nat
  table : Nat
  seg : Nat
  count : Nat
  mask : Nat
  deriving DecidableEq, Repr

/-- The lookup at position `p` of a definition. -/
def lookAt (d : List Byte) (p : Nat) : Look :=
  { engine := recNat d (16 + 4 * p) 1, table := recNat d (17 + 4 * p) 1, seg := recNat d (18 + 4 * p) 1
    count := recNat d (19 + 4 * p) 1 % 32, mask := recNat d (19 + 4 * p) 1 / 32 }

/-- Segment word `j` of a definition. -/
def segWord (d : List Byte) (j : Nat) : Nat := recNat d (32 + 4 * j) 4

/-- The key width of an engine (R280). -/
def keyWidth (engine : Nat) : Nat := match engine with | 1 => 640 | 2 => 128 | 3 => 16 | 4 => 64 | _ => 0

/-- The bits of a segment's source (R278). -/
def srcLimit (sel : Nat) : Nat := match sel with | 0 => 640 | 1 => 128 | 2 => 64 | _ => 0

/-- Whether a lookup uses segment word `j`. -/
def usesSeg (l : Look) (j : Nat) : Bool :=
  l.engine != 0 && l.engine != 5 && l.seg ≤ j && j < l.seg + l.count

/-- The checks of R278, in the order of its table, each with the byte offset of the failing field. -/
def profileChecks (d : List Byte) : List (Option Nat) :=
  let looks := (List.range 4).map (fun p => (p, lookAt d p))
  let b (i : Nat) : Nat := recNat d i 1
  let guards := looks.filter (fun x => x.2.engine == 5)
  [need (b 0 < 32) 0, need (b 1 < 2) 1] ++ (List.range 5).map (fun i => need (b (3 + i) == 0) (3 + i)) ++
  [need (b 16 != 0) 16] ++
  looks.map (fun x => need (x.2.engine ≤ 5 &&
    (x.2.engine == 0 || (List.range x.1).all (fun q => (lookAt d q).engine != 0))) (16 + 4 * x.1)) ++
  [match guards with | _ :: y :: _ => some (16 + 4 * y.1) | _ => none] ++
  (match guards with
   | [] => [need (b 2 ≤ 1 || b 2 == 0xFF) 2]
   | g :: _ => [need (b 2 ≤ 1) 2, need (g.2.table == 63) (17 + 4 * g.1), need (g.2.count == 0) (19 + 4 * g.1)]) ++
  [need (looks.any (fun x => x.2.engine != 0 && x.2.engine != 5)) 16] ++
  looks.map (fun x =>
    if x.2.engine = 1 ∨ x.2.engine = 2 ∨ x.2.engine = 4 then need (x.2.table ≤ 62) (17 + 4 * x.1)
    else if x.2.engine = 3 then need (x.2.table == 0) (17 + 4 * x.1) else none) ++
  looks.flatMap (fun x =>
    if x.2.engine = 0 then []
    else [need (x.2.seg ≤ 15) (18 + 4 * x.1),
          need (x.2.count ≤ 16 && x.2.seg + x.2.count ≤ 16 && (x.2.engine == 5 || 1 ≤ x.2.count)) (19 + 4 * x.1)]) ++
  looks.map (fun x =>
    if x.2.engine = 2 then need (x.2.mask != 0) (19 + 4 * x.1)
    else if x.2.engine = 0 then none else need (x.2.mask == 0) (19 + 4 * x.1)) ++
  (List.range 16).map (fun j =>
    let users := looks.filter (fun x => usesSeg x.2 j)
    let w := segWord d j
    let len := bitsOf w 20 10
    need (users.isEmpty || (1 ≤ len && w / 2 ^ 30 != 3 && w % 1024 + len ≤ srcLimit (w / 2 ^ 30) &&
      users.all (fun x => bitsOf w 10 10 + len ≤ keyWidth x.2.engine))) (32 + 4 * j)) ++
  (List.range 16).map (fun j =>
    need (looks.any (fun x => usesSeg x.2 j) || segWord d j == 0) (32 + 4 * j))

/-- The byte offset of the first field of a definition that fails R278; none when it is valid. -/
def profileBad (d : List Byte) : Option Nat := firstFail (profileChecks d)

/-- A key with one segment copied into it (R279). -/
def putSegment (dsc : Desc) (constant w key : Nat) : Nat :=
  let src := match w / 2 ^ 30 with | 0 => dsc.material | 1 => dsc.header | 2 => constant | _ => 0
  let len := bitsOf w 20 10
  let dst := bitsOf w 10 10
  key - bitsOf key dst len * 2 ^ dst + bitsOf src (w % 1024) len * 2 ^ dst

/-- The key of a lookup, cut from a descriptor by a definition (R279). -/
def cutKey (d : List Byte) (dsc : Desc) (l : Look) : Nat :=
  (List.range l.count).foldl (fun key j => putSegment dsc (recNat d 8 8) (segWord d (l.seg + j)) key) 0 %
    2 ^ keyWidth l.engine

/-! ### The guard lookup (R281, R287, R567 to R569) -/

/-- The guard key of a search through cartridge slot `p`, its unlisted bits 0 (R567). -/
def State.guardKey (s : State) (p fetchClass : Nat) : List Byte :=
  leBytes 4 (s.rdi SEC_CTX_TITLE_title_id p) ++ leBytes 1 (s.rdi SEC_CTX_region p) ++
    leBytes 1 (s.rd SEC_STATUS_console_class) ++ leBytes 1 (s.rd SEC_STATUS_module_gen) ++
    leBytes 2 (s.rdi TAG_SERIAL_LO_serial_lo p) ++ leBytes 1 (s.rdi SEC_CTX_tag_state p) ++ leBytes 1 fetchClass ++
    leBytes 1 p ++ List.replicate 68 0

/-- The guard lookup of a search; a slot without a guard context yields MISS (R568). -/
def State.guardLookup (s : State) (p fetchClass : Nat) : LookupOut :=
  if s.rdi SEC_CTX_ctx_valid p = 1 then { s.tcamLookup 63 (s.guardKey p fetchClass) with engine := 5 }
  else LookupOut.miss 5 63

/-- Guard codes. -/
def gNone : Nat := 0
def gAllow : Nat := 1
def gDegraded : Nat := 2
def gReauth : Nat := 3
def gDeny : Nat := 4
def gNotReady : Nat := 5
def gNoRule : Nat := 6

/-- The guard code of a guard lookup's answer (R287, R569). -/
def guardCode (ready : Bool) (o : LookupOut) : Nat :=
  if !ready then gNotReady
  else if o.outcome = outPoison ∨ o.pe then gDeny
  else if o.outcome ≠ outHit then gNoRule
  else match o.result % 4 with | 0 => gDeny | 1 => gAllow | 2 => gDegraded | _ => gReauth

/-- A guard code with which a search returns DENIED (R289). -/
def denies (g : Nat) : Bool := g == gDeny || g == gNoRule || g == gNotReady

/-- A guard code with which the result word, the indexes and the win priority are 0 (R289). -/
def blanks (g : Nat) : Bool := denies g || g == gReauth

/-! ### The lookups of a search -/

/-- One lookup of a definition (R280, R283). -/
def State.lookup (s : State) (d : List Byte) (dsc : Desc) (l : Look) : LookupOut :=
  let key := cutKey d dsc l
  match l.engine with
  | 1 => s.tcamLookup l.table (leBytes 80 key)
  | 2 => s.exactLookup l.table l.mask (leBytes 16 key)
  | 3 => s.dixLookup key
  | 4 => s.lpmLookup l.table key
  | 5 => s.guardLookup (recNat d 2 1) dsc.fetchClass
  | _ => LookupOut.notIssued

/-- A search admitted on the present ply: bad (R292), or its lookups run against the tables as they stand. `mask` is the
profile mask of its source. DESIGN CHOICE (log entry 195): of several reasons, a bad descriptor comes before an undefined profile, and
that before the mask. -/
def State.makeSearch (s : State) (src : SearchSrc) (dsc : Desc) (mask : Nat) : InFlight :=
  let p := dsc.profile
  let bad : Option Nat := if dsc.bad then some 2
    else if !s.profDefined p && src != .chain then some 0
    else if !bitOf mask p then some 1 else none
  let poisoned := bad.isNone && s.profFails p
  let d := s.profBytes p
  let k := if src != .chain && recNat d 1 1 % 2 = 0 then 1 else s.groupK
  let run := bad.isNone && !poisoned && s.profDefined p
  let dsc' := if src = .chain ∨ recNat d 1 1 % 2 = 1 then groupDesc dsc else dsc
  let looks := (List.range 4).map (lookAt d)
  let outs := if run then looks.map (s.lookup d dsc') else List.replicate 4 LookupOut.notIssued
  let guard := match outs.find? (fun o => o.engine == 5) with
    | some o => guardCode (s.rd SEC_STATUS_guard_ready == 1) o
    | none => gNone
  { tag := s.clk.ply, due := s.clk.ply + 32 + 8 * ((if bad.isSome then 1 else k) - 1), src := src, profile := p
    userTag := dsc.userTag, bad := bad, poisoned := poisoned, outs := outs
    keys := looks.map (fun l => leBytes 16 (cutKey d dsc' l)), masks := looks.map (·.mask), guard := guard
    slot := recNat d 2 1, k := if bad.isSome then 1 else k, arrived := false, down := none }

/-- The poisoned words of the profile that a search names, reported when it is admitted (R601, R602). -/
def State.noteProfile (s : State) (f : InFlight) : State :=
  if f.poisoned then s.cfgReport 1 (0x8400 + 0x60 * f.profile) (0x8460 + 0x60 * f.profile) else s

/-- The lookups issued, counted in their engines and tables. -/
def State.countIssued (s : State) (o : LookupOut) : State :=
  let tbl (s : State) : State :=
    s.setInfo o.table { s.tblInfo o.table with lookups := countUp 64 (s.tblInfo o.table).lookups }
  if o.outcome = outNone then s
  else match o.engine with
    | 1 => tbl (s.inc TCAM_LOOKUPS_lookups)
    | 5 => tbl (s.inc TCAM_LOOKUPS_lookups)
    | 2 => tbl (s.inc HASH_LOOKUPS_lookups)
    | 3 => s.inc DIX_LOOKUPS_lookups
    | 4 => tbl (s.inc LPM_LOOKUPS_lookups)
    | _ => s

/-! ### What the engines record when a search's answers reach SIC_CAP -/

/-- The hit and parity counts that every table shares. -/
def State.countTable (s : State) (o : LookupOut) : State :=
  let s1 := if o.outcome = outHit then s.addi TCAM_TBL_HITS_tbl_hits o.table 1 else s
  if o.pe then s1.setInfo o.table { s1.tblInfo o.table with peLookups := countUp 32 (s1.tblInfo o.table).peLookups } else s1

/-- An exact-match entry met under R379: recorded in HASH_PE_LOG when that is free, and reported unless it is on the list of
64. One that has been written since the lookup met it does not fail any more. -/
def State.noteWay (s : State) (t i : Nat) : State :=
  let log (s : State) : State :=
    if s.rd HASH_PE_LOG_pe_valid = 1 then s else (s.wr HASH_PE_LOG_pe_index i).wr HASH_PE_LOG_pe_valid 1
  if !s.placeBad (indexPlace i) then s
  else if s.integ.exactReported.contains i then log s
  else
    let s3 := log (((s.placeReport (indexPlace i) t).foldl State.report s).raise HASH_EVENT_parity_excl)
    if s3.integ.exactReported.length < 64 then
      { s3 with integ := { s3.integ with exactReported := s3.integ.exactReported ++ [i] } }
    else s3

/-- What one lookup leaves behind: its reports, counts and events, pe_seen and the hit map. -/
def State.applyLookup (s : State) (o : LookupOut) : State :=
  let rep (s : State) : State := o.reports.foldl State.report s
  match o.engine with
  | 1 | 5 =>
    let s1 := o.peSlots.foldl (fun s i =>
      if slotSeen (s.slot i) || !slotBad (s.slot i) then s
      else ((s.slotReport i o.table).foldl State.report s).noteSlot o.table i) s
    let s2 := (rep s1).countTable o
    let s3 := if o.outcome = outHit then s2.inc TCAM_HITS_hits else s2
    let s4 := if o.pe then s3.inc TCAM_PE_SEARCHES_pe_lookups else s3
    let s5 := if o.corrected then (s4.inc TCAM_RES_COUNT_res_corrected).raise TCAM_EVENT_result_corrected else s4
    if o.outcome = outPoison then (s5.inc TCAM_RES_COUNT_res_poison).raise TCAM_EVENT_result_poison else s5
  | 2 =>
    let s1 := o.peWays.foldl (fun s i => s.noteWay o.table i) s
    let s2 := (rep s1).countTable o
    let s3 := if o.outcome = outHit then
        (if bitOf o.index 23 then (s2.inc HASH_HITS_hits).inc HASH_OVF_HITS_ovf_hits else s2.inc HASH_HITS_hits) else s2
    let s4 := if o.pe then s3.inc HASH_PE_LOOKUPS_pe_lookups else s3
    let s5 := if o.corrected then (s4.inc HASH_RES_COUNT_res_corrected).raise HASH_EVENT_result_corrected else s4
    let s6 := if o.outcome = outPoison then (s5.inc HASH_RES_COUNT_res_poison).raise HASH_EVENT_result_poison else s5
    match o.hitBit with
    | some k => s6.setHit k true
    | none => s6
  | 3 =>
    let s1 := if o.outcome = outHit then (rep s).inc DIX_HITS_hits else rep s
    let s2 := if o.corrected then (s1.inc DIX_RES_COUNT_corrected).raise DIX_EVENT_corrected else s1
    if o.outcome = outPoison then (s2.inc DIX_RES_COUNT_poison).raise DIX_EVENT_poison else s2
  | 4 =>
    let s1 := (rep s).countTable o
    let s2 := if o.outcome = outHit then s1.inc LPM_HITS_hits else s1
    let s3 := if o.corrected then (s2.inc LPM_RES_COUNT_corrected).raise LPM_EVENT_corrected else s2
    if o.outcome = outPoison then (s3.inc LPM_RES_COUNT_poison).raise LPM_EVENT_poison else s3
  | _ => s

/-! ### Merge (R284 to R290, R456) -/

/-- The lookups other than GUARD, with their positions. -/
def InFlight.plain (f : InFlight) : List (Nat × LookupOut) :=
  ((List.range 4).zip f.outs).filter (fun x => x.2.engine != 5 && x.2.outcome != outNone)

/-- The deciding lookup: the first that is not MISS (R284). -/
def InFlight.decider (f : InFlight) : Option (Nat × LookupOut) := f.plain.find? (fun x => x.2.outcome != outMiss)

/-- The merged status of the search's own lookups (R284, R288, R292, R601). -/
def InFlight.ownStatus (f : InFlight) : Nat :=
  if f.bad.isSome then outMiss
  else if f.poisoned then outPoison
  else if f.outs.any (fun o => o.engine == 5 && o.outcome == outPoison) then outPoison
  else match f.decider with | some x => x.2.outcome | none => outMiss

/-- The code of a lookup outcome among an ANSWER's other positions (R438). -/
def otherCode (o : LookupOut) : Nat := if o.outcome ≤ 1 then o.outcome else if o.outcome = outOrphan then 2 else if o.outcome = outPoison then 3 else 0

/-- The member's own answer (R438, R453). -/
def InFlight.ownAnswer (f : InFlight) (member : Nat) : Answer :=
  let pos := match f.decider with | some x => x.1 | none => 0
  let o := (f.decider.map (·.2)).getD LookupOut.notIssued
  let st := f.ownStatus
  let open_ := !blanks f.guard
  { status := st, poison := st == outPoison
    result := BitVec.ofNat 64 (if st = outHit && open_ then o.result else 0)
    index := if st = outHit && open_ then o.index else 0
    prio := if st = outHit && open_ && o.engine == 1 then o.prio else 0
    winPos := pos, member := member, guard := f.guard
    winType := if st = outHit then o.wtype else 0
    parityExcluded := f.outs.any (·.pe), corrected := f.outs.any (·.corrected)
    others := (((List.range 4).zip f.outs).filter (fun x => x.1 != pos)).map (fun x => otherCode x.2) }

/-- An answer without lookups: VOID or LATE (R457, R458, R71). -/
def bareAnswer (st member : Nat) : Answer :=
  { status := st, poison := st == outLate, result := 0, index := 0, prio := 0, winPos := 0, member := member, guard := 0
    winType := 0, parityExcluded := false, corrected := false, others := [0, 0, 0] }

/-- The merge of the member's own answer and the one from downstream: the first rule that separates them (R456). `tcam`
says which positions of the profile are TCAM lookups. -/
def mergeAnswers (tcam : Nat → Bool) (own down : Answer) : Answer :=
  let pick :=
    if (own.status = outVoid) ≠ (down.status = outVoid) then own.status = outVoid
    else if (own.status = outLate) ≠ (down.status = outLate) then own.status = outLate
    else if (own.status = outMiss) ≠ (down.status = outMiss) then down.status = outMiss
    else if own.status ≠ outMiss ∧ own.winPos ≠ down.winPos then own.winPos < down.winPos
    else if own.status ≠ outMiss ∧ tcam own.winPos ∧ own.prio ≠ down.prio then own.prio < down.prio
    else true
  { (if pick then own else down) with
    parityExcluded := own.parityExcluded || down.parityExcluded, corrected := own.corrected || down.corrected }

/-- The answer of a search at its delivery edge at this member: its own lookups (LATE when they have not reached SIC_CAP),
merged with what came from downstream (VOID when no valid frame came). -/
def InFlight.answer (f : InFlight) (member : Nat) : Answer :=
  let own := if f.arrived then f.ownAnswer member else bareAnswer outLate member
  if f.k ≤ 1 then own
  else
    let down := match f.down with
      | some (some a) => a
      | _ => bareAnswer outVoid (member + 1)
    mergeAnswers (fun p => ((f.outs.getD p LookupOut.notIssued).engine == 1)) own down

/-- The status delivered at the admitting member (R459). -/
def InFlight.delivered (f : InFlight) (a : Answer) (member : Nat) (follower : Bool) : Nat :=
  let owner := f.plain.any (fun x => x.2.engine == 2 && x.2.outcome == outHit && x.2.wtype == 2)
  if a.status = outHit ∧ a.member ≠ member ∧ (follower ∨ ¬ owner) then outFlood else a.status

/-! ### Result records (R293 to R297) -/

/-- The info word of a record (R293). -/
def infoWord (count status : Nat) (pe corr poison : Bool) (guard winPos : Nat) (bad : Bool) (member profile tag : Nat) : Nat :=
  count % 65536 + status * 2 ^ 16 + b2n pe * 2 ^ 20 + b2n corr * 2 ^ 21 + b2n (guard == gDegraded) * 2 ^ 22 +
    b2n poison * 2 ^ 23 + guard * 2 ^ 24 + winPos * 2 ^ 27 + b2n bad * 2 ^ 29 + member * 2 ^ 30 + profile * 2 ^ 35 +
    tag % 2 ^ 24 * 2 ^ 40

/-- A per-lookup record (R296). -/
def lookRec (o : LookupOut) (open_ : Bool) : Nat :=
  o.outcome + 16 * b2n o.pe + 32 * b2n o.corrected + 256 * (if o.outcome = outHit && open_ then o.index else 0)

/-- A result as delivered. -/
structure SearchResult where
  status : Nat
  answer : Answer
  bad : Bool
  profile : Nat
  userTag : Nat
  tag : Nat
  recs : List Nat
  member : Nat
  deriving DecidableEq, Repr

/-- The result of a search at its delivery edge (R60, R71, R292, R459, R460). -/
def State.resultOf (s : State) (f : InFlight) : SearchResult :=
  let me := s.ownAddr
  let a := f.answer me
  let st := f.delivered a me s.isFollower
  let mine := a.member = me
  let recs : List Nat :=
    if st = outLate then [0, 0, 0, 0]
    else if mine then f.outs.map (fun o => lookRec o (!blanks f.guard))
    else
      ((List.range 4).zip f.outs).map (fun x =>
        if x.2.outcome = outNone then outNone
        else if x.1 = a.winPos then
          a.status + 16 * b2n a.parityExcluded + 32 * b2n a.corrected + 256 * a.index
        else
          match a.others.getD (if x.1 < a.winPos then x.1 else x.1 - 1) 0 with
          | 1 => outHit | 2 => outOrphan | 3 => outPoison | _ => outMiss)
  { status := st, answer := a, bad := f.bad.isSome, profile := f.profile, userTag := f.userTag, tag := f.tag, recs := recs
    member := if 2 ≤ f.k then a.member else 0 }

/-- The info word of a result with a count. A LATE result's record is 0 but for its count, its status and the poison flag
(R71). -/
def SearchResult.info (r : SearchResult) (count : Nat) : Nat :=
  if r.status = outLate then infoWord count outLate false false true 0 0 false 0 0 0
  else infoWord count r.status r.answer.parityExcluded r.answer.corrected (r.status == outPoison) r.answer.guard
    r.answer.winPos r.bad r.member r.profile r.userTag

/-- The result word (R290). -/
def SearchResult.word (r : SearchResult) : Nat :=
  if r.status = outHit ∨ r.status = outFlood then r.answer.result.toNat else 0

/-- A compact record (R295). -/
def SearchResult.compact (r : SearchResult) (count : Nat) : List Byte := leBytes 8 r.word ++ leBytes 8 (r.info count)

/-- A full record (R295). -/
def SearchResult.full (r : SearchResult) (count : Nat) : List Byte :=
  if r.status = outLate then List.replicate 56 0 ++ leBytes 8 (r.info count)
  else if r.bad then
    leBytes 8 0 ++ leBytes 8 r.userTag ++ List.replicate 40 0 ++ leBytes 8 (r.info count)
  else
    leBytes 8 r.word ++ leBytes 8 r.userTag ++ leBytes 8 r.tag ++ r.recs.flatMap (leBytes 4) ++ leBytes 2 r.answer.prio ++
      leBytes 1 r.answer.winType ++ List.replicate 13 0 ++ leBytes 8 (r.info count)

/-! ### What every delivery records -/

/-- The code of a source (CLK_LATE_INFO, SRCH_BAD_COUNT). -/
def srcCode : SearchSrc → Nat
  | .queue .. => 0 | .window .. => 1 | .stream _ => 2 | .chain => 0

/-- The counts and events of a delivered result. -/
def State.countResult (s : State) (f : InFlight) (r : SearchResult) : State :=
  let src := srcCode f.src
  let s1 :=
    if r.status = outHit ∨ r.status = outFlood then s.inc SRCH_HIT_COUNT_hits
    else if r.status = outMiss then s.inc SRCH_MISS_COUNT_misses else s
  let s2 := if r.status ≠ outLate && denies r.answer.guard then s1.inc SRCH_DENY_COUNT_denied else s1
  let s3 := match f.bad with
    | none => s2
    | some reason =>
      ((((s2.inc SRCH_BAD_COUNT_bad_count).wr SRCH_BAD_COUNT_last_bad_profile f.profile).wr SRCH_BAD_COUNT_last_bad_src
        src).wr SRCH_BAD_COUNT_last_bad_reason reason).raise SRCH_EVENT_bad_desc
  let s4 := if r.status ≠ outLate && r.answer.parityExcluded then s3.inc SRCH_FLAG_COUNT_pe_count else s3
  let s5 := if r.status ≠ outLate && r.answer.corrected then s4.inc SRCH_FLAG_COUNT_corr_count else s4
  let s6 := if r.status ≠ outLate && r.answer.guard == gNotReady then s5.raise SRCH_EVENT_guard_not_ready else s5
  let s7 := if r.status = outPoison then s6.raise SRCH_EVENT_poison_result else s6
  let s8 := if r.status = outOrphan then s7.raise SRCH_EVENT_orphan_result else s7
  let s9 := if r.status = outFlood then s8.inc CHN_FLOOD_floods else s8
  let s10 := if r.status = outVoid then (s9.inc CHN_VOID_COUNT_voids).raise CHN_EVENT_void_issued else s9
  if r.status = outLate then
    let t := (((s10.inc CLK_LATE_COUNT_late_count).wr CLK_LATE_PLY_late_ply f.tag).wr CLK_LATE_INFO_late_src src).wr
      CLK_LATE_INFO_late_profile f.profile
    let t1 : State := { t with clk := { t.clk with lateTotal := countUp 32 t.clk.lateTotal } }
    (t1.raise CLK_EVENT_late).report
      { sid := 0, kind := 4, detector := 0x0B, copies := 0, offset := src, synA := 0, synB := 0, detail := f.profile }
  else s10

/-- The head learns an OWNER entry from a FLOOD result (R392). -/
def State.learnOwner (s : State) (f : InFlight) (r : SearchResult) : State :=
  let pos := r.answer.winPos
  let o := f.outs.getD pos LookupOut.notIssued
  if s.isHead && r.status == outFlood && r.answer.winType == 1 && o.engine == 2 && bitOf (f.masks.getD pos 0) 1 &&
      bitOf (s.rdi HASH_TBL_CFG_learn o.table) 1 && s.rd HASH_LEARN_CTRL_owner_learn_en == 1 then
    s.queueInsert { table := o.table, type := 2, key := f.keys.getD pos [], result := r.answer.member + 256 * extSlot r.word, startPly := f.tag,
                    mbs := [], first := false }
  else s

end Sys2Proof.Machine
end

