-- ==== Sys2Proof/Machine/Queues.lean ====
section
/-! DEFINITION. Host search queues, the direct search window, the PROFILE commands and the SRCH register operations
(R217 to R228, R298 to R315). -/

namespace Sys2Proof.Machine
open Reg

/-! ### Queue pairs -/

/-- Queue pair `q` beside its registers. -/
def State.pair (s : State) (q : Nat) : QPair := s.srch.queues.getD q QPair.empty

/-- Queue pair `q` replaced, with its staged count. -/
def State.setPair (s : State) (q : Nat) (p : QPair) : State :=
  ({ s with srch := { s.srch with queues := listSet s.srch.queues q p } } : State).wri SRCH_Q_STATUS_staged q
    p.staged.length

/-- Pair `q` is open, and it is stopped (R304). -/
def State.qOpen (s : State) (q : Nat) : Bool := s.rdi SRCH_Q_CFG_q_en q == 1
def State.qStopped (s : State) (q : Nat) : Bool := s.bit SRCH_STATUS_q_stopped 0 q

/-- The entries of the request and result rings. -/
def State.qReqN (s : State) (q : Nat) : Nat := 2 ^ s.rdi SRCH_Q_CFG_req_k q
def State.qResN (s : State) (q : Nat) : Nat := 2 ^ s.rdi SRCH_Q_CFG_res_k q

/-- The bytes of an entry of the request and result rings (R298). -/
def State.qReqSize (s : State) (q : Nat) : Nat := if s.rdi SRCH_Q_CFG_req_128 q = 1 then 128 else 64
def State.qResSize (s : State) (q : Nat) : Nat := if s.rdi SRCH_Q_CFG_res_full q = 1 then 64 else 16

/-- A 64-bit address from two registers of an instance. -/
def State.addr64 (s : State) (lo hi : Fld) (i : Nat) : Nat := s.rdi lo i + 2 ^ 32 * s.rdi hi i

/-- The distance from count `a` up to count `b`, modulo 2^16. -/
def cntDist (a b : Nat) : Nat := (b + 65536 - a % 65536) % 65536

/-- The space rule of R300 for count `c`: the host's consumer count exceeds c - N. -/
def State.resRoom (s : State) (q c : Nat) : Bool := cntDist (s.rdi SRCH_Q_RES_CNT_res_consumed q) c < s.qResN q

/-- Pair `q` has a descriptor that could be admitted, space apart. -/
def State.pairWaits (s : State) (q : Nat) : Bool :=
  s.qOpen q && !s.qStopped q && !(s.pair q).closing && !(s.pair q).staged.isEmpty

/-- Pair `q` is ready (R300). -/
def State.pairReady (s : State) (q : Nat) : Bool :=
  s.pairWaits q && (match (s.pair q).staged with | x :: _ => s.resRoom q x.count | [] => false)

/-- res_full_wait of pair `q`. -/
def State.noteFull (s : State) (q : Nat) : State :=
  s.wri SRCH_Q_STATUS_res_full_wait q (b2n (s.pairWaits q && !s.pairReady q))

/-- The pair stops: a fault on its request ring, or on its result ring (R304). -/
def State.stopPair (s : State) (q : Nat) (request : Bool) : State :=
  let s1 := (s.setBit SRCH_STATUS_q_stopped 0 q true).noteFull q
  if request then (s1.wri SRCH_Q_STATUS_req_fault q 1).raise SRCH_EVENT_req_ring_fault
  else (s1.wri SRCH_Q_STATUS_res_fault q 1).raise SRCH_EVENT_res_ring_fault

/-- The pair reads its next request entry while it is open and serving, its doorbell covers the entry, fewer than eight
descriptors are staged, and the module may issue requests (R299). -/
def State.pumpPair (s : State) (q : Nat) : State :=
  let p := s.pair q
  let c := (s.rdi SRCH_Q_REQ_CNT_req_admitted q + p.staged.length) % 65536
  if s.qOpen q && !s.qStopped q && !p.closing && p.reading.isNone && p.staged.length < 8 &&
      c != s.rdi SRCH_Q_REQ_CNT_req_accepted q && s.dmaOk && !s.inSequence then
    let s1 := s.setPair q { p with reading := some c, retries := 0 }
    s1.dmaRead (s.addr64 SRCH_Q_REQ_LO_req_base_lo SRCH_Q_REQ_HI_req_base_hi q + s.qReqSize q * (c % s.qReqN q))
      (s.qReqSize q) (.queueEntry q)
  else s

/-- A request entry has been read: staged when its tail word holds its count; otherwise read again, at most three times,
and then a ring fault (R223). An entry with poison stops the pair (R600). -/
def State.pairEntry (s : State) (q : Nat) (data : List Byte) (poison : Bool) : State :=
  let p := s.pair q
  match p.reading with
  | none => s
  | some c =>
    if !s.qOpen q || p.closing || s.qStopped q then s.setPair q { p with reading := none }
    else if poison then ((s.setPair q { p with reading := none }).bite 0 5 0 0xFFFF).stopPair q true
    else if recNat data (s.qReqSize q - 8) 2 = c then
      (s.setPair q { p with reading := none, retries := 0, staged := p.staged ++
        [{ count := c, desc := data.take (s.qReqSize q - 8) }] }).noteFull q |>.pumpPair q
    else if p.retries < 3 then s.setPair q { p with retries := p.retries + 1 }
    else (s.setPair q { p with reading := none }).stopPair q true

/-- A result entry written: its body, its tail word in a later TLP, the write-back count, and the pair's interrupt (R224,
R225, R303). -/
def State.writeResult (s : State) (q c : Nat) (r : List Byte) : State :=
  let n := s.qResSize q
  let a := s.addr64 SRCH_Q_RES_LO_res_base_lo SRCH_Q_RES_HI_res_base_hi q + n * (c % s.qResN q)
  let s1 := (s.dmaWrite a (r.take (n - 8))).dmaWrite (a + n - 8) (r.drop (n - 8))
  let s2 := s1.wri SRCH_Q_RES_CNT_res_written q ((c + 1) % 65536)
  let s3 := if s.rdi SRCH_Q_CFG_wb_en q = 1 then
      s2.dmaWrite (s.addr64 SRCH_Q_WB_LO_wb_lo SRCH_Q_WB_HI_wb_hi q) (leBytes 8 ((c + 1) % 65536)) else s2
  s3.raiseSource (2 + q)

/-- Held results written while the next count is there and the module may issue requests (R303). -/
def State.flushResults (q : Nat) : Nat → State → State
  | 0, s => s
  | n + 1, s =>
    let p := s.pair q
    let c := s.rdi SRCH_Q_RES_CNT_res_written q
    match p.held.find? (fun x => x.1 == c) with
    | none => s
    | some x =>
      if s.dmaOk && s.resRoom q c then
        State.flushResults q n ((s.setPair q { p with held := p.held.filter (fun y => y.1 != c) }).writeResult q c x.2)
      else s

/-- The offset of SRCH_Q_CFG of pair `q`, and its registers in configuration RAM, those of its write-back address when `wb`. -/
def qCfgOff (q : Nat) : Nat := 0x8118 + 0x30 * q
def qRegs (q : Nat) (wb : Bool) : List Nat :=
  regsFrom (0x8100 + 0x30 * q) (if wb then 6 else 4) ++ regsFrom (qCfgOff q) 2

/-- The close of a pair completes once every admitted search is written (R313), or delivered and discarded (R205): the pair
is no longer open. -/
def State.settleClose (s : State) (q : Nat) : State :=
  let p := s.pair q
  let admitted := s.rdi SRCH_Q_REQ_CNT_req_admitted q
  let written := s.rdi SRCH_Q_RES_CNT_res_written q
  let flying := s.srch.inFlight.any (fun f => match f.src with | .queue k _ => k == q | _ => false)
  if p.closing && (admitted == written || (p.gone && !flying)) then
    let s1 := (((s.setPair q QPair.empty).wri SRCH_Q_CFG_q_en q 0).cfgWritten [qCfgOff q]).setBit SRCH_STATUS_q_open 0 q false
    let s2 := ((s1.setBit SRCH_STATUS_q_stopped 0 q false).wri SRCH_Q_STATUS_req_fault q 0).wri SRCH_Q_STATUS_res_fault q 0
    let s3 := s2.wri SRCH_Q_STATUS_res_full_wait q 0
    match p.closer with
    | some m => s3.okResp m (leBytes 2 admitted ++ leBytes 2 written)
    | none => s3
  else s

/-- The results of pair `q` written as far as they go, its wait noted, and its close settled. -/
def State.servePair (s : State) (q : Nat) : State :=
  ((((State.flushResults q (s.pair q).held.length s).noteFull q).pumpPair q).settleClose q)

/-- A pair opened with its counts at 0 (R219). -/
def State.openPair (s : State) (q : Nat) : State :=
  let s1 := ((((((((s.setPair q QPair.empty).wri SRCH_Q_REQ_CNT_req_accepted q 0).wri SRCH_Q_REQ_CNT_req_admitted q
    0).wri SRCH_Q_RES_CNT_res_written q 0).wri SRCH_Q_RES_CNT_res_consumed q 0).wri SRCH_Q_STATUS_req_fault q 0).wri
    SRCH_Q_STATUS_res_fault q 0).wri SRCH_Q_CFG_q_en q 1).cfgWritten [qCfgOff q]
  (s1.setBit SRCH_STATUS_q_open 0 q true).setBit SRCH_STATUS_q_stopped 0 q false

/-- A close begins: admission stops, and the staged descriptors and the entry being read are discarded (R313). -/
def State.closePair (s : State) (q : Nat) (m : Option Mb) : State :=
  let p := s.pair q
  ((s.dropJobs (fun u => u == .queueEntry q)).setPair q
    { p with staged := [], reading := none, closing := true, closer := m }).servePair q

/-- RING_ENTRY_RETRY of a queue pair: the entry whose tail word was wrong is read again after 1 µs (R223). -/
def State.retryPair (s : State) (q : Nat) : State :=
  let p := s.pair q
  match p.reading with
  | some c =>
    if 1 ≤ p.retries && !(s.host.jobs.any (fun j => j.use == .queueEntry q)) && s.dmaOk then
      s.dmaRead (s.addr64 SRCH_Q_REQ_LO_req_base_lo SRCH_Q_REQ_HI_req_base_hi q + s.qReqSize q * (c % s.qReqN q))
        (s.qReqSize q) (.queueEntry q)
    else s
  | none => s

/-! ### The direct search window (R305 to R309) -/

/-- The BAR2 offset of a window lane. -/
def laneOff (l : Nat) : Nat := 0x8000 + 0x100 * l

/-- win_pending reports up to 32 window searches. -/
def State.noteWindow (s : State) : State := s.wr SRCH_WIN_CFG_win_pending (min 32 s.srch.window.length)

/-- WINDOW_SEARCH: a host read of 8 to 64 bytes from lane offset 0x80 (R306, R307); a lane that is not enabled answers
all-zero data (R309), and so does a follower (R191). DESIGN CHOICE (log entry 196): lane_en is judged here, also for a read that flow
control holds behind 32 others. In DOZE the read is an exit trigger (R116). -/
def execWindowSearch (lane : Fin 16) (len : Nat) (s : State) : Out :=
  if len < 8 ∨ 64 < len then
    ok (s.reply (s.bar2Get (laneOff lane.val + 0x80) len) false .success)
  else if s.isFollower || !s.bit SRCH_WIN_CFG_lane_en 0 lane.val then ok (s.reply (List.replicate len 0) false .success)
  else
    ok (({ s with srch := { s.srch with window := s.srch.window ++ [{ lane := lane.val, len := len }] } } :
      State).noteWindow.exitDoze)

/-- The result of a window search: the lane's stored record, and the completion of the read (R305, R308). A read whose link
was reset has length 0, and its result is discarded (R205). -/
def State.laneResult (s : State) (lane len : Nat) (r : SearchResult) : State :=
  if len = 0 then s else
  let n := (storeGetD 0 s.srch.laneCount lane + 1) % 65536
  let b := r.full n
  let s1 : State := { s with srch := { s.srch with laneCount := storeSetD 0 s.srch.laneCount lane n } }
  (s1.bar2Put (laneOff lane + 0x80) b).reply (b.take len) false .success

/-! ### PROFILE commands -/

/-- The registers of profile `p`, and their words written by the module itself with fresh parity. -/
def profRegs (p : Nat) : List Nat := regsFrom (0x8400 + 0x60 * p) 24
def State.cfgFresh (s : State) (offs : List Nat) : State :=
  let t := ({ s with integ := { s.integ with epWrite := false } } : State).cfgWritten offs
  { t with integ := { t.integ with epWrite := s.integ.epWrite } }

/-- A definition committed as profile `p` on the present ply (R312). -/
def State.commitProfile (s : State) (p : Nat) (d : List Byte) : State :=
  let s1 := (List.range 24).foldl (fun s i => s.wri SRCH_PROF_definition (24 * p + i) (recNat d (4 * i) 4)) s
  let s2 := ((s1.setBit SRCH_PROF_VALID_valid 0 p true).wr SRCH_PROF_PLY_commit_ply s.clk.ply).raise
    SRCH_EVENT_profile_commit
  ({ s2 with tbl := { s2.tbl with profPly := storePut s2.tbl.profPly p s.clk.ply } } : State).cfgFresh (profRegs p)

/-- Profile `p` made undefined on the present ply. -/
def State.deleteProfile (s : State) (p : Nat) : State :=
  let s1 := (List.range 24).foldl (fun s i => s.wri SRCH_PROF_definition (24 * p + i) 0) s
  let s2 := ((s1.setBit SRCH_PROF_VALID_valid 0 p false).wr SRCH_PROF_PLY_commit_ply s.clk.ply).raise
    SRCH_EVENT_profile_commit
  ({ s2 with tbl := { s2.tbl with profPly := storePut s2.tbl.profPly p s.clk.ply } } : State).cfgFresh (profRegs p)

/-- PROFILE.SET (0x0801, R312). -/
def execProfileSet (m : Mb) (s : State) : Out :=
  runCmd m 0x0801 s (fun c s =>
    let d := c.bytes 0 96
    match profileBad d with
    | some off => s.badParam m off
    | none => let s1 := s.commitProfile (c.u8 0) d
              s1.okResp m s1.plyBytes)

/-- PROFILE.GET (0x0802). -/
def execProfileGet (m : Mb) (s : State) : Out :=
  runCmd m 0x0802 s (fun c s =>
    checked m [need (c.u8 0 < 32) 0] s (fun s =>
      let p := c.u8 0
      let d := s.profDefined p
      s.okResp m ((if d then s.profBytes p else List.replicate 96 0) ++ leBytes 1 (b2n d) ++ leBytes 7 0 ++
        leBytes 8 (storeGetD 0 s.tbl.profPly p))))

/-- PROFILE.DELETE (0x0803). -/
def execProfileDelete (m : Mb) (s : State) : Out :=
  runCmd m 0x0803 s (fun c s =>
    checked m [need (c.u8 0 < 32) 0] s (fun s =>
      if s.profDefined (c.u8 0) then (s.deleteProfile (c.u8 0)).okResp m [] else s.fail m stNotFound))

/-- A 64-bit value written in a low and a high register of an instance. -/
def State.wr64 (s : State) (lo hi : Fld) (i v : Nat) : State := (s.wri lo i v).wri hi i (v / 2 ^ 32)

/-- PROFILE.QUEUE_OPEN (0x0810). DEDUCED (log entry 184): before any PROFILE.SET, while no profile is defined, it is too early
(R783). -/
def execProfileQueueOpen (m : Mb) (s : State) : Out :=
  runCmd m 0x0810 s (fun c s =>
    let q := c.u8 0
    let f := c.u8 3
    let kOk (k : Nat) : Bool := 4 ≤ k && k ≤ 12
    checked m [need (q < 16) 0, need (kOk (c.u8 1)) 1, need (kOk (c.u8 2)) 2, need (f < 8) 3,
               need ((List.range 32).any s.profDefined) 4, need (c.u64 8 % 4096 == 0) 8, need (c.u64 16 % 4096 == 0) 16,
               need (f < 4 || c.u64 24 % 8 == 0) 24] s
      (fun s =>
        if s.qOpen q then s.fail m stWrongState
        else
          let s1 := (((((s.wri SRCH_Q_CFG_req_k q (c.u8 1)).wri SRCH_Q_CFG_res_k q (c.u8 2)).wri SRCH_Q_CFG_req_128 q
            f).wri SRCH_Q_CFG_res_full q (f / 2)).wri SRCH_Q_CFG_wb_en q (f / 4)).wri SRCH_Q_PMASK_pmask q (c.u32 4)
          let s2 := ((s1.wr64 SRCH_Q_REQ_LO_req_base_lo SRCH_Q_REQ_HI_req_base_hi q (c.u64 8)).wr64
            SRCH_Q_RES_LO_res_base_lo SRCH_Q_RES_HI_res_base_hi q (c.u64 16))
          let s3 := if 4 ≤ f then s2.wr64 SRCH_Q_WB_LO_wb_lo SRCH_Q_WB_HI_wb_hi q (c.u64 24) else s2
          ((s3.cfgWritten (qRegs q (decide (4 ≤ f)))).openPair q).okResp m []))

/-- PROFILE.QUEUE_CLOSE (0x0811, R313). -/
def execProfileQueueClose (m : Mb) (s : State) : Out :=
  runCmd m 0x0811 s (fun c s =>
    checked m [need (c.u8 0 < 16) 0, c.notZero 1 3] s (fun s =>
      if s.qOpen (c.u8 0) && !(s.pair (c.u8 0)).closing then (s.wait m).closePair (c.u8 0) (some m)
      else s.fail m stNotFound))

/-- PROFILE.WINDOW_SET (0x0812). -/
def execProfileWindowSet (m : Mb) (s : State) : Out :=
  runCmd m 0x0812 s (fun c s =>
    checked m [c.notZero 2 2] s (fun s =>
      ((s.wr SRCH_WIN_CFG_lane_en (c.u16 0)).wr SRCH_WIN_PMASK_win_pmask (c.u32 4)).okResp m []))

/-! ### SRCH register operations (R314, R315) -/

/-- PROF_LOAD: the staged definition committed as profile prof_id, whatever its byte 0 holds (R314). -/
def execProfLoad (w : RegWord) (s : State) : Out :=
  ok (s.regOp 0x8044 w (fun s =>
    if fieldOf w SRCH_PROF_LOAD_load = 0 then s
    else if fieldOf w SRCH_PROF_LOAD_delete = 1 then s.badWrite
    else
      let p := fieldOf w SRCH_PROF_LOAD_prof_id
      let d := leBytes 1 p ++ (s.regBytes SRCH_PROF_STAGE_stage 24).drop 1
      if (profileBad d).isSome then s.badWrite else s.commitProfile p d))

/-- PROF_DELETE_WRITE: profile prof_id made undefined. -/
def execProfDeleteWrite (w : RegWord) (s : State) : Out :=
  ok (s.regOp 0x8044 w (fun s =>
    if fieldOf w SRCH_PROF_LOAD_delete = 0 then s
    else if fieldOf w SRCH_PROF_LOAD_load = 1 then s.badWrite
    else s.deleteProfile (fieldOf w SRCH_PROF_LOAD_prof_id)))

/-- Q_EN_SET: q_en set opens the pair, when the sizes and the addresses are in range (R315). -/
def execQEnSet (q : Fin 16) (w : RegWord) (s : State) : Out :=
  ok (s.regOp (qCfgOff q.val) w (fun s =>
    let i := q.val
    let kOk (k : Nat) : Bool := 4 ≤ k && k ≤ 12
    if fieldOf w SRCH_Q_CFG_q_en = 0 then s
    else if s.qOpen i then s.badWrite
    else if kOk (fieldOf w SRCH_Q_CFG_req_k) && kOk (fieldOf w SRCH_Q_CFG_res_k) &&
        s.rdi SRCH_Q_REQ_LO_req_base_lo i % 4096 == 0 && s.rdi SRCH_Q_RES_LO_res_base_lo i % 4096 == 0 &&
        s.rdi SRCH_Q_WB_LO_wb_lo i % 8 == 0 then
      (s.wrRW (qCfgOff i) w).openPair i
    else s.badWrite))

/-- Q_EN_CLEAR: q_en cleared acts as PROFILE.QUEUE_CLOSE. -/
def execQEnClear (q : Fin 16) (w : RegWord) (s : State) : Out :=
  ok (s.regOp (qCfgOff q.val) w (fun s =>
    if fieldOf w SRCH_Q_CFG_q_en = 1 ∨ ¬ s.qOpen q.val then s
    else
      let t := s.sizesListed w SRCH_Q_CFG_req_k SRCH_Q_CFG_res_k
      if (s.pair q.val).closing then t else t.closePair q.val none))

end Sys2Proof.Machine
end

