-- ==== Sys2Proof/Machine/Keys.lean ====
section
/-! DEFINITION. The key store and the key ladder (R541 to R545, R562 to R566). -/

namespace Sys2Proof.Machine
open Reg

/-! ### Key slots -/

/-- The structure code of the key store. -/
def sidKey : Nat := 0x73

/-- Key slots (the table under *The boundary and the key store*). -/
def titleSlot (p : Nat) : Nat := 64 + p
def catalogSlot (p : Nat) : Nat := 66 + p
def saveSlot (p a : Nat) : Nat := 68 + 8 * p + a
def deviceSlot : Nat := 84

/-- The place of key slot `k` in the key store, and the bytes of its key (log entry 9). -/
def keyOff (k : Nat) : Nat :=
  if k < 64 then 64 * k else if k < 68 then 4096 + 32 * (k - 64) else 4224 + 96 * (k - 68)
def keyLen (k : Nat) : Nat := if k < 64 then 64 else if k < 68 ∨ 84 ≤ k then 32 else 96

/-- The key of slot `k`; only the engines of the security datapath read it (R542). -/
def State.keyBytes (s : State) (k : Nat) : List Byte := memBytes s.mem (dataBase sidKey 0 + keyOff k) (keyLen k)

/-- A key word of slot `k` fails parity (R598). -/
def State.keyBad (s : State) (k : Nat) : Bool := s.rangePoison sidKey (keyOff k) (keyLen k)

/-- The failing words of key slot `k` reported by the engine that uses it: the guard core where it derives a key (`detector` 4),
a datapath engine where it decrypts or verifies (5) (R602; log entry 183). -/
def State.keyReport (s : State) (k detector : Nat) : State := s.reportRange sidKey (keyOff k) (keyLen k) detector

/-- Slot `k` holds a key. -/
def State.keyValid (s : State) (k : Nat) : Bool := s.rdi SEC_KEY_META_valid k == 1

/-- The key check code of a key (R544). -/
def keyCheck (key : List Byte) : Nat := leNat ((hmac key (ascii "T84-KCC")).take 4)

/-- A key in slot `k` for a cartridge slot, an area and an extent; with `bad`, an output of an engine that used a failed
key, it is stored with poison (R598). -/
def State.putKey (s : State) (k : Nat) (key : List Byte) (slot area ext : Nat) (bad : Bool) : State :=
  let words := (List.range (keyLen k / 8)).map (fun i => (keyOff k / 8 + i, (key.drop (8 * i)).take 8))
  let s1 := words.foldl (fun s w => if bad then s.storePoison sidKey w.1 w.2 else s.storeWord sidKey w.1 w.2) s
  ((((s1.wri SEC_KEY_META_valid k 1).wri SEC_KEY_META_slot k slot).wri SEC_KEY_META_area k area).wri
    SEC_KEY_META_extent_id k ext).wri SEC_KEY_KCC_kcc k (keyCheck key)

/-- Key slot `k` zeroised (R545). -/
def State.zeroise (s : State) (k : Nat) : State :=
  let s1 := (List.range (keyLen k / 8)).foldl
    (fun s i => s.storeWord sidKey (keyOff k / 8 + i) (List.replicate 8 0)) s
  (s1.wri SEC_KEY_META_valid k 0).wri SEC_KEY_KCC_kcc k 0

/-- The key slots bound to cartridge slot `p`: its title, catalog and save keys, and every valid EXTENT key of it. -/
def State.slotKeys (s : State) (p : Nat) : List Nat :=
  [titleSlot p, catalogSlot p] ++ (List.range 8).map (saveSlot p) ++
    (List.range 64).filter (fun k => s.keyValid k && s.rdi SEC_KEY_META_slot k == p)

/-! ### The OTP security region (R670, R676) -/

/-- The structure code of the OTP array. -/
def sidOtp : Nat := 0x61

/-- Bytes of the OTP array. -/
def State.otpBytes (s : State) (o n : Nat) : List Byte := memBytes s.mem (dataBase sidOtp 0 + o) n

/-- The identity copy in use, zeros when neither copy was good at START (R674). A good copy cannot be written again. -/
def State.identity (s : State) : List Byte :=
  if s.rd OTP_STATUS_id_a_state = 1 then s.otpBytes 0 64
  else if s.rd OTP_STATUS_id_b_state = 1 then s.otpBytes 0x40 64
  else List.replicate 64 0

/-- The module serial number (R668). -/
def State.moduleSerial (s : State) : Nat := fieldAt s.identity 8 8

/-- The security region was good when START read it. A good region cannot be written again, so the array still holds what
START read. -/
def State.secGood (s : State) : Bool := s.rd OTP_STATUS_sec_state == 1

/-- The key generation in force. -/
def State.keyGen (s : State) : Nat := s.rd SEC_STATUS_key_gen

/-- The root check of R554 on a certificate (R676): its public key's hash against the stored root key hash, or the ROM's
while the region is blank; it always fails while the region is bad. -/
def State.rootCheck (s : State) (cert : List Byte) : Bool :=
  let h := sha256 ((cert.drop 32).take 64)
  match s.rd OTP_STATUS_sec_state with
  | 0 => h == beBytes 32 Config.romRootHash.toNat
  | 1 => h == s.otpBytes 0x188 32
  | _ => false

/-! ### The key ladder (R564) -/

/-- The WRAP contexts: key_gen ‖ title_id. -/
def wrapContext (gen title : Nat) : List Byte := leBytes 1 gen ++ leBytes 4 title

/-- The title key unwrapped from a record (R556), for the key generation and title; none when the MAC does not match. -/
def unwrapTitle (device rcd : List Byte) : Option (List Byte) :=
  let gen := fieldAt rcd 0 1
  let title := fieldAt rcd 4 4
  let mac := hmac (kdf device "T84-WRAP-A" (wrapContext gen title) 256) (rcd.take 40)
  if mac.take 16 = (rcd.drop 40).take 16 then
    some (xorBytes ((rcd.drop 8).take 32) (kdf device "T84-WRAP-E" (wrapContext gen title) 256))
  else none

/-- The catalog key of slot `p` derived into its key slot. -/
def State.deriveCatalog (s : State) (p : Nat) : State :=
  (s.keyReport (titleSlot p) 4).putKey (catalogSlot p) (kdf (s.keyBytes (titleSlot p)) "T84-CAT" (leBytes 8 (s.cartId p)) 256) p 0 0
    (s.keyBad (titleSlot p))

/-- The save key of area `a` derived. -/
def State.deriveSave (s : State) (p a : Nat) : State :=
  (s.keyReport (titleSlot p) 4).putKey (saveSlot p a) (kdf (s.keyBytes (titleSlot p)) "T84-SAVE" (leBytes 8 (s.cartId p) ++ leBytes 1 a) 768) p a 0
    (s.keyBad (titleSlot p))

/-- The save keys of every area that the header lists (R558). -/
def State.deriveSaves (s : State) (p : Nat) : State :=
  (List.range (min 8 (s.saveAreas p))).foldl (fun s a => s.deriveSave p a) s

/-! ### Keys derived again (R598) -/

/-- The guard core has a context for slot `p`, and key slot `k` of it has been zeroised. -/
def State.keyMissing (s : State) (p k : Nat) : Bool :=
  !s.keyValid k && s.rdi SEC_CTX_ctx_valid p == 1 && s.rd SEC_STATUS_guard_running == 1

/-- The device key loaded from the OTP's security region, when that is good (R583). -/
def State.loadDevice (s : State) : State :=
  if s.secGood then s.putKey deviceSlot (s.otpBytes 0x1A8 32) 0 0 0 false else s

/-- The device key, loaded again where its slot has been zeroised, for a use of it (R598). -/
def State.needDevice (s : State) : State :=
  (if !s.keyValid deviceSlot && s.rd SEC_STATUS_guard_running == 1 then s.loadDevice else s).keyReport deviceSlot 4

/-- The title key of slot `p`, unwrapped again where its slot has been zeroised. -/
def State.needTitle (s : State) (p : Nat) : State :=
  if s.keyMissing p (titleSlot p) then
    let s := s.needDevice
    match unwrapTitle (s.keyBytes deviceSlot) (s.guard.tags.getD p TagState.empty).wrapped with
    | some k => s.putKey (titleSlot p) k p 0 0 (s.keyBad deviceSlot)
    | none => s
  else s

/-- The catalog key of slot `p`, and a save key of it, derived again where its slot has been zeroised. -/
def State.needCatalog (s : State) (p : Nat) : State :=
  if s.keyMissing p (catalogSlot p) then (s.needTitle p).deriveCatalog p else s
def State.needSave (s : State) (p a : Nat) : State :=
  if s.keyMissing p (saveSlot p a) then (s.needTitle p).deriveSave p a else s

/-- Key slot `k` used: it goes behind the others in the order of use (R565). -/
def State.useKey (s : State) (k : Nat) : State :=
  { s with guard := { s.guard with lru := s.guard.lru.filter (· != k) ++ [k] } }

/-- A fetch in progress is bound to key slot `k` (R566). -/
def State.keyBound (s : State) (k : Nat) : Bool :=
  s.strm.fetches.any (fun f => f.keySlot == some k && f.stage != .ended)

/-- The EXTENT slot that holds the key of an extent of a cartridge slot. A slot with a failed word is not held: it waits
for its zeroisation (R598). -/
def State.findExtent (s : State) (p ext : Nat) : Option Nat :=
  (List.range 64).find? (fun k =>
    s.keyValid k && s.rdi SEC_KEY_META_slot k == p && s.rdi SEC_KEY_META_extent_id k == ext)

/-- The free EXTENT slot that is taken next: a zeroised one before any other, and the oldest last use first (R565). -/
def State.freeExtent (s : State) : Option Nat :=
  let free := s.guard.lru.filter (fun k => !s.keyBound k)
  match free.find? (fun k => !s.keyValid k) with
  | some k => some k
  | none => free.head?

/-- The per-extent key of a fetch's extent bound or derived (R565): the slot, if one is free. -/
def State.bindExtent (s : State) (p ext : Nat) : State × Option Nat :=
  match s.findExtent p ext with
  | some k => ((s.addi SEC_DERIVE_cache_hits 0 1).useKey k, some k)
  | none =>
    match s.freeExtent with
    | none => (s, none)
    | some k =>
      let s := (s.needTitle p).keyReport (titleSlot p) 4
      let key := kdf (s.keyBytes (titleSlot p)) "T84-EXT" (leBytes 8 (s.cartId p) ++ leBytes 4 ext) 512
      let s1 := (s.putKey k key p 0 ext (s.keyBad (titleSlot p))).addi SEC_DERIVE_derivations 0 1
      (({ s1 with guard := { s1.guard with derivations := countUp 32 s1.guard.derivations } } : State).useKey k, some k)

/-- KEY_SLOT_ZEROISE: a key slot with a failed word is zeroised once no fetch in progress is bound to it (R598). -/
def execKeySlotZeroise (k : Fin 85) (s : State) : Out :=
  if s.rd SEC_STATUS_guard_running = 1 ∧ s.keyValid k.val ∧ s.keyBad k.val ∧ ¬ s.keyBound k.val then
    ok (s.zeroise k.val)
  else ok s

end Sys2Proof.Machine
end

