-- ==== Sys2Proof/Machine/Fetch.lean ====
section
/-! DEFINITION. Stream channels and fetches in progress: states, halts, completion entries, and the remote fetches of a
follower (R521 to R536, R469 to R473). -/

namespace Sys2Proof.Machine
open Reg

/-! ### Channels and fetches -/

/-- Channel `c` beside its registers. -/
def State.chan (s : State) (c : Nat) : Channel := s.strm.channels.getD c Channel.empty

/-- Channel `c` replaced. -/
def State.setChan (s : State) (c : Nat) (x : Channel) : State :=
  { s with strm := { s.strm with channels := listSet s.strm.channels c x } }

/-- The fetch with an id. -/
def State.fetch (s : State) (id : Nat) : Option Fetch := s.strm.fetches.find? (fun f => f.id == id)

/-- Fetch `id` changed. -/
def State.updFetch (s : State) (id : Nat) (g : Fetch → Fetch) : State :=
  { s with strm := { s.strm with fetches := s.strm.fetches.map (fun f => if f.id = id then g f else f) } }

/-- Whether a fetch belongs to channel `c`. -/
def Fetch.ofChan (f : Fetch) (c : Nat) : Bool := match f.owner with | .chan d _ => c == d | _ => false

/-- Channel `c` is open, and it is halted. -/
def State.chOpen (s : State) (c : Nat) : Bool := s.bit STRM_STATUS_open 0 c
def State.chHalted (s : State) (c : Nat) : Bool := s.bit STRM_STATUS_halted 0 c

/-- The fetches of channel `c` that have no completion entry yet. -/
def State.chBusy (s : State) (c : Nat) : Nat := (s.strm.fetches.filter (fun f => f.ofChan c)).length

/-- STRM_CH_STATUS of channel `c` brought up to date. -/
def State.noteChan (s : State) (c : Nat) : State :=
  let n := s.chBusy c
  let st := if !s.chOpen c then 0 else if s.chHalted c then 3 else if n = 0 then 1 else 2
  (s.wri STRM_CH_STATUS_state c st).wri STRM_CH_STATUS_in_flight c (min n 4)

/-- Channel `c` halts with a reason (R530 to R534). A channel that is halted already keeps its reason, but a ring fault is
recorded there too, and only a close ends it (R222, R227, R534). -/
def State.haltChan (s : State) (c reason : Nat) : State :=
  let ring : Bool := reason == 3 || reason == 4
  if !s.chOpen c || (s.chHalted c && !ring) then s
  else
    let s1 := if s.chHalted c && [3, 4, 6].contains (s.rdi STRM_CH_STATUS_halt_reason c) then s
      else (s.setBit STRM_STATUS_halted 0 c true).wri STRM_CH_STATUS_halt_reason c reason
    let s2 :=
      if reason = 1 ∨ reason = 5 then s1.raise STRM_EVENT_poison_halt
      else if reason = 2 then s1.raise STRM_EVENT_gone_halt
      else if reason = 3 then s1.raise STRM_EVENT_req_ring_fault
      else if reason = 4 then s1.raise STRM_EVENT_cpl_ring_fault else s1
    ((s2.dropJobs (fun u => u == .streamEntry c)).setChan c { s2.chan c with entry := none, reading := none }).noteChan c

/-- The entries of the rings of channel `c`. -/
def State.chReqN (s : State) (c : Nat) : Nat := 2 ^ s.rdi STRM_CH_CFG_req_k c
def State.chCplN (s : State) (c : Nat) : Nat := 2 ^ s.rdi STRM_CH_CFG_cpl_k c

/-- The channel reads its next request entry while it is open and in service, its doorbell covers the entry, fewer than
four fetches are in progress, and the module may issue requests (R521, R524, R532). A follower's channels serve remote
fetches only (R470). -/
def State.pumpChan (s : State) (c : Nat) : State :=
  let x := s.chan c
  let t := s.rdi STRM_CH_REQ_CNT_taken c
  if s.chOpen c && !s.chHalted c && !x.closing && x.reading.isNone && x.entry.isNone && s.chBusy c < 4 &&
      t != s.rdi STRM_CH_REQ_CNT_accepted c && s.dmaOk && !s.inSequence && !s.isFollower then
    let s1 := s.setChan c { x with reading := some t, retries := 0 }
    s1.dmaRead (s.addr64 STRM_CH_REQ_LO_lo STRM_CH_REQ_HI_hi c + 64 * (t % s.chReqN c)) 64 (.streamEntry c)
  else s

/-- A request entry has been read: held for the channel when its tail word holds its count; otherwise read again, at most
three times, and then a ring fault (R223). With poison the channel halts with reason 5 (R530). -/
def State.chanEntry (s : State) (c : Nat) (data : List Byte) (poison : Bool) : State :=
  let x := s.chan c
  match x.reading with
  | none => s
  | some t =>
    if !s.chOpen c || x.closing || s.chHalted c then s.setChan c { x with reading := none }
    else if poison then
      -- the entry counts as taken: RESUME goes on with the request after the one that halted the channel (R532)
      (((s.setChan c { x with reading := none }).wri STRM_CH_REQ_CNT_taken c (t + 1)).bite 0 5 0 0xFFFF).haltChan c 5
    else if fieldAt data 56 2 = t then s.setChan c { x with reading := none, retries := 0, entry := some data }
    else if x.retries < 3 then s.setChan c { x with retries := x.retries + 1 }
    else (s.setChan c { x with reading := none }).haltChan c 3

/-- RING_ENTRY_RETRY of a stream channel (R223). -/
def State.retryChan (s : State) (c : Nat) : State :=
  match (s.chan c).reading with
  | some t =>
    if 1 ≤ (s.chan c).retries && !(s.host.jobs.any (fun j => j.use == .streamEntry c)) && s.dmaOk then
      s.dmaRead (s.addr64 STRM_CH_REQ_LO_lo STRM_CH_REQ_HI_hi c + 64 * (t % s.chReqN c)) 64 (.streamEntry c)
    else s
  | none => s

/-! ### What a fetch writes (R159, R171, R527, R528, R536) -/

/-- deg_rate of a fetch, in MB/s (R528). -/
def State.degRate (s : State) (f : Fetch) : Nat :=
  match f.owner with
  | .chan c _ => s.rdi STRM_CH_CFG_deg_rate c
  | .remote .. => max 1 Config.remoteDegRate.toNat

/-- The bytes that a fetch with `n` bytes to write may write in the present 10 µs window: under the stream cap of a heat level,
which counts in units of 10 MB/s, 100 bytes in 10 µs (R159), and, with DEGRADED, under its rate (R528). -/
def State.strmRoom (s : State) (f : Fetch) (n : Nat) : Nat :=
  let heat := if s.heat.strmLevel = 0 then n else 100 * s.heat.strmCap - s.heat.strmBytes
  min n (min heat (if f.degraded then 10 * s.degRate f - f.paced else n))

/-- Bytes of a fetch written at a place of its destination: to host memory (R527), or to the member that asked (R536). -/
def State.writePart (s : State) (f : Fetch) (place : Nat) (data : List Byte) : State :=
  let t := match f.owner with
    | .chan .. => s.dmaWrite (f.dest + place) data
    | .remote m tag =>
      s.sendPkt { dst := m, src := s.ownAddr, kind := 5, tag := tag, fields := BitVec.ofNat 64 place, payload := data }
  { t with heat := { t.heat with strmBytes := t.heat.strmBytes + data.length } }

/-- A fetch may write: its owner is another member, or the module may issue requests (R207). -/
def State.mayWrite (s : State) (f : Fetch) : Bool := match f.owner with | .chan .. => s.dmaOk | .remote .. => true

/-- The oldest data that fetch `id` holds is written, as much of it as there is room for. -/
def State.pumpPart (s : State) (id : Nat) : State :=
  match s.fetch id with
  | none => s
  | some f =>
    match f.held with
    | [] => s
    | (place, data) :: rest =>
      let n := s.strmRoom f data.length
      if n = 0 ∨ !s.mayWrite f then s
      else
        (s.writePart f place (data.take n)).updFetch id (fun g => { g with
          held := if n = data.length then rest else (place + n, data.drop n) :: rest
          written := g.written + n, paced := if g.degraded then g.paced + n else g.paced })

/-! ### The end of a fetch -/

/-- Bytes 0 to 23 of a completion entry (R529). -/
def Fetch.entry (f : Fetch) : List Byte :=
  leBytes 1 f.status ++
    leBytes 1 (b2n f.degraded + 2 * b2n f.corrected + 4 * b2n f.excluded + 8 * b2n f.wasRemote + 16 * b2n f.walked +
      32 * b2n f.eccHigh) ++
    leBytes 2 f.maxBits ++ leBytes 4 f.written ++ leBytes 8 (f.desc.getD 0) ++ leBytes 8 f.ply

/-- A fetch from a queued remote request (R470, R536). -/
def RemoteReq.toFetch (r : RemoteReq) (id : Nat) : Fetch :=
  { id := id, owner := .remote r.member r.tag, profile := r.profile, fetchClass := r.fetchClass, keyLen := 112, key := r.key
    offset := r.offset, len := r.len, dest := 0, userTag := r.userTag, stage := .offered, again := false, walked := false
    found := none, desc := none, degraded := false, corrected := false, excluded := false, wasRemote := false
    eccHigh := false, maxBits := 0, ply := 0, written := 0, held := [], paced := 0, next := 0, sectors := [], keySlot := none, issued := false
    status := 0 }

/-- The remote fetches that this member serves. -/
def State.remoteBusy (s : State) : Nat :=
  (s.strm.fetches.filter (fun f => match f.owner with | .remote .. => true | _ => false)).length

/-- A queued remote fetch begins while fewer than 8 are served (R470). -/
def State.nextRemote (s : State) : State :=
  match s.strm.remoteQ with
  | [] => s
  | r :: rs =>
    if s.remoteBusy < 8 then
      { s with strm := { s.strm with fetches := s.strm.fetches ++ [r.toFetch s.strm.nextId]
                                     nextId := s.strm.nextId + 1, remoteQ := rs } }
    else s

/-- The RDONE packet of a remote fetch: its packet tag, its fetch tag and its status (R466; log entry 10). -/
def State.sendRdone (s : State) (member tag userTag status : Nat) : State :=
  s.sendPkt { dst := member, src := s.ownAddr, kind := 6, tag := tag, fields := 0,
              payload := leBytes 8 userTag ++ leBytes 1 status }

/-- The waiting requests of other members are answered with a status (R536). -/
def State.answerRemotes (s : State) (st : Nat) : State :=
  s.strm.remoteQ.foldl (fun s r => s.sendRdone r.member r.tag r.userTag st)
    ({ s with strm := { s.strm with remoteQ := [] } } : State)

/-- A fetch ends with a status. Its queued reads complete and their data is dropped, it waits for no walk, and it leaves
its key slot. A remote fetch returns RDONE (R536); a fetch of a channel waits for its completion entry (R524). -/
def State.endFetch (s : State) (id status : Nat) : State :=
  match s.fetch id with
  | none => s
  | some f =>
    if f.stage = .ended then s
    else
      let s1 := (List.range 2).foldl (fun s p => s.dropData p (fun u => u == .fetch id)) s
      let s2 := (s1.dropWalkers (fun w => w == .fetch id)).updFetch id
        (fun f => { f with stage := .ended, status := status, sectors := [], keySlot := none, held := [], outcome := none })
      match f.owner with
      | .chan .. => s2
      | .remote m t =>
        (({ s2 with strm := { s2.strm with fetches := s2.strm.fetches.filter (fun g => g.id != id) } } : State).sendRdone
          m t f.userTag status).nextRemote

/-- A fetch writes what it holds as far as there is room, and ends with the outcome that waited for it (R36). -/
def State.pumpFetch (s : State) (id : Nat) : State :=
  let n := match s.fetch id with | some f => f.held.length | none => 0
  let t := (List.range n).foldl (fun s _ => s.pumpPart id) s
  match t.fetch id with
  | some f => match f.outcome with
    | some st => if f.held.isEmpty then t.endFetch id st else t
    | none => t
  | none => t

/-- Every fetch writes what it may. -/
def State.pumpFetches (s : State) : State := (s.strm.fetches.map (·.id)).foldl State.pumpFetch s

/-- Data of fetch `id` for a place of its destination, behind what it holds already, with the outcome that it brings. -/
def State.holdData (s : State) (id place : Nat) (data : List Byte) (outcome : Option Nat) : State :=
  (s.updFetch id (fun g => { g with
    held := if data.isEmpty then g.held else g.held ++ [(place, data)], outcome := outcome })).pumpFetch id

/-- A fetch ends with MEDIA_GONE: after its first read its channel halts as well (R531, R46). -/
def State.goneFetch (s : State) (id : Nat) : State :=
  match s.fetch id with
  | none => s
  | some f =>
    let s1 := s.endFetch id stMediaGone
    match f.owner with
    | .chan c _ => if f.issued && f.stage != .ended then s1.haltChan c 2 else s1
    | _ => s1

/-- The offset of STRM_CH_CFG of channel `c`, and its registers in configuration RAM, those of its write-back address when
`wb`. -/
def chCfgOff (c : Nat) : Nat := 0xE118 + 0x40 * c
def chRegs (c : Nat) (wb : Bool) : List Nat :=
  regsFrom (0xE100 + 0x40 * c) (if wb then 6 else 4) ++ regsFrom (chCfgOff c) 2

/-- The close of channel `c` completes once none of its fetches is left (R538). -/
def State.settleChan (s : State) (c : Nat) : State :=
  let x := s.chan c
  if x.closing && s.chBusy c == 0 then
    let taken := s.rdi STRM_CH_REQ_CNT_taken c
    let written := s.rdi STRM_CH_CPL_CNT_written c
    let s1 := ((s.setChan c Channel.empty).setBit STRM_STATUS_open 0 c false).setBit STRM_STATUS_halted 0 c false
    let s2 := (((s1.wri STRM_CH_CFG_en c 0).cfgWritten [chCfgOff c]).wri STRM_CH_STATUS_halt_reason c 0).noteChan c
    match x.closer with
    | some m => s2.okResp m (leBytes 2 taken ++ leBytes 2 written)
    | none => s2
  else s

/-- The completion entry of a fetch: its body, its tail word, the write-back count and the channel's interrupt (R224,
R225, R529), after every data write of the fetch (R36). The fetch leaves. -/
def State.writeCompletion (s : State) (c : Nat) (f : Fetch) : State :=
  let w := s.rdi STRM_CH_CPL_CNT_written c
  let a := s.addr64 STRM_CH_CPL_LO_lo STRM_CH_CPL_HI_hi c + 32 * (w % s.chCplN c)
  let s1 := (s.dmaWrite a f.entry).dmaWrite (a + 24) (leBytes 2 w ++ leBytes 6 f.userTag)
  let s2 := ((s1.wri STRM_CH_CPL_CNT_written c (w + 1)).inc STRM_FETCHES_fetches).addi STRM_CH_FETCHES_fetches c 1
  let s3 := if s.rdi STRM_CH_CFG_wb_en c = 1 then
      s2.dmaWrite (s.addr64 STRM_CH_WB_LO_lo STRM_CH_WB_HI_hi c) (leBytes 8 ((w + 1) % 65536)) else s2
  let s4 : State := { s3 with strm := { s3.strm with fetches := s3.strm.fetches.filter (fun g => g.id != f.id) } }
  (((s4.raiseSource (18 + c)).noteChan c).settleChan c).pumpChan c

/-- The next fetch of channel `c` in count order. -/
def State.headFetch (s : State) (c : Nat) : Option Fetch := s.strm.fetches.find? (fun f => f.ofChan c)

/-- The completion ring of channel `c` has room (R224). -/
def State.cplRoom (s : State) (c : Nat) : Bool :=
  cntDist (s.rdi STRM_CH_CPL_CNT_consumed c) (s.rdi STRM_CH_CPL_CNT_written c) < s.chCplN c

/-- FETCH_COMPLETION: the completion entry of the next fetch in count order, once it has ended, while the ring has room
and the module may issue requests (R524, R529). -/
def execFetchCompletion (c : Fin 16) (s : State) : Out :=
  match s.headFetch c.val with
  | none => ok s
  | some f =>
    if f.stage = .ended ∧ s.cplRoom c.val ∧ s.dmaOk then ok (s.writeCompletion c.val f) else ok s

/-! ### Taking a request (R522, R523) -/

/-- A request entry as a fetch of channel `c`. -/
def entryFetch (id c count profile : Nat) (e : List Byte) : Fetch :=
  { id := id, owner := .chan c count, profile := profile, fetchClass := fieldAt e 1 1, keyLen := fieldAt e 2 2
    key := (e.drop 24).take 32, offset := fieldAt e 4 4, len := fieldAt e 16 4, dest := fieldAt e 8 8
    userTag := fieldAt e 58 6, stage := .offered, again := false, walked := false, found := none, desc := none
    degraded := false, corrected := false, excluded := false, wasRemote := false, eccHigh := false, maxBits := 0, ply := 0
    written := 0, held := [], paced := 0, next := 0, sectors := [], keySlot := none, issued := false, status := 0 }

/-- A request entry that makes no search: non-zero reserved bytes, key_len above 256, length 0, or a misaligned
destination (R523). -/
def entryBad (e : List Byte) : Bool :=
  fieldAt e 0 1 != 0 || fieldAt e 20 4 != 0 || 256 < fieldAt e 2 2 || fieldAt e 16 4 == 0 || fieldAt e 8 8 % 8 != 0

/-- STREAM_REQUEST_TAKE: channel `c` takes the entry that it has read and offers its search (R523, R524). In the fatal
state the request completes with VOID (R644). A channel with a poisoned configuration halts (R601). -/
def execStreamRequestTake (c : Fin 16) (s : State) : Out :=
  let i := c.val
  match (s.chan i).entry with
  | none => ok s
  | some e =>
    if !s.chOpen i || s.chHalted i || (s.chan i).closing || s.inSequence || 4 ≤ s.chBusy i then ok s
    else if s.chanFails i then ok ((s.cfgReport 5 (0xE100 + 0x40 * i) (0xE120 + 0x40 * i)).haltChan i 1)
    else
      let t := s.rdi STRM_CH_REQ_CNT_taken i
      let f := entryFetch s.strm.nextId i t (s.rdi STRM_CH_CFG_profile i) e
      let s1 := (s.setChan i { s.chan i with entry := none }).wri STRM_CH_REQ_CNT_taken i (t + 1)
      let s2 : State := { s1 with strm := { s1.strm with fetches := s1.strm.fetches ++ [f], nextId := s1.strm.nextId + 1 } }
      let s3 := if s.fatal then s2.endFetch f.id stVoid
        else if entryBad e then s2.endFetch f.id stBadParam else s2
      ok ((s3.noteChan i).pumpChan i)

/-- FETCH_TIMEOUT: a fetch that is not complete fetch_ms after its request was taken (R533, R473). One that a follower serves ends so
too, with its RDONE (R536; log entry 182). -/
def execFetchTimeout (id : Nat) (s : State) : Out :=
  match s.fetch id with
  | some f =>
    if f.stage = .ended then ok s else ok ((s.endFetch id stTimeout).raise STRM_EVENT_fetch_timeout)
  | none => ok s

/-! ### STREAM commands and the STRM register operations (R538, R540) -/

/-- A profile that a stream channel may use: defined and with a GUARD lookup. -/
def State.streamProfile (s : State) (p : Nat) : Bool :=
  s.profDefined p && (List.range 4).any (fun i => (lookAt (s.profBytes p) i).engine == 5)

/-- Channel `c` opened, its counts at 0 (R219). -/
def State.openChan (s : State) (c : Nat) : State :=
  let s1 := ((((s.setChan c Channel.empty).wri STRM_CH_REQ_CNT_accepted c 0).wri STRM_CH_REQ_CNT_taken c 0).wri
    STRM_CH_CPL_CNT_written c 0).wri STRM_CH_CPL_CNT_consumed c 0
  let s2 := ((s1.wri STRM_CH_STATUS_halt_reason c 0).wri STRM_CH_CFG_en c 1).setBit STRM_STATUS_open 0 c true
  ((s2.cfgWritten [chCfgOff c]).setBit STRM_STATUS_halted 0 c false).noteChan c

/-- A close begins: no request is taken any more, and one not yet taken or still being read is discarded (R538). -/
def State.closeChan (s : State) (c : Nat) (m : Option Mb) : State :=
  ((s.dropJobs (fun u => u == .streamEntry c)).setChan c
    { s.chan c with entry := none, reading := none, closing := true, closer := m }).settleChan c

/-- A halted channel returns to service with the request after the one that halted it (R532). -/
def State.resumeChan (s : State) (c : Nat) : State :=
  let s1 := ((s.wri STRM_CH_STATUS_halt_reason c 0).setBit STRM_STATUS_halted 0 c false).setChan c
    { s.chan c with kept := false }
  (s1.fillRange 0x74 (4096 * c) 4096).noteChan c |>.pumpChan c

/-- Channel `c` may be resumed: halted, and not with reason 3, 4 or 6. -/
def State.resumable (s : State) (c : Nat) : Bool :=
  s.chHalted c && !([3, 4, 6].contains (s.rdi STRM_CH_STATUS_halt_reason c))

/-- STREAM.OPEN (0x0B01). -/
def execStreamOpen (m : Mb) (s : State) : Out :=
  runCmd m 0x0B01 s (fun c s =>
    let i := c.u8 0
    let kOk (k : Nat) : Bool := 4 ≤ k && k ≤ 12
    checked m [need (i < 16) 0, need (kOk (c.u8 1)) 1, need (kOk (c.u8 2)) 2, need (c.u8 3 < 32 && s.streamProfile (c.u8 3)) 3,
               need (c.u8 4 < 2) 4, c.notZero 5 1, need (1 ≤ c.u16 6 && c.u16 6 ≤ 1023) 6, need (c.u64 8 % 4096 == 0) 8,
               need (c.u64 16 % 4096 == 0) 16, need (c.u8 4 == 0 || c.u64 24 % 8 == 0) 24, need (10 ≤ c.u16 32) 32,
               c.notZero 34 2] s (fun s =>
      if s.chOpen i then s.fail m stWrongState
      else
        let s1 := ((((s.wri STRM_CH_CFG_req_k i (c.u8 1)).wri STRM_CH_CFG_cpl_k i (c.u8 2)).wri STRM_CH_CFG_profile i
          (c.u8 3)).wri STRM_CH_CFG_wb_en i (c.u8 4)).wri STRM_CH_CFG_deg_rate i (c.u16 6)
        let s2 := ((s1.wri STRM_CH_TMO_fetch_ms i (c.u16 32)).wr64 STRM_CH_REQ_LO_lo STRM_CH_REQ_HI_hi i (c.u64 8)).wr64
          STRM_CH_CPL_LO_lo STRM_CH_CPL_HI_hi i (c.u64 16)
        let s3 := if c.u8 4 = 1 then s2.wr64 STRM_CH_WB_LO_lo STRM_CH_WB_HI_hi i (c.u64 24) else s2
        ((s3.cfgWritten (chRegs i (c.u8 4 == 1))).openChan i).okResp m []))

/-- STREAM.CLOSE (0x0B02, R538). -/
def execStreamClose (m : Mb) (s : State) : Out :=
  runCmd m 0x0B02 s (fun c s =>
    checked m [need (c.u8 0 < 16) 0] s (fun s =>
      if s.chOpen (c.u8 0) && !(s.chan (c.u8 0)).closing then (s.wait m).closeChan (c.u8 0) (some m)
      else s.fail m stNotFound))

/-- STREAM.RESUME (0x0B03, R532). -/
def execStreamResume (m : Mb) (s : State) : Out :=
  runCmd m 0x0B03 s (fun c s =>
    checked m [need (c.u8 0 < 16) 0] s (fun s =>
      if s.resumable (c.u8 0) then
        (s.resumeChan (c.u8 0)).okResp m (leBytes 1 (s.rdi STRM_CH_STATUS_halt_reason (c.u8 0)))
      else s.fail m stWrongState))

/-- STREAM.QUERY (0x0B04). -/
def execStreamQuery (m : Mb) (s : State) : Out :=
  runCmd m 0x0B04 s (fun c s =>
    checked m [need (c.u8 0 < 16) 0] s (fun s =>
      let b := 0xE100 + 0x40 * c.u8 0
      s.okResp m (leBytes 4 (s.rawReg (b + 0x28)) ++ leBytes 4 (s.rawReg (b + 0x20)) ++ leBytes 4 (s.rawReg (b + 0x24)) ++
        leBytes 1 (s.rdi STRM_CH_CFG_profile (c.u8 0)) ++ leBytes 3 0)))

/-- STRM_CH_EN_SET: en set opens the channel when every field is in range, the addresses are aligned and the profile has a
GUARD lookup (R540). -/
def execStrmChEnSet (c : Fin 16) (w : RegWord) (s : State) : Out :=
  let off := 0xE118 + 0x40 * c.val
  ok (s.regOp off w (fun s =>
    let i := c.val
    let kOk (k : Nat) : Bool := 4 ≤ k && k ≤ 12
    if fieldOf w STRM_CH_CFG_en = 0 then s
    else if s.chOpen i then s.badWrite
    else if kOk (fieldOf w STRM_CH_CFG_req_k) && kOk (fieldOf w STRM_CH_CFG_cpl_k) &&
        1 ≤ fieldOf w STRM_CH_CFG_deg_rate && s.streamProfile (fieldOf w STRM_CH_CFG_profile) &&
        10 ≤ s.rdi STRM_CH_TMO_fetch_ms i && s.rdi STRM_CH_REQ_LO_lo i % 4096 == 0 &&
        s.rdi STRM_CH_CPL_LO_lo i % 4096 == 0 && (fieldOf w STRM_CH_CFG_wb_en == 0 || s.rdi STRM_CH_WB_LO_lo i % 8 == 0) then
      (s.wrRW off w).openChan i
    else s.badWrite))

/-- STRM_CH_EN_CLEAR: en cleared acts as STREAM.CLOSE. -/
def execStrmChEnClear (c : Fin 16) (w : RegWord) (s : State) : Out :=
  ok (s.regOp (0xE118 + 0x40 * c.val) w (fun s =>
    if fieldOf w STRM_CH_CFG_en = 1 ∨ ¬ s.chOpen c.val then s
    else
      let t := s.sizesListed w STRM_CH_CFG_req_k STRM_CH_CFG_cpl_k
      if (s.chan c.val).closing then t else t.closeChan c.val none))

/-- STRM_CH_RESUME_WRITE: resume acts as STREAM.RESUME. -/
def execStrmChResumeWrite (c : Fin 16) (w : RegWord) (s : State) : Out :=
  ok (s.regOp (0xE128 + 0x40 * c.val) w (fun s =>
    if fieldOf w STRM_CH_STATUS_resume = 0 then s
    else if s.resumable c.val then s.resumeChan c.val else s.badWrite))

end Sys2Proof.Machine
end

