-- ==== Sys2Proof/Machine/Guard.lean ====
section
/-! DEFINITION. The tag bus, certificates and authentication, the guard contexts, and rule sets (R546 to R561, R567 to
R586). -/

namespace Sys2Proof.Machine
open Reg

/-! ### Tags -/

/-- What the guard core keeps of the tag of slot `p`. -/
def State.tag (s : State) (p : Nat) : TagState := s.guard.tags.getD p TagState.empty

/-- The tag state of slot `p` changed. -/
def State.updTag (s : State) (p : Nat) (f : TagState → TagState) : State :=
  { s with guard := { s.guard with tags := listSet s.guard.tags p (f (s.tag p)) } }

/-- The guard core runs firmware, and is not halted (R666). -/
def State.guardUp (s : State) : Bool := s.rd SEC_STATUS_guard_running == 1
def State.guardRuns (s : State) : Bool := s.guardUp && s.rd DBG_HALT_grd_halt == 0

/-- The tag bus of slot `p` enabled or released (R547). -/
def State.setBus (s : State) (p : Nat) (on : Bool) : State :=
  if on then s.wri TAG_STATUS_enabled p 1
  else (((s.wri TAG_STATUS_enabled p 0).wri TAG_STATUS_busy p 0).wri TAG_STATUS_present p 0).updTag p
    (fun _ => TagState.empty)

/-- A transaction runs on the tag bus of slot `p` (R548). -/
def State.runTag (s : State) (p : Nat) (r : TagRun) : State :=
  ((s.updTag p (fun t => { t with run := some r })).wri TAG_STATUS_busy p 1).wri TAG_STATUS_last_cmd p r.cmd

/-- The mailbox of the GUARD.TAG_XFER whose transaction runs on the tag bus of slot `p`. -/
def State.xferMb (s : State) (p : Nat) : Option Mb := (s.tag p).run.bind (fun r => r.xfer.map (·.1))

/-- The commands that the tag bus of slot `p` serves: a GUARD.TAG_XFER, and the GUARD.REAUTH that wait for its tag. -/
def State.tagMbs (s : State) (p : Nat) : List Mb :=
  (s.xferMb p).toList ++ (match (s.tag p).auth with | some a => a.mbs | none => [])

/-- A transaction starts on the tag bus of slot `p`; the guard core's own waits for the end of a GUARD.TAG_XFER's. -/
def State.startTag (s : State) (p cmd : Nat) (payload : List Byte) (xfer : Option (Mb × (Nat × Nat))) : State :=
  let r : TagRun := { cmd := cmd, payload := payload, tries := 0, xfer := xfer }
  if xfer.isNone && (s.xferMb p).isSome then s.updTag p (fun t => { t with next := some r }) else s.runTag p r

/-- Nothing runs on the tag bus of slot `p`, and nothing waits for it. -/
def State.idleTag (s : State) (p : Nat) : State :=
  (s.updTag p (fun t => { t with auth := none, run := none, next := none })).wri TAG_STATUS_busy p 0

/-- The tag bus of slot `p` stays enabled without a transfer: from step 2 of a mount until the slot's power goes (R547). -/
def State.busHeld (s : State) (p : Nat) : Bool :=
  s.slotMounted p || s.slotState p == slUnmounting || ((s.port p).mount.any (fun r => 2 ≤ r.step))

/-- A GUARD.TAG_XFER's transaction leaves the bus: the guard core's own starts, or the bus is released where no mount has
enabled it (R547). -/
def State.xferOver (s : State) (p : Nat) : State :=
  let s1 := (s.updTag p (fun t => { t with run := none, next := none })).wri TAG_STATUS_busy p 0
  match (s.tag p).next with
  | some r => s1.runTag p r
  | none => if s.busHeld p then s1 else s1.wri TAG_STATUS_enabled p 0

/-- The command frame of a transaction: code, payload length, payload and CRC-32 (R549). -/
def TagRun.frame (r : TagRun) : List Byte :=
  let b := leBytes 1 r.cmd ++ leBytes 2 r.payload.length ++ r.payload
  b ++ leBytes 4 (crc32 b)

/-! ### Certificates (R553, R554) -/

/-- The public key of a certificate, and of its subject and issuer serials. -/
def certKey (c : List Byte) : Nat × Nat := (beNat ((c.drop 32).take 32), beNat ((c.drop 64).take 32))
def certSubject (c : List Byte) : Nat := fieldAt c 8 8
def certIssuer (c : List Byte) : Nat := fieldAt c 16 8

/-- The fixed fields of a certificate of a type, and its key a point of the curve (R553, R554). -/
def certForm (c : List Byte) (type : Nat) : Bool :=
  c.length == 192 && fieldAt c 0 4 == 0x54384354 && fieldAt c 4 1 == type && fieldAt c 5 1 == 1 && fieldAt c 6 2 == 0 &&
    fieldAt c 29 3 == 0 && fieldAt c 96 32 == 0 && (type == 3 || type == 4 || fieldAt c 24 4 == 0) &&
    (type == 4 || fieldAt c 28 1 == 0) && ecValid (certKey c).1 (certKey c).2

/-- A certificate issued by another: the issuer's serial, and its signature under the issuer's key. -/
def certIssued (issuer c : List Byte) : Bool :=
  certIssuer c == certSubject issuer &&
    ecdsaVerify (certKey issuer) (sha256 (c.take 128)) (beNat ((c.drop 128).take 32)) (beNat ((c.drop 160).take 32))

/-- The chain of a cartridge against its tag's info record (R554). -/
def State.chainAccepted (s : State) (info chain : List Byte) : Bool :=
  let root := chain.take 192
  let pub := (chain.drop 192).take 192
  let title := (chain.drop 384).take 192
  let tag := (chain.drop 576).take 192
  s.rootCheck root && certForm root 1 && certForm pub 2 && certForm title 3 && certForm tag 4 &&
    certIssued root pub && certIssued pub title && certIssued title tag &&
    fieldAt title 24 4 == fieldAt info 4 4 && fieldAt tag 24 4 == fieldAt info 4 4 &&
    certSubject tag == fieldAt info 8 8 && fieldAt tag 28 1 == fieldAt info 18 1

/-- The title certificate's key of the cartridge in slot `p`, with which its header verifies (R505). -/
def State.titleKey (s : State) (p : Nat) : Nat × Nat := certKey (((s.tag p).certs.drop 384).take 192)

/-- The 61 bytes that a tag signs for a challenge (R555). -/
def State.challengeText (s : State) (p : Nat) (nonce : List Byte) : List Byte :=
  ascii "T84-TAG-AUTH" ++ nonce ++ leBytes 8 s.moduleSerial ++ leBytes 1 p ++ leBytes 8 (fieldAt (s.tag p).info 8 8)

/-- The signature of a challenge verifies with the tag certificate's key (R555). -/
def State.signatureAccepted (s : State) (p : Nat) (nonce sig : List Byte) : Bool :=
  ecdsaVerify (certKey (((s.tag p).certs.drop 576).take 192)) (sha256 (s.challengeText p nonce)) (beNat (sig.take 32))
    (beNat ((sig.drop 32).take 32))

/-! ### Guard contexts (R558 to R561) -/

/-- The guard context of slot `p` is cleared, and every key slot bound to the cartridge slot zeroised (R561). -/
def State.clearContext (s : State) (p : Nat) : State :=
  let s1 := (s.slotKeys p).foldl State.zeroise s
  ((((s1.wri SEC_CTX_ctx_valid p 0).wri SEC_CTX_tag_state p 0).wri SEC_CTX_region p 0).wri SEC_CTX_TITLE_title_id p 0)

/-- The fetches held for a reauthentication of slot `p` (R31, R573). -/
def State.heldFetches (s : State) (p : Nat) : List Nat :=
  (s.strm.fetches.filter (fun f => f.stage == .reauth p)).map (·.id)

/-- The seconds since the last authentication of slot `p` while its context stands: SIC edges at 400 MHz since its ply
(R56), and no fewer than REAUTH_DUE has found. -/
def State.authAge (s : State) (p : Nat) : Nat :=
  let kept := s.rdi SEC_CTX_AGE_age_s p
  if s.rdi SEC_CTX_ctx_valid p = 1 then max kept ((s.clk.ply + 2 ^ 64 - (s.tag p).authPly) % 2 ^ 64 / 400000000) else kept

/-- GUARD.SLOT_INFO's 32 response bytes. -/
def State.slotInfo (s : State) (p : Nat) : List Byte :=
  leBytes 1 (s.rdi SEC_CTX_ctx_valid p) ++ leBytes 1 (s.rdi SEC_CTX_fail_reason p) ++ leBytes 1 (s.rdi SEC_CTX_region p) ++
    leBytes 1 (s.rdi SEC_CTX_tag_state p) ++ leBytes 4 (s.rdi SEC_CTX_TITLE_title_id p) ++
    leBytes 4 (s.rdi TAG_SERIAL_LO_serial_lo p) ++ leBytes 4 (s.rdi TAG_SERIAL_HI_serial_hi p) ++
    leBytes 8 (s.tag p).authPly ++ leBytes 4 (s.authAge p) ++ leBytes 1 (s.tag p).keyGen ++ leBytes 3 0

/-- A successful authentication: its ply, its age 0, reauth_due cleared, its count and its event (R558, R571). -/
def State.authOk (s : State) (p : Nat) : State :=
  let s1 := ((s.updTag p (fun t => { t with auth := none, authPly := s.clk.ply })).wri SEC_CTX_PLY_auth_ply p s.clk.ply).wri
    SEC_CTX_AGE_age_s p 0
  (((s1.wri SEC_CTX_tag_state p (s1.rdi SEC_CTX_tag_state p % 8)).wri SEC_CTX_fail_reason p 0).inc
    SEC_AUTH_COUNT_auths).raise SEC_EVENT_auth_ok

/-- A failed authentication: context and keys gone, its reason, its count and its event (R559). -/
def State.authFailed (s : State) (p reason : Nat) : State :=
  let s1 := ((s.updTag p (fun t => { t with auth := none })).clearContext p).wri SEC_CTX_fail_reason p reason
  (({ s1 with guard := { s1.guard with authFails := countUp 32 s1.guard.authFails } } : State).inc
    SEC_AUTH_COUNT_auth_fails).raise SEC_EVENT_auth_fail

/-- The guard context of slot `p` set from its tag (R558): the unwrapped title key, the catalog key, and the save keys when
a header is known. -/
def State.setContext (s : State) (p : Nat) (title : List Byte) (gen : Nat) : State :=
  let info := (s.tag p).info
  let s1 := (((s.wri SEC_CTX_ctx_valid p 1).wri SEC_CTX_TITLE_title_id p (fieldAt info 4 4)).wri SEC_CTX_region p
    (fieldAt info 18 1)).wri SEC_CTX_tag_state p (fieldAt info 2 1 % 8)
  let s2 := ((s1.updTag p (fun t => { t with keyGen := gen })).putKey (titleSlot p) title p 0 0
    (s.keyBad deviceSlot)).deriveCatalog p
  if (s.port p).header.isEmpty then s2 else s2.deriveSaves p

/-! ### Authentication -/

/-- The READ_CERTS transaction from an offset (R550). -/
def State.askCerts (s : State) (p : Nat) (got : List Byte) : State :=
  let o := got.length
  (s.updTag p (fun t => { t with auth := t.auth.map (fun a => { a with stage := .certs got }) })).startTag p 2
    (leBytes 2 o ++ leBytes 2 (min 512 (768 - o))) none

/-- The CHALLENGE transaction with a fresh nonce (R555). -/
def State.askChallenge (s : State) (p : Nat) : State :=
  let n := leBytes 32 (Config.nonce s.free).toNat
  (s.nextFree.updTag p (fun t =>
    { t with auth := t.auth.map (fun a => { a with stage := .challenge, nonce := n, polls := 0 }) })).startTag p 3 n none

/-- An authentication of slot `p` begins: from GET_INFO, from READ_CERTS when the info record is known, or by challenge
alone (R558, R573). -/
def State.startAuth (s : State) (p : Nat) (why : AuthWhy) (mbs : List Mb) : State :=
  let a : AuthRun := { why := why, mbs := mbs, stage := .info, nonce := [], polls := 0
                       lock := s.rd OTP_STATUS_debug_lock == 1 }
  let s1 := s.updTag p (fun t => { t with auth := some a })
  if why = .again then s1.askChallenge p
  else if (s.tag p).info.isEmpty then s1.startTag p 1 [] none
  else s1.askCerts p []

/-- A reauthentication of slot `p` runs, or starts now; a command that asks for it waits with it (R573). -/
def State.startReauth (s : State) (p : Nat) (mbs : List Mb) : State :=
  match (s.tag p).auth with
  | some _ => s.updTag p (fun t => { t with auth := t.auth.map (fun a => { a with mbs := a.mbs ++ mbs }) })
  | none => s.startAuth p .again mbs

/-- A challenge has succeeded again: each held fetch's search is submitted once more, and the commands complete (R573). -/
def State.reauthOk (s : State) (p : Nat) (mbs : List Mb) : State :=
  let s1 := s.authOk p
  let s2 := (s.heldFetches p).foldl (fun s id => s.updFetch id (fun f => { f with stage := .offered, again := true })) s1
  mbs.foldl (fun s m => s.okResp m (s.slotInfo p)) s2

/-- The fetches and commands that wait for a failed authentication of slot `p` end DENIED (R31, R574). -/
def State.denyHeld (s : State) (p : Nat) (mbs : List Mb) : State :=
  mbs.foldl (fun s m => s.fail m stDenied) ((s.heldFetches p).foldl (fun s id => s.endFetch id stDenied) s)

/-- A reauthentication has failed (R574): the effects of R559 with reason 6, every held fetch DENIED. -/
def State.reauthFailed (s : State) (p : Nat) (mbs : List Mb) : State :=
  ((s.authFailed p 6).raise SEC_EVENT_reauth_fail).denyHeld p mbs

/-- The record that the guard core uses: the first of its key generation and title (R556). -/
def pickRecord (gen title : Nat) (rs : List Byte) : Option (List Byte) :=
  ((List.range (rs.length / 64)).map (fun i => (rs.drop (64 * i)).take 64)).find?
    (fun r => fieldAt r 0 1 == gen && fieldAt r 4 4 == title)

/-- The device key is there for a key generation (R557, R676). -/
def State.devicePresent (s : State) (gen : Nat) (lock : Bool) : Bool := s.keyValid deviceSlot && (lock || gen == 0)

/-- What an authentication makes of a response: it waits for another transaction, has ended well, or has failed. -/
inductive AuthNext where
  | more (s : State)
  | good (s : State)
  | bad (reason : Nat)

/-- An authentication meets the response of its transaction: status byte and payload (R552, R554 to R558). -/
def State.authMeets (s : State) (p : Nat) (a : AuthRun) (st : Nat) (d : List Byte) : AuthNext :=
  match a.stage with
  | .info => if st = 0 ∧ d.length = 32 then .more (s.askCerts p []) else .bad 1
  | .certs got =>
    if st ≠ 0 then .bad 1
    else if d.length ≠ min 512 (768 - got.length) then .bad 2
    else
      let all := got ++ d
      if all.length < 768 then .more (s.askCerts p all)
      else if s.chainAccepted (s.tag p).info all then
        .more ((s.updTag p (fun t => { t with certs := all })).askChallenge p)
      else .bad 2
  | .challenge =>
    if st = 1 then .more (s.updTag p (fun t => { t with auth := some { a with stage := .pause } })) else .bad 1
  | .pause => .more s
  | .poll =>
    if st = 1 then
      if a.polls < 100 then
        .more (s.updTag p (fun t => { t with auth := some { a with stage := .pause } }))
      else .bad 1
    else if st = 0 ∧ d.length = 64 then
      if s.signatureAccepted p a.nonce d then
        if a.why = .again then .good s
        else .more ((s.updTag p (fun t => { t with auth := some { a with stage := .keys } })).startTag p 4 [] none)
      else .bad 3
    else .bad 1
  | .keys =>
    if st ≠ 0 then .bad 1
    else
      match pickRecord s.keyGen (fieldAt (s.tag p).info 4 4) d with
      | none => .bad 4
      | some r =>
        let s := s.needDevice
        if !s.devicePresent s.keyGen a.lock then .bad 4
        else match unwrapTitle (s.keyBytes deviceSlot) r with
          | none => .bad 5
          | some k => .good ((s.setContext p k s.keyGen).updTag p (fun t => { t with wrapped := r }))

/-! ### Rule sets (R575 to R580, R586) -/

/-- The record count of an image, as its header says. -/
def ruleCount (b : List Byte) : Nat := fieldAt b 6 2

/-- Record `i` of an image. -/
def ruleRecord (b : List Byte) (i : Nat) : List Byte := (b.drop (64 + 48 * i)).take 48

/-- The header and every record hold their fixed values, and the length is that of the count (R575). -/
def ruleFormat (b : List Byte) : Bool :=
  let n := ruleCount b
  fieldAt b 0 4 == 0x54385253 && fieldAt b 4 2 == 1 && 1 ≤ n && n ≤ 8192 && fieldAt b 12 52 == 0 &&
    b.length == 64 + 48 * n + 448 &&
    (List.range n).all (fun i => fieldAt (ruleRecord b i) 44 1 ≤ 3 && fieldAt (ruleRecord b i) 45 3 == 0)

/-- The first check of R576 that an image fails: 1 format, 2 certificates, 3 signature, 4 serial; 0 when it is accepted. A guard
core reset leaves no rule set in force (R583), and then no serial is too low. -/
def State.ruleReject (s : State) (b : List Byte) : Nat :=
  if !ruleFormat b then 1
  else
    let n := ruleCount b
    let body := b.take (64 + 48 * n)
    let root := (b.drop (64 + 48 * n)).take 192
    let rules := (b.drop (256 + 48 * n)).take 192
    let sig := (b.drop (448 + 48 * n)).take 64
    if !(s.rootCheck root && certForm root 1 && certForm rules 5 && certIssued root rules) then 2
    else if !ecdsaVerify (certKey rules) (sha256 body) (beNat (sig.take 32)) (beNat (sig.drop 32)) then 3
    else if s.rd SEC_STATUS_rules_loaded = 1 ∧ fieldAt b 8 4 < s.rd SEC_RULES_rule_serial then 4 else 0

/-- The first block of the staging half (R570). -/
def State.stagingBlock (s : State) : Nat := if s.tbl.guardLive = 0 then 252 else 248

/-- Record `i` as an entry of the staging half (R577): its result word holds the action and the rule_id (R569). -/
def State.ruleEntry (s : State) (b : List Byte) (i : Nat) : UpdOp :=
  let r := ruleRecord b i
  .guardWrite (4096 * s.stagingBlock + 2 * i) (fieldAt r 40 2) (fieldAt r 44 1 + fieldAt r 42 2 * 2 ^ 16) (r.take 20)
    ((r.drop 20).take 20)

/-- The guard core writes the records that a part has completed (R577, R580); `old` bytes were there before. -/
def State.writeRules (s : State) (b : List Byte) (old : Nat) : State :=
  let n := min (ruleCount b) 8192
  let have_ (len : Nat) : Nat := if len < 64 then 0 else min n ((len - 64) / 48)
  let first : List UpdOp := if old = 0 then [.guardClear (1 - s.tbl.guardLive)] else []
  let news := ((List.range (have_ b.length)).drop (have_ old)).map (s.ruleEntry b)
  { s with tbl := { s.tbl with guardQ := s.tbl.guardQ ++ first ++ news } }

/-- The open load is discarded. -/
def State.dropLoad (s : State) : State :=
  ({ s with guard := { s.guard with load := none } } : State).wr SEC_STATUS_load_open 0

/-- GUARD.RULES_LOAD with bytes `d` of a part: 16 response bytes with the bytes received and state 0 while more is
expected. -/
def State.loadMore (s : State) (m : Mb) (n : Nat) : State :=
  s.okResp m (leBytes 4 n ++ leBytes 1 0 ++ leBytes 3 0 ++ leBytes 8 0)

/-- The image is complete: checked (R576), and when it is accepted the castling waits for its writes and for a pending
host castling (R577, R578). -/
def State.endLoad (s : State) (m : Mb) (l : RuleLoad) : State :=
  let why := s.ruleReject l.bytes
  let t := s.dropLoad
  if why ≠ 0 then ((t.wr SEC_RULE_INFO_last_reject why).raise SEC_EVENT_rules_rejected).fail m stDenied
  else (({ t with guard := { t.guard with due := some { l with mb := some m } } } : State).setGuardCastle true).wait m

/-- The bytes of the open load are written to the staging half as it now is: while a guard castling is pending none of them is. -/
def State.resumeLoad (s : State) : State :=
  match s.guard.load with
  | some l => s.writeRules l.bytes 0
  | none => s

/-- GUARD.RULES_LOAD (0x0C02, R586). While a guard castling is pending, a part is kept and written after it, and the part that
completes an image waits for it (R578; log entry 162). -/
def execGuardRulesLoad (m : Mb) (s : State) : Out :=
  if !s.guardRuns then ok s
  else
    runCmd m 0x0C02 s (fun c s =>
      let r := c.ref 0
      let off := c.u32 8
      let total := c.u32 12
      checked m [c.refCheck 0] s (fun s =>
        if s.refPoison r then s.fail m stPoisoned
        else
          let fits : Bool := off == 0 ||
            (match s.guard.load with | some l => l.bytes.length == off && l.total == total | none => false)
          let old : List Byte := if off = 0 then [] else match s.guard.load with | some l => l.bytes | none => []
          if !fits then s.dropLoad.badParam m 8
          else if total < off + r.2 then s.dropLoad.badParam m 12
          else if s.tbl.guardCastle && off + r.2 == total then s
          else
            let l : RuleLoad := { total := total, bytes := old ++ s.refBytes r, mb := none }
            let s1 := ({ s with guard := { s.guard with load := some l } } : State).wr SEC_STATUS_load_open 1
            let s2 := if s.tbl.guardCastle then s1 else s1.writeRules l.bytes old.length
            if l.bytes.length = total then s2.endLoad m l else s2.loadMore m l.bytes.length))

/-- The rule set of an accepted image enters service on the present ply (R577, R579). -/
def State.rulesInForce (s : State) (l : RuleLoad) : State :=
  let half := 1 - s.tbl.guardLive
  let s0 := s.setGuardCastle false
  let s1 : State := { s0 with
    tbl := { s0.tbl with guardLive := half }
    guard := { s.guard with due := none, rulePly := s.clk.ply } }
  let s2 := ((((s1.wr SEC_STATUS_live_half half).wr SEC_STATUS_rules_loaded 1).wr SEC_STATUS_guard_ready 1).wr
    SEC_RULES_rule_serial (fieldAt l.bytes 8 4)).wr SEC_RULE_INFO_rule_count (ruleCount l.bytes)
  let s3 := ((s2.resumeLoad.wr SEC_RULE_PLY_rule_ply s.clk.ply).inc TCAM_CASTLE_COUNT_castlings).raise SEC_EVENT_rules_loaded
  match l.mb with
  | some m => s3.okResp m (leBytes 4 l.total ++ leBytes 1 1 ++ leBytes 3 0 ++ leBytes 8 s.clk.ply)
  | none => s3

/-- GUARD_CASTLING_COMMIT: the guard castling commits on a ply of its own, once its entries are written and no host
castling stands before it (R577, R578). -/
def execGuardCastlingCommit (s : State) : Out :=
  match s.guard.due with
  | some l =>
    if s.tbl.guardCastle && s.tbl.guardQ.isEmpty && s.tbl.castle.all (·.behind) && s.portFree then
      ok ((s.rulesInForce l).usePly)
    else ok s
  | none => ok s

/-! ### GUARD commands -/

/-- A GUARD command; it waits in its mailbox while the guard core does not run (R269). -/
def guardCmd (m : Mb) (op : Nat) (s : State) (body : Cmd → State → State) : Out :=
  if s.guardRuns then runCmd m op s body else ok s

/-- GUARD.QUERY (0x0C01). -/
def execGuardQuery (m : Mb) (s : State) : Out :=
  guardCmd m 0x0C01 s (fun _ s =>
    s.okResp m (leBytes 4 (s.rawReg 0x10000) ++ leBytes 4 (s.rd SEC_RULES_rule_serial) ++
      leBytes 2 (s.rd SEC_RULE_INFO_rule_count) ++ leBytes 1 (s.rd SEC_RULE_INFO_last_reject) ++ leBytes 1 0 ++
      leBytes 8 s.guard.rulePly ++ leBytes 2 (s.rd SEC_CFG_reauth_s) ++ leBytes 2 0 ++ leBytes 4 s.guard.derivations ++
      leBytes 4 s.guard.authFails))

/-- GUARD.SLOT_INFO (0x0C03). -/
def execGuardSlotInfo (m : Mb) (s : State) : Out :=
  guardCmd m 0x0C03 s (fun c s =>
    checked m [need (c.u8 0 < 2) 0] s (fun s => s.okResp m (s.slotInfo (c.u8 0))))

/-- GUARD.REAUTH (0x0C04, R573): it completes with the reauthentication. A slot without a context has failed already. -/
def execGuardReauth (m : Mb) (s : State) : Out :=
  guardCmd m 0x0C04 s (fun c s =>
    let p := c.u8 0
    checked m [need (p < 2) 0] s (fun s =>
      if !s.slotMounted p then s.fail m stWrongState
      else if s.rdi SEC_CTX_ctx_valid p = 0 then s.fail m stDenied
      else (s.wait m).startReauth p [m]))

/-- GUARD.KEY_QUERY (0x0C05). -/
def execGuardKeyQuery (m : Mb) (s : State) : Out :=
  guardCmd m 0x0C05 s (fun c s =>
    checked m [need (c.u8 0 < 85) 0, need (1 ≤ c.u8 1 && c.u8 1 ≤ 29 && c.u8 0 + c.u8 1 ≤ 85) 1] s (fun s =>
      s.okResp m ((List.range (c.u8 1)).flatMap (fun i =>
        leBytes 4 (s.rawReg (0x10400 + 8 * (c.u8 0 + i))) ++ leBytes 4 (s.rawReg (0x10404 + 8 * (c.u8 0 + i)))))))

/-- GUARD.CONFIG (0x0C06): the reauthentication period and the event enables; a period of 0 clears reauth_due (R571). -/
def execGuardConfig (m : Mb) (s : State) : Out :=
  guardCmd m 0x0C06 s (fun c s =>
    checked m [need (c.u8 3 < 8) 3] s (fun s =>
      let s1 := (((s.wr SEC_CFG_reauth_s (c.u16 0)).wr SEC_EVENT_EN_event_en (c.u8 2)).wri TAG_EVENT_EN_event_en 0
        (c.u8 3)).wri TAG_EVENT_EN_event_en 1 (c.u8 3)
      let s2 := if c.u16 0 = 0 then
          (List.range 2).foldl (fun s p => s.wri SEC_CTX_tag_state p (s.rdi SEC_CTX_tag_state p % 8)) s1 else s1
      s2.okResp m []))

/-- GUARD.TAG_XFER (0x0C07, R547): one transaction; it waits while another runs on the bus. -/
def execGuardTagXfer (m : Mb) (s : State) : Out :=
  match s.takenCmd m 0x0C07 with
  | some c =>
    if c.u8 0 < 2 && ((s.tag (c.u8 0)).run.isSome || (s.tag (c.u8 0)).auth.isSome) && s.slotState (c.u8 0) != slMounting then
      ok s
    else
      guardCmd m 0x0C07 s (fun c s =>
        let p := c.u8 0
        let k := c.u8 1
        checked m [need (p < 2) 0, need (k == 1 || k == 2 || k == 5) 1, c.notZero 2 2,
                   (if k = 2 then need (1 ≤ c.u16 6 && c.u16 6 ≤ 512) 6 else c.notZero 4 4), c.refCheck 8] s (fun s =>
          if s.rdi SLOT_STATUS_vcc_on p = 0 ∨ s.slotState p = slMounting then s.fail m stWrongState
          else
            ((s.setBus p true).startTag p k (if k = 2 then c.bytes 4 4 else []) (some (m, c.ref 8))).wait m))
  | none => ok s

/-! ### The end of a load, of a reauthentication, and the guard core's restarts -/

/-- REAUTH_DUE: reauth_s has passed since the last authentication of slot `p`; its bit is set once (R571). -/
def execReauthDue (p : Port) (s : State) : Out :=
  let i := portIdx p
  if s.rd SEC_CFG_reauth_s ≠ 0 ∧ s.rdi SEC_CTX_ctx_valid i = 1 ∧ s.rdi SEC_CTX_tag_state i < 8 then
    ok (((s.wri SEC_CTX_tag_state i (s.rdi SEC_CTX_tag_state i + 8)).wri SEC_CTX_AGE_age_s i
      (max (s.rdi SEC_CTX_AGE_age_s i) (s.rd SEC_CFG_reauth_s))).raise SEC_EVENT_reauth_due)
  else ok s

/-- GUARD_CORE_START: the guard core runs firmware again, once both sections are loaded (R632). The device key is loaded
from the OTP (R583), and the tag of each READY or RAW slot is authenticated again (R584). -/
def execGuardCoreStart (s : State) : Out :=
  let loaded : Bool := s.rd PWR_STATE_fw_state == 1 || s.rd PWR_STATE_fw_state == 2
  if s.guardUp || !loaded || s.cores.grdDead then ok s
  else
    let s1 := (s.wr SEC_STATUS_guard_running 1).wr CORE_STATUS_grd_state 2
    ok ((List.range 2).foldl (fun s p =>
      if s.slotMounted p && (s.tag p).auth.isNone then s.startAuth p .restart [] else s) s1.loadDevice)

end Sys2Proof.Machine
end

