-- ==== Sys2Proof/Machine/Firmware.lean ====
section
/-! DEFINITION. Firmware images and the firmware slots of the caddy: what verifies (R630, R631, R647). -/

namespace Sys2Proof.Machine
open Reg

/-- The fixed values of an image header, and the length that it tells (R630). -/
def imageForm (b : List Byte) : Bool :=
  let ctl := recNat b 20 4
  let grd := recNat b 24 4
  recNat b 0 4 == 0x54384657 && recNat b 4 2 == 1 && recNat b 6 2 == 0 &&
    ctl % 64 == 0 && 64 ≤ ctl && ctl ≤ 458752 && grd % 64 == 0 && 64 ≤ grd && grd ≤ 196608 &&
    recNat b 28 4 < ctl && recNat b 32 4 < grd && recNat b 36 92 == 0 && b.length == 128 + ctl + grd + 448

/-- The first check of R631 that an image fails, in the order of R636: 1 format, 2 certificates, 3 signature, 4
security_version. None: it verifies. -/
def State.imageFail (s : State) (b : List Byte) : Option Nat :=
  let body := 128 + recNat b 20 4 + recNat b 24 4
  let root := (b.drop body).take 192
  let fw := (b.drop (body + 192)).take 192
  let sig := (b.drop (body + 384)).take 64
  if !imageForm b then some 1
  else if !(s.rootCheck root && certForm root 1 && certForm fw 6 && certIssued root fw) then some 2
  else if !ecdsaVerify (certKey fw) (sha256 (b.take body)) (beNat (sig.take 32)) (beNat (sig.drop 32)) then some 3
  else if recNat b 16 4 < s.rd OTP_SV_fw_min_sv then some 4
  else none

/-- The slot record of firmware slot `i` (R647). -/
def State.slotRec (s : State) (i : Nat) : List Byte := s.cadGet (cadSlotRec i) 64

/-- Firmware slot `i` is slot 0 and holds what the module left Ouvnuwell with: nothing has changed a byte of its record or image, or
a check bit of one (R781). -/
def State.factorySlot (s : State) (i : Nat) : Bool :=
  i == 0 && s.mem.all (fun c =>
    !(c.1 / regionSize == 0x60 * 4 && factoryAt (c.1 % regionSize)) &&
      !(c.1 / regionSize == 0x60 * 4 + 1 && factoryAt (8 * (c.1 % regionSize))))

/-- The slot record is valid, as the one of the shipped image is (R781; log entry 166). -/
def State.slotValid (s : State) (i : Nat) : Bool :=
  let r := s.slotRec i
  s.factorySlot i || (recNat r 0 1 == 1 && recNat r 60 4 == crc32 (r.take 60) && recNat r 4 4 ≤ 0x100000 &&
    !s.rangePoison sidCaddy (cadSlotRec i) 64)

/-- The image that firmware slot `i` holds. -/
def State.slotImage (s : State) (i : Nat) : List Byte := s.cadGet (cadSlot i) (recNat (s.slotRec i) 4 4)

/-- A word of the slot's image holds poison. -/
def State.slotPoison (s : State) (i : Nat) : Bool :=
  s.slotValid i && recNat (s.slotRec i) 4 4 != 0 && s.rangePoison sidCaddy (cadSlot i) (recNat (s.slotRec i) 4 4)

/-- The image of firmware slot `i` verifies (R631). The shipped image does against the ROM's root and the lowest security version, under
which it left Ouvnuwell (R676, R781; log entry 166). -/
def State.slotVerifies (s : State) (i : Nat) : Bool :=
  (s.factorySlot i && s.rd OTP_STATUS_sec_state == 0 && s.rd OTP_SV_fw_min_sv == 0) ||
    (s.slotValid i && !s.slotPoison i && crc32 (s.slotImage i) == recNat (s.slotRec i) 28 4 &&
      (s.imageFail (s.slotImage i)).isNone)

/-- The slot that the ROM runs under R633, and whether it is the fallback. -/
def State.bootSlot (s : State) : Option (Nat × Bool) :=
  let a := s.activeSlot
  if s.slotVerifies a then some (a, false) else if s.slotVerifies (1 - a) then some (1 - a, true) else none

end Sys2Proof.Machine
end

