-- ==== Sys2Proof/Machine/Wire.lean ====
section
/-! DEFINITION. The lines of the Stavso chain: the windows of a link, the frames as bits, and the frame that each window
carries (R431 to R441, R465), with the crossing FIFOs, and with what a ply of the chain brings by itself (R447, R476). -/

namespace Sys2Proof.Machine
open Reg

/-! ### Words of the fabric (R47 to R53) -/

/-- The words of FIFO `i`. -/
def State.fifo (s : State) (i : Nat) : List FabricWord := s.clk.fifos.getD i []

/-- FIFO `i` holds `l`: its occupancy, and the high-water mark that follows it. -/
def State.setFifo (s : State) (i : Nat) (l : List FabricWord) : State :=
  let s1 : State := { s with clk := { s.clk with fifos := listSet s.clk.fifos i l } }
  (s1.wri CLK_FIFO_STATUS_occupancy i l.length).wri CLK_FIFO_STATUS_high_water i
    (max (s1.rdi CLK_FIFO_STATUS_high_water i) l.length)

/-- The parity of a fabric word passes (R47, R587). -/
def wordPasses (w : FabricWord) : Bool := w.parity == wordCheck (leBytes 8 w.data.toNat)

/-- A word as its producer makes it, with its parity (R47). -/
def produceWord (data : Word) (poison : Bool) (tag : Nat) : FabricWord :=
  { data := data, parity := wordCheck (leBytes 8 data.toNat), poison := poison, tag := tag }

/-- The word that a FIFO delivers: poisoned when its parity fails, else unchanged (R48, R50). -/
def leavingWord (w : FabricWord) : FabricWord := { w with poison := w.poison || !wordPasses w }

/-- What FIFO `i` records of a word that leaves it (R50): a failed parity is counted and reported. DESIGN CHOICE (log entry
129): the report's offset is 0 for every FIFO. -/
def State.fifoLeave (s : State) (i : Nat) (w : FabricWord) : State :=
  if wordPasses w then s
  else
    (((s.addi CLK_FIFO_STATUS_parity_errs i 1).raise CLK_EVENT_fifo_parity)).report
      { sid := 0x75, kind := 5, detector := 0x0A, copies := 1, offset := 0,
        synA := (w.parity ^^^ wordCheck (leBytes 8 w.data.toNat)).toNat, synB := 0, detail := i }

/-- A word passes FIFO `i` at once: the high-water mark sees it, and its parity is checked as it leaves (R50, R53). -/
def State.crossFifo (s : State) (i : Nat) (w : FabricWord) : State :=
  ((s.setFifo i (s.fifo i ++ [w])).setFifo i (s.fifo i)).fifoLeave i w

/-! ### Windows (R431, R434) -/

/-- The chain serves: it is UP, or a link of it is down. -/
def State.chainServes (s : State) : Bool := s.rd CHN_STATUS_state == 2 || s.rd CHN_STATUS_state == 4

/-- The ply of this member in the cycle of eight: it drives its ports from 0 to 3 and samples them from 4 to 7. -/
def State.windowPos (s : State) : Nat := (s.chainPly + 8 - 4 * s.ownAddr % 8) % 8

/-- The ply in the cycle of sixteen forward windows of this member's link. -/
def State.windowPhase (s : State) : Nat := (s.chainPly + 128 - 4 * s.ownAddr % 128) % 128

/-- The present forward window is reserved (R434). -/
def State.windowReserved (s : State) : Bool := s.windowPhase / 8 == 15

/-- This module is the last member of a chain that serves; while it trains its own link it is not yet (R431, R443). -/
def State.isLast (s : State) : Bool := s.chainServes && s.ownAddr + 1 == s.members && !s.chain.training

/-- The present ply ends a window in which this member samples a port; the last member never samples CHAIN_OUT. A module that
holds no role knows no windows (R431; log entry 131). -/
def State.samples (s : State) : LinkSide → Bool
  | .fromUp => s.rd CHN_STATUS_role == 0 || s.windowPos == 7
  | .fromDown => s.rd CHN_STATUS_role == 0 || (s.windowPos == 7 && !s.isLast)

/-- A frame that comes from a side is heard: its window is sampled, and the boundary register has not cut the lands (R431, R773). -/
def State.hears (s : State) (side : LinkSide) : Bool := s.samples side && !s.scanOwns

/-- The members that a search on this member's link reaches: those of the group of the next member, from it on (R450). -/
def State.reachNext (s : State) : Nat := max 1 (groupReach (s.rd CHN_GROUP_MAP_group_map) s.members (s.ownAddr + 1))

/-- The present ply ends the status window of this member's link: the back window that would carry the answer to a search in
the reserved window, 28 plies and 8 for each member reached after that window's first ply (R434, R453). -/
def State.statusWindow (s : State) : Bool := s.windowPhase == (23 + 8 * s.reachNext) % 128

/-- The present ply begins the status window of the link upstream, in which this member sends STATUS (R434, R461). -/
def State.statusSends (s : State) : Bool := s.windowPhase == (16 + 8 * s.groupK) % 128

/-- The chain ply, of which a stamp and a GROUPS packet of another member tell the low 32 bits, has reached a value. -/
def State.plyReached (s : State) (p : Nat) : Bool := (s.chainPly + 2 ^ 32 - p % 2 ^ 32) % 2 ^ 32 < 2 ^ 31

/-! ### Frames as bits (R432 to R441) -/

/-- The low `w` bits of a number exclusive-ored together. -/
def xorBits (w v : Nat) : Bool := (List.range w).foldl (fun b i => b != bitOf v i) false

/-- The frame type in F[2:0] (R435). -/
def frameCode : Frame → Nat
  | .idle => 0
  | .train => 1
  | .search .. => 2
  | .answer _ => 2
  | .token .. => 3
  | .pktHead .. => 4
  | .status .. => 4
  | .pktData .. => 5

/-- F[7:3] (R436 to R441). No rule gives those of IDLE and TOKEN frames: 0 (DESIGN CHOICE, log entry 132). -/
def frameFlags : Frame → Nat
  | .train => 0b10101
  | .search p _ _ => p % 32
  | .answer a => a.status % 16 + 16 * b2n a.poison
  | .status a _ _ _ => a % 32
  | .pktHead d _ _ _ _ _ => d % 32
  | .pktData n _ => n % 32
  | _ => 0

/-- D[123:0] of an ANSWER frame (R438). -/
def answerBody (a : Answer) : Nat :=
  a.result.toNat + a.index % 2 ^ 24 * 2 ^ 64 + a.prio % 2 ^ 16 * 2 ^ 88 + a.winPos % 4 * 2 ^ 104 + a.member % 32 * 2 ^ 106 +
    a.guard % 8 * 2 ^ 111 + a.winType % 4 * 2 ^ 114 + b2n a.parityExcluded * 2 ^ 116 + b2n a.corrected * 2 ^ 117 +
    (a.others.getD 0 0 % 4 + a.others.getD 1 0 % 4 * 4 + a.others.getD 2 0 % 4 * 16) * 2 ^ 118

/-- D[123:0] (R436 to R441). -/
def frameBody : Frame → Nat
  | .idle => 0
  | .train => (List.range 7).foldl (fun n i => n + 0x6A95 * 2 ^ (16 * i)) 0 + 0xA95 * 2 ^ 112
  | .search _ key cls => key.toNat + cls % 256 * 2 ^ 112
  | .answer a => answerBody a
  | .status _ alive fault heat => alive.toNat + fault.toNat * 2 ^ 32 + heat % 8 * 2 ^ 64
  | .token count stamp serial seq =>
    count % 64 + stamp % 2 ^ 32 * 2 ^ 6 + serial % 2 ^ 64 * 2 ^ 38 + seq % 256 * 2 ^ 102
  | .pktHead _ src kind count tag fields =>
    src % 32 + kind % 16 * 2 ^ 5 + count % 4096 * 2 ^ 9 + tag % 65536 * 2 ^ 21 + fields.toNat * 2 ^ 37
  | .pktData _ bytes => leNat (padTo 15 bytes)

/-- chk[3:0] over D[123:0] and F[7:0] (R433). -/
def chkBits (body flags : Nat) : Nat :=
  (List.range 3).foldl (fun n q => n + b2n (xorBits 32 (bitsOf body (32 * q) 32)) * 2 ^ q) 0 +
    8 * b2n (xorBits 28 (bitsOf body 96 28) != xorBits 8 flags)

/-- A frame as the bits of its window. -/
def frameBits (f : Frame) : FrameBits :=
  let flags := frameCode f + 8 * frameFlags f
  { data := BitVec.ofNat 128 (frameBody f + chkBits (frameBody f) flags * 2 ^ 124), flags := BitVec.ofNat 8 flags }

/-- Edge `e` of a window: the levels of the 16 data lines and of the flag line (R432). -/
def frameEdge (b : FrameBits) (e : Nat) : BitVec 16 × Bool := (b.data.extractLsb' (16 * e) 16, b.flags.getLsbD e)

/-- The codes of R435 that are not reserved in a direction: what comes from upstream was sent in a forward window. -/
def typeListed : LinkSide → Nat → Bool
  | .fromUp, c => c ≤ 5
  | .fromDown, c => c ≤ 2 || c == 4

/-- A frame is valid: its check is right and its type is not reserved (R433). -/
def frameValid (b : FrameBits) (side : LinkSide) : Bool :=
  b.data.toNat / 2 ^ 124 == chkBits (b.data.toNat % 2 ^ 124) b.flags.toNat && typeListed side (b.flags.toNat % 8)

/-! ### Packets as frames (R441) -/

/-- The PKT_DATA frames of a payload from sequence number `n` on, 15 bytes each. -/
def dataFrames : Nat → Nat → List Byte → List Frame
  | 0, _, _ => []
  | _, _, [] => []
  | fuel + 1, n, d => .pktData (n % 32) (d.take 15) :: dataFrames fuel (n + 1) (d.drop 15)

/-- The PKT_DATA frames of a packet. -/
def packetData (p : Packet) : List Frame := dataFrames p.payload.length 0 p.payload

/-- The PKT_HEAD frame of a packet. -/
def packetHead (p : Packet) : Frame := .pktHead p.dst p.src p.kind (packetData p).length p.tag p.fields

/-- The precedence of a packet, least first (R465). -/
def pktClass (k : Nat) : Nat :=
  if k = 7 ∨ k = 8 then 0 else if k = 3 then 2 else if k = 4 ∨ k = 5 ∨ k = 6 then 3 else 1

/-- The first class of R465 that waits. -/
def firstClass (l : List Packet) : Nat := l.foldl (fun n p => min n (pktClass p.kind)) 3

/-! ### What the next window carries (R465) -/

/-- The frame that waits in the forward list and may go in the present window: a SEARCH frame first, then the token, which
is stamped now (R440). -/
def State.waitingFrame (s : State) : Option (Frame × State) :=
  let rest (i : Nat) : State := { s with chain := { s.chain with fwd := s.chain.fwd.eraseIdx i } }
  match s.chain.fwd.findIdx? (fun f => frameCode f == 2 && !s.windowReserved), s.chain.fwd.findIdx? (fun f => frameCode f == 3) with
  | some i, _ => (s.chain.fwd[i]?).map (fun f => (f, rest i))
  | none, some i => (s.chain.fwd[i]?).map (fun f =>
      ((match f with | .token n _ serial seq => .token n (s.chainPly % 2 ^ 32) serial seq | f => f), rest i))
  | none, none => none

/-- The next frame of the packets: the packet under way is finished, then the oldest of the first class that waits. -/
def State.packetFrame (s : State) : Frame × State :=
  match s.chain.sending with
  | f :: fs => (f, { s with chain := { s.chain with sending := fs } })
  | [] =>
    match s.chain.tx.find? (fun p => pktClass p.kind == firstClass s.chain.tx) with
    | none => (.idle, s)
    | some p => (packetHead p, { s with chain := { s.chain with tx := s.chain.tx.erase p, sending := packetData p } })

/-- The frame of the forward window that begins, and the state without it. -/
def State.forwardFrame (s : State) : Frame × State :=
  match s.waitingFrame with
  | some r => r
  | none => if s.chain.training then (.train, s) else s.packetFrame

/-- A forward window begins on a ply in which this member drives CHAIN_OUT (R431); its frame comes through CHN_EGR (R53). -/
def State.windowForward (s : State) : State :=
  if s.rd CHN_LINK_OUT_driving = 1 ∧ s.windowPos = 0 then
    let r := s.forwardFrame
    let b := frameBits r.1
    let word (k : Nat) : FabricWord := produceWord (b.data.extractLsb' (64 * k) 64) false 0
    ((({ r.2 with chain := { r.2.chain with line := some b } } : State).crossFifo 9 (word 0)).crossFifo 9 (word 1))
  else s

/-- The fault bit of this member: either of its links is down (R461). -/
def State.linkFault (s : State) : Bool :=
  s.rd CHN_LINK_IN_in_ok == 0 || (s.rd CHN_LINK_OUT_driving == 1 && s.rd CHN_LINK_OUT_back_ok == 0)

/-- The next member belongs to this member's group. -/
def State.nextInGroup (s : State) : Bool :=
  s.ownAddr + 1 < s.members && !bitOf (s.rd CHN_GROUP_MAP_group_map) (s.ownAddr + 1)

/-- The alive mask, the fault mask and the heat level that this member makes of a STATUS frame from downstream (R461). -/
def State.statusOf (s : State) (d : StatusIn) : Nat × Nat × Nat :=
  let own := s.rd THM_STATUS_level
  (d.alive.toNat ||| 2 ^ s.ownAddr, if s.linkFault then d.fault.toNat ||| 2 ^ s.ownAddr else d.fault.toNat,
    if s.nextInGroup then max own d.heat.toNat else own)

/-- The member's own STATUS in its registers. -/
def State.putStatus (s : State) (d : StatusIn) : State :=
  ((s.wr CHN_ALIVE_alive (s.statusOf d).1).wr CHN_FAULT_fault (s.statusOf d).2.1).wr CHN_GROUP_group_level (s.statusOf d).2.2

/-- The STATUS frame that this member starts from: an empty one at the deepest member and while the downstream link is down
(R461). -/
def State.statusBase (s : State) : StatusIn :=
  if s.isLast || s.rd CHN_LINK_OUT_back_ok == 0 then StatusIn.empty else s.chain.statusIn

/-- The STATUS frame that this member sends (R439, R461). -/
def State.statusFrame (s : State) : Frame :=
  let x := s.statusOf s.statusBase
  .status s.ownAddr (BitVec.ofNat 32 x.1) (BitVec.ofNat 32 x.2.1) x.2.2

/-- A back window begins: a follower sends STATUS in the status window of its upstream link, else what waits, or IDLE; any other
module drives CHAIN_IN only to answer TRAIN (R431, R443, R461; log entry 92). -/
def State.windowBack (s : State) : State :=
  let rest : State := { s with chain := { s.chain with back := s.chain.back.drop 1 } }
  let send (f : Frame) : State := { rest with chain := { rest.chain with lineBack := some (frameBits f) } }
  if s.isFollower then
    (if s.windowPos = 0 then
      (if s.chainServes && s.statusSends then
        let t := s.putStatus s.statusBase
        { t with chain := { t.chain with lineBack := some (frameBits s.statusFrame) } }
      else send (s.chain.back.head?.getD .idle))
    else s)
  else match s.chain.back with
    | .train :: _ => if s.rd CHN_STATUS_role = 0 ∨ s.windowPos = 0 then send .train else s
    | _ => s

/-! ### What a ply brings -/

/-- A head drives the strobe and TRAIN frames; the back-sampling phase is set anew (R443 step 1). -/
def State.driveTrain (s : State) : State :=
  let s1 : State := { s with chain := { s.chain with training := true, startAt := none, badIn := 0, badOut := 0 } }
  ((s1.wr CHN_LINK_OUT_driving 1).wr CHN_LINK_OUT_back_ok 0).wr CHN_LINK_OUT_back_phase 0

/-- A GROUPS packet waits for its windows. -/
def State.groupsUnsent (s : State) : Bool :=
  s.rd CHN_LINK_OUT_driving == 1 && (!s.chain.sending.isEmpty || s.chain.tx.any (fun p => p.kind == 8))

/-- The delay of R447 is over: step 1 of the enumeration begins. DEDUCED (log entry 181): it waits until a GROUPS packet has gone, whose
lead TRAIN frames would take away (R476). -/
def State.startDue (s : State) : State :=
  match s.chain.startAt with
  | some p => if p ≤ s.clk.ply ∧ s.groupsUnsent = false then s.driveTrain else s
  | none => s

/-- The group maps whose commit chain ply has come take effect (R476). -/
def State.commitGroups (s : State) : State :=
  let due := s.chain.groupsPend.filter (fun g => s.plyReached g.2)
  due.foldl (fun s g => (s.wr CHN_GROUP_MAP_group_map g.1).raise CHN_EVENT_groups_commit)
    ({ s with chain := { s.chain with groupsPend := s.chain.groupsPend.filter (fun g => !s.plyReached g.2) } } : State)

end Sys2Proof.Machine
end

