-- ==== Sys2Proof/Machine/Clock.lean ====
section
/-! DEFINITION. Time without clocks: the canary, the margin controller, the crossing FIFOs, the arbiters and the islands
(chapter *Time without clocks*). -/

namespace Sys2Proof.Machine
open Reg

/-! ### The canary and the margin controller -/

/-- The rails of the core are up: every state but OFF and STANDBY. -/
def State.powered (s : State) : Bool := s.phase != .off && s.phase != .standby

/-- A signed six-bit field as an integer. -/
def signed6 (v : Nat) : Int := if v < 32 then (v : Int) else (v : Int) - 64

/-- margin_code set, with the rail voltage that follows from it (R64). -/
def State.setCode (s : State) (code : Nat) : State :=
  (s.wr CLK_MARGIN_STATUS_margin_code code).wr CLK_MARGIN_STATUS_rail_mv (620 + 5 * code)

/-- Slack of a measurement: the budget of 1,016 taps less the measured taps and the calibration; a negative result is
held as 0 (R61). -/
def slackOf (taps : Nat) (cal : Int) : Nat := (1016 - ((taps : Int) + cal)).toNat

/-- The code after one action of the table under *The canary and the margin controller* (R63), raised to
margin_code_min in one move when it lies below (R88), and never above 56 (R64). DESIGN CHOICE (log entry 128): where the
action of R63 raises a code past the minimum that R88 raises it to, the larger one is taken. -/
def nextCode (code slack : Nat) (c : CanaryRun) : Nat :=
  let stepped :=
    if slack < c.floor then min 56 (code + 4)
    else if slack + c.hyst < c.target then min 56 (code + 1)
    else if c.target + c.hyst < slack then code - 1
    else code
  max c.minCode stepped

/-- A slack measured: the last, the least and the greatest are kept, and the canary has returned. -/
def State.noteSlack (s : State) (slack : Nat) : State :=
  let s1 := ((s.wr CLK_CANARY_slack_last slack).wr CLK_CANARY_MM_slack_min
    (min (s.rd CLK_CANARY_MM_slack_min) slack)).wr CLK_CANARY_MM_slack_max (max (s.rd CLK_CANARY_MM_slack_max) slack)
  { s1 with clk := { s1.clk with
    canary := none
    measurePly := s1.clk.ply
    slackMinStart := min s1.clk.slackMinStart slack
    slackMaxStart := max s1.clk.slackMaxStart slack } }

/-- The margin code moved from `code` to `code'`, and the move counted. -/
def State.stepCode (s : State) (code code' : Nat) : State :=
  let s1 := s.setCode code'
  if code < code' then s1.inc CLK_MARGIN_STEPS_steps_up
  else if code' < code then s1.inc CLK_MARGIN_STEPS_steps_down else s1

/-- A slack below the floor, counted with its event. -/
def State.noteFloor (s : State) (c : CanaryRun) (slack : Nat) : State :=
  if slack < c.floor then
    ({ s with clk := { s.clk with floorTotal := countUp 32 s.clk.floorTotal } } : State).inc CLK_FLOOR_COUNT_floor_count
      |>.raise CLK_EVENT_canary_floor
  else s

/-- Whether the margin is exhausted after a measurement that began at `code`. -/
def State.noteExhausted (s : State) (code : Nat) (good : Bool) : State :=
  if code = 56 ∧ !good then (s.wr CLK_MARGIN_STATUS_margin_exhausted 1).raise CLK_EVENT_margin_exhausted
  else if good then s.wr CLK_MARGIN_STATUS_margin_exhausted 0 else s

/-- A measurement with a given slack: the slack registers, one action of the margin controller with its counts (R63 to
R66), the floor event, the margin_exhausted bit and event (R67), and the end of the wait of R69. -/
def State.measure (s : State) (c : CanaryRun) (slack : Nat) : State :=
  let code := s.rd CLK_MARGIN_STATUS_margin_code
  let good : Bool := c.target ≤ slack + c.hyst
  let t := (((s.noteSlack slack).stepCode code (nextCode code slack c)).noteFloor c slack).noteExhausted code good
  if good && t.clk.awaitSlack then t.resumeAdmission else t

/-- CANARY_LAUNCH: the first ply of a microsecond. The canary starts with the controller's values in force (R61, R63);
none is launched while the fabric is gated (R115). The admission window of R159 and R462 starts anew. -/
def execCanaryLaunch (s : State) : Out :=
  if !s.powered || s.phase == .start then ok s
  else
    let s1 : State := { s with clk := { s.clk with
      admittedThisUs := 0
      capLevel := s.rd THM_STATUS_level
      capGroup := s.rd CHN_GROUP_group_level
      admCaps := (List.range 4).map (s.rdi THM_LEVEL_adm_cap) } }
    if s1.clk.gated || s1.phase == .doze then ok s1
    else
      let c : CanaryRun :=
        { target := s1.rd CLK_MARGIN_CTRL_canary_target
          hyst := s1.rd CLK_MARGIN_CTRL_canary_hyst
          floor := s1.rd CLK_MARGIN_CTRL_canary_floor
          cal := signed6 (s1.rd CLK_MARGIN_CTRL_canary_cal)
          minCode := s1.rd CLK_MARGIN_LIMIT_margin_code_min }
      ok { s1 with clk := { s1.clk with canary := some c } }

/-- CANARY_MEASUREMENT: the running canary completes after `taps` taps of 1/32 ply. -/
def execCanaryMeasurement (taps : Nat) (s : State) : Out :=
  match s.clk.canary with
  | none => ok s
  | some c => ok (s.measure c (slackOf taps c.cal))

/-- CANARY_MISS: the canary has not completed by the end of the budget: slack 0 and canary_miss (R62). -/
def execCanaryMiss (s : State) : Out :=
  match s.clk.canary with
  | none => ok s
  | some c => ok ((s.measure c 0).raise CLK_EVENT_canary_miss)

/-- MARGIN_QUALIFY_TIMEOUT: no measurement qualified within 64 µs of ungating: code 56, and admission resumes (R69). -/
def execMarginQualifyTimeout (s : State) : Out :=
  if s.clk.awaitSlack then ok (s.setCode 56).resumeAdmission else ok s

/-- In DOZE margin_code is held at margin_code_min, whatever that becomes (R112). -/
def State.holdMargin (s : State) : State :=
  if s.phase = .doze then s.setCode (s.rd CLK_MARGIN_LIMIT_margin_code_min) else s

/-! ### PWR.MARGIN commands -/

/-- PWR.MARGIN_QUERY: its 32 response bytes. -/
def State.marginResp (s : State) : List Byte :=
  leBytes 2 (s.rd CLK_MARGIN_STATUS_rail_mv) ++ leBytes 1 (s.rd CLK_MARGIN_STATUS_margin_code) ++
    leBytes 1 (s.rd CLK_MARGIN_STATUS_margin_exhausted + 2 * b2n s.clk.gated + 4 * b2n (s.claimed 3)) ++
    leBytes 2 (s.rd CLK_CANARY_slack_last) ++ leBytes 2 s.clk.slackMinStart ++ leBytes 2 s.clk.slackMaxStart ++
    leBytes 2 (s.rd CLK_MARGIN_CTRL_canary_target) ++ leBytes 2 (s.rd CLK_MARGIN_CTRL_canary_hyst) ++
    leBytes 2 (s.rd CLK_MARGIN_CTRL_canary_floor) ++ leBytes 4 s.clk.lateTotal ++ leBytes 4 s.clk.floorTotal ++
    leBytes 8 s.clk.measurePly

/-- PWR.MARGIN_QUERY (0x0220). -/
def execPwrMarginQuery (m : Mb) (s : State) : Out := runCmd m 0x0220 s (fun _ s => s.okResp m s.marginResp)

/-- The allowed values of the margin controller (PWR.MARGIN_SET, R86). -/
def marginAllowed (target hyst floor : Nat) : Bool :=
  102 ≤ target && target ≤ 254 && 4 ≤ hyst && hyst ≤ 64 && 26 ≤ floor && floor + hyst + 1 ≤ target

/-- PWR.MARGIN_SET (0x0221): all four values or none (R83, R84); in DOZE margin_code follows its minimum (R112). -/
def execPwrMarginSet (m : Mb) (s : State) : Out :=
  runCmd m 0x0221 s (fun c s =>
    let t := c.u16 0
    let h := c.u16 2
    let f := c.u16 4
    checked m [need (102 ≤ t && t ≤ 254) 0, need (4 ≤ h && h ≤ 64) 2, need (26 ≤ f && f + h + 1 ≤ t) 4,
               need (c.u8 6 ≤ 56) 6, c.notZero 7 1] s (fun s =>
      ((((s.wr CLK_MARGIN_CTRL_canary_target t).wr CLK_MARGIN_CTRL_canary_hyst h).wr CLK_MARGIN_CTRL_canary_floor
        f).wr CLK_MARGIN_LIMIT_margin_code_min (c.u8 6)).holdMargin.okResp m (c.bytes 0 8)))

/-! ### Islands -/

/-- The PLL-driven islands of R52. -/
def islandLock : PllIsland → Fld
  | .sic => CLK_ISL_STATUS_sic_lock
  | .chn => CLK_ISL_STATUS_chn_lock
  | .mda => CLK_ISL_STATUS_mda_run
  | .mdb => CLK_ISL_STATUS_mdb_run
  | .mpu => CLK_ISL_STATUS_mpu_lock

/-- ISLAND_LOST: a PLL-driven island loses lock: its status bit and island_lost (CLK_EVENT). -/
def execIslandLost (isl : PllIsland) (s : State) : Out :=
  if s.powered && s.rd (islandLock isl) == 1 then ok ((s.wr (islandLock isl) 0).raise CLK_EVENT_island_lost) else ok s

/-! ### Crossing FIFOs -/

/-- The word in the stage behind FIFO `i`. -/
def State.stage (s : State) (i : Nat) : Option FabricWord := s.clk.stages.getD i none

/-- The stage behind FIFO `i` set. -/
def State.setStage (s : State) (i : Nat) (w : Option FabricWord) : State :=
  { s with clk := { s.clk with stages := listSet s.clk.stages i w } }

/-- The stage behind FIFO `i` holds the result of a search in flight, which only its delivery takes (R59, R60). -/
def State.capWaits (s : State) (i : Nat) : Bool :=
  i == 7 && s.srch.inFlight.any (fun x => x.arrived && (s.stage 7).any (fun w => w.tag == x.tag))

/-- The oldest word of FIFO `i` passes to the stage behind it once that is free (R49, R50); `lost` holds the data bits that
changed while it was in the FIFO. -/
def State.fifoPass (s : State) (i : Nat) (lost : Word) : State :=
  match s.fifo i, s.stage i with
  | w :: ws, none =>
    let v : FabricWord := { w with data := w.data ^^^ lost }
    ((s.setFifo i ws).setStage i (some (leavingWord v))).fifoLeave i v
  | _, _ => s

/-! ### Arbiters -/

/-- The place of an arbiter in the list that State keeps. -/
def arbIdx : Arbiter → Nat
  | .dmaWrite => 0 | .media .a => 1 | .media .b => 2 | .keySlots => 3 | .caddy => 4 | .bar2 => 5

/-- The requesters of each arbiter (*Clockless mutual exclusion*). -/
def arbServes : Arbiter → Requester → Bool
  | .dmaWrite, .channel _ => true
  | .dmaWrite, .results => true
  | .dmaWrite, .control => true
  | .media _, .channel _ => true
  | .media _, .control => true
  | .keySlots, .guard => true
  | .keySlots, .channel _ => true
  | .caddy, .control => true
  | .caddy, .guard => true
  | .caddy, .journal => true
  | .bar2, .hli => true
  | .bar2, .control => true
  | .bar2, .guard => true
  | _, _ => false

/-- The requests that wait at an arbiter. -/
def State.arb (s : State) (a : Arbiter) : List ArbReq := s.clk.arbiters.getD (arbIdx a) []

/-- The requests at an arbiter set. -/
def State.setArb (s : State) (a : Arbiter) (q : List ArbReq) : State :=
  { s with clk := { s.clk with arbiters := listSet s.clk.arbiters (arbIdx a) q } }

/-- A requester of the arbiter asks and holds its request. -/
def State.arbRequest (s : State) (a : Arbiter) (who : Requester) : State :=
  if !arbServes a who || (s.arb a).any (fun r => r.who == who) then s else s.setArb a (s.arb a ++ [⟨who, []⟩])

/-- A requester is granted, unless another one waits that it was granted before since (R80, R81). -/
def State.arbGrant (s : State) (a : Arbiter) (who : Requester) : State :=
  let q := s.arb a
  if q.any (fun r => r.who == who) && q.all (fun r => r.who == who || !r.passedBy.contains who) then
    s.setArb a ((q.filter (fun r => r.who != who)).map (fun r => { r with passedBy := r.passedBy ++ [who] }))
  else s

/-! ### Transfers -/

/-- A transfer queued towards the host leaves the module (R49): the oldest one first (R211 to R213), a completion through HLI_CPL
and a write or a message through HLI_DW (R53; log entry 156). -/
def State.hostTxPop (s : State) : State :=
  let t : State := { s with host := { s.host with tx := s.host.tx.drop 1 } }
  match s.host.tx with
  | .completion d ep _ :: _ => t.crossFifo 2 (produceWord (BitVec.ofNat 64 (leNat d)) ep 0)
  | .dmaWrite _ d :: _ => t.crossFifo 3 (produceWord (BitVec.ofNat 64 (leNat d)) false 0)
  | .msix v :: _ => t.crossFifo 3 (produceWord (BitVec.ofNat 64 v) false 0)
  | .error _ :: _ => t
  | [] => t

/-- FABRIC_WORD_TRANSFER: one handshake of the fabric. A full FIFO takes no word, an empty one gives none, and a stage holds
one word until it is taken (R49). A transfer for the host leaves, or the next window of the chain begins. -/
def execFabricWordTransfer (mv : FabricMove) (s : State) : Out :=
  match mv with
  | .push i data poison tag =>
    if (s.fifo i.val).length < s.rdi CLK_FIFO_STATUS_depth i.val then
      ok (s.setFifo i.val (s.fifo i.val ++ [produceWord data poison tag]))
    else ok s
  | .pop i lost => ok (s.fifoPass i.val lost)
  | .take i => ok (if s.capWaits i.val then s else s.setStage i.val none)
  | .send => ok s.hostTxPop
  | .forward => ok s.windowForward
  | .back => ok s.windowBack
  | .request a who => ok (s.arbRequest a who)
  | .grant a who => ok (s.arbGrant a who)

/-- FIFO_STALL: the oldest word of FIFO `i` has waited 100 µs (R54). -/
def execFifoStall (i : Fin 24) (s : State) : Out :=
  if (s.fifo i.val).isEmpty then ok s
  else ok ((s.wri CLK_FIFO_STATUS_stall i.val 1).raise CLK_EVENT_fifo_stall)

/-! ### CLK register operations -/

/-- PLY_LO_READ: a host read of CLK_PLY_LO returns the low half of the ply counter and latches the high half. -/
def execPlyLoRead (s : State) : Out :=
  ok ((s.wr CLK_PLY_HI_ply_hi (s.clk.ply / 2 ^ 32)).reply (leBytes 4 s.clk.ply) false .success)

/-- HW_CLR: a 1 in bit i sets the high-water mark of FIFO i to its present occupancy, at both levels (R189). -/
def execHwClr (w : RegWord) (s : State) : Out :=
  let s := s.touchLink
  if s.discards then ok s
  else
    ok ((List.range 24).foldl (fun s i =>
      if bitOf w.toNat i then s.wri CLK_FIFO_STATUS_high_water i (s.rdi CLK_FIFO_STATUS_occupancy i) else s)
      (s.noteReserved 0x3160 w))

end Sys2Proof.Machine
end

