-- ==== Sys2Proof/Machine/Slots.lean ====
section
/-! DEFINITION. Cartridge slots: slot power, insertion, removal, mounting, unmounting and ejecting, and the tag bus's
transactions (R95 to R100, R484 to R495, R546 to R560). -/

namespace Sys2Proof.Machine
open Reg

/-! ### Slot power (R95 to R98) -/

/-- Both switches of slot `p` are open: its fault bit is set when a current limit fault opened them (R96). -/
def State.faultSeen (s : State) (p : Nat) : State :=
  if s.pwr.vccPending.getD p false ∧ s.pwr.slotFault.getD p false then
    s.raise (if p = 0 then PWR_EVENT_slot_fault_a else PWR_EVENT_slot_fault_b)
  else s

/-- VCC of slot `p` switched on. DESIGN CHOICE (log entry 139): a switch-on within the 100 µs of R98 keeps VCC closed, and the
fault bit of a current limit fault is set then. -/
def State.vccOn (s0 : State) (p : Nat) : State :=
  let s := s0.faultSeen p
  let s1 : State := { s with pwr := { s.pwr with vccPending := listSet s.pwr.vccPending p false
                                                 slotFault := listSet s.pwr.slotFault p false } }
  (s1.updPort p (fun x => { x with vccGood := false, vccqGood := false })).wri SLOT_STATUS_vcc_on p 1

/-- The power-good bit of slot `p`: its VCC and VCCQ are both on. VCC opens only after VCCQ (R98). -/
def State.slotPg (s : State) (p : Nat) (on : Bool) : State := s.setBit PWR_RAIL_STATUS_rail_pg 0 (6 + p) on

/-- VCCQ of slot `p` switched on, at 1.2 V or 1.8 V; only once VCC is good (R98). -/
def State.vccqOn (s : State) (p : Nat) (low : Bool) : State :=
  ((s.wri SLOT_STATUS_vccq_1v2 p (b2n low)).wri SLOT_STATUS_vccq_on p 1).slotPg p true

/-- Slot `p` switched off: the ONFI pads and the tag bus are released and VCCQ opens; VCC opens 100 µs later (R98, R490). A
command that the tag bus serves completes with MEDIA_GONE. -/
def State.slotOff (s : State) (p : Nat) : State :=
  let s1 := (((s.wri SLOT_STATUS_vccq_on p 0).wri SLOT_STATUS_vccq_1v2 p 0).wri SLOT_STATUS_rate_mts p 0).wri
    SLOT_STATUS_iface p 0
  let s2 := (((s1.wri SLOT_STATUS_dies p 0).slotPg p false).setBus p false).updPort p
    (fun x => { x with ops := [], dies := [], param := none, header := [], vccGood := false, vccqGood := false })
  let s3 : State := if s.rdi SLOT_STATUS_vcc_on p = 1 then
      { s2 with pwr := { s2.pwr with vccPending := listSet s2.pwr.vccPending p true } }
    else s2
  (s.tagMbs p).foldl (fun s m => s.fail m stMediaGone) s3

/-- VCC of slot `p` opens; the tag bus, which it supplies, ends with it (R547), and a fault's bit is set (R96). -/
def State.vccOpen (s : State) (p : Nat) : State :=
  let t := ((s.setBus p false).wri SLOT_STATUS_vcc_on p 0).faultSeen p
  (s.tagMbs p).foldl (fun s m => s.fail m stMediaGone)
    { t with pwr := { t.pwr with vccPending := listSet t.pwr.vccPending p false } }

/-- SLOT_VCC_DELAYED_OFF: VCC of a slot opens 100 µs after VCCQ (R98). -/
def execSlotVccDelayedOff (p : Port) (s : State) : Out :=
  let i := portIdx p
  if s.pwr.vccPending.getD i false then
    ok (s.vccOpen i)
  else ok s

/-! ### Orphaning (R352, R491) -/

/-- The eject pulse begins: SLOT_EJ_x high (R494). A request during a pulse is served by that pulse (DESIGN CHOICE, log entry
147). -/
def State.beginPulse (s : State) (p : Nat) (m : Option Mb) (ply : Nat) : State :=
  s.updPort p (fun x => { x with pulse := some (x.pulse.getD [] ++ [(m, ply)]) })

/-- The commit of a removal: the tables bound to slot `p` become orphaned, and its guard context goes (R491, R561). -/
def State.commitOrphan (s : State) (p : Nat) : State :=
  let bound := (List.range 63).filter (fun t => s.tblEngine t != 0 && s.tblBind t == p && !s.tblOrphaned t)
  (bound.foldl State.setOrphaned s).dropOrphanCastle.clearContext p

/-- The unmounting of slot `p` asks for its orphaning, which commits behind every one that waits (R493). -/
def State.orphanSlot (s : State) (p : Nat) : State :=
  { s with tbl := { s.tbl with orphans := s.tbl.orphans ++ [{ slot := p, since := s.clk.ply, unmount := true }] } }

/-- An unmounting of slot `p` asks for no orphaning any more. -/
def State.dropUnmount (s : State) (p : Nat) : State :=
  { s with tbl := { s.tbl with orphans := s.tbl.orphans.filter (fun e => !(e.unmount && e.slot == p)) } }

/-- A cartridge is gone: its commit takes the first ply after its recognition, ahead of an unmounting's. Slot A's goes before slot B's
where both are recognised on one ply (R491). -/
def State.orphanGone (s : State) (p : Nat) : State :=
  let t := s.dropUnmount p
  let ahead (e : Orphaning) : Bool := !e.unmount && !(p == 0 && e.slot == 1 && e.since == s.clk.ply)
  { t with tbl := { t.tbl with
    orphans := t.tbl.orphans.filter ahead ++ { slot := p, since := s.clk.ply, unmount := false } ::
      t.tbl.orphans.filter (fun e => !ahead e) } }

/-- An unmounting slot is switched off and enters PRESENT; its command completes, or an eject pulse follows (R493, R494). -/
def State.endUnmount (s : State) (p : Nat) : State :=
  match (s.port p).drain with
  | none => s
  | some d =>
    let s1 := ((s.updPort p (fun x => { x with drain := none })).slotOff p).setSlotState p slPresent
    if d.eject then s1.beginPulse p d.mb s.clk.ply
    else match d.mb with
      | some m => s1.okResp m (leBytes 8 s.clk.ply)
      | none => s1

/-- The orphaning that comes next takes the update port on the present ply, whose search has been admitted (R282, R491). -/
def State.commitOrphans (s : State) : State :=
  match s.tbl.orphans with
  | [] => s
  | e :: es =>
    let t := ({ s with tbl := { s.tbl with orphans := es, lastPly := some s.clk.ply } } : State).commitOrphan e.slot
    if e.unmount then t.endUnmount e.slot else t

/-! ### The end of what runs on a slot -/

/-- A running mount ends: its mount_fail reason and event, and its command's status with the reason in detail (R487). -/
def State.endMount (s : State) (p reason st : Nat) : State :=
  match (s.port p).mount with
  | none => s
  | some r =>
    let s1 := (s.updPort p (fun x => { x with mount := none })).idleTag p
    let s2 := if reason = 0 then s1 else (s1.wri SLOT_STATUS_mount_fail p reason).raisei SLOT_EVENT_mount_fail p
    s2.done r.mb st reason []

/-- The status of a mount_fail reason (R487). -/
def mountStatus (reason : Nat) : Nat :=
  if reason = 3 ∨ reason = 4 ∨ reason = 5 then stWrongState else if 7 ≤ reason then stMediaGone else stDenied

/-- A mount step has failed: the slot is switched off and enters FAULT (R487). -/
def State.mountFailed (s : State) (p reason : Nat) : State :=
  ((s.slotOff p).setSlotState p slFault).endMount p reason (mountStatus reason)

/-- The fetches that read from slot `p`, or wait for its tag or its catalog. -/
def State.slotFetches (s : State) (p : Nat) : List Nat :=
  let walks := (s.learn.walks ++ s.learn.waiting).filter (fun w => w.slot == p)
  (s.strm.fetches.filter (fun f => match f.stage with
    | .media => extSlot (f.desc.getD 0) == p
    | .walking => walks.any (fun w => w.walkers.contains (.fetch f.id))
    | .reauth q => q == p
    | _ => false)).map (·.id)

/-- The walks of slot `p` end without an insert; a LEARN.WALK that waits for one completes with a status. -/
def State.endWalks (s : State) (p st : Nat) : State :=
  let gone (w : Walk) : Bool := w.slot == p
  let mbs := ((s.learn.walks ++ s.learn.waiting).filter gone).flatMap (fun w =>
    w.walkers.filterMap (fun x => match x with | .cmd m => some m | _ => none))
  let s1 : State := { s with learn := { s.learn with
    walks := s.learn.walks.filter (fun w => !gone w), waiting := s.learn.waiting.filter (fun w => !gone w) } }
  State.fillWalks 32 (mbs.eraseDups.foldl (fun s m => if (s.walkCmd m).isSome then (s.dropWalkCmd m).fail m st else s) s1)

/-- Every media command of slot `p` but a mount completes with a status: page commands, save commands, a port reset, an
unmount or eject that drains, a tag transfer and the reauthentications that wait. -/
def State.endSlotCmds (s : State) (p st : Nat) : State :=
  let x := s.port p
  let mbs := x.pageRuns.map (·.mb) ++ x.saves.map (·.mb) ++
    (match x.portReset with | some (some m, _) => [m] | _ => []) ++
    (match x.drain with | some d => d.mb.toList | none => []) ++
    s.tagMbs p
  let s1 := s.updPort p (fun x => { x with ops := [], pageRuns := [], saves := [], portReset := none, drain := none })
  mbs.foldl (fun s m => s.fail m st) (s1.idleTag p)

/-- A register operation that runs at a port ends with an outcome of SLOT_OP_STATUS. -/
def State.endExpert (s : State) (p outcome : Nat) : State :=
  if s.rdi SLOT_OP_STATUS_busy p = 1 then
    (s.wri SLOT_OP_STATUS_busy p 0).wri SLOT_OP_STATUS_outcome p outcome
  else s

/-- A cartridge is gone, by removal or by a power fault (R490 to R492): every media operation of the port ends, its fetches
complete MEDIA_GONE, its tables become orphaned and its guard context goes. -/
def State.slotGone (s : State) (p next reason : Nat) : State :=
  let fetches := s.slotFetches p
  let x := s.port p
  let s1 := fetches.foldl (fun s id =>
    (if x.fetchIssued id then s.updFetch id (fun f => { f with issued := true }) else s).goneFetch id) s
  let s2 := ((s1.endWalks p stMediaGone).endSlotCmds p stMediaGone).endExpert p 4
  let s3 := s2.orphanGone p
  ((s3.slotOff p).setSlotState p next).endMount p reason stMediaGone

/-- SLOT_INSERTION: the detect has read present for det_debounce_ms (R485). Nothing is acted on during a sequence, nor
outside RUN and DOZE. -/
def execSlotInsertion (p : Port) (s : State) : Out :=
  let i := portIdx p
  if !s.alive || s.scanOwns || s.slotState i != slEmpty then ok s
  else ok (((s.wri SLOT_STATUS_present i 1).setSlotState i slPresent).raisei SLOT_EVENT_inserted i)

/-- SLOT_REMOVAL: the detect has read absent for 10 µs (R489 to R491). -/
def execSlotRemoval (p : Port) (s : State) : Out :=
  let i := portIdx p
  if s.scanOwns || s.slotState i == slEmpty then ok s
  else ok (((s.slotGone i slEmpty 8).wri SLOT_STATUS_present i 0).raisei SLOT_EVENT_removed i)

/-- SLOT_POWER_FAULT: an output of the slot has been in current limit for its fault time: both switches open, VCCQ first, and
then the fault bit is set (R96, R98, R492). -/
def execSlotPowerFault (p : Port) (s : State) : Out :=
  let i := portIdx p
  if s.rdi SLOT_STATUS_vcc_on i = 0 then ok s
  else
    let s1 := s.slotGone i slFault 7
    ok { s1 with pwr := { s1.pwr with slotFault := listSet s1.pwr.slotFault i true } }

/-! ### Mounting (R478 to R488) -/

/-- SLOT.QUERY's 32 response bytes. -/
def State.slotResp (s : State) (p : Nat) : List Byte :=
  let q := (s.port p).param
  leBytes 1 (s.slotState p) ++ leBytes 1 (s.rdi SLOT_STATUS_mount_fail p) ++ leBytes 1 (s.rdi SLOT_STATUS_iface p) ++
    leBytes 1 (s.rdi SLOT_STATUS_dies p) ++ leBytes 2 (s.rdi SLOT_STATUS_rate_mts p) ++
    leBytes 1 ((q.map (fun x => Nat.log2 x.pages)).getD 0) ++ leBytes 1 0 ++ leBytes 4 ((q.map (·.blocks)).getD 0) ++
    leBytes 8 (s.cartId p) ++ leBytes 4 (s.rdi SEC_CTX_TITLE_title_id p) ++ leBytes 4 ((q.map (·.pageBytes)).getD 0) ++
    leBytes 4 0

/-- The mount of slot `p` enters a step. -/
def State.mountStep (s : State) (p k : Nat) : State :=
  s.updPort p (fun x => { x with mount := x.mount.map (fun r => { r with step := k }) })

/-- The raw_media_permit of the settings record in force (R678). -/
def State.rawPermit (s : State) : Bool := s.settings.getD 6 0 |>.getLsbD 0

/-- SLOT.MOUNT (0x0A02, R486, R488): VCC on; the events of the sequence complete it. It waits while the guard core does not
run. -/
def execSlotMount (m : Mb) (s : State) : Out :=
  if !s.guardRuns then ok s
  else
    runCmd m 0x0A02 s (fun c s =>
      let p := c.u8 0
      checked m [need (p < 2) 0, need (c.u8 1 ≤ 1) 1] s (fun s =>
        if s.slotState p ≠ slPresent ∧ s.slotState p ≠ slFault then s.fail m stWrongState
        else if c.u8 1 = 1 ∧ ¬ s.rawPermit then s.fail m stDenied
        else
          let r : MountRun := { mb := m, raw := c.u8 1 == 1, maxRate := c.u16 2, step := 1, found := [], sdr := [], pages := [] }
          (((((s.updPort p (fun x => { x with mount := some r, capture := [] })).wri SLOT_STATUS_mount_fail p 0).setSlotState p
            slMounting).vccOn p).wait m)))

/-- SLOT_POWER_GOOD: an output of the slot has reached 90 % of its set value. With VCC good, a power_on switches VCCQ on,
and a mount enables the tag bus and reads the media record; with VCCQ good, a mount probes the dies (R98, R486, R547). -/
def execSlotPowerGood (p : Port) (s : State) : Out :=
  let i := portIdx p
  if s.rdi SLOT_STATUS_vcc_on i = 0 ∨ s.pwr.vccPending.getD i false then ok s
  else
    match (s.port i).mount with
    | none =>
      if (s.port i).vccGood then ok (s.updPort i (fun x => { x with vccqGood := true }))
      else ok ((s.updPort i (fun x => { x with vccGood := true })).vccqOn i (s.rdi SLOT_STATUS_vccq_1v2 i == 1))
    | some r =>
      if r.step = 1 then
        ok ((((s.updPort i (fun x => { x with vccGood := true })).setBus i true).mountStep i 2).startTag i 1 [] none)
      else if r.step = 3 then
        let probe (s : State) (d : Nat) : State :=
          (s.queueOp i { die := d, row := 0, kind := .reset false, use := .mount, ready := false }).queueOp i
            { die := d, row := 0, kind := .readId false, use := .mount, ready := false }
        ok ((List.range 8).foldl probe ((s.updPort i (fun x => { x with vccqGood := true })).mountStep i 4))
      else ok s

/-- The media record of the tag's info record names interface and VCCQ (R551): VCCQ is switched on. -/
def State.mountMedia (s : State) (p : Nat) : State :=
  let ddr3 := fieldAt (s.tag p).info 1 1 % 2
  ((s.wri SLOT_STATUS_iface p ddr3).vccqOn p (ddr3 == 1)).mountStep p 3

/-- The chip enables of channel `c` that answered. -/
def chEnables (found : List Nat) (c : Nat) : List Nat := (List.range 4).filter (fun k => found.contains (c + 2 * k))

/-- The population rule of R478: channel 0, chip enable 0 is there, and each populated channel has chip enables 0 to n - 1.
-/
def populated (found : List Nat) : Bool :=
  let a := chEnables found 0
  let b := chEnables found 1
  !a.isEmpty && a == List.range a.length && (b.isEmpty || b == a)

/-- The transfer rate that R481 selects: the fastest mode that every die declares within the limits of the interface and
max_rate. -/
def pickRate (ddr3 : Bool) (maxRate : Nat) (pages : List ParamPage) : Nat :=
  let rates (q : ParamPage) : List Nat := if ddr3 then q.rates3 else q.rates2
  let limit := if ddr3 then 800 else 400
  match pages with
  | [] => 0
  | q :: qs => (rates q).foldl (fun best r =>
      if best < r && r ≤ limit && (maxRate == 0 || r ≤ maxRate) && qs.all (fun x => (rates x).contains r) then r else best) 0

/-- A parameter page meets R478. -/
def paramOk (q : ParamPage) : Bool :=
  q.valid && q.luns == 1 && pageSize ≤ q.pageBytes && [32, 64, 128, 256, 512, 1024].contains q.pages && q.colCycles == 2 &&
    q.rowCycles == 3 && q.tR ≤ 100 && q.tProg ≤ 450 && q.tBers ≤ 10000

/-- The parameter bytes of SET FEATURES for a feature and a rate, free but for what the rules ask of feature 02h: no termination on the dies
and no warm-up cycles (R757, R764). PRESUMED from ONFI 4.1 (log entry 148): bits 7 to 4 of its first byte enable the termination of DQ, DQS
and RE, and its second byte holds the warm-up cycles. -/
def featureBytes (a rate : Nat) : BitVec 32 :=
  if a = 0x02 then Config.featureValue a rate &&& 0xFFFF000F else Config.featureValue a rate

/-- SET FEATURES and GET FEATURES for every die: timing mode, NV-DDR2/3 configuration and drive strength, and ZQ CALIBRATION
LONG where it is declared (R479, R486). DESIGN CHOICE (log entry 150): any answer of GET FEATURES lets the sequence go on. -/
def State.setFeatures (s : State) (p rate : Nat) (use : DieUse) : State :=
  (s.port p).dies.foldl (fun s d =>
    let s1 := [0x01, 0x02, 0x10].foldl (fun s a =>
      (s.queueOp p { die := d, row := 0, kind := .setFeature a (featureBytes a rate), use := use, ready := false }).queueOp p
        { die := d, row := 0, kind := .getFeature a, use := use, ready := false }) s
    if (((s.port p).param.map (·.zq)).getD false) && s.rdi SLOT_STATUS_iface p == 1 then
      s1.queueOp p { die := d, row := 0, kind := .zq, use := use, ready := false }
    else s1) s

/-- Read capture is trained for each die at the end of step 5; the phase found is free (R764, log entry 148). -/
def State.trainReads (s : State) (p : Nat) : State :=
  (s.updPort p (fun x => { x with capture := x.dies.map (fun d => (d, (Config.readPhase s.free d).toNat)) })).nextFree

/-- READ PARAMETER PAGE of every die found. -/
def State.askParams (s : State) (p : Nat) (use : DieUse) : State :=
  (s.port p).dies.foldl (fun s d => s.queueOp p { die := d, row := 0, kind := .param, use := use, ready := false }) s

/-- Step 4 is over: a die in SDR, or a population that R478 excludes, fails the mount; else step 5 begins. -/
def State.mountProbed (s : State) (p : Nat) (r : MountRun) : State :=
  if !r.sdr.isEmpty then s.mountFailed p 3
  else if !populated r.found then s.mountFailed p 4
  else
    let dies := (List.range 8).filter r.found.contains
    (((s.updPort p (fun x => { x with dies := dies })).wri SLOT_STATUS_dies p dies.length).mountStep p 5).askParams p .mount

/-- The parameter pages of every die have been read: identical dies that meet R478, at the rate of R481. -/
def State.mountParams (s : State) (p : Nat) (r : MountRun) : State :=
  let qs := r.pages.map (·.2)
  match qs with
  | [] => s.mountFailed p 5
  | q :: _ =>
    let rate := pickRate (s.rdi SLOT_STATUS_iface p == 1) r.maxRate qs
    if !qs.all (·.valid) then s.mountFailed p 5
    else if !qs.all (· == q) then s.mountFailed p 4
    else if !paramOk q || rate == 0 then s.mountFailed p 5
    else ((s.updPort p (fun x => { x with param := some q })).wri SLOT_STATUS_rate_mts p rate).setFeatures p rate .mount

/-- The mount's die operations of a step are over. -/
def State.mountIdle (s : State) (p : Nat) : State :=
  match (s.port p).mount with
  | none => s
  | some r =>
    if (s.port p).ops.any (fun o => o.use == .mount) then s
    else if r.step = 4 then s.mountProbed p r
    else if r.step = 5 then
      if (s.port p).param.isNone then s.mountParams p r
      else ((s.trainReads p).mountStep p 6).startAuth p .mount []
    else s

/-- A die of a mount has answered (steps 4 and 5 of R486). -/
def State.mountReply (s : State) (p die : Nat) (kind : DieKind) (a : DieReply) : State :=
  let upd (f : MountRun → MountRun) : State := s.updPort p (fun x => { x with mount := x.mount.map f })
  match kind with
  | .readId false =>
    if a.onfi then (upd (fun r => { r with found := r.found ++ [die] })).mountIdle p
    else
      (s.queueOp p { die := die, row := 0, kind := .reset true, use := .mount, ready := false }).queueOp p
        { die := die, row := 0, kind := .readId true, use := .mount, ready := false }
  | .readId true => (if a.onfi then upd (fun r => { r with sdr := r.sdr ++ [die] }) else s).mountIdle p
  | .param =>
    let q : ParamPage := a.param.getD { valid := false, luns := 0, pageBytes := 0, pages := 0, blocks := 0, colCycles := 0
                                        rowCycles := 0, tR := 0, tProg := 0, tBers := 0, rates2 := [], rates3 := [], zq := false }
    (upd (fun r => { r with pages := r.pages ++ [(die, q)] })).mountIdle p
  | _ => s.mountIdle p

/-- READY or RAW: mount_done, and the command's response (step 8 of R486). -/
def State.mountDone (s : State) (p : Nat) (r : MountRun) : State :=
  let s1 := ((s.updPort p (fun x => { x with mount := none })).setSlotState p (if r.raw then slRaw else slReady)).raisei
    SLOT_EVENT_mount_done p
  s1.okResp r.mb (s1.slotResp p)

/-- The tag of a mount has been authenticated: a raw mount is done, a normal one reads the header from block 0. -/
def State.mountAuthed (s : State) (p : Nat) : State :=
  match (s.port p).mount with
  | none => s
  | some r => if r.raw then s.mountDone p r else (s.mountStep p 7).queueRead p 0 0 .mount

/-- Two block ranges do not overlap. -/
def apart (a b : Nat × Nat) : Bool := a.1 + a.2 ≤ b.1 || b.1 + b.2 ≤ a.1

/-- Every pair of a list of block ranges is apart. -/
def allApart : List (Nat × Nat) → Bool
  | [] => true
  | r :: rs => rs.all (apart r) && allApart rs

/-- The checks of R505 on a header, against the tag's title and the dies' geometry. -/
def State.headerAccepted (s : State) (p : Nat) (h : List Byte) : Bool :=
  let f (o n : Nat) : Nat := fieldAt h o n
  let dies := (s.port p).dies
  let areas := f 56 1
  let ranges := [(f 28 4, f 32 4), (f 48 4, f 52 4)] ++ (List.range (min areas 8)).flatMap (fun a =>
    [(f (64 + 16 * a) 4, f (72 + 16 * a) 2), (f (68 + 16 * a) 4, f (72 + 16 * a) 2)])
  let geometry := match (s.port p).param with
    | some q => 2 ^ f 21 1 == q.pages && f 24 4 == q.blocks
    | none => false
  f 0 4 == 0x54384844 && f 4 2 == 1 &&
    ecdsaVerify (s.titleKey p) (sha256 (h.take 448)) (beNat ((h.drop 448).take 32)) (beNat ((h.drop 480).take 32)) &&
    f 16 4 == s.rdi SEC_CTX_TITLE_title_id p && geometry &&
    f 20 1 == (chEnables dies 0).length - 1 + 4 * b2n (!(chEnables dies 1).isEmpty) &&
    f 36 1 ≤ 20 && 2 ^ f 36 1 ≤ 124 * f 44 4 && areas ≤ 8 &&
    ranges.all (fun r => 2 ≤ r.1 && r.1 + r.2 ≤ f 24 4) && allApart ranges

/-- The header page of block `b` of a mount has arrived (step 7 of R486): accepted, read again from block 1, or refused. -/
def State.mountHeader (s : State) (p row : Nat) (page : List Byte) : State :=
  match (s.port p).mount with
  | none => s
  | some r =>
    let t := s.takePage p 0 row page true (fun m => metaMatches m regHeader row 0 (fieldAt m 8 8)) [0]
    let cw : Codeword := t.2.getD 0 ⟨[], 0, true⟩
    let h := cw.data.take 512
    if !cw.bad && t.1.headerAccepted p h then
      let s1 := ((t.1.updPort p (fun x => { x with header := h })).wri SLOT_CART_LO_cart_id p (fieldAt h 8 4)).wri
        SLOT_CART_HI_cart_id p (fieldAt h 12 4)
      ((s1.deriveCatalog p).deriveSaves p).mountDone p r
    else if row = 0 then t.1.queueRead p 0 (((s.port p).param.map (·.pages)).getD 0) .mount
    else t.1.mountFailed p 6

/-! ### Unmounting and ejecting (R493, R494) -/

/-- UNMOUNTING begins: the fetches of the slot complete MEDIA_GONE, but for those that wait for a walk that runs. Of their
reads only those issued to a die go on (R493, R531). -/
def State.beginUnmount (s : State) (p : Nat) (d : Drain) : State :=
  let x := s.port p
  let stop := (s.strm.fetches.filter (fun f => match f.stage with
    | .media => extSlot (f.desc.getD 0) == p
    | .reauth q => q == p
    | .walking => s.learn.waiting.any (fun w => w.slot == p && w.walkers.contains (.fetch f.id))
    | _ => false)).map (·.id)
  let keep := x.ops.zipIdx.filter (fun e => x.isIssued e.2 || (match e.1.use with | .fetch id => !stop.contains id | _ => true))
  let s1 := stop.foldl (fun s id =>
    (if x.fetchIssued id then s.updFetch id (fun f => { f with issued := true }) else s).goneFetch id)
    (s.updPort p (fun x => { x with ops := keep.map (·.1) }))
  ((s1.dropWaitingWalks p).setSlotState p slUnmounting).updPort p (fun x => { x with drain := some d })

/-- SLOT.UNMOUNT (0x0A03, R493). -/
def execSlotUnmount (m : Mb) (s : State) : Out :=
  runCmd m 0x0A03 s (fun c s =>
    checked m [need (c.u8 0 < 2) 0] s (fun s =>
      if s.slotMounted (c.u8 0) then (s.wait m).beginUnmount (c.u8 0) { mb := some m, eject := false }
      else s.fail m stWrongState))

/-- SLOT.EJECT (0x0A04, R494). -/
def execSlotEject (m : Mb) (s : State) : Out :=
  runCmd m 0x0A04 s (fun c s =>
    let p := c.u8 0
    checked m [need (p < 2) 0] s (fun s =>
      if s.slotState p = slEmpty then s.fail m stNotFound
      else if s.slotMounted p then (s.wait m).beginUnmount p { mb := some m, eject := true }
      else (s.wait m).beginPulse p (some m) 0))

/-- What must end before an unmounting slot is switched off (R493): operations, walks, saves, and fetches under way. -/
def State.slotDrained (s : State) (p : Nat) : Bool :=
  (s.port p).ops.isEmpty && (s.port p).saves.isEmpty && (s.port p).pageRuns.isEmpty &&
    !(s.learn.walks.any (fun w => w.slot == p)) &&
    !(s.strm.fetches.any (fun f => f.stage == .media && extSlot (f.desc.getD 0) == p))

/-- UNMOUNT_DRAIN_END: the slot's work is complete, and its tables become orphaned on the next ply that is free for it, with which the
unmounting ends (R493). -/
def execUnmountDrainEnd (p : Port) (s : State) : Out :=
  let i := portIdx p
  if (s.port i).drain.isSome ∧ s.slotState i = slUnmounting ∧ s.slotDrained i ∧
      ¬ s.tbl.orphans.any (fun e => e.unmount && e.slot == i) then ok (s.orphanSlot i)
  else ok s

/-- EJECT_PULSE_END: eject_ms is over: SLOT_EJ_x low and eject_done, and each command that the pulse served completes (R494). -/
def execEjectPulseEnd (p : Port) (s : State) : Out :=
  let i := portIdx p
  match (s.port i).pulse with
  | none => ok s
  | some l =>
    let s1 := (s.updPort i (fun x => { x with pulse := none })).raisei SLOT_EVENT_eject_done i
    ok (l.foldl (fun s e => match e.1 with
      | some m => s.okResp m (leBytes 8 e.2)
      | none => s) s1)

/-! ### Tag bus transactions (R548 to R552) -/

/-- An info record has been read (R551): TAG_STATUS, TAG_SERIAL and TAG_INFO. -/
def State.noteInfo (s : State) (p : Nat) (d : List Byte) : State :=
  let s1 := (((s.wri TAG_STATUS_present p 1).wri TAG_SERIAL_LO_serial_lo p (fieldAt d 8 4)).wri TAG_SERIAL_HI_serial_hi p
    (fieldAt d 12 4)).wri TAG_INFO_media p (fieldAt d 1 1)
  (((s1.wri TAG_INFO_flags p (fieldAt d 2 1)).wri TAG_INFO_version p (fieldAt d 0 1)).wri TAG_INFO_records p
    (fieldAt d 3 1)).updTag p (fun t => { t with info := d })

/-- An authentication has ended well (R558, R573, R584). -/
def State.authGood (s : State) (p : Nat) (a : AuthRun) : State :=
  match a.why with
  | .again => s.reauthOk p a.mbs
  | .restart => s.reauthOk p a.mbs
  | .mount => (s.reauthOk p a.mbs).mountAuthed p

/-- An authentication has failed (R559, R574, R584). -/
def State.authBad (s : State) (p : Nat) (a : AuthRun) (reason : Nat) : State :=
  match a.why with
  | .mount => ((s.authFailed p reason).denyHeld p a.mbs).mountFailed p 2
  | _ => s.reauthFailed p a.mbs

/-- A GUARD.TAG_XFER transaction is over: its payload into mailbox data RAM and its response. -/
def State.endXfer (s : State) (p : Nat) (m : Mb) (ref : Nat × Nat) (resp : Option (Nat × List Byte)) : State :=
  let s1 := s.xferOver p
  match resp with
  | none => s1.fail m stTimeout
  | some (st, d) =>
    (s1.refPut ref 0 (d.take ref.2)).okResp m (leBytes 1 st ++ leBytes 1 0 ++ leBytes 2 d.length)

/-- A transaction of the tag of slot `p` is over, with a response or without one. -/
def State.tagOver (s : State) (p : Nat) (r : TagRun) (resp : Option (Nat × List Byte)) : State :=
  let s0 := (s.updTag p (fun t => { t with run := none })).wri TAG_STATUS_busy p 0
  let s1 := match resp with
    | some (0, d) => if r.cmd = 1 ∧ d.length = 32 then s0.noteInfo p d else s0
    | some (1, _) => if r.cmd = 6 then s0.addi TAG_POLLS_busy_polls p 1 else s0
    | _ => s0
  match r.xfer with
  | some (m, ref) => s1.endXfer p m ref resp
  | none =>
    match (s1.tag p).auth with
    | some a =>
      let n := match resp with
        | some (st, d) => s1.authMeets p a st d
        | none => .bad 1
      match n with
      | .more t => t
      | .good t => t.authGood p a
      | .bad reason => s1.authBad p a reason
    | none =>
      -- step 2 of a mount: the media record
      if (s1.port p).mount.isSome then
        match resp with
        | some (0, d) => if d.length = 32 then s1.mountMedia p else (s1.authFailed p 1).mountFailed p 1
        | _ => (s1.authFailed p 1).mountFailed p 1
      else s1

/-- What the module reads of a tag's reply: nothing over a land that the boundary register has cut, where TAG_DAT_x stays at the
pull-up (R546, R773). -/
def State.tagSees (s : State) (reply : List Byte) : List Byte := if s.scanOwns then [] else reply

/-- TAG_TRANSACTION: a transaction ends with a response frame. A frame that fails its CRC, has an undefined status, or
holds a payload above 512 bytes, or comes from no tag is asked for again up to twice, and then counts as a timeout (R549, R552). -/
def execTagTransaction (p : Port) (reply : List Byte) (s : State) : Out :=
  let i := portIdx p
  let frame := s.tagSees reply
  match (s.tag i).run with
  | none => ok s
  | some r =>
    let st := fieldAt frame 0 1
    let n := fieldAt frame 1 2
    let silent : Bool := frame.isEmpty || st == 0xFF
    let crcOk : Bool := n ≤ 512 && frame.length == n + 7 && crc32 (frame.take (n + 3)) == fieldAt frame (n + 3) 4
    let s1 := (s.addi TAG_FRAMES_frames i 1).wri TAG_STATUS_last_status i (if frame.isEmpty then 0xFF else st)
    if silent || !crcOk || 3 < st then
      let s2 := if silent then s1.raisei TAG_EVENT_no_tag i
        else if !crcOk then (s1.addi TAG_FRAMES_crc_errors i 1).raisei TAG_EVENT_crc_error i else s1
      if r.tries < 2 then ok (s2.updTag i (fun t => { t with run := some { r with tries := r.tries + 1 } }))
      else ok (((s2.addi TAG_POLLS_timeouts i 1).raisei TAG_EVENT_timeout i).tagOver i r none)
    else ok (s1.tagOver i r (some (st, (frame.drop 3).take n)))

/-- TAG_RESULT_POLL: a RESULT poll starts, 1 ms after the start of the one before it (R552). -/
def execTagResultPoll (p : Port) (s : State) : Out :=
  let i := portIdx p
  match (s.tag i).auth with
  | some a =>
    if a.stage = .pause ∧ (s.tag i).run.isNone then
      ok ((s.updTag i (fun t => { t with auth := some { a with stage := .poll, polls := a.polls + 1 } })).startTag i 6 [] none)
    else ok s
  | none => ok s

/-! ### SLOT_CTRL (R539) -/

/-- A SLOT_CTRL write that asks for the bit in field `f`: more than one request changes nothing and sets bad_write. -/
def State.slotCtrl (s : State) (p : Nat) (w : RegWord) (f : Fld) (req : State → State) : State :=
  s.regOp (0xF010 + 0x100 * p) w (fun s =>
    let asks := fieldOf w SLOT_CTRL_power_on + fieldOf w SLOT_CTRL_power_off + fieldOf w SLOT_CTRL_eject +
      fieldOf w SLOT_CTRL_port_reset
    if 1 < asks then s.badWrite else if fieldOf w f = 1 then req s else s)

/-- SLOT_POWER_ON: VCC on, then VCCQ once VCC is good, at the voltage of vccq_sel. -/
def execSlotPowerOn (p : Port) (w : RegWord) (s : State) : Out :=
  let i := portIdx p
  ok (s.slotCtrl i w SLOT_CTRL_power_on (fun s =>
    if s.slotState i ≠ slPresent ∧ s.slotState i ≠ slFault then s.badWrite
    else (s.vccOn i).wri SLOT_STATUS_vccq_1v2 i (fieldOf w SLOT_CTRL_vccq_sel)))

/-- SLOT_POWER_OFF: VCCQ opens, then VCC (R98). A mounted or mounting slot's work ends with its power. -/
def execSlotPowerOff (p : Port) (w : RegWord) (s : State) : Out :=
  let i := portIdx p
  ok (s.slotCtrl i w SLOT_CTRL_power_off (fun s =>
    if s.slotState i = slPresent ∨ s.slotState i = slFault ∨ s.slotState i = slEmpty then (s.endExpert i 4).slotOff i
    else s.slotGone i slPresent 7))

/-- SLOT_EJECT_WRITE: the eject pulse of R494; refused while the slot is READY or RAW. -/
def execSlotEjectWrite (p : Port) (w : RegWord) (s : State) : Out :=
  let i := portIdx p
  ok (s.slotCtrl i w SLOT_CTRL_eject (fun s => if s.slotMounted i then s.badWrite else s.beginPulse i none 0))

/-- SLOT.QUERY (0x0A01). -/
def execSlotQuery (m : Mb) (s : State) : Out :=
  runCmd m 0x0A01 s (fun c s =>
    checked m [need (c.u8 0 < 2) 0] s (fun s => s.okResp m (s.slotResp (c.u8 0))))

/-! ### Guard core resets (R583) -/

/-- A mailbox runs a GUARD command. -/
def State.runsGuard (s : State) (m : Mb) : Bool := ((s.mbx m).taken.any (fun c => c.opcode / 256 == 0x0C && !c.relayed))

/-- What a guard core reset ends: contexts and keys, the load, fetches with a sector to decrypt, walks, saves and mounts.
`st` is the status of the commands that the guard core was serving. -/
def State.guardReset (s : State) (st : Nat) : State :=
  let same := s.srch.inFlight.map (fun f =>
    if f.tag = s.clk.ply ∧ f.guard ≠ gNone then { f with guard := gNotReady } else f)
  let s0 : State := { s with srch := { s.srch with inFlight := same } }
  let s1 := (((s0.wr SEC_STATUS_guard_running 0).wr SEC_STATUS_rules_loaded 0).wr SEC_STATUS_guard_ready 0).wr
    SEC_STATUS_castle_wait 0
  let s2 := (List.range 85).foldl State.zeroise s1
  let s3 := (List.range 2).foldl State.clearContext s2
  -- fetches: held for a tag, waiting for a walk, or with a sector still to decrypt, those among them whose search in flight
  -- carries an entitlement
  let stop := (s3.strm.fetches.filter (fun f => match f.stage with
    | .media => f.outcome.isNone
    | .searching => s3.srch.inFlight.any (fun x => x.src == .stream f.id && x.guard != gNone && !denies x.guard)
    | .walking => true
    | .reauth _ => true
    | _ => false)).map (·.id)
  let s4 := stop.foldl (fun s id => s.endFetch id stVoid) s3
  let s5 := (List.range 2).foldl (fun s p =>
    let saves := (s.port p).saves
    let drop (u : DieUse) : Bool := match u with | .save _ => true | _ => false
    let t := saves.foldl (fun s r => s.fail r.mb (if r.job = .write then stAborted else st)) ((s.updPort p (fun x => { x with saves := [] })).dropData p drop)
    let idle := (t.idleTag p).updTag p (fun x => { x with info := [], certs := [] })
    let u := (t.tagMbs p).foldl (fun s m => s.fail m st)
      (if t.busHeld p then idle else idle.wri TAG_STATUS_enabled p 0)
    let v := u.endWalks p st
    if (v.port p).mount.isSome then ((v.slotOff p).setSlotState p slPresent).endMount p 0 stVoid else v) s4
  let loader := match s5.guard.due with | some l => l.mb.toList | none => []
  let s6 := (({ s5 with tbl := { s5.tbl with guardQ := [] }, guard := { s5.guard with due := none } } : State).setGuardCastle false).dropLoad
  -- what else it had taken: a part that waits behind a castling, a transfer that waits for the bus
  let serving := if s.guardUp then (hostMbs ++ [Mb.relay]).filter s.runsGuard else []
  ((loader ++ serving).foldl (fun s m => s.fail m st) s6).raise SEC_EVENT_guard_reset

end Sys2Proof.Machine
end

