-- ==== Sys2Proof/Machine/Saves.lean ====
section
/-! DEFINITION. The save region: finding the current copy, reading it and writing the other one (R514 to R520). -/

namespace Sys2Proof.Machine
open Reg

/-! ### Running save commands -/

/-- The running save command of a mailbox in slot `p`. -/
def State.saveRun (s : State) (p : Nat) (m : Mb) : Option SaveRun := (s.port p).saves.find? (fun r => r.mb == m)

/-- The running save command of a mailbox replaced. -/
def State.setSave (s : State) (p : Nat) (r : SaveRun) : State :=
  s.updPort p (fun x => { x with saves := x.saves.map (fun q => if q.mb = r.mb then r else q) })

/-- The running save command of a mailbox ends with a status, a detail and a response. -/
def State.endSave (s : State) (p : Nat) (m : Mb) (st detail : Nat) (resp : List Byte) : State :=
  ((s.updPort p (fun x => { x with saves := x.saves.filter (fun q => q.mb != m) })).dropData p
    (fun u => u == .save m)).done m st detail resp

/-- The pages of a copy of area `a`, and the row of its page `i` (R514); the save region lies on the die on channel 0, chip
enable 0. -/
def State.copyPages (s : State) (p a : Nat) : Nat := s.saveBlocks p a * s.hdrPages p
def State.copyRow (s : State) (p a copy i : Nat) : Nat := s.saveBlock p a copy * s.hdrPages p + i

/-- The current copy: the committed one with the greater generation (R516). -/
def SaveRun.current (r : SaveRun) : Option (Nat × CommitInfo) :=
  match r.copies.getD 0 none, r.copies.getD 1 none with
  | some a, some b => if a.generation < b.generation then some (1, b) else some (0, a)
  | some a, none => some (0, a)
  | none, some b => some (1, b)
  | none, none => none

/-- The generation of the current copy, 0 for an empty area. -/
def SaveRun.generation (r : SaveRun) : Nat := (r.current.map (·.2.generation)).getD 0

/-- The copy that a write targets: the one that is not current; copy 0 of an empty area. -/
def SaveRun.target (r : SaveRun) : Nat := match r.current with | some (0, _) => 1 | _ => 0

/-- The XTS key and the HMAC key of the save key of area `a` (R564). -/
def State.saveXts (s : State) (p a : Nat) : List Byte := (s.keyBytes (saveSlot p a)).take 64
def State.saveMac (s : State) (p a : Nat) : List Byte := (s.keyBytes (saveSlot p a)).drop 64

/-- A save command acts on poison: the failing words of its key are reported, and the bite is an event of its own (R598, R602). -/
def State.keyBite (s : State) (p a : Nat) : State := (s.keyReport (saveSlot p a) 5).bite 0 5 0 0xFFFF

/-- The data unit number of sector `k` of a save image (R517). -/
def saveUnit (a gen k : Nat) : Nat := a * 2 ^ 56 + gen * 2 ^ 24 + k

/-! ### The commit page (R515, R516) -/

/-- The scan goes on: a page of the copy is read between the bounds, or, where they meet, the last programmed page. -/
def State.saveScan (s : State) (p : Nat) (r : SaveRun) (copy lo hi : Nat) : State :=
  let phase := if lo < hi then SavePhase.scan copy lo hi else .commitPage copy (s.copyRow p r.area copy (lo - 1))
  let row := if lo < hi then s.copyRow p r.area copy ((lo + hi) / 2) else s.copyRow p r.area copy (lo - 1)
  (s.setSave p { r with phase := phase }).queueRead p 0 row (.save r.mb)

/-- The commit record in codeword 0 of a commit page, when its magic, area, copy and cartridge_id match (R516). -/
def commitOf (d : List Byte) (area copy cart : Nat) : Option CommitInfo :=
  if fieldAt d 0 4 = 0x54385343 ∧ fieldAt d 4 1 = area ∧ fieldAt d 5 1 = copy ∧ fieldAt d 20 8 = cart then
    some { pages := fieldAt d 16 4, generation := fieldAt d 8 4, bytes := fieldAt d 12 4, head := d.take 32
           mac := (d.drop 32).take 32 }
  else none

/-! ### Writing (R517, R519) -/

/-- The ciphertext pages of an image, each 16,384 bytes: its sectors encrypted, and zeros up to whole pages (R515, R517).
-/
def State.savePages (s : State) (p a gen : Nat) (image : List Byte) : List (List Byte) :=
  let sectors := (image.length + 4095) / 4096
  let cipher := (List.range sectors).map (fun k =>
    xtsEncrypt (s.saveXts p a) (saveUnit a gen k) (padTo 4096 (image.drop (4096 * k))))
  (List.range ((sectors + 3) / 4)).map (fun i => padTo 16384 ((cipher.drop (4 * i)).take 4).flatten)

/-- The commit record of a write (R515). -/
def State.commitRecord (s : State) (p : Nat) (r : SaveRun) : List Byte :=
  let head := leBytes 4 0x54385343 ++ leBytes 1 r.area ++ leBytes 1 r.target ++ leBytes 2 0 ++ leBytes 4 (r.generation + 1) ++
    leBytes 4 r.bytes ++ leBytes 4 r.pages.length ++ leBytes 8 (s.cartId p) ++ leBytes 4 0
  head ++ hmac (s.saveMac p r.area) (head ++ r.pages.flatten)

/-- The page program of page `i` of a write: a data page, or the commit page behind the last one. In a shutdown sequence
no commit page is issued any more: the write is discarded in step 4 (R131). -/
def State.saveProgram (s : State) (p : Nat) (r : SaveRun) (i : Nat) : State :=
  let row := s.copyRow p r.area r.target i
  let tail := r.area + 8 * r.target
  let last := r.pages.length ≤ i
  let block := metaBlock (if last then regCommit else regSave) row 0 (s.cartId p) (r.generation + 1) tail
  let data := if last then s.commitRecord p r else r.pages.getD i []
  if last && s.inSequence then s else
  (s.setSave p { r with phase := if last then .final else .program i }).queueOp p
    { die := 0, row := row, kind := .program (encodePage block data), use := .save r.mb, ready := false }

/-- The erase of block `i` of a write's target, or its first page program after the last one. -/
def State.saveErase (s : State) (p : Nat) (r : SaveRun) (i : Nat) : State :=
  if i < s.saveBlocks p r.area then
    (s.setSave p { r with phase := .erase i }).queueOp p
      { die := 0, row := s.saveBlock p r.area r.target + i, kind := .erase, use := .save r.mb, ready := false }
  else s.saveProgram p r 0

/-- The image of a write has come from the host: encrypted, and the target's erase begins. Poison in the image ends the
write before it has any effect (R596). -/
def State.saveImage (s : State) (m : Mb) (data : List Byte) (poison : Bool) : State :=
  match (List.range 2).find? (fun p => (s.saveRun p m).isSome) with
  | none => s
  | some p =>
    match s.saveRun p m with
    | none => s
    | some r =>
      let s := s.needSave p r.area
      if r.phase ≠ .image then s
      else if poison then (s.bite 0 5 0 0xFFFF).endSave p m stPoisoned 0 []
      else if s.keyBad (saveSlot p r.area) then (s.keyBite p r.area).endSave p m stPoisoned 0 []
      else
        let pages := s.savePages p r.area (r.generation + 1) (padTo r.bytes data)
        s.saveErase p { r with pages := pages } 0

/-- The final page program of a write is complete: the target is current (R518). In a shutdown sequence that is the
commit of R131 (save_action bit 0). -/
def State.saveCommitted (s0 : State) (p : Nat) (r : SaveRun) : State :=
  let s : State := if s0.inSequence then { s0 with pwr := { s0.pwr with saveAction := s0.pwr.saveAction ||| 1 } } else s0
  (s.raisei SLOT_EVENT_save_commit p).endSave p r.mb stOk 0 (leBytes 4 (r.generation + 1) ++ leBytes 1 r.target ++ leBytes 3 0)

/-! ### Reading (R520) -/

/-- Data page `i` of the current copy is asked for; after the last one the HMAC decides. -/
def State.saveRead (s : State) (p : Nat) (r : SaveRun) (copy : Nat) (c : CommitInfo) (i : Nat) : State :=
  let s := s.needSave p r.area
  if i < c.pages then
    (s.setSave p { r with phase := .data i }).queueRead p 0 (s.copyRow p r.area copy i) (.save r.mb)
  else if s.keyBad (saveSlot p r.area) then (s.keyBite p r.area).endSave p r.mb stPoisoned 0 []
  else if hmac (s.saveMac p r.area) (c.head ++ r.pages.flatten) = c.mac then
    s.endSave p r.mb stOk 0 (leBytes 4 c.bytes ++ leBytes 4 c.generation)
  else s.endSave p r.mb stPoisoned 0 []

/-- A data page of a read has come: its sectors decrypted and the image's bytes of it written to host memory. A bad
codeword, a failed metadata check or a failed key ends the read. -/
def State.saveData (s : State) (p : Nat) (r : SaveRun) (copy : Nat) (c : CommitInfo) (i : Nat) (page : List Byte) : State :=
  let s := s.needSave p r.area
  let row := s.copyRow p r.area copy i
  let t := s.takePage p 0 row page false (s.metaGood p regSave row 0) (List.range 16)
  if t.2.any (·.bad) || t.1.keyBad (saveSlot p r.area) then (t.1.keyBite p r.area).endSave p r.mb stPoisoned 0 []
  else
    let cipher := t.2.flatMap (·.data)
    let plain := (List.range 4).flatMap (fun k =>
      xtsDecrypt (s.saveXts p r.area) (saveUnit r.area c.generation (4 * i + k)) ((cipher.drop (4096 * k)).take 4096))
    let s1 := t.1.dmaWrite (r.addr + 16384 * i) (plain.take (c.bytes - 16384 * i))
    s1.saveRead p { r with pages := r.pages ++ [cipher] } copy c (i + 1)

/-- Both copies have been looked at: the command's own work begins. -/
def State.saveFound (s : State) (p : Nat) (r : SaveRun) : State :=
  match r.job with
  | .query =>
    s.endSave p r.mb stOk 0 (leBytes 1 ((r.current.map (·.1)).getD 0xFF) ++ leBytes 3 0 ++ leBytes 4 r.generation ++
      leBytes 4 ((r.current.map (·.2.bytes)).getD 0) ++ leBytes 4 (s.saveMax p r.area))
  | .read =>
    match r.current with
    | none => s.endSave p r.mb stPoisoned 0 []
    | some (copy, c) =>
      if r.bytes < c.bytes then s.endSave p r.mb stNoRoom 0 [] else s.saveRead p r copy c 0
  | .write => (s.setSave p { r with phase := .image }).dmaRead r.addr r.bytes (.saveImage r.mb)

/-- A copy is known: the next copy is scanned, or the scan is over. -/
def State.saveNext (s : State) (p : Nat) (r : SaveRun) (c : Option CommitInfo) : State :=
  let r1 := { r with copies := r.copies ++ [c] }
  if r1.copies.length < 2 then s.saveScan p r1 1 0 (s.copyPages p r.area)
  else (s.setSave p r1).saveFound p r1

/-- A page that a save command has asked for has come. -/
def State.savePage (s : State) (p : Nat) (m : Mb) (page : List Byte) : State :=
  match s.saveRun p m with
  | none => s
  | some r =>
    match r.phase with
    | .scan copy lo hi =>
      let mid := (lo + hi) / 2
      let lo' := if pageErased page then lo else mid + 1
      let hi' := if pageErased page then mid else hi
      -- no page of the copy is programmed: it is not committed
      if lo' = 0 ∧ hi' = 0 then s.saveNext p r none else s.saveScan p r copy lo' hi'
    | .commitPage copy row =>
      let t := s.takePage p 0 row page false (s.metaGood p regCommit row 0) [0]
      let cw : Codeword := t.2.getD 0 ⟨[], 0, true⟩
      t.1.saveNext p r (if cw.bad then none else commitOf cw.data r.area copy (s.cartId p))
    | .data i =>
      match r.current with
      | some (copy, c) => s.saveData p r copy c i page
      | none => s
    | _ => s

/-- An operation is the final page program of a save write that had not been issued at the trigger instant of the running sequence:
it is not issued any more (R131). -/
def State.lateFinal (s : State) (p : Nat) (o : DieOp) : Bool :=
  s.inSequence && (s.port p).saves.any (fun r => o.use == .save r.mb && r.phase == .final && !r.issued)

/-- A program or an erase of a save write is over (R517, R519). In a shutdown sequence only a final page program that was issued
before the trigger instant commits (R131). -/
def State.saveDie (s : State) (p : Nat) (m : Mb) (failed : Bool) : State :=
  match s.saveRun p m with
  | none => s
  | some r =>
    if failed then s.endSave p m stNoRoom 1 []
    else
      match r.phase with
      | .erase i => s.saveErase p r (i + 1)
      | .program i => s.saveProgram p r (i + 1)
      | .final => if s.inSequence && !r.issued then s else s.saveCommitted p r
      | _ => s

/-! ### The commands -/

/-- The checks that the save commands share, after those of their parameters. -/
def State.saveChecks (s : State) (m : Mb) (p area : Nat) (effect : State → State) : State :=
  if s.slotState p = slRaw then s.fail m stDenied
  else if s.slotState p ≠ slReady then s.fail m stMediaGone
  else if s.saveAreas p ≤ area then s.fail m stNotFound
  else effect s

/-- A save command begins with the scan of copy 0. -/
def State.beginSave (s : State) (m : Mb) (p : Nat) (job : SaveJob) (area bytes addr : Nat) : State :=
  let r : SaveRun :=
    { mb := m, job := job, area := area, bytes := bytes, addr := addr, phase := .image, copies := [], pages := [], issued := false }
  ((s.updPort p (fun x => { x with saves := x.saves ++ [r] })).wait m).saveScan p r 0 0 (s.copyPages p area)

/-- SLOT.SAVE_QUERY (0x0A10, R516). -/
def execSlotSaveQuery (m : Mb) (s : State) : Out :=
  runCmd m 0x0A10 s (fun c s =>
    checked m [need (c.u8 0 < 2) 0] s (fun s =>
      s.saveChecks m (c.u8 0) (c.u8 1) (fun s => s.beginSave m (c.u8 0) .query (c.u8 1) 0 0)))

/-- SLOT.SAVE_READ (0x0A11, R520). -/
def execSlotSaveRead (m : Mb) (s : State) : Out :=
  runCmd m 0x0A11 s (fun c s =>
    checked m [need (c.u8 0 < 2) 0, c.notZero 2 2] s (fun s =>
      s.saveChecks m (c.u8 0) (c.u8 1) (fun s => s.beginSave m (c.u8 0) .read (c.u8 1) (c.u32 4) (c.u64 8))))

/-- SLOT.SAVE_WRITE (0x0A12, R517): one write to an area at a time. -/
def execSlotSaveWrite (m : Mb) (s : State) : Out :=
  runCmd m 0x0A12 s (fun c s =>
    let p := c.u8 0
    let a := c.u8 1
    checked m [need (p < 2) 0, c.notZero 2 2,
               need (1 ≤ c.u32 4 && (s.slotState p != slReady || s.saveAreas p ≤ a || c.u32 4 ≤ s.saveMax p a)) 4] s (fun s =>
      s.saveChecks m p a (fun s =>
        if (s.port p).saves.any (fun r => r.job == .write && r.area == a) then s.fail m stBusy
        else s.beginSave m p .write a (c.u32 4) (c.u64 8))))

/-- SAVE_COMMIT: the final page program of a save write, which runs at its die, completes (R482, R518). In a shutdown
sequence only one that was issued before the trigger instant commits (R131). -/
def execSaveCommit (p : Port) (m : Mb) (s : State) : Out :=
  let i := portIdx p
  match s.saveRun i m with
  | none => ok s
  | some r =>
    match s.dieRuns i 0 with
    | none => ok s
    | some k =>
      match (s.port i).ops[k]? with
      | none => ok s
      | some o =>
        if r.phase = .final ∧ o.use = .save m ∧ s.busFree i ∧ (r.issued ∨ ¬ s.inSequence) then
          ok ((((s.issue i 0 ((s.port i).cmdsOf o false)).busMoves i o.moves).dropOp i k).saveCommitted i r)
        else ok s

end Sys2Proof.Machine
end

