-- ==== Sys2Proof/Machine/Pages.lean ====
section
/-! DEFINITION. What a die's operation or a page's arrival does: catalog walks, fetched sectors, page commands, register
operations and port resets (R482, R483, R496 to R513, R526 to R531, R537, R539). -/

namespace Sys2Proof.Machine
open Reg

/-! ### Catalog walks (R506 to R510) -/

/-- The walk of a table and key in slot `p`, with its place, while its outcome is open. -/
def State.openWalk (s : State) (p t : Nat) (key : List Byte) : Option (Nat × Walk) :=
  match s.learn.walks.findIdx? (fun w => w.slot == p && w.table == t && w.key == key && w.result.isNone) with
  | some i => (s.learn.walks[i]?).map (fun w => (i, w))
  | none => none

/-- Walk `i` replaced. -/
def State.setWalk (s : State) (i : Nat) (w : Walk) : State :=
  { s with learn := { s.learn with walks := listSet s.learn.walks i w } }

/-- A catalog codeword has its kind, its bucket word, its own address and its tag (R506, R508). -/
def State.catalogGood (s : State) (p kind bucket row cw : Nat) (d : List Byte) : Bool :=
  fieldAt d 0 1 == kind && fieldAt d 4 4 == bucket && fieldAt d 8 4 == row && fieldAt d 12 1 == cw &&
    (hmac (s.keyBytes (catalogSlot p)) (d.take 1008 ++ leBytes 8 (s.cartId p))).take 16 == (d.drop 1008).take 16

/-- A codeword of a page of the catalog, where the page, the codeword and the catalog key pass; the walk that acts on one that
does not is a bite (R598, R602). -/
def State.catalogCw (s : State) (p row cw : Nat) (page : List Byte) : State × Option (List Byte) :=
  let t := (s.needCatalog p).takePage p 0 row page true (s.metaGood p regCatalog row 0) [cw]
  let c : Codeword := t.2.getD 0 ⟨[], 0, true⟩
  let s1 := t.1.keyReport (catalogSlot p) 5
  if c.bad || s1.keyBad (catalogSlot p) then (s1.bite 0 5 0 0xFFFF, none) else (s1, some c.data)

/-- The descriptor of a key in a leaf codeword (R507). -/
def leafFind (d key : List Byte) : Option Nat :=
  ((List.range (min 31 (fieldAt d 2 2))).find? (fun i => (d.drop (16 + 32 * i)).take 16 == key)).map
    (fun i => fieldAt d (32 + 32 * i) 8)

/-- `n` leaf codewords of one page read, checked and searched in order; `seen` is what the run has held of the key so far. None
when one of them is bad. -/
def State.leafScan (p b row : Nat) (key page : List Byte) : Nat → Nat → Option Nat → State → State × Option (Option Nat)
  | 0, _, seen, s => (s, some seen)
  | n + 1, cw, seen, s =>
    let t := s.catalogCw p row cw page
    match t.2 with
    | none => (t.1, none)
    | some d =>
      if !t.1.catalogGood p 2 b row cw d then (t.1, none)
      else State.leafScan p b row key page n (cw + 1)
        (seen.orElse (fun _ => (leafFind d key).map (fun e => extWithSlot e p))) t.1

/-- A page that walk `i` has asked for has come (R509): the directory codeword, or the next codewords of the bucket's run. -/
def State.walkPage (s : State) (p : Nat) (i : Nat) (w : Walk) (row : Nat) (page : List Byte) : State :=
  let b := s.walkBucket p w.key
  let ends (s : State) (r : WalkResult) : State := s.setWalk i { w with result := some r }
  match w.leaf with
  | none =>
    let cw := (s.dirPlace p b).2
    let t := s.catalogCw p row cw page
    match t.2 with
    | none => ends t.1 { found := none, failed := true }
    | some d =>
      let e := fieldAt d (16 + 8 * (b % 124)) 8
      if !t.1.catalogGood p 1 (b / 124 * 124) row cw d then ends t.1 { found := none, failed := true }
      else if bitsOf e 32 16 = 0 then ends t.1 { found := none, failed := false }
      else (t.1.setWalk i { w with leaf := some (bitsOf e 0 24, bitsOf e 24 4, bitsOf e 28 4 + 1) }).queueRead p 0 (bitsOf e 0 24)
        (.walk w.table w.key)
  | some (r0, cw, left) =>
    let here := min left (16 - cw)
    let t := State.leafScan p b r0 w.key page here cw w.seen s
    match t.2 with
    | none => ends t.1 { found := none, failed := true }
    | some seen =>
      if left ≤ here then ends t.1 { found := seen, failed := false }
      else (t.1.setWalk i { w with leaf := some (r0 + 1, 0, left - here), seen := seen }).queueRead p 0 (r0 + 1)
        (.walk w.table w.key)

/-- A walker of a walk that has ended (R32, R33, R388, R510). -/
def State.walkerEnds (s : State) (r : WalkResult) : Walker → State
  | .fetch id =>
    if r.failed then s.endFetch id stPoisoned
    else match r.found with
      | none => s.endFetch id stNotFound
      | some d => s.updFetch id (fun f => { f with stage := .offered, walked := true, found := some d })
  | .cmd m =>
    if r.failed then s.settleKey m id
    else if r.found.isNone then s.settleKey m (fun c => { c with notFound := c.notFound + 1 })
    else s

/-- WALK_END: walk `i` ends FOUND, NOT_FOUND or FAILED. A key found is offered to learning once, for every key of a LEARN.WALK
that waits for it (R388, R395), and every fetch that waits goes on. -/
def execWalkEnd (i : Nat) (s : State) : Out :=
  match s.learn.walks[i]? with
  | none => ok s
  | some w =>
    match w.result with
    | none => ok s
    | some r =>
      let s1 := if r.found.isNone && !r.failed then
          ({ s with learn := { s.learn with notFound := countUp 32 s.learn.notFound } } : State).inc HASH_WALK_NF_walk_not_found
        else s
      let s2 := s1.endWalk i
      let mbs := w.walkers.filterMap (fun x => match x with | .cmd m => some m | _ => none)
      let first := match w.walkers with | .cmd _ :: _ => true | _ => false
      let s3 := match r.found with
        | some d =>
          if r.failed then s2
          else s2.queueInsert
            { table := w.table, type := 1, key := w.key, result := d, startPly := w.startPly, mbs := mbs, first := first }
        | none => s2
      ok (w.walkers.foldl (fun s x => s.walkerEnds r x) s3)

/-! ### Fetched sectors (R511 to R513, R526 to R531) -/

/-- The first and the last sector of a fetch (R527). -/
def Fetch.first (f : Fetch) : Nat := f.offset / 4096
def Fetch.last (f : Fetch) : Nat := (f.offset + f.len - 1) / 4096

/-- The reads of a fetch's pages queued at its die (R482, R527), and the fetch in its media stage with its descriptor. -/
def State.beginMedia (s : State) (f : Fetch) (d : Nat) : State :=
  let rows := f.last / 4 - f.first / 4 + 1
  let s1 := s.updFetch f.id (fun g => { g with stage := .media, desc := some d, next := g.first, issued := false })
  (List.range rows).foldl (fun s k =>
    s.queueRead (extSlot d) (extDie d) (extRow d + f.first / 4 + k) (.fetch f.id)) s1

/-- A page of a fetch has come: the sectors that the fetch reads of it, corrected (R499, R500, R502, R512). -/
def State.fetchPage (s : State) (p die row : Nat) (f : Fetch) (page : List Byte) : State :=
  let d := f.desc.getD 0
  let k := row - extRow d
  let idx := (List.range 4).filter (fun j => f.first ≤ 4 * k + j && 4 * k + j ≤ f.last)
  let good (r : List Byte) : Bool := s.metaGood p regContent row die r && fieldAt r 20 3 == extId d
  let t := s.takePage p die row page true good (idx.flatMap (fun j => (List.range 4).map (4 * j + ·)))
  let secs : List SectorIn := (List.range idx.length).map (fun n =>
    let cws := (t.2.drop (4 * n)).take 4
    { index := 4 * k + idx.getD n 0, data := cws.flatMap (·.data), poison := cws.map (·.bad) })
  let bits := t.2.foldl (fun n c => if c.bad then n else max n c.fixed) 0
  t.1.updFetch f.id (fun g => { g with
    sectors := g.sectors ++ secs, maxBits := max g.maxBits bits
    eccHigh := g.eccHigh || s.rdi SLOT_CFG_ecc_warn p ≤ bits })

/-- EXTENT_KEY_LOADED: the guard core binds the fetch to the EXTENT slot that holds its extent's key, or derives the key
into one (R565). -/
def execExtentKeyLoaded (id : Nat) (s : State) : Out :=
  match s.fetch id with
  | none => ok s
  | some f =>
    if f.stage = .media ∧ f.keySlot = none ∧ s.guardRuns then
      let d := f.desc.getD 0
      let r := s.bindExtent (extSlot d) (extId d)
      ok (r.1.updFetch id (fun g => { g with keySlot := r.2 }))
    else ok s

/-- A sector that carries poison kept in the buffer of its channel, with its poisoned words; the buffer keeps the one that it
has until STREAM.RESUME (R530, R532). -/
def State.keepSector (s : State) (c : Nat) (data : List Byte) (bad : Nat → Bool) : State :=
  if (s.chan c).kept then s
  else
    ((List.range 512).foldl (fun s w =>
      let word := padTo 8 ((data.drop (8 * w)).take 8)
      if bad w then s.storePoison 0x74 (512 * c + w) word else s.storeWord 0x74 (512 * c + w) word) s).setChan c
      { s.chan c with kept := true }

/-- The requested bytes of a decrypted sector go on (R527), and with the last sector the fetch is complete. -/
def State.deliverSector (s : State) (f : Fetch) (k : Nat) (plain : List Byte) : State :=
  let lo := max f.offset (4096 * k)
  let hi := min (f.offset + f.len) (4096 * (k + 1))
  (s.updFetch f.id (fun g => { g with next := k + 1 })).holdData f.id (lo - f.offset)
    ((plain.drop (lo - 4096 * k)).take (hi - lo)) (if k = f.last then some stOk else none)

/-- SECTOR_DECRYPTED: the next sector of a fetch is decrypted once it has come, its key is loaded (R513) and the one before
is written, and delivered. A sector with poison ends the fetch POISONED; the channel keeps it and halts (R530, R598, R599). -/
def execSectorDecrypted (id : Nat) (s : State) : Out :=
  match s.fetch id with
  | none => ok s
  | some f =>
    match f.keySlot, f.sectors.find? (fun x => x.index == f.next) with
    | some k, some x =>
      if f.stage != .media || !f.held.isEmpty then ok s
      else
        let d := f.desc.getD 0
        let keyBad := s.keyBad k
        let plain := xtsDecrypt (s.keyBytes k) (extId d * 2 ^ 32 + f.next) x.data
        let s1 := (s.keyReport k 5).inc STRM_SECTORS_sectors
        if keyBad || x.poison.contains true then
          let bad (w : Nat) : Bool := keyBad || x.poison.getD (w / 128) false
          match f.owner with
          | .chan c _ =>
            let at_ := 4096 * c + 8 * ((List.range 512).find? bad).getD 0
            ok ((((s1.keepSector c plain bad).bite 0x74 5 at_ 0xFFFF).endFetch id stPoisoned).haltChan c 1)
          | .remote .. => ok ((s1.bite 0 5 0 0xFFFF).endFetch id stPoisoned)
        else ok (s1.deliverSector f f.next plain)
    | _, _ => ok s

/-! ### Page commands -/

/-- The page command that a mailbox runs at slot `p`. -/
def State.pageRun (s : State) (p : Nat) (m : Mb) : Option PageRun := (s.port p).pageRuns.find? (fun r => r.mb == m)

/-- A page command ends. -/
def State.endPage (s : State) (p : Nat) (m : Mb) (st : Nat) (resp : List Byte) : State :=
  (s.updPort p (fun x => { x with pageRuns := x.pageRuns.filter (fun r => r.mb != m) })).done m st 0 resp

/-- Corrected bytes put into a mailbox data RAM range, one codeword from byte `o`; a poisoned codeword with poison. -/
def State.putCodeword (s : State) (ref : Nat × Nat) (o : Nat) (c : Codeword) : State :=
  if c.bad then
    (List.range 128).foldl (fun s w =>
      s.storePoison sidBar2 ((dataRam + ref.1 + o) / 8 + w) (padTo 8 ((c.data.drop (8 * w)).take 8))) s
  else s.refPut ref o c.data

/-- A row lies in a block of the header, catalog or content region of the cartridge in slot `p`: header blocks 0 and 1 and the
catalog on die 0, the content blocks on every die (R504, R505). -/
def State.strictRow (s : State) (p die row : Nat) : Bool :=
  let b := row / (((s.port p).param.map (·.pages)).getD 1)
  let within (o : Nat) : Bool := s.hdr p o 4 ≤ b && b < s.hdr p o 4 + s.hdr p (o + 4) 4
  (die == 0 && (b < 2 || within 28)) || within 48

/-- A page that SLOT.PAGE_READ has asked for has come. In the header, catalog and content regions, which its place names, or its
metadata where the cartridge has no header, an erased codeword counts as uncorrectable (R498). -/
def State.pageRead (s : State) (p die row : Nat) (r : PageRun) (page : List Byte) : State :=
  if r.flags % 2 = 0 then
    (s.refPut r.ref 0 (padTo pageSize page)).endPage p r.mb stOk (leBytes 4 pageSize ++ leBytes 4 0)
  else
    let strict := match metaRecord page with
      | some m => [regHeader, regCatalog, regContent].contains (fieldAt m 2 1)
      | none => false
    let t := s.decodeCws p die row page (strict || s.strictRow p die row) (List.range 16)
    let bits := t.2.foldl (fun n c => if c.bad then n else max n c.fixed) 0
    let bad := (t.2.filter (·.bad)).length
    let s1 := t.1.refPut r.ref 0 (padTo 128 page)
    let s2 := (List.range 16).foldl (fun s i => s.putCodeword r.ref (128 + 1024 * i) (t.2.getD i ⟨[], 0, false⟩)) s1
    s2.endPage p r.mb stOk (leBytes 4 (128 + 16384) ++ leBytes 1 bits ++ leBytes 1 bad ++ leBytes 2 0)

/-- A program or an erase of a page command is over. -/
def State.pageDie (s : State) (p : Nat) (m : Mb) (st : Byte) (failed : Bool) : State :=
  if failed then s.endPage p m stNoRoom [] else s.endPage p m stOk (leBytes 1 st.toNat ++ leBytes 3 0)

/-- The pages of a die of slot `p`, and its blocks, as its parameter page declares them. -/
def State.dieRows (s : State) (p : Nat) : Nat := ((s.port p).param.map (fun q => q.pages * q.blocks)).getD 0
def State.dieBlocks (s : State) (p : Nat) : Nat := ((s.port p).param.map (·.blocks)).getD 0

/-- The state checks of the page commands: a mounted slot, and RAW where the command writes. -/
def State.pageChecks (s : State) (m : Mb) (p : Nat) (writes : Bool) (effect : State → State) : State :=
  if s.slotState p = slEmpty then s.fail m stMediaGone
  else if !s.slotMounted p then s.fail m stWrongState
  else if writes ∧ s.slotState p ≠ slRaw then s.fail m stDenied
  else effect s

/-- A page command begins with its operation at a die. -/
def State.beginPage (s : State) (m : Mb) (p flags : Nat) (ref : Nat × Nat) (o : DieOp) : State :=
  ((s.updPort p (fun x => { x with pageRuns := x.pageRuns ++ [{ mb := m, flags := flags, ref := ref }] })).queueOp p o).wait m

/-- The parameter checks that PAGE_READ and PAGE_PROGRAM share; the range must hold the page. -/
def State.pageParams (s : State) (c : Cmd) (n : Nat) : List (Option Nat) :=
  let p := c.u8 0
  let up := p < 2 && s.slotMounted p
  [need (p < 2) 0, need (!up || (s.port p).dies.contains (c.u8 1)) 1, need (c.u8 2 ≤ 1) 2, c.notZero 3 1,
   need (!up || c.u32 4 < s.dieRows p) 4, c.refCheck 8, need (n ≤ (c.ref 8).2) 8]

/-- SLOT.PAGE_READ (0x0A20, R498). -/
def execSlotPageRead (m : Mb) (s : State) : Out :=
  runCmd m 0x0A20 s (fun c s =>
    let n := if c.u8 2 = 1 then 128 + 16384 else pageSize
    checked m (s.pageParams c n) s (fun s =>
      s.pageChecks m (c.u8 0) false (fun s =>
        s.beginPage m (c.u8 0) (c.u8 2) (c.ref 8)
          { die := c.u8 1, row := c.u32 4, kind := .read, use := .page m, ready := false })))

/-- SLOT.PAGE_PROGRAM (0x0A21, R483, R497, R597). -/
def execSlotPageProgram (m : Mb) (s : State) : Out :=
  runCmd m 0x0A21 s (fun c s =>
    let n := if c.u8 2 = 1 then 128 + 16384 else pageSize
    checked m (s.pageParams c n) s (fun s =>
      if s.refPoison ((c.ref 8).1, n) then s.fail m stPoisoned
      else
        s.pageChecks m (c.u8 0) true (fun s =>
          let b := s.refBytes ((c.ref 8).1, n)
          let page := if c.u8 2 = 1 then encodePage (b.take 128) (b.drop 128) else b
          s.beginPage m (c.u8 0) (c.u8 2) (c.ref 8)
            { die := c.u8 1, row := c.u32 4, kind := .program page, use := .page m, ready := false })))

/-- SLOT.BLOCK_ERASE (0x0A22, R483). -/
def execSlotBlockErase (m : Mb) (s : State) : Out :=
  runCmd m 0x0A22 s (fun c s =>
    let p := c.u8 0
    let up := p < 2 && s.slotMounted p
    checked m [need (p < 2) 0, need (!up || (s.port p).dies.contains (c.u8 1)) 1, c.notZero 2 2,
               need (!up || c.u32 4 < s.dieBlocks p) 4] s (fun s =>
      s.pageChecks m p true (fun s =>
        s.beginPage m p 0 (0, 0) { die := c.u8 1, row := c.u32 4, kind := .erase, use := .page m, ready := false })))

/-! ### Port reset (R537) -/

/-- Walks of slot `p` whose read is voided end without an insert: their fetches complete with VOID. -/
def State.voidWalks (s : State) (p : Nat) : State :=
  let gone (w : Walk) : Bool := w.slot == p && w.result.isNone
  let walkers := (s.learn.walks.filter gone).flatMap (·.walkers)
  let s1 : State := { s with learn := { s.learn with walks := s.learn.walks.filter (fun w => !gone w) } }
  let s2 := walkers.foldl (fun s x => match x with
    | .fetch id => s.endFetch id stVoid
    | .cmd m => if (s.walkCmd m).isSome then (s.dropWalkCmd m).fail m stVoid else s) s1
  State.fillWalks 32 s2

/-- A port reset begins (R537): RESET on every die and READ PARAMETER PAGE take the place of what the port had queued, and every
outstanding read is voided, with what waits for it. -/
def State.portResetBegin (s : State) (p : Nat) (m : Option Mb) : State :=
  let x := s.port p
  let reads := x.ops.filter (fun o => o.kind == .read)
  let fetches := (reads.filterMap (fun o => match o.use with | .fetch id => some id | _ => none)).eraseDups
  let s0 := s.updPort p (fun x => { x with ops := [], portReset := some (m, reads.length), resetPages := [], capture := [] })
  let s1 := (x.dies.foldl (fun s d =>
    s.queueOp p { die := d, row := 0, kind := .reset false, use := .portReset, ready := false }) s0).askParams p .portReset
  let s2 := (fetches.foldl (fun s id => s.endFetch id stVoid) s1).voidWalks p
  let s3 := x.saves.foldl (fun s r => s.endSave p r.mb (if r.job = .write then stAborted else stVoid) 0 []) s2
  let s4 := x.pageRuns.foldl (fun s r => s.endPage p r.mb
    (if reads.any (fun o => o.use == .page r.mb) then stVoid else stAborted) []) s3
  s4.endExpert p 3

/-- A die's answer in a port reset. With the last parameter page the check of step 5 follows, and where the dies meet R478, SET
FEATURES (R486, R537; log entry 161); the reset is over with the last answer. -/
def State.portResetReply (s : State) (p : Nat) (kind : DieKind) (a : DieReply) : State :=
  match (s.port p).portReset with
  | none => s
  | some (m, n) =>
    let s1 := if kind = .param then s.updPort p (fun x => { x with resetPages := x.resetPages ++ a.param.toList }) else s
    let x := s1.port p
    if x.ops.any (fun o => o.use == .portReset) then s1
    else if kind = .param ∧ !x.dies.isEmpty ∧ x.resetPages.length = x.dies.length ∧ x.resetPages.all (fun q => paramOk q && some q == x.param) then
      s1.setFeatures p (s1.rdi SLOT_STATUS_rate_mts p) .portReset
    else
      let s2 := (if kind = .param then s1 else s1.trainReads p).updPort p (fun x => { x with portReset := none })
      match m with
      | some m => s2.okResp m (leBytes 4 n)
      | none => s2

/-- SLOT.PORT_RESET (0x0A05, R537). -/
def execSlotPortReset (m : Mb) (s : State) : Out :=
  runCmd m 0x0A05 s (fun c s =>
    let p := c.u8 0
    checked m [need (p < 2) 0] s (fun s =>
      if s.slotState p = slMounting then s.fail m stBusy
      else if !s.slotMounted p || (s.port p).portReset.isSome then s.fail m stWrongState
      else (s.wait m).portResetBegin p (some m)))

/-- SLOT_PORT_RESET_WRITE: a port reset of a mounted slot. -/
def execSlotPortResetWrite (p : Port) (w : RegWord) (s : State) : Out :=
  let i := portIdx p
  ok (s.slotCtrl i w SLOT_CTRL_port_reset (fun s =>
    if s.slotMounted i && (s.port i).portReset.isNone then s.portResetBegin i none else s.badWrite))

/-! ### Operations through SLOT_OP_CMD (R539) -/

/-- A SLOT_OP_CMD write with go set and operation `op`. -/
def State.expertOp (s : State) (p : Nat) (w : RegWord) (op : Nat) (raw : Bool) (kind : State → DieKind) : State :=
  s.regOp (0xF040 + 0x100 * p) w (fun s =>
    if fieldOf w SLOT_OP_CMD_go = 0 ∨ fieldOf w SLOT_OP_CMD_op ≠ op then s
    else if s.rdi SLOT_OP_STATUS_busy p = 1 then s.badWrite
    else
      let powered := s.rdi SLOT_STATUS_vcc_on p == 1 && s.rdi SLOT_STATUS_vccq_on p == 1
      if !powered || (raw && s.slotState p != slRaw) || 8 ≤ fieldOf w SLOT_OP_CMD_die then
        s.wri SLOT_OP_STATUS_outcome p 2
      else
        (s.wri SLOT_OP_STATUS_busy p 1).queueOp p
          { die := fieldOf w SLOT_OP_CMD_die, row := s.rdi SLOT_OP_ROW_row p, kind := kind s, use := .expert, ready := false })

/-- SLOT_OP_READ_PAGE_RAW: a page read into the page buffer. -/
def execSlotOpReadPageRaw (p : Port) (w : RegWord) (s : State) : Out :=
  ok (s.expertOp (portIdx p) w 1 false (fun _ => .read))

/-- SLOT_OP_PROGRAM_RAW: the page buffer programmed; only in RAW. -/
def execSlotOpProgramRaw (p : Port) (w : RegWord) (s : State) : Out :=
  ok (s.expertOp (portIdx p) w 2 true (fun s => .program (padTo pageSize (s.port (portIdx p)).buf)))

/-- SLOT_OP_ERASE_BLOCK: the block that SLOT_OP_ROW names; only in RAW. -/
def execSlotOpEraseBlock (p : Port) (w : RegWord) (s : State) : Out :=
  ok (s.expertOp (portIdx p) w 3 true (fun _ => .erase))

/-- SLOT_OP_RESET: RESET of a die. -/
def execSlotOpReset (p : Port) (w : RegWord) (s : State) : Out :=
  ok (s.expertOp (portIdx p) w 4 false (fun _ => .reset false))

/-- SLOT_OP_READ_ID: READ ID of a die, its bytes into the page buffer. -/
def execSlotOpReadId (p : Port) (w : RegWord) (s : State) : Out :=
  ok (s.expertOp (portIdx p) w 5 false (fun _ => .readId false))

/-- SLOT_OP_READ_PARAMETER_PAGE: READ PARAMETER PAGE of a die, its bytes into the page buffer. -/
def execSlotOpReadParameterPage (p : Port) (w : RegWord) (s : State) : Out :=
  ok (s.expertOp (portIdx p) w 6 false (fun _ => .param))

/-- Bytes put into the page buffer of slot `p` from byte `o`; what lies beyond 17,632 bytes is discarded. -/
def State.putBuf (s : State) (p o : Nat) (b : List Byte) : State :=
  s.updPort p (fun x =>
    let full := padTo pageSize x.buf
    { x with buf := (full.take o ++ b ++ full.drop (o + b.length)).take pageSize })

/-- A register operation at a die is over. -/
def State.expertDone (s : State) (p outcome : Nat) : State :=
  (s.wri SLOT_OP_STATUS_busy p 0).wri SLOT_OP_STATUS_outcome p outcome

/-- SLOT_OP_DATA_ACCESS: a read or write of SLOT_OP_DATA moves buffer bytes ptr to ptr + 3, and adds 4 to ptr. -/
def execSlotOpDataAccess (p : Port) (w : Option RegWord) (s : State) : Out :=
  let i := portIdx p
  let at_ := s.rdi SLOT_OP_PTR_ptr i
  match w with
  | none =>
    let b := padTo 4 (((padTo pageSize (s.port i).buf).drop at_).take 4)
    ok ((s.wri SLOT_OP_PTR_ptr i (at_ + 4)).reply b false .success)
  | some w =>
    ok (s.regOp (0xF04C + 0x100 * i) w (fun s =>
      ((if at_ < pageSize then s.putBuf i at_ (leBytes 4 w.toNat) else s)).wri SLOT_OP_PTR_ptr i (at_ + 4)))

/-! ### The events of a die -/

/-- FAIL of an ONFI status byte: bit 0. -/
def dieFailed (st : Byte) : Bool := st.getLsbD 0

/-- The bytes that the module reads from a die: free ones over lands that the boundary register has cut (R773, log entry 85). -/
def State.pageSees (s : State) (data : List Byte) : List Byte :=
  if s.scanOwns then (List.range data.length).map (Config.cutByte s.free) else data

/-- A die's answer as the module reads it. Over lands that the boundary register has cut, Mxy_RB_N reads ready at its pull-up, and the
status and the data are free: no parameter page is read (R757, R773; log entry 85). -/
def State.dieSees (s : State) (r : DieReply) : DieReply :=
  if s.scanOwns then
    { status := Config.cutByte s.free r.data.length, data := s.pageSees r.data
      onfi := (Config.cutByte s.free (r.data.length + 1)).getLsbD 0, param := none }
  else r

/-- DIE_OPERATION_COMPLETE: the array operation that runs at a die is over. The data of a read comes next; a failed program or
erase is counted (R483); then its user goes on. A program whose page the media cap has kept from the data bus is not over
(R159). -/
def execDieOperationComplete (p : Port) (die : Fin 8) (reply : DieReply) (s : State) : Out :=
  let i := portIdx p
  let r := s.dieSees reply
  let x := s.port i
  match x.array die.val with
  | none => ok s
  | some k =>
    match x.ops[k]? with
    | none => ok s
    | some o =>
      if (o.moves ≠ 0 ∧ ¬ s.busFree i) ∨ s.lateFinal i o = true then ok s else
      let failed := dieFailed r.status
      let behind : Bool := x.first die.val != some k
      let s0 := (((if o.use = .expert then s.wri SLOT_OP_STATUS_die_status i r.status.toNat else s).busMoves i o.moves).issue i
        die.val (x.cmdsOf o behind))
      match o.kind with
      | .read =>
        let s1 := s0.updPort i (fun x => { x with ops := listSet x.ops k { o with ready := true, cached := behind } })
        match o.use with
        | .fetch id => ok (s1.updFetch id (fun f => { f with issued := true }))
        | _ => ok s1
      | kind =>
        let s1 := s0.dropOp i k
        let s2 := match kind with
          | .program _ => if failed then s1.addi SLOT_PE_program_fail i 1 else s1
          | .erase => if failed then s1.addi SLOT_PE_erase_fail i 1 else s1
          | _ => s1
        match o.use with
        | .mount => ok (s2.mountReply i die.val kind r)
        | .portReset => ok (s2.portResetReply i kind r)
        | .save m => ok (s2.saveDie i m failed)
        | .page m => ok (s2.pageDie i m r.status failed)
        | .expert =>
          let s3 := match kind with
            | .readId _ => s2.putBuf i 0 r.data
            | .param => s2.putBuf i 0 r.data
            | _ => s2
          let writes := match kind with | .program _ => true | .erase => true | _ => false
          ok (s3.expertDone i (b2n (writes && failed)))
        | _ => ok s2

/-- The commands of a page's transfer: READ CACHE END for the last page behind READ CACHE SEQUENTIAL, and CHANGE READ COLUMN where
codewords of the page are skipped: a fetch takes only the codewords of its sectors, and a walk those of its bucket (R479). -/
def State.dataCmds (s : State) (p : Nat) (o : DieOp) : List OnfiCmd :=
  let goes := (s.port p).ops.any (fun q => q.die == o.die && o.leadsTo q)
  let skips : Bool := match o.use with
    | .fetch id =>
      match s.fetch id with
      | some f => let k := o.row - extRow (f.desc.getD 0); decide (4 * k < f.first) || decide (f.last < 4 * k + 3)
      | none => false
    | .walk .. => true
    | _ => false
  (if o.cached && !goes then [.readCacheEnd] else []) ++ (if skips then [.changeReadColumn] else [])

/-- PAGE_DATA_RECEIVED: the page of a die's completed array read has come, over a data bus that the media cap lets start
(R159). -/
def execPageDataReceived (p : Port) (die : Fin 8) (data : List Byte) (s : State) : Out :=
  let i := portIdx p
  let page := s.pageSees data
  match s.dieRuns i die.val with
  | none => ok s
  | some k =>
    match (s.port i).ops[k]? with
    | none => ok s
    | some o =>
      if o.kind ≠ .read ∨ ¬ o.ready ∨ ¬ s.busFree i then ok s
      else
        let s1 := (((s.issue i die.val (s.dataCmds i o)).dropOp i k).addi SLOT_READS_reads i 1).busMoves i page.length
        match o.use with
        | .mount => ok (s1.mountHeader i o.row page)
        | .fetch id =>
          match s1.fetch id with
          | some f => ok (if f.stage = .media then s1.fetchPage i die.val o.row f page else s1)
          | none => ok s1
        | .walk t key =>
          match s1.openWalk i t key with
          | some (j, w) => ok (s1.walkPage i j w o.row page)
          | none => ok s1
        | .save m => ok (s1.savePage i m page)
        | .page m =>
          match s1.pageRun i m with
          | some r => ok (s1.pageRead i die.val o.row r page)
          | none => ok s1
        | .expert => ok ((s1.putBuf i 0 (padTo pageSize page)).expertDone i 0)
        | _ => ok s1

end Sys2Proof.Machine
end

