-- ==== Sys2Proof/Machine/Deliver.lean ====
section
/-! DEFINITION. Admission, SIC capture and delivery of searches, and what a stream channel does with a result (R56 to R60,
R71 to R78, R298 to R311, R449 to R460, R525, R526). -/

namespace Sys2Proof.Machine
open Reg

/-! ### What waits for admission -/

/-- The descriptor of a queue pair's staged request (R274, R298). -/
def State.stagedDesc (s : State) (q : Nat) (x : Staged) : Desc := parseDesc x.desc (8 * (s.qReqSize q - 24))

/-- The descriptor of a window lane as it stands (R305, R307). -/
def State.laneDesc (s : State) (l : Nat) : Desc := parseDesc (s.bar2Get (laneOff l) 0x60) 640

/-- The descriptor of a fetch's search (R523, R536). -/
def Fetch.descriptor (f : Fetch) : Desc :=
  parseDesc (leBytes 1 f.profile ++ leBytes 1 f.fetchClass ++ leBytes 2 f.keyLen ++ leBytes 4 0 ++ leBytes 8 f.userTag ++ f.key)
    256

/-- A descriptor that makes a GROUP search: a defined profile of scope GROUP that its source may name (R291). -/
def State.groupScope (s : State) (d : Desc) (mask : Nat) : Bool :=
  !d.bad && s.profDefined d.profile && bitOf mask d.profile && recNat (s.profBytes d.profile) 1 1 % 2 == 1

/-- A descriptor that makes a search of more than one member (R450). -/
def State.isGroupSearch (s : State) (d : Desc) (mask : Nat) : Bool := s.groupScope d mask && 2 ≤ s.groupK

/-- The present chain ply begins a forward window of this member's link that carries no search frame yet and is not
reserved (R434, R452); `taken` says that a frame from upstream takes it. -/
def State.groupWindow (s : State) (taken : Bool) : Bool := !taken && s.windowPos == 0 && !s.windowReserved

/-- A change of the group map holds back GROUP searches in the 88 plies before its commit (R476). -/
def State.groupsHold (s : State) : Bool :=
  s.chain.groupsPend.any (fun g => !s.plyReached g.2 && s.plyReached (g.2 + 2 ^ 32 - 88))

/-- What a source offers: the search's source, its descriptor and its profile mask. -/
structure Offer where
  src : SearchSrc
  desc : Desc
  mask : Nat
  deriving DecidableEq, Repr

/-- The offer of queue pair `q`, where it is ready (R300, R302). -/
def State.offerPair (s : State) (q : Nat) : Option Offer :=
  if s.pairReady q then
    match (s.pair q).staged with
    | x :: _ => some { src := .queue q x.count, desc := s.stagedDesc q x, mask := s.rdi SRCH_Q_PMASK_pmask q }
    | [] => none
  else none

/-- The offer of the oldest window search (R307, R309). -/
def State.offerWindow (s : State) : Option Offer :=
  match s.srch.window with
  | x :: _ => some { src := .window x.lane x.len, desc := s.laneDesc x.lane, mask := s.rd SRCH_WIN_PMASK_win_pmask }
  | [] => none

/-- The offer of a fetch. -/
def Fetch.offer (f : Fetch) : Offer := { src := .stream f.id, desc := f.descriptor, mask := 2 ^ 32 - 1 }

/-- The offers of the stream engine, in the order of the S rotation: each channel's oldest search, then the oldest of the
remote fetches (R310, R524, R536). -/
def State.offersS (s : State) : List Offer :=
  let c0 := s.rd SRCH_PTRS_s_ptr
  (List.range 16).filterMap (fun i =>
      ((s.strm.fetches.find? (fun f => f.ofChan ((c0 + i) % 16) && f.stage == .offered)).map Fetch.offer)) ++
    ((s.strm.fetches.filter (fun f => f.stage == .offered && match f.owner with | .remote .. => true | _ => false)).map
      Fetch.offer)

/-- The offers of the ready queue pairs, in the order of the Q rotation (R301). -/
def State.offersQ (s : State) : List Offer :=
  let q0 := s.rd SRCH_PTRS_q_ptr
  (List.range 16).filterMap (fun i => s.offerPair ((q0 + i) % 16))

/-- An admission cap of a heat level is reached (R78, R159). -/
def State.capped (s : State) (level : Nat) : Bool :=
  level != 0 && s.clk.admCaps.getD (level - 1) 0 ≤ s.clk.admittedThisUs

/-- An offer may be admitted on this ply: for a GROUP search under R452, R462 and R476. -/
def State.offerOk (s : State) (taken : Bool) (o : Offer) : Bool :=
  if s.groupScope o.desc o.mask && s.groupsHold then false
  else if s.isGroupSearch o.desc o.mask then s.groupWindow taken && !s.capped (max s.clk.capLevel s.clk.capGroup)
  else !s.capped s.clk.capLevel

/-- The search that each source holds, Q 0, W 1, S 2: the one that its rotation takes next (R301, R310). A source whose search has
to wait is not ready, whatever comes behind it in its rotation (R452). -/
def State.offerOf (s : State) (src : Nat) : Option Offer :=
  match src % 3 with | 0 => s.offersQ.head? | 1 => s.offerWindow | _ => s.offersS.head?

/-- The first source that is ready, from the pointer on, with its search (R76). -/
def State.pickOffer (s : State) (taken : Bool) (ptr : Nat) : Option (Nat × Offer) :=
  ((List.range 3).filterMap (fun k => (s.offerOf (ptr + k)).map (fun o => ((ptr + k) % 3, o)))).find? (fun x => s.offerOk taken x.2)

/-- The searches that the sources hold on this ply. -/
def State.allOffers (s : State) : List Offer := (List.range 3).filterMap s.offerOf

/-! ### Admission -/

/-- A search joins the searches in flight through SIC_ADM (R53); its lookups are counted, and a GROUP search's frame goes out
(R453). -/
def State.launch (s : State) (f : InFlight) (d : Desc) : State :=
  let s0 := s.crossFifo 6 (produceWord (BitVec.ofNat 64 d.material) false f.tag)
  let s1 : State := { s0 with srch := { s0.srch with inFlight := s0.srch.inFlight ++ [f] } }
  let s2 := f.outs.foldl State.countIssued s1
  if 2 ≤ f.k then
    { s2 with chain := { s2.chain with fwd := s2.chain.fwd ++
        [.search d.profile (BitVec.ofNat 112 d.material) d.fetchClass] } }
  else s2

/-- What admission takes from the source of an offer. -/
def State.takeOffer (s : State) (src : SearchSrc) : State :=
  match src with
  | .queue q _ =>
    let p := s.pair q
    let s1 := (s.setPair q { p with staged := p.staged.drop 1 }).wri SRCH_Q_REQ_CNT_req_admitted q
      (s.rdi SRCH_Q_REQ_CNT_req_admitted q + 1)
    (((s1.wr SRCH_PTRS_q_ptr (q + 1)).addi SRCH_Q_SEARCHES_searches q 1).inc CLK_ADMIT_Q_admit_q).servePair q
  | .window _ _ =>
    (({ s with srch := { s.srch with window := s.srch.window.drop 1 } } : State).noteWindow).inc CLK_ADMIT_W_admit_w
  | .stream id =>
    let s1 := s.updFetch id (fun f => { f with stage := .searching })
    let s2 := match s.fetch id with
      | some f => match f.owner with
        | .chan c _ => s1.wr SRCH_PTRS_s_ptr (c + 1)
        | _ => s1
      | none => s1
    s2.inc CLK_ADMIT_S_admit_s
  | .chain => s

/-- A window search whose lane holds poison is delivered POISON (R283). -/
def State.lanePoison (s : State) (src : SearchSrc) (f : InFlight) : InFlight :=
  match src with
  | .window l _ =>
    if s.rangePoison sidBar2 (laneOff l) 0x60 && f.bad.isNone then
      { f with poisoned := true, outs := List.replicate 4 LookupOut.notIssued, guard := gNone }
    else f
  | _ => f

/-- The poisoned words of a lane reported when its search is admitted (R602). -/
def State.noteLane (s : State) (src : SearchSrc) : State :=
  match src with
  | .window l _ => s.reportRange sidBar2 (laneOff l) 0x60 1
  | _ => s

/-- An offer admitted on the present ply. -/
def State.admitOffer (s : State) (o : Offer) : State :=
  let g := s.makeSearch o.src o.desc o.mask
  let f := s.lanePoison o.src g
  let s1 := (((s.noteProfile g).noteLane o.src).takeOffer o.src).launch f o.desc
  let s2 : State := { s1 with clk := { s1.clk with admittedThisUs := s1.clk.admittedThisUs + 1 } }
  if 2 ≤ f.k then s2.inc CHN_GSEARCH_gsearches else s2

/-- The queue pairs whose configuration holds poison stop, each with its words reported (R601, R602). -/
def State.stopPoisoned (s : State) : State :=
  (List.range 16).foldl (fun s q =>
    if s.qOpen q && !s.qStopped q && s.pairFails q then
      (s.cfgReport 5 (0x8100 + 0x30 * q) (0x8120 + 0x30 * q)).setBit SRCH_STATUS_q_stopped 0 q true
    else s) s

/-- A SEARCH frame received in the window before runs here on the present ply, and goes on downstream (R453, R454). -/
def State.runArriving (s : State) : State × Bool :=
  match s.chain.arriving with
  | some (.search p key cls) =>
    let s1 : State := { s with chain := { s.chain with arriving := none } }
    let d : Desc := { profile := p, fetchClass := cls, keyLen := 112, header := p + cls * 256, material := key.toNat
                      userTag := 0, bad := false }
    let f := s1.makeSearch .chain d (2 ^ 32 - 1)
    ((s1.noteProfile f).launch f d, decide (2 ≤ f.k))
  | _ => ({ s with chain := { s.chain with arriving := none } }, false)

/-! ### The result of a fetch's search (R525, R526) -/

/-- The RFETCH packet of a fetch, to the member that owns its key (R466, R469). -/
def State.sendRfetch (s : State) (f : Fetch) (member : Nat) : State :=
  let key := (leBytes 14 f.descriptor.material)
  let s1 := s.sendPkt { dst := member, src := s.ownAddr, kind := 4, tag := f.id % 65536, fields := 0
                        payload := leBytes 8 f.userTag ++ leBytes 1 f.profile ++ leBytes 1 f.fetchClass ++ key ++
                          leBytes 4 f.offset ++ leBytes 4 f.len }
  (s1.inc CHN_RFETCH_rf_sent).updFetch f.id (fun g => { g with stage := .remote member, wasRemote := true })

/-- A member that this module can reach over the chain; while the chain is enumerated again, packets to it wait for the end
of that. -/
def State.reaches (s : State) (member : Nat) : Bool :=
  member != s.ownAddr && (s.rd CHN_STATUS_state == 1 || s.rd CHN_STATUS_state == 2) && (member < s.members || s.isFollower) && !bitOf s.chain.lost member

/-- A fetch goes to the member that owns its key: VOID when that member is cut off (R472). -/
def State.remoteFetch (s : State) (f : Fetch) (member : Nat) : State :=
  if s.reaches member then s.sendRfetch f member else s.endFetch f.id stVoid

/-- A fetch with its extent descriptor: the checks of R526, then its reads. RAW slots deny (R488). -/
def State.startExtent (s : State) (f : Fetch) (d : Nat) : State :=
  let p := extSlot d
  let s1 := s.updFetch f.id (fun g => { g with desc := some d })
  if p ≠ f.slot then s1.endFetch f.id stDenied
  else if s.slotState p = slRaw then s1.endFetch f.id stDenied
  else if s.slotState p ≠ slReady then s1.endFetch f.id stMediaGone
  else if extSectors d * 4096 < f.offset + f.len then s1.endFetch f.id stBadParam
  else s1.beginMedia f d

/-- The CONTENT lookup whose miss starts a walk (R386): its table, and its key. -/
def State.walkLookup (s : State) (f : InFlight) : Option (Nat × List Byte) :=
  if s.rd HASH_LEARN_CTRL_learn_en = 0 then none
  else
    match (List.range 4).find? (fun i =>
      let o := f.outs.getD i LookupOut.notIssued
      o.engine == 2 && o.outcome == outMiss && bitOf (f.masks.getD i 0) 0 && s.tblIs o.table engExact &&
        bitOf (s.rdi HASH_TBL_CFG_learn o.table) 0 && s.tblBind o.table < 2) with
    | some i => some ((f.outs.getD i LookupOut.notIssued).table, f.keys.getD i [])
    | none => none

/-- A fetch whose search missed (R32, R33, R386): after a walk that found the key the walk's descriptor serves it; else it
walks, where R386 allows it. -/
def State.fetchMiss (s : State) (f : Fetch) (x : InFlight) : State :=
  match f.found with
  | some d => s.startExtent f d
  | none =>
    match s.walkLookup x with
    | none => s.endFetch f.id stNotFound
    | some (t, key) =>
      let p := s.tblBind t
      if s.slotState p = slRaw then s.endFetch f.id stDenied
      else if s.slotState p ≠ slReady then s.endFetch f.id stMediaGone
      else (s.updFetch f.id (fun g => { g with stage := .walking, walked := true })).startWalk t key (.fetch f.id)

/-- A fetch held for the tag of its slot (R31, R573): a fetch that has been held once is denied. -/
def State.holdFetch (s : State) (f : Fetch) : State :=
  if f.again then s.endFetch f.id stDenied
  else (s.updFetch f.id (fun g => { g with stage := .reauth f.slot })).startReauth f.slot []

/-- The action of R525 on a captured result; the first row of its table that applies decides. -/
def State.captureResult (s : State) (id : Nat) (x : InFlight) (r : SearchResult) : State :=
  match s.fetch id with
  | none => s
  | some f0 =>
    if f0.stage ≠ .searching then s
    else
      let late := r.status == outLate
      let g := if late then gNone else r.answer.guard
      let f : Fetch := { f0 with
        ply := x.due, slot := x.slot, degraded := g == gDegraded, excluded := !late && r.answer.parityExcluded
        corrected := !late && r.answer.corrected }
      let s1 := s.updFetch id (fun _ => f)
      let engine := (x.outs.getD r.answer.winPos LookupOut.notIssued).engine
      if r.status = outPoison ∨ late then s1.endFetch id stPoisoned
      else if r.status = outVoid then s1.endFetch id stVoid
      else if r.status = outOrphan then s1.endFetch id stMediaGone
      else if g = gNone ∨ denies g then s1.endFetch id stDenied
      else if g = gReauth then s1.holdFetch f
      else if r.status = outMiss then s1.fetchMiss f x
      else if r.status = outFlood then
        -- the member's own descriptor, which the completion entry names (R529)
        (if r.answer.winType = 2 then s1 else s1.updFetch id (fun g => { g with desc := some r.word })).remoteFetch f r.answer.member
      else if engine = 2 ∧ r.answer.winType = 2 then s1.remoteFetch f (r.word % 32)
      else if (engine = 2 ∧ r.answer.winType = 1) ∨ engine = 1 ∨ engine = 3 then s1.startExtent f r.word
      else s1.endFetch id stBadParam

/-! ### Delivery -/

/-- A result reaches its source. -/
def State.toSource (s : State) (x : InFlight) (r : SearchResult) : State :=
  match x.src with
  | .queue q c =>
    let b := if s.rdi SRCH_Q_CFG_res_full q = 1 then r.full c else r.compact c
    if (s.pair q).gone then s.servePair q
    else (s.setPair q { s.pair q with held := (s.pair q).held ++ [(c, b)] }).servePair q
  | .window l n => s.laneResult l n r
  | .stream id => s.captureResult id x r
  | .chain => s

/-- The answer of a SEARCH frame goes upstream (R456, R457). -/
def State.sendAnswer (s : State) (x : InFlight) : State :=
  { s with chain := { s.chain with back := s.chain.back ++ [.answer (x.answer s.ownAddr)] } }

/-- A search that runs no lookup: its answer is there from its admission on (R292, R454, R601). -/
def InFlight.ready (f : InFlight) : Bool := f.bad.isSome || f.poisoned || f.outs.all (fun o => o.outcome == outNone)

/-- A follower whose own answer is LATE when it has to send or merge it counts that (R458). -/
def State.noteLateOwn (s : State) (x : InFlight) : State :=
  if s.isFollower && !x.arrived && (x.src == .chain || 2 ≤ x.k) then s.inc CHN_VOID_COUNT_late_own else s

/-- The word of a search's result (R59). -/
def InFlight.capWord (x : InFlight) (member : Nat) : FabricWord :=
  produceWord (x.ownAnswer member).result ((x.ownAnswer member).status == outPoison) x.tag

/-- The result of a search enters SIC_CAP, which never overflows (R53, R59). -/
def State.enterCap (s : State) (x : InFlight) : State :=
  if (s.fifo 7).length < 96 then s.setFifo 7 (s.fifo 7 ++ [x.capWord s.ownAddr]) else s

/-- The word of a search's result in SIC_CAP, or in the stage behind it. -/
def State.capOf (s : State) (x : InFlight) : Option FabricWord :=
  ((s.fifo 7) ++ (s.clk.stages.getD 7 none).toList).find? (fun w => w.tag == x.tag)

/-- The result of a search leaves SIC_CAP (R53, R59). -/
def State.leaveCap (s : State) (x : InFlight) : State :=
  match (s.fifo 7).find? (fun w => w.tag == x.tag) with
  | some w => (s.setFifo 7 ((s.fifo 7).erase w)).fifoLeave 7 w
  | none => if (s.stage 7).any (fun w => w.tag == x.tag) then s.setStage 7 none else s

/-- A search with its result as SIC_CAP delivers it: a word that fails its parity is delivered as poisoned (R50). -/
def State.fromCap (s : State) (x : InFlight) : InFlight :=
  match s.capOf x with
  | some w => if wordPasses w && (!w.poison || x.ownStatus == outPoison) then x else { x with poisoned := true }
  | none => x

/-- A search at its delivery edge (R60): exactly one result. One whose answers have not reached SIC_CAP is kept for the
completion that will be discarded (R71, R73). -/
def State.deliver (s : State) (x : InFlight) : State :=
  let s0 : State := { s with srch := { s.srch with
    inFlight := s.srch.inFlight.filter (fun f => f != x)
    late := if x.arrived || x.ready then s.srch.late else s.srch.late ++ [x] } }
  let y := if x.arrived then s.fromCap x else if x.ready then { x with arrived := true } else x
  let s1 := (if x.arrived then s0.leaveCap x else s0).noteLateOwn y
  match x.src with
  | .chain => s1.sendAnswer y
  | _ =>
    let r := s1.resultOf y
    ((s1.countResult y r).learnOwner y r).toSource y r

/-- Every search whose delivery edge has come is delivered. -/
def State.deliverDue (s : State) : State :=
  (s.srch.inFlight.filter (fun f => f.due ≤ s.clk.ply)).foldl State.deliver s

/-- SEARCH_DELIVERY: the present ply's delivery edge (R57, R58, R60). -/
def execSearchDelivery (s : State) : Out := ok s.deliverDue

/-- Admission is possible: the module runs, and neither a gated fabric, R69, a DOZE entry nor a shutdown stops it. -/
def State.admitting (s : State) : Bool :=
  (s.phase == .run || s.phase == .leavingDoze) && !s.clk.gated && !s.clk.awaitSlack && !s.clk.admitStop

/-- The searches of a ply that has begun: a SEARCH frame received runs, and the first ready source from the pointer `ptr` on is
admitted (R74 to R78). -/
def State.admitPly (s : State) (ptr : Nat) : State :=
  let a := s.runArriving
  let s2 := a.1
  if !s2.admitting then s2
  else
    let offers := s2.allOffers
    let s3 := if offers.any (fun o => s2.isGroupSearch o.desc o.mask && !(s2.groupWindow a.2)) then
        s2.inc CHN_ADM_WAIT_wait_plies else s2
    match s2.pickOffer a.2 ptr with
    | some o => s3.admitOffer o.2
    | none =>
      if offers.any (fun o => s2.capped
          (if s2.isGroupSearch o.desc o.mask then max s2.clk.capLevel s2.clk.capGroup else s2.clk.capLevel)) then
        s3.inc CLK_ADMIT_CAPPED_admit_capped
      else s3

/-- SEARCH_ADMISSION: the next ply begins: deliveries still due come first (R60), the pointer moves (R75), a group map whose commit
ply has come takes effect (R476), the ply's searches are admitted, and behind them a removal that is due commits (R282, R491). -/
def execSearchAdmission (s : State) : Out :=
  if !s.powered || s.phase == .start then ok s
  else
    let s0 := s.deliverDue.stopPoisoned.pastStep1
    let ptr := (s0.rd CLK_ADMIT_PTR_admit_ptr + 1) % 3
    let s1 := ({ s0 with clk := { s0.clk with ply := (s0.clk.ply + 1) % 2 ^ 64 } } : State).wr CLK_ADMIT_PTR_admit_ptr ptr
    ok (s1.startDue.commitGroups.admitPly ptr).commitOrphans

/-- SEARCH_FABRIC_COMPLETION: a search's answers reach SIC_CAP, with what the engines record of them (R59, R87). -/
def execSearchFabricCompletion (tag : Nat) (s : State) : Out :=
  match s.srch.inFlight.findIdx? (fun f => f.tag == tag && !f.arrived) with
  | none => ok s
  | some i =>
    match s.srch.inFlight[i]? with
    | none => ok s
    | some f =>
      let s1 : State := { s with srch := { s.srch with inFlight := listSet s.srch.inFlight i { f with arrived := true } } }
      ok ((f.outs.foldl State.applyLookup s1).enterCap f)

/-- LATE_DISCARD: a completion that reaches SIC_CAP after its delivery edge is discarded and counted (R73). What the engines
themselves record of the lookups stands. -/
def execLateDiscard (tag : Nat) (s : State) : Out :=
  match s.srch.late.findIdx? (fun f => f.tag == tag) with
  | none => ok s
  | some i =>
    match s.srch.late[i]? with
    | none => ok s
    | some f =>
      let s1 : State := { s with srch := { s.srch with late := s.srch.late.eraseIdx i } }
      ok ((f.outs.foldl State.applyLookup s1).inc CLK_LATE_INFO_late_discard)

end Sys2Proof.Machine
end

