-- ==== Sys2Proof/Machine/Sys.lean ====
section
/-! DEFINITION. The SYS commands that answer or configure, and the claims of the expert level (R252 to R258). SYS.RESET and
SYS.ABORT stand with the ends of commands. -/

namespace Sys2Proof.Machine
open Reg

/-- The response of SYS.IDENTIFY. -/
def State.identifyResp (s : State) : List Byte :=
  leBytes 2 0x84 ++ leBytes 1 (s.rd GLB_ID_grade) ++ leBytes 1 (s.rd GLB_ID_die_rev) ++ leBytes 8 s.moduleSerial ++
    leBytes 1 0 ++ leBytes 1 1 ++ leBytes 2 s.eupex.romVersion ++ leBytes 4 s.eupex.ctlFwVersion ++
    leBytes 4 s.eupex.grdFwVersion ++ leBytes 1 (s.rd CORE_STATUS_fw_source) ++
    leBytes 1 (if s.rd OTP_GEN_gen_valid = 0 then 0xFF else s.rd OTP_GEN_gen_in_force) ++
    leBytes 1 (s.rd CHN_STATUS_role) ++ leBytes 1 s.ownAddr ++ leBytes 1 (if s.isHead then s.members else 0) ++
    leBytes 1 0 ++ (s.identity.drop 16).take 2

/-- SYS.IDENTIFY. -/
def execSysIdentify (m : Mb) (s : State) : Out := runCmd m 0x0101 s (fun _ s => s.okResp m s.identifyResp)

/-- The response of SYS.STATE_QUERY. -/
def State.stateResp (s : State) : List Byte :=
  leBytes 1 (s.rd PWR_STATE_state) ++ leBytes 1 (s.rd PWR_STATE_fw_state) ++ leBytes 1 (s.rd CHN_STATUS_role) ++
    leBytes 1 (s.rd GLB_STATUS_fatal + 2 * s.rd SEC_STATUS_rules_loaded + 4 * s.rd MBX_CFG_evt_irq +
      8 * s.rd MBX_CFG_reg_events) ++
    leBytes 4 (s.rd GLB_CLAIM_claimed) ++
    ((List.range 4).map (fun i => leBytes 2 (s.rdi MBX_MB_STATUS_posted i) ++ leBytes 2 (s.rdi MBX_MB_STATUS_done i))).flatten ++
    leBytes 2 (s.rd MBX_EVT_STATUS_evt_written) ++ leBytes 2 (s.rd MBX_EVT_STATUS_evt_consumed) ++
    leBytes 4 s.eupex.evtLostTotal ++ leBytes 8 s.clk.ply ++ leBytes 1 (s.rd THM_STATUS_level) ++ leBytes 7 0

/-- SYS.STATE_QUERY. -/
def execSysStateQuery (m : Mb) (s : State) : Out := runCmd m 0x0102 s (fun _ s => s.okResp m s.stateResp)

/-! ### Claims -/

/-- The response of a claim command: GLB_CLAIM after it. -/
def State.claimResp (s : State) : List Byte := leBytes 4 (s.rd GLB_CLAIM_claimed)

/-- GLB_CLAIM set to a mask, with the CLAIM_CHANGE event when it changes (R265). A release of LPM begins the rebuild of its
node and record maps (R427). -/
def State.setClaims (s : State) (mask : Nat) : State :=
  if s.rd GLB_CLAIM_claimed = mask then s
  else
    let u := if s.claimed 12 && !bitOf mask 12 then s.wr LPM_STATUS_rebuild 1 else s
    let t := u.wr GLB_CLAIM_claimed mask
    t.postFw 0x0104 0xFF t.claimResp

/-- Claims of the blocks of a mask released (R257). Once CADDY is released, a checkpoint of an enabled journal starts
(R658). -/
def State.releaseClaims (s : State) (mask : Nat) : State :=
  let cad := s.claimed 19 && bitOf mask 19
  let t := s.setClaims (s.rd GLB_CLAIM_claimed &&& (2 ^ 21 - 1 - mask % 2 ^ 21))
  if cad && t.rd CADDY_STATUS_jrnl_en == 1 then t.dropCheckpoint.jrnlCheckpoint else t

/-- The checks of a release mask: bits 20 to 1 only, and at least one set. -/
def maskCheck (c : Cmd) : Option Nat := need (c.u32 0 != 0 && c.u32 0 % 2 == 0 && c.u32 0 < 2 ^ 21) 0

/-- The checks of a claim mask: it names blocks, at least one. DEDUCED (log entry 180): GLB, bit 0, is a block that R254 answers. -/
def claimCheck (c : Cmd) : Option Nat := need (c.u32 0 != 0 && c.u32 0 < 2 ^ 21) 0

/-- The first block of a mask that the host cannot claim (R254): GLB, MBX, SEC, TAG, and DBG while the debug lock is set. -/
def State.claimDenied (s : State) (mask : Nat) : Option Nat :=
  (List.range 21).find? (fun b =>
    bitOf mask b && (b == 0 || b == 5 || b == 16 || b == 17 || (b == 20 && s.rd OTP_STATUS_debug_lock == 1)))

/-- A running command, other than that of mailbox `m`, writes a block of a mask. A relayed command at the head writes
another member's blocks. -/
def State.claimBusy (s : State) (m : Mb) (mask : Nat) : Bool :=
  (hostMbs ++ [Mb.relay]).any (fun n =>
    n != m && (match (s.mbx n).taken with
      | some c => !c.relayed && (s.runWrites n c).any (bitOf mask)
      | none => false))

/-- A claim takes effect (R252), of blocks that the host can claim on that instant (R254, R582). -/
def State.takeClaim (s : State) (m : Mb) (mask : Nat) : State :=
  match s.claimDenied mask with
  | some b => s.done m stDenied b []
  | none =>
    let t := s.setClaims (s.rd GLB_CLAIM_claimed ||| mask)
    t.okResp m t.claimResp

/-- SYS.EXPERT_CLAIM: it waits while a running command writes a block of its mask (R253). -/
def execSysExpertClaim (m : Mb) (s : State) : Out :=
  runCmd m 0x0104 s (fun c s => checked m [claimCheck c] s (fun s =>
    match s.claimDenied (c.u32 0) with
    | some b => s.done m stDenied b []
    | none => if s.claimBusy m (c.u32 0) then s.wait m else s.takeClaim m (c.u32 0)))

/-- CLAIM_TAKE_EFFECT: a waiting claim takes effect once no running command writes a block of its mask (R253). -/
def execClaimTakeEffect (s : State) : Out :=
  ok ((s.waiters 0x0104).foldl (fun s m =>
    match (s.mbx m).taken with
    | some c => if s.claimBusy m (c.u32 0) then s else s.takeClaim m (c.u32 0)
    | none => s) s)

/-- SYS.EXPERT_RELEASE. -/
def execSysExpertRelease (m : Mb) (s : State) : Out :=
  runCmd m 0x0105 s (fun c s => checked m [maskCheck c] s (fun s =>
    let t := s.releaseClaims (c.u32 0)
    t.okResp m t.claimResp))

/-! ### SYS.NOP and SYS.EVENT_CONFIG -/

/-- SYS.NOP: the parameters echoed. -/
def execSysNop (m : Mb) (s : State) : Out := runCmd m 0x0107 s (fun c s => s.okResp m c.params)

/-- SYS.EVENT_CONFIG. -/
def execSysEventConfig (m : Mb) (s : State) : Out :=
  runCmd m 0x0108 s (fun c s => checked m
    [need (c.u8 0 < 2) 0, need (c.u8 1 < 2) 1, need (c.u16 2 < 1024) 2] s (fun s =>
      let t := ((s.wr MBX_CFG_evt_irq (c.u8 0)).wr MBX_CFG_reg_events (c.u8 1)).wr MBX_CFG_mbx_event_en (c.u16 2)
      (s.irqFrom t).okResp m []))

end Sys2Proof.Machine
end

