-- ==== Sys2Proof/Machine/ChainLink.lean ====
section
/-! DEFINITION. Roles, enumeration and frames of the Stavso chain, with the CHAIN commands that act on the head itself and
the CHN_CTRL writes (chapter *The Stavso chain*; R21 to R26, R797, R798). -/

namespace Sys2Proof.Machine
open Reg

/-! ### Group maps (R449) -/

/-- The start bits of a map: bit 0 is 1, and consecutive start bits are at most 8 apart. -/
def mapStartsOk (map : Nat) : Bool :=
  bitOf map 0 && (List.range 32).all (fun b =>
    !bitOf map b || !(List.range 32).any (fun c => b < c && bitOf map c) ||
      (List.range 8).any (fun j => bitOf map (b + 1 + j)))

/-- The last group of a chain of `n` members holds at most 8. -/
def mapLastOk (map n : Nat) : Bool := n - groupStart map (n - 1) ≤ 8

/-- A start bit added at every eighth member after the last start bit, while the last group is too large. -/
def amendMap (map n : Nat) : Nat :=
  let l := groupStart map (n - 1)
  (List.range 4).foldl (fun m k => if l + 8 * (k + 1) < n then m ||| 2 ^ (l + 8 * (k + 1)) else m) map

/-! ### Ends of what the head waits for -/

/-- Relayed commands and relayed accesses that satisfy a predicate complete with a status. -/
def State.endAwaits (s : State) (p : AwaitRsp → Bool) (st : Nat) : State :=
  let hit := s.chain.awaits.filter p
  let s1 : State := { s with chain := { s.chain with awaits := s.chain.awaits.filter (fun a => !p a) } }
  hit.foldl (fun s a => s.fail a.mb st) s1

/-- The remote fetches that wait for a member of a predicate complete with VOID, but those whose RDONE has come (R472). -/
def State.voidRemotes (s : State) (p : Nat → Bool) : State :=
  (s.strm.fetches.filter (fun f => f.outcome.isNone && (match f.stage with
    | .remote m => p m | .retry m => p m | _ => false))).foldl (fun s f => s.endFetch f.id stVoid) s

/-- Members are cut off or lost: what the head awaits from them is VOID (R467, R472). -/
def State.cutOff (s : State) (p : Nat → Bool) : State := (s.endAwaits (fun a => p a.member) stVoid).voidRemotes p

/-- Every OWNER entry of every exact-match table deleted (R475). While HASH is claimed the work is skipped with a conflict
(R256). It takes the update port for the rest of the ply, so that no OWNER entry commits before the next one. -/
def State.deleteOwners (s : State) : State :=
  let l := s.places.filter (fun p =>
    let u := s.unitBytesOf p
    entValid u && entType u == 2 && s.tblIs (entTable u) engExact && entEpoch u == s.epoch (entTable u))
  if s.claimed 10 then (if l.isEmpty then s else s.conflict 10 1 1)
  else
    l.foldl (fun s p =>
      let t := entTable (s.unitBytesOf p)
      let r := s.placeRec p
      ((s.dropPlace p).stamp t).delta 2 t r (s.srcBad (placeSrc p))) ({ s with tbl := { s.tbl with lastPly := some s.clk.ply } } : State)

/-! ### Enumeration at the head (R442 to R445) -/

/-- The command that the running enumeration serves. -/
def State.enumMb (s : State) : Option Mb := s.chain.enum.getD none

/-- The plies by which an enumeration delays step 1: 16 µs by the serial number modulo 64 after R447. -/
def State.enumDelay (s : State) : Nat := if s.chain.delayNext then 6400 * (s.moduleSerial % 64) else 0

/-- Enumeration begins: its step 1 at once, or when the delay of R447 is over (R443). -/
def State.startEnum (s : State) (map : Nat) (mb : Option Mb) : State :=
  let q := (s.chain.enumSeq + 1) % 256
  let s1 : State := { s with chain := { s.chain with
    enum := some mb, enumMap := map, enumSeq := q, enumPrev := s.rd CHN_STATUS_state, enumMembers := s.members
    tokSerial := s.moduleSerial, tokSeq := q, tokenIn := false, upBack := false
    startAt := some (s.clk.ply + s.enumDelay), delayNext := false } }
  (s1.wr CHN_STATUS_state 1).startDue

/-- The response of CHAIN.ENUMERATE. Searches of the present ply have been admitted, so the commit ply is the next one, whose
lookups see no OWNER entry (R475). -/
def State.enumResp (s : State) (map : Nat) : List Byte :=
  leBytes 1 s.members ++ leBytes 1 (s.rd CHN_STATUS_state) ++ leBytes 2 0 ++ leBytes 4 map ++
    leBytes 8 ((s.clk.ply + 1) % 2 ^ 64)

/-- The running enumeration ends; its command, if one asked for it, completes. -/
def State.endEnum (s : State) (map : Nat) : State :=
  let m := s.enumMb
  let s1 : State := { s with chain := { s.chain with
    enum := none, training := false, startAt := none, tokenIn := false, upBack := false } }
  match m with
  | some m => s1.okResp m (s1.enumResp map)
  | none => s1

/-- The head declares the chain BROKEN: it drives IDLE frames, and every OWNER entry goes (R445, R475). -/
def State.chainBroken (s : State) : State :=
  let s1 : State := { s with chain := { s.chain with groupsPend := [], fwd := [], tx := [], sending := [] } }
  let s2 := (((s1.wr CHN_STATUS_state 3).wr CHN_STATUS_members 1).raise CHN_EVENT_broken).cutOff (fun _ => true)
  s2.deleteOwners.endEnum s2.chain.enumMap

/-- CHAIN.ENUMERATE (0x0501). -/
def execChainEnumerate (m : Mb) (s : State) : Out :=
  runCmd m 0x0501 s (fun c s =>
    if s.isFollower then s.fail m stRoleFollower
    else checked m [need (mapStartsOk (c.u32 0)) 0, c.notZero 4 4] s (fun s =>
      if !s.isHead then s.fail m stWrongState
      else if s.chain.enum.isSome then s.fail m stBusy
      else (s.startEnum (c.u32 0) (some m)).wait m))

/-- The frames that go before the last one of a GROUPS packet sent now: the packet under way, waiting tokens, the packets of the
same precedence, and its own two (R441, R465). -/
def State.groupsAhead (s : State) : Nat :=
  s.chain.sending.length + s.chain.fwd.length +
    (s.chain.tx.filter (fun p => pktClass p.kind == 0)).foldl (fun n p => n + 1 + (packetData p).length) 0 + 3

/-- A change of group map, 2 µs or more after the GROUPS packet that carries it is sent (R476): a packet frame waits at most for
the reserved window, which comes every 128 plies (R434). -/
def State.changeGroups (s : State) (map : Nat) : State × Nat :=
  let commit := s.chainPly + 128 * s.groupsAhead + 800 + (Config.groupsSlack s.free).toNat
  let s1 := s.nextFree.sendPkt { dst := s.ownAddr, src := s.ownAddr, kind := 8, tag := 0, fields := 0
                                 payload := leBytes 4 map ++ leBytes 8 commit }
  ({ s1 with chain := { s1.chain with groupsPend := s1.chain.groupsPend ++ [(map, commit)] } }, commit)

/-- CHAIN.GROUPS (0x0503). -/
def execChainGroups (m : Mb) (s : State) : Out :=
  runCmd m 0x0503 s (fun c s =>
    if s.isFollower then s.fail m stRoleFollower
    else checked m [need (mapStartsOk (c.u32 0)) 0] s (fun s =>
      if s.rd CHN_STATUS_state ≠ 2 ∨ !s.isHead then s.fail m stWrongState
      else checked m [need (mapLastOk (c.u32 0) s.members) 0] s (fun s =>
        let r := s.changeGroups (c.u32 0)
        r.1.okResp m (leBytes 8 r.2))))

/-- The serial number of member `a` as the head holds it: its own, and what enumeration told it of the others (log entry
12). -/
def State.serialOf (s : State) (a : Nat) : Nat :=
  if a = s.ownAddr then s.moduleSerial else (Config.memberSerial s.chain.enumSeq a).toNat

/-- The response of CHAIN.QUERY. -/
def State.chainResp (s : State) : List Byte :=
  leBytes 1 (s.rd CHN_STATUS_role) ++ leBytes 1 s.ownAddr ++ leBytes 1 s.members ++ leBytes 1 (s.rd CHN_STATUS_state) ++
    leBytes 4 (s.rd CHN_GROUP_MAP_group_map) ++ leBytes 4 (s.rd CHN_ALIVE_alive) ++ leBytes 4 (s.rd CHN_FAULT_fault) ++
    leBytes 4 (s.rd CHN_FLOOD_floods) ++ leBytes 4 (s.rd CHN_VOID_COUNT_voids) ++ leBytes 4 (s.rd CHN_RFETCH_rf_sent) ++
    leBytes 4 s.chainPly

/-- CHAIN.QUERY (0x0502). -/
def execChainQuery (m : Mb) (s : State) : Out :=
  runCmd m 0x0502 s (fun c s =>
    if s.isFollower then s.fail m stRoleFollower
    else checked m [need (c.u64 0 == 0 || ((c.refCheck 0).isNone && 256 ≤ (c.ref 0).2)) 0] s (fun s =>
      let s1 := if c.u64 0 = 0 then s
        else (List.range (max 1 s.members)).foldl (fun s a => s.refPut (c.ref 0) (8 * a) (leBytes 8 (s.serialOf a))) s
      s1.okResp m s1.chainResp))

/-- A CHN_CTRL write, whose staged map is checked whatever it sets (R449): R477 refuses it, or it acts as CHAIN.ENUMERATE or CHAIN.GROUPS with the staged map. -/
def State.chnCtrl (s : State) (w : RegWord) : State :=
  s.regOp 0x7050 w (fun s =>
    let e := fieldOf w CHN_CTRL_enumerate = 1
    let g := fieldOf w CHN_CTRL_groups = 1
    let map := s.rd CHN_MAP_STAGE_map_stage
    if (e ∧ g) ∨ !s.isHead ∨ !mapStartsOk map then s.refuseWrite
    else if !e ∧ !g then s
    else if e then (if s.chain.enum.isSome then s.refuseWrite else s.startEnum map none)
    else if s.rd CHN_STATUS_state ≠ 2 ∨ !mapLastOk map s.members then s.refuseWrite
    else (s.changeGroups map).1)

/-- A write of CHN_CTRL.enumerate (R477). -/
def execChnEnumerateWrite (w : RegWord) (s : State) : Out := ok (s.chnCtrl w)

/-- A write of CHN_CTRL.groups (R477). -/
def execChnGroupsWrite (w : RegWord) (s : State) : Out := ok (s.chnCtrl w)

/-! ### Roles -/

/-- The module releases every chain output and forgets the chain it belonged to. -/
def State.leaveChain (s : State) : State :=
  let s0 := (s.strm.fetches.filter (fun f => match f.owner with | .remote .. => true | _ => false)).foldl
    (fun s f => s.endFetch f.id stVoid) ({ s with strm := { s.strm with remoteQ := [] } } : State)
  let s1 : State := { s0 with chain := { s0.chain with
    tx := [], fwd := [], back := [], sending := [], line := none, lineBack := none, startAt := none, tokenIn := false, relayQ := [], relayCur := none, arriving := none, training := false, upBack := false
    upLate := false, groupsPend := [], plyOffset := 0, badIn := 0, badOut := 0, prevAlive := 0, lost := 0
    statusIn := StatusIn.empty } }
  (((((s1.wr CHN_STATUS_state 0).wr CHN_STATUS_members 1).wr CHN_GROUP_MAP_group_map 1).wr CHN_LINK_OUT_driving 0).wr
    CHN_LINK_OUT_back_ok 0).wr CHN_LINK_IN_in_ok 0

/-- A module that becomes a follower gives up what it served as a head or without a role: admitted searches are delivered,
queue pairs close, channels halt with ABORTED, and what it awaits from members and its enumeration end with ROLE_FOLLOWER.
DESIGN CHOICE (log entry 133): window reads whose search has not been admitted are answered with zeros. -/
def State.giveUpHead (s : State) : State :=
  let s1 := s.srch.window.foldl (fun s x => s.reply (List.replicate x.len 0) false .success) s
  let s2 := ({ s1 with srch := { s1.srch with window := [] } } : State).noteWindow
  let s3 := (List.range 16).foldl (fun s q => if s.qOpen q && !(s.pair q).closing then s.closePair q none else s) s2
  let s4 := (s3.strm.fetches.filter (fun f => match f.owner with | .chan .. => true | _ => false)).foldl
    (fun s f => s.endFetch f.id stAborted) s3
  let s5 := (List.range 16).foldl (fun s c => s.haltChan c 0) s4
  let s6 := s5.endAwaits (fun _ => true) stRoleFollower
  let mb := s6.enumMb
  let s7 : State := { s6 with chain := { s6.chain with enum := none, startAt := none, groupsPend := [] } }
  match mb with
  | some m => s7.fail m stRoleFollower
  | none => s7

/-- A role taken: the event bit and ROLE_CHANGE for a change of role (R797). -/
def State.changeRole (s : State) (role addr : Nat) (bit : Bool) : State :=
  if s.rd CHN_STATUS_role = role then s.wr CHN_STATUS_address addr
  else
    let t := s.setRole role addr
    if bit then t.raise CHN_EVENT_role_change else t

/-- The follower role and an address taken from a token (R23, R444): the chain ply follows the stamp, TRAIN frames go
downstream, and on a change of role claims are released, a former head's OWNER entries go, and the mailboxes act by R266. -/
def State.becomeFollower (s : State) (addr stamp serial seq : Nat) : State :=
  let was := s.isFollower
  let s1 := if was then s else s.giveUpHead
  let s2 := s1.changeRole 2 addr true
  let s3 : State := { s2 with chain := { s2.chain with
    plyOffset := (stamp + 3 + 2 ^ 64 - s2.clk.ply) % 2 ^ 64, training := true, tokSerial := serial, tokSeq := seq
    upBack := false, upLate := false, released := false, badIn := 0, badOut := 0 } }
  let s4 := (((((s3.wr CHN_STATUS_state 1).wr CHN_LINK_IN_in_ok 1).wr CHN_LINK_OUT_driving 1).wr CHN_LINK_OUT_back_ok 0).wr
    CHN_LINK_OUT_back_phase 0).wr CLK_ISL_STATUS_sic_src 1
  if was then s4
  else
    let r := s4.releaseClaims (2 ^ 21 - 1)
    let s5 := if s.isHead then r.deleteOwners else r
    let s6 : State := { s5 with eupex := { s5.eupex with fillSlots := true } }
    (hostMbs.foldl (fun s m => State.settleFollower 8 m s) s6).fillFollower

/-- A follower returns to the head role at address 0, and its next enumeration begins with a delay (R447). -/
def State.backToHead (s : State) : State :=
  let t := s.leaveChain
  (({ t with chain := { t.chain with delayNext := true } } : State).wr CLK_ISL_STATUS_sic_src 0).changeRole 1 0 true

/-- HEAD_ROLE_TAKE: a module that holds no role takes the head role and address 0 once its link has trained and CHAIN_IN
has been quiet for 5 ms and throughout; one that has heard CHAIN_IN waits for a token (R22, R448). -/
def execHeadRoleTake (s : State) : Out :=
  if s.alive && s.rd CHN_STATUS_role == 0 && s.rd GLB_LINK_link_up == 1 && !s.chain.heard then
    let t := s.changeRole 1 0 s.chain.released
    ok { t with chain := { t.chain with released := false } }
  else ok s

/-- A link goes down, in the direction that a register bit reports in service (R463). -/
def State.linkDown (s : State) (f : Fld) : State :=
  let s1 := (s.wr f 0).raise CHN_EVENT_link_down
  let s2 := if s1.rd CHN_STATUS_state = 2 then s1.wr CHN_STATUS_state 4 else s1
  if s2.isHead then s2.cutOff (fun _ => true) else s2

/-- STROBE_LOST: the strobe on CHAIN_IN is lost; the link is down (R463), and a follower's SIC goes on from the crystal
(R55). -/
def execStrobeLost (s : State) : Out :=
  if s.rd CHN_LINK_IN_locked = 0 then ok s
  else ok ((((s.wr CHN_LINK_IN_locked 0).wr CLK_ISL_STATUS_chn_lock 0).wr CLK_ISL_STATUS_sic_src 0).linkDown
    CHN_LINK_IN_in_ok)

/-- FOLLOWER_STROBE_TIMEOUT: after 100 µs without the strobe a follower gives up its role and address (R448). -/
def execFollowerStrobeTimeout (s : State) : Out :=
  if s.isFollower && s.rd CHN_LINK_IN_locked == 0 then
    let t := s.leaveChain.changeRole 0 0 true
    ok { t with chain := { t.chain with released := true, heard := false } }
  else ok s

/-! ### Enumeration frames -/

/-- A valid frame in a receiving direction ends a run of invalid ones (R463); CHAIN_IN has been active. -/
def State.goodIn (s : State) : State := { s with chain := { s.chain with badIn := 0, heard := true } }
def State.goodOut (s : State) : State := { s with chain := { s.chain with badOut := 0 } }

/-- TRAIN_FRAME: a receiver on CHAIN_IN locks its CHN, and its SIC unless it is a head, to the strobe and answers with TRAIN in
its back window; a sender that trains and sees TRAIN come back on CHAIN_OUT sets its back-sampling phase (R443 step 2). -/
def execTrainFrame (side : LinkSide) (phase : BitVec 6) (s : State) : Out :=
  if !s.alive || !s.hears side then ok s
  else match side with
    | .fromUp =>
      let s0 := (s.goodIn.wr CHN_LINK_IN_locked 1).wr CLK_ISL_STATUS_chn_lock 1
      let s1 := if s.isHead then s0 else s0.wr CLK_ISL_STATUS_sic_src 1
      ok { s1 with chain := { s1.chain with back := s1.chain.back ++ [.train] } }
    | .fromDown =>
      if s.rd CHN_LINK_OUT_driving = 1 ∧ s.chain.training then
        ok ((s.goodOut.wr CHN_LINK_OUT_back_phase phase.toNat).wr CHN_LINK_OUT_back_ok 1)
      else ok s

/-- TRAIN_END: at the end of its TRAIN frames a sender transmits the token with its own address + 1, if its back-sampling
phase is set (R443 step 3); the token is stamped when its window begins (R440). -/
def execTrainEnd (s : State) : Out :=
  if !s.chain.training then ok s
  else
    let s1 : State := { s with chain := { s.chain with training := false } }
    if s.rd CHN_LINK_OUT_back_ok = 1 then
      ok { s1 with chain := { s1.chain with fwd := s1.chain.fwd ++
        [.token (s.ownAddr + 1) 0 s.chain.tokSerial s.chain.tokSeq] } }
    else ok s1

/-- The token is the one that this head sent for its running enumeration. -/
def State.ownToken (s : State) (serial seq : Nat) : Bool :=
  s.isHead && s.chain.enum.isSome && !s.chain.tokenIn && serial == s.moduleSerial && seq == s.chain.enumSeq

/-- The token has returned with a valid count: the map is amended, and CHAIN_UP goes round (R443 step 5, R449). -/
def State.tokenBack (s : State) (count : Nat) : State :=
  let map := amendMap s.chain.enumMap count
  let s1 := ((({ s with chain := { s.chain with enumMap := map, tokenIn := true } } : State).wr CHN_STATUS_members count).wr
    CHN_LINK_IN_in_ok 1)
  s1.sendPkt { dst := s.ownAddr, src := s.ownAddr, kind := 7, tag := 0, fields := 0
               payload := leBytes 1 count ++ leBytes 4 map }

/-- An invalid frame received on CHAIN_IN: it is counted, and the fourth in a row takes the link down (R433, R463). -/
def State.badInFrame (s : State) : State :=
  let n := if s.clk.ply ≤ s.chain.badInAt + 8 then s.chain.badIn + 1 else 1
  let s1 := (({ s with chain := { s.chain with heard := true, badIn := n, badInAt := s.clk.ply } } : State).inc
    CHN_LINK_IN_in_errors).raise CHN_EVENT_frame_error
  if n = 4 ∧ s.rd CHN_LINK_IN_in_ok = 1 then s1.linkDown CHN_LINK_IN_in_ok else s1

/-- TOKEN_FRAME: the head's own token returns (R443, R445), a foreign count of 0 or above 31 is an invalid frame (R798),
and any other token makes the module a follower (R23, R444, R446). DESIGN CHOICE (log entry 134): a token of its own that a
head receives when it waits for none is a valid frame that changes nothing. -/
def execTokenFrame (count : BitVec 6) (stamp : BitVec 32) (serial : BitVec 64) (seq : BitVec 8) (s : State) : Out :=
  if !s.alive || !s.hears .fromUp then ok s
  else if s.ownToken serial.toNat seq.toNat then
    if 32 < count.toNat ∨ count.toNat = 0 then ok s.chainBroken else ok (s.goodIn.tokenBack count.toNat)
  else if s.isHead ∧ serial.toNat = s.moduleSerial then ok s.goodIn
  else if count.toNat = 0 ∨ 31 < count.toNat then ok s.badInFrame
  else ok (s.becomeFollower count.toNat stamp.toNat serial.toNat seq.toNat)

/-- TOKEN_TIMEOUT: the token has not returned within 1 ms of the end of TRAIN (R445). -/
def execTokenTimeout (s : State) : Out :=
  if s.isHead && s.chain.enum.isSome && s.chain.startAt.isNone && !s.chain.training && !s.chain.tokenIn then ok s.chainBroken else ok s

/-- CHAIN_UP_TIMEOUT: no CHAIN_UP within 2 ms; the follower returns to the head role, or does so once its host link trains
(R447). -/
def execChainUpTimeout (s : State) : Out :=
  if s.isFollower && s.rd CHN_STATUS_state == 1 then
    if s.rd GLB_LINK_link_up = 1 then ok s.backToHead
    else ok { s with chain := { s.chain with upLate := true } }
  else ok s

/-- ENUMERATION_COMMIT: CHAIN_UP has returned, the chain is UP with its map, every OWNER entry goes (R443 step 6, R475), and
what the head awaits from members that are no longer there is VOID (R467, R472). -/
def execEnumerationCommit (s : State) : Out :=
  if s.isHead && s.chain.enum.isSome && s.chain.upBack then
    let map := s.chain.enumMap
    let s1 := (((s.wr CHN_STATUS_state 2).wr CHN_GROUP_MAP_group_map map).raise CHN_EVENT_enum_done).deleteOwners
    let s2 : State := { s1 with chain := { s1.chain with lost := 0, prevAlive := 2 ^ 32 - 1 } }
    ok ((s2.cutOff (fun a => s.members ≤ a)).endEnum map)
  else ok s

/-- GROUPS_COMMIT: a group map takes effect on its commit chain ply (R476). -/
def execGroupsCommit (s : State) : Out := ok s.commitGroups

/-! ### Search, answer and status frames -/

/-- SEARCH_FRAME: a follower runs the lookups of a SEARCH frame from its receipt of CHAIN_UP on, on the next ply (R453,
R454, R785). It is complete when its window ends (R431). One that crosses a link that is down is not answered (R463). DESIGN
CHOICE (log entry 155): one that comes in a shutdown sequence is dropped. -/
def execSearchFrame (profile : Fin 32) (key : BitVec 112) (fetchClass : BitVec 8) (s : State) : Out :=
  let s1 := s.goodIn.crossFifo 8 (produceWord (key.setWidth 64) false 0)
  if !s.hears .fromUp then ok s
  else if s.alive && s.isFollower && s.chainServes && s.rd CHN_LINK_IN_in_ok == 1 then
    ok { s1 with chain := { s1.chain with arriving := some (.search profile.val key fetchClass.toNat) } }
  else ok s1

/-- The search that expects its downstream answer in the present window: the one delivered on the next ply (R453). -/
def State.expecting (s : State) : Option Nat :=
  s.srch.inFlight.findIdx? (fun f => 2 ≤ f.k && f.due == s.clk.ply + 1 && f.down.isNone)

/-- What came in the window of the search that expects an answer. -/
def State.takeDown (s : State) (d : Option Answer) : State :=
  match s.expecting with
  | none => s
  | some i =>
    match s.srch.inFlight[i]? with
    | none => s
    | some f => { s with srch := { s.srch with inFlight := listSet s.srch.inFlight i { f with down := some d } } }

/-- ANSWER_FRAME: the downstream answer, merged with the member's own when it is due (R456). While the link is down it counts
for VOID (R463). -/
def execAnswerFrame (a : Answer) (s : State) : Out :=
  if !s.hears .fromDown then ok s
  else if s.rd CHN_LINK_OUT_back_ok = 1 then
    ok ((s.goodOut.crossFifo 8 (produceWord a.result a.poison 0)).takeDown (some a))
  else ok (s.takeDown none)

/-- A member newly lost at the head: its alive bit has been 0 in two STATUS frames (R464). -/
def State.noteLost (s : State) (alive : Nat) : State :=
  let gone := (List.range s.members).filter (fun a =>
    a != 0 && !bitOf alive a && !bitOf s.chain.prevAlive a && !bitOf s.chain.lost a)
  let s1 : State := { s with chain := { s.chain with
    prevAlive := alive, lost := gone.foldl (fun n a => n ||| 2 ^ a) s.chain.lost } }
  if gone.isEmpty then s1 else (s1.raise CHN_EVENT_member_lost).cutOff (fun m => gone.contains m)

/-- STATUS_FRAME: the end of the link's status window (R434): the member keeps the STATUS frame from downstream, an empty one
where none comes, for the one that it sends upstream in its own window (R461); the head looks for lost members (R464). A fault of any link cuts the ring, which at the head is DEGRADED (R467, R472; log entry 130). -/
def execStatusFrame (r : Option StatusIn) (s : State) : Out :=
  if !(s.alive && s.chainServes && s.statusWindow) then ok s
  else
    let got := if s.hears .fromDown && s.rd CHN_LINK_OUT_back_ok == 1 then r else none
    let d := got.getD StatusIn.empty
    let s0 := match got with
      | some x => s.goodOut.crossFifo 8 (produceWord (x.alive.setWidth 64) false 0)
      | none => s
    let s1 : State := { s0 with chain := { s0.chain with statusIn := d } }
    let s2 := s1.putStatus d
    if s.isHead then
      let t := s2.noteLost (s.statusOf d).1
      ok (if (s.statusOf d).2.1 = 0 then t
        else (if t.rd CHN_STATUS_state = 2 then t.wr CHN_STATUS_state 4 else t).cutOff (fun _ => true))
    else ok s2

/-- FRAME_ERROR: an invalid frame at the end of a window, with a wrong check or a reserved type, is counted (R433), takes the place of an answer that was due (R457), and is
the fourth in a row that takes the link down (R463). -/
def execFrameError (f : SampledFrame) (s : State) : Out :=
  if frameValid f.bits f.side || !s.samples f.side then ok s
  else match f.side with
  | .fromUp => ok s.badInFrame
  | .fromDown =>
    let n := if s.clk.ply ≤ s.chain.badOutAt + 8 then s.chain.badOut + 1 else 1
    let s0 := ((s.takeDown none).inc CHN_LINK_OUT_out_errors).raise CHN_EVENT_frame_error
    let s1 : State := { s0 with chain := { s0.chain with badOut := n, badOutAt := s.clk.ply } }
    ok (if n = 4 && s.rd CHN_LINK_OUT_back_ok == 1 then s1.linkDown CHN_LINK_OUT_back_ok else s1)

end Sys2Proof.Machine
end

