-- ==== Sys2Proof/Machine/Integ.lean ====
section
/-! DEFINITION. The steep, range scrubs, the shadow audit, the flip-mask and the log of the INTEG block (R602 to R629; chapter
*Integrity of stored data*). -/

namespace Sys2Proof.Machine
open Reg

/-! ### Structures (R589, R608) -/

/-- The bytes of a structure in its window layout; 0 for a code that names none. -/
def sidSize (sid : Nat) : Nat :=
  match sid with
  | 0x01 => 32 * 2 ^ 20
  | 0x02 => 8 * 2 ^ 20
  | 0x10 => 64 * 2 ^ 20
  | 0x13 => 512 * 1024
  | 0x20 => 512 * 1024
  | 0x50 => 512 * 1024
  | 0x51 => 256 * 1024
  | 0x60 => 32 * 2 ^ 20
  | 0x70 => 258 * 1024
  | 0x71 => 64 * 1024
  | 0x72 => 528 * 1024
  | 0x73 => 4096
  | n => if 0x30 ≤ n ∧ n ≤ 0x36 then 8 * recBase (n - 0x30) + 16 * recCount (n - 0x30) else 0

/-- The structures of a lap of the steep, in order. -/
def steepSids : List Nat :=
  [0x01, 0x02, 0x10, 0x13, 0x20, 0x30, 0x31, 0x32, 0x33, 0x34, 0x35, 0x36, 0x50, 0x51, 0x60, 0x70, 0x71, 0x72, 0x73]

/-- The structure after one of a lap. -/
def nextSid (sid : Nat) : Option Nat := steepSids.find? (fun n => sid < n)

/-- A ternary block can be read: it is not GATED and not CHANGING. -/
def State.blkPowered (s : State) (b : Nat) : Bool := s.blk b != blkGated && s.blk b != blkChanging

/-- The words of a ternary block in a ternary structure. -/
def blkWords (sid : Nat) : Nat := if sid = sidArray then 16384 else 4096

/-- A structure is divided into ternary blocks. -/
def inBlocks (sid : Nat) : Bool := sid == sidArray || sid == sidResult

/-- The areas of BAR2 RAM, each by its offset and its bytes: 12 KiB of rings, 4 KiB of lanes, and 512 KiB of mailbox data RAM
(R184, R589). -/
def bar2Areas : List (Nat × Nat) := [(0, 0x3000), (0x8000, 0x1000), (0x10000, 0x80000)]

/-- The first word of BAR2 RAM from word `w` on. -/
def bar2Word (w : Nat) : Option Nat :=
  (bar2Areas.find? (fun a => 8 * w < a.1 + a.2)).map (fun a => max w (a.1 / 8))

/-- A byte range lies within a structure (R616). -/
def inStruct (sid start len : Nat) : Bool :=
  if sid = sidBar2 then bar2Areas.any (fun a => a.1 ≤ start && start + len ≤ a.1 + a.2) else start + len ≤ sidSize sid

/-- The first word of a structure from word `w` on that the steep and a scrub read. -/
def State.firstRead (s : State) (sid w : Nat) : Option Nat :=
  if sid = sidBar2 then bar2Word w
  else if sidSize sid ≤ 8 * w then none
  else if inBlocks sid then
    let k := blkWords sid
    match (List.range 256).find? (fun b => w / k ≤ b && s.blkPowered b) with
    | none => none
    | some b => if b = w / k then some w else some (k * b)
  else some w

/-- The next word that a lap reads, from word `w` of a structure on. -/
def State.steepFrom (s : State) : Nat → Nat → Nat → Option (Nat × Nat)
  | 0, _, _ => none
  | fuel + 1, sid, w =>
    match s.firstRead sid w with
    | some v => some (sid, v)
    | none => match nextSid sid with
      | some n => s.steepFrom fuel n 0
      | none => none

/-- The table that a word of a table structure belongs to, for the detail of a log record; 0xFFFF for none. -/
def State.wordTable (s : State) (sid w : Nat) : Nat :=
  if inBlocks sid then
    let b := w / blkWords sid
    if 248 ≤ b then 63 else if s.blk b = blkOwned then s.rdi TCAM_BLK_CTRL_owner b else 0xFFFF
  else if sid = sidBuckets ∨ sid = sidOverflow then entTable (s.unitBytesOf ⟨sid, w / 4⟩)
  else if sid = sidDix then dixTable
  else if 0x30 ≤ sid ∧ sid ≤ 0x36 then
    let st := sid - 0x30
    if recBase st ≤ w then ((s.recBytes st ((w - recBase st) / 2)).getD 13 0).toNat % 64
    else
      let n := w / (if st = 0 then 65536 else 256)
      match (List.range 4).find? (fun r =>
          (s.rdi LPM_ROOT_CFG_defined r == 1 || s.rdi LPM_ROOT_CFG_sweep r == 1) &&
            (if st = 0 then n == r else (s.treeNodes 6 0 [r]).contains (st, n))) with
      | some r => s.rdi LPM_ROOT_CFG_table r
      | none => 0xFFFF
  else 0xFFFF

/-- What a check of one word found: none, correctable, or uncorrectable. -/
inductive Found where
  | pass | corr | uncorr
  deriving DecidableEq, Repr

/-- A word as a checking engine reads it. -/
def State.foundAt (s : State) (sid w : Nat) : Found :=
  if sid = 0x71 then
    (if s.integ.cfgBad.any (fun e => cfgPlace e.1 == w) then .uncorr else .pass)
  else
    let r := readWord s.mem sid w
    if r.poison then .uncorr else if r.corrected then .corr else .pass

/-- A correctable word's repair queued at the port (R615). -/
def State.queueRepair (s : State) (sid w : Nat) (scrub : Bool) : State :=
  let r := readWord s.mem sid w
  { s with integ := { s.integ with repairs := s.integ.repairs ++
      [{ sid := sid, word := w, badCopy := if r.synA = 0 then 1 else 0, data := r.data, scrub := scrub }] } }

/-- A failing word reported (R617): the words of configuration RAM keep their failing bytes beside them. -/
def State.reportFound (s : State) (detector sid w : Nat) : State :=
  if sid = 0x71 then
    (s.integ.cfgBad.filter (fun e => cfgPlace e.1 == w)).foldl
      (fun s e => s.report ⟨sid, 2, detector, 1, 8 * w, e.2, 0, 0xFFFF⟩) s
  else s.reportRead sid w detector (s.wordTable sid w)

/-- A failing word reported by the steep: a failing array slot is reported once, under R338, and takes pe_seen (R611). -/
def State.steepFound (s : State) (sid w : Nat) : State :=
  if sid = sidArray then
    let t := s.wordTable sid w
    let u := s.slot (w / 4)
    if slotSeen u || !slotBad u then s
    else (((s.slotReport (w / 4) t).map (fun r => { r with detector := 6 })).foldl State.report s).noteSlot t (w / 4)
  else s.reportFound 6 sid w

/-! ### The steep (R608 to R615) -/

/-- The steep reads: it is enabled, no range scrub runs, and the module does not doze nor enter DOZE (R613, R114). -/
def State.steepRuns (s : State) : Bool :=
  s.rd INTEG_STEEP_CTRL_steep_en == 1 && s.phase == .run && !s.dozeEntering && s.integ.scrub.isNone

/-- The next lap starts from the first word; what the present one has found is forgotten (R613). -/
def State.steepRestart (s : State) : State :=
  (({ s with integ := { s.integ with lapCorr := 0, lapUncorr := 0, lapStart := none } } : State).wr
    INTEG_STEEP_POS_pos_sid 1).wr INTEG_STEEP_POS_pos_word 0

/-- The steep's controls set; switched off, it stops at once (R613). -/
def State.setSteep (s : State) (en repair pace : Nat) : State :=
  let t := ((s.wr INTEG_STEEP_CTRL_steep_en en).wr INTEG_STEEP_CTRL_steep_repair_en repair).wr
    INTEG_STEEP_CTRL_steep_pace pace
  if en = 0 then t.steepRestart else t

/-- The end of a lap (R612): its time in whole milliseconds of 400,000 plies, and what it found. -/
def State.steepLapEnd (s : State) : State :=
  let ms := match s.integ.lapStart with
    | some p => (s.clk.ply - p + 399999) / 400000
    | none => 0
  let t := (((((s.wr INTEG_LAP_LAST_lap_last ms).wr INTEG_LAP_MIN_lap_min (min ms (s.rd INTEG_LAP_MIN_lap_min))).wr
    INTEG_LAP_MAX_lap_max (max ms (s.rd INTEG_LAP_MAX_lap_max))).wr INTEG_LAP_FOUND_lap_corr
    (min s.integ.lapCorr 65535)).wr INTEG_LAP_FOUND_lap_uncorr (min s.integ.lapUncorr 65535)).inc INTEG_LAPS_laps
  t.steepRestart.raise INTEG_EVENT_steep_lap

/-- A word that the steep has found counted in the present lap. -/
def State.countFound (s : State) (f : Found) : State :=
  match f with
  | .pass => s
  | .corr => { s with integ := { s.integ with lapCorr := s.integ.lapCorr + 1 } }
  | .uncorr => { s with integ := { s.integ with lapUncorr := s.integ.lapUncorr + 1 } }

/-- The steep checks one word, and its position moves on; behind the last word its lap ends. -/
def State.steepWord (s : State) (sid w : Nat) : State :=
  let f := s.foundAt sid w
  let s0 : State := if s.integ.lapStart.isNone then { s with integ := { s.integ with lapStart := some s.clk.ply } } else s
  let s1 := if f = .pass then s0 else s0.steepFound sid w
  let s2 := if f = .corr ∧ s.rd INTEG_STEEP_CTRL_steep_repair_en = 1 then s1.queueRepair sid w false else s1
  let s3 := s2.countFound f
  match s3.steepFrom 20 sid (w + 1) with
  | some (n, v) => (s3.wr INTEG_STEEP_POS_pos_sid n).wr INTEG_STEEP_POS_pos_word v
  | none => s3.steepLapEnd

/-- The millisecond of the present ply, of 400,000 plies. -/
def State.steepNow (s : State) : Nat := s.clk.ply / 400000

/-- The bytes that the steep reads with a word: both copies of a paired one (R589). -/
def steepCost (sid : Nat) : Nat := 8 * (copies sid).length

/-- What the steep has read in the present millisecond (R610). -/
def State.steepUsed (s : State) : Nat := if s.integ.steepMs = s.steepNow then s.integ.steepBytes else 0

/-- The pace leaves room for a word of a structure in the present millisecond: 1,000 bytes for each MB/s (R610). -/
def State.steepRoom (s : State) (sid : Nat) : Bool :=
  s.steepUsed + steepCost sid ≤ 1000 * s.rd INTEG_STEEP_CTRL_steep_pace

/-- A word of a structure counted against the pace. -/
def State.steepCount (s : State) (sid : Nat) : State :=
  { s with integ := { s.integ with steepMs := s.steepNow, steepBytes := s.steepUsed + steepCost sid } }

/-- STEEP_READ: the next word of the lap, when the pace leaves room for it. -/
def execSteepRead (s : State) : Out :=
  if s.steepRuns then
    match s.steepFrom 20 (s.rd INTEG_STEEP_POS_pos_sid) (s.rd INTEG_STEEP_POS_pos_word) with
    | some (sid, w) => ok (if s.steepRoom sid then (s.steepCount sid).steepWord sid w else s)
    | none => ok s.steepLapEnd
  else ok s

/-! ### Range scrubs (R616, R617) -/

/-- A range that a scrub accepts: a structure that can be scrubbed, whole units, inside the structure. The result is the
parameter offset of INTEG.SCRUB that fails. -/
def scrubCheck (sid start len : Nat) : Option Nat :=
  firstFail [need (0 < sidSize sid) 0, need (start % unitBytes sid == 0 && inStruct sid start 0) 4,
    need (len % unitBytes sid == 0 && inStruct sid start len) 8]

/-- A range scrub starts. -/
def State.startScrub (s0 : State) (sid start len repair : Nat) (m : Option Mb) : State :=
  let s := s0.exitDoze
  (({ s with integ := { s.integ with
      scrub := some { sid := sid, start := start, len := len, repair := repair == 1, mb := m, read := false } } } : State).wr
    INTEG_STATUS_scrub_busy 1).wr INTEG_SCRUB_REPAIRED_s_repaired 0

/-- The running scrub stops. -/
def State.dropScrub (s : State) : State :=
  ({ s with integ := { s.integ with
      scrub := none, repairs := s.integ.repairs.filter (fun r => !r.scrub) } } : State).wr INTEG_STATUS_scrub_busy 0

/-- The units of a scrub's range that it checks: those of GATED and CHANGING blocks are skipped. -/
def State.scrubUnits (s : State) (r : ScrubRun) : Nat :=
  let n := unitBytes r.sid
  if inBlocks r.sid then
    (List.range 256).foldl (fun k b =>
      let lo := max r.start (4096 * n * b)
      let hi := min (r.start + r.len) (4096 * n * (b + 1))
      if s.blkPowered b && lo < hi then k + (hi - lo) / n else k) 0
  else r.len / n

/-- The words of a unit in which a check fails, and whether the unit is uncorrectable. -/
def State.unitFound (s : State) (sid ui : Nat) : List (Nat × Found) :=
  let n := unitBytes sid / 8
  ((List.range n).map (fun k => (n * ui + k, s.foundAt sid (n * ui + k)))).filter (fun x => x.2 != .pass)

/-- The units of a scrub's range that anything has written and that it checks, in ascending order. -/
def State.scrubListed (s : State) (r : ScrubRun) : List Nat :=
  let n := unitBytes r.sid
  let units := if r.sid = 0x71 then sortNat (s.integ.cfgBad.map (fun e => cfgPlace e.1))
    else listedUnits s.mem r.sid
  units.filter (fun u =>
    r.start ≤ n * u && n * u < r.start + r.len && (!inBlocks r.sid || s.blkPowered (u / 4096)))

/-- One unit of a scrub: its failing words reported and, where they are correctable, repaired; and the summary. -/
def State.scrubUnit (r : ScrubRun) (s : State) (u : Nat) : State :=
  let bad := s.unitFound r.sid u
  if bad.isEmpty then s
  else
    let s1 := bad.foldl (fun s x =>
      let t := s.reportFound 7 r.sid x.1
      if x.2 = .corr && r.repair then t.queueRepair r.sid x.1 true else t) s
    let s2 := if bad.any (fun x => x.2 == .corr) then s1.inc INTEG_SCRUB_CORR_s_corr else s1
    let s3 := if bad.any (fun x => x.2 == .uncorr) then s2.inc INTEG_SCRUB_UNCORR_s_uncorr else s2
    match bad with
    | x :: _ => if s3.rd INTEG_SCRUB_FIRST_first = 0xFFFFFFFF then s3.wr INTEG_SCRUB_FIRST_first (8 * x.1) else s3
    | [] => s3

/-- A scrub reads its range. -/
def State.scrubRead (s : State) (r : ScrubRun) : State :=
  let s0 := (((s.wr INTEG_SCRUB_CHECKED_checked (s.scrubUnits r)).wr INTEG_SCRUB_CORR_s_corr 0).wr
    INTEG_SCRUB_UNCORR_s_uncorr 0).wr INTEG_SCRUB_FIRST_first 0xFFFFFFFF
  let s1 := (s.scrubListed r).foldl (State.scrubUnit r) s0
  { s1 with integ := { s1.integ with scrub := some { r with read := true } } }

/-- The 20 bytes of INTEG.SCRUB's response. -/
def State.scrubSummary (s : State) : List Byte :=
  leBytes 4 (s.rd INTEG_SCRUB_CHECKED_checked) ++ leBytes 4 (s.rd INTEG_SCRUB_CORR_s_corr) ++
    leBytes 4 (s.rd INTEG_SCRUB_UNCORR_s_uncorr) ++ leBytes 4 (s.rd INTEG_SCRUB_FIRST_first) ++
    leBytes 4 (s.rd INTEG_SCRUB_REPAIRED_s_repaired)

/-- SCRUB_DONE: the scrub has read its range, and ends once none of its repairs waits at the port. -/
def execScrubDone (s : State) : Out :=
  match s.integ.scrub with
  | none => ok s
  | some r =>
    let t := if r.read then s else s.scrubRead r
    if t.integ.repairs.any (·.scrub) then ok t
    else
      let u := t.dropScrub.raise INTEG_EVENT_scrub_done
      ok (match r.mb with
        | some m => u.okResp m u.scrubSummary
        | none => u)

/-- SCRUB_GO: a write of INTEG_SCRUB_CTRL that starts a scrub. A write that names a structure which R616 excludes is
refused whether it starts one or not (R629). -/
def execScrubGo (w : RegWord) (s : State) : Out :=
  ok (s.regOp 0xD080 w (fun s =>
    let sid := fieldOf w INTEG_SCRUB_CTRL_scrub_sid
    if sid = 0x74 ∨ sid = 0x75 then s.refuseWrite
    else if fieldOf w INTEG_SCRUB_CTRL_go = 0 then s.wrRW 0xD080 w
    else if s.integ.scrub.isSome ∨
        (scrubCheck sid (s.rd INTEG_SCRUB_START_start) (s.rd INTEG_SCRUB_LEN_length)).isSome then s.refuseWrite
    else (s.wrRW 0xD080 w).startScrub sid (s.rd INTEG_SCRUB_START_start) (s.rd INTEG_SCRUB_LEN_length)
      (fieldOf w INTEG_SCRUB_CTRL_scrub_repair) none))

/-! ### The shadow audit (R618 to R623) -/

/-- A mismatch of an audit: the shadow record number, the kind, the differing fields and the entry's index (R621). -/
structure Mismatch where
  rec_ : Nat
  kind : Nat
  fields : Nat
  index : Nat
  deriving DecidableEq, Repr

/-- Its 16 bytes. -/
def mismatchBytes (m : Mismatch) : List Byte :=
  leBytes 4 m.rec_ ++ leBytes 1 m.kind ++ leBytes 1 m.fields ++ leBytes 2 0 ++ leBytes 4 m.index ++ leBytes 4 0

/-- The record number of an entry that the shadow lacks, and the index of an entry that the table lacks. -/
def noRecord : Nat := 0xFFFFFFFF

/-- The records of a shadow image when its header and its length are right (R618, R619, R622). -/
def State.shadowRecs (s : State) (t : Nat) (img : List Byte) : Option (List (List Byte)) :=
  let e := s.imgEngine t
  let size := recSize e (if e = 1 then s.tblW t else 1)
  let n := recNat img 8 4
  if img.length < 32 || recNat img 0 4 != 0x54385348 || recNat img 4 2 != 1 || e == 0 || recNat img 6 1 != e ||
      recNat img 7 1 != t || recNat img 12 2 != size || 2 ≤ recNat img 14 1 || recNat img 15 1 != 0 ||
      ((img.drop 20).take 12).any (· != 0) || img.length != 32 + n * size ||
      (e == 3 && n != s.rd DIX_CFG_dix_limit) then none
  else some (cutRecs size n (img.drop 32))

/-- A byte string under a mask. -/
def underMask (v m : List Byte) : List Byte := List.zipWith (· &&& ·) v m

/-- The differing fields of a TCAM entry and its record. -/
def State.tcamDiff (s : State) (t f : Nat) (r : List Byte) : Nat :=
  let w := s.tblW t
  let m := s.entryMask f w
  b2n (underMask (s.entryValue f w) m != underMask (tcamRecValue w r) m) + 2 * b2n (m != tcamRecMask w r) +
    4 * b2n (slotPrio (s.slot f) != recNat r 4 2) +
    8 * b2n (leNat (readWord s.mem sidResult f).data != recNat r 8 8)

/-- The table's valid entries against the records, by first array slot, both in ascending order. -/
def State.auditTcam (s : State) (t : Nat) : Nat → Nat → List Nat → List (List Byte) → List Mismatch
  | 0, _, _, _ => []
  | _ + 1, _, [], [] => []
  | fuel + 1, i, f :: fs, [] => ⟨noRecord, 3, 0, f⟩ :: s.auditTcam t fuel i fs []
  | fuel + 1, i, [], r :: rs => ⟨i, 1, 0, recNat r 0 4⟩ :: s.auditTcam t fuel (i + 1) [] rs
  | fuel + 1, i, f :: fs, r :: rs =>
    if recNat r 0 4 = f then
      let d := s.tcamDiff t f r
      if d = 0 then s.auditTcam t fuel (i + 1) fs rs else ⟨i, 2, d, f⟩ :: s.auditTcam t fuel (i + 1) fs rs
    else if recNat r 0 4 < f then ⟨i, 1, 0, recNat r 0 4⟩ :: s.auditTcam t fuel (i + 1) (f :: fs) rs
    else ⟨noRecord, 3, 0, f⟩ :: s.auditTcam t fuel i fs (r :: rs)

/-- One EXACT record against the entry of the same table, type and key. -/
def State.auditExact (s : State) (t i : Nat) (r : List Byte) : List Mismatch :=
  match if recNat r 24 1 = 0 then none else s.exactFind t (2 ^ (recNat r 24 1 - 1)) (r.take 16) with
  | none => [⟨i, 1, 0, noRecord⟩]
  | some p =>
    let u := s.unitBytesOf p
    let d := 8 * b2n (entResult u != recNat r 16 8) + 16 * b2n (entLearned u != bitOf (recNat r 25 1) 0)
    if d = 0 then [] else [⟨i, 2, d, placeIndex p⟩]

/-- One DIX record, by its place. -/
def State.auditDix (s : State) (i : Nat) (r : List Byte) : List Mismatch :=
  if (readWord s.mem sidDix i).data = (r.drop 8).take 8 then [] else [⟨i, 2, 8, i⟩]

/-- One LPM record against the stored prefix of the same length. -/
def State.auditLpm (s : State) (t i : Nat) (r : List Byte) : List Mismatch :=
  let root := (s.lpmRootOf t).getD 0
  if recLen r = 0 then
    if s.rdi LPM_ROOT_CFG_dflt_valid root = 1 then
      (if s.rdi LPM_ROOT_DFLT_dflt_result root = recResult r then [] else [⟨i, 2, 8, lpmDefaultIdx⟩])
    else [⟨i, 1, 0, noRecord⟩]
  else match s.findRec t (recPfx r) (recLen r) with
    | none => [⟨i, 1, 0, noRecord⟩]
    | some j =>
      if recResult (s.recBytes (stageOf (recLen r)) j) = recResult r then []
      else [⟨i, 2, 8, lpmIndex (stageOf (recLen r)) j⟩]

/-- The records of a list with their numbers. -/
def numbered (l : List (List Byte)) : List (Nat × List Byte) := (List.range l.length).zip l

/-- A count mismatch: one EXTRA record with the number of surplus entries. -/
def countMismatch (entries records : Nat) : List Mismatch :=
  if entries = records then [] else [⟨noRecord, 3, 0, entries - records⟩]

/-- Every mismatch of a table and a shadow's records (R620, R621). -/
def State.auditAll (s : State) (t : Nat) (ignore : Bool) (recs : List (List Byte)) : List Mismatch :=
  match s.imgEngine t with
  | 1 =>
    let es := (s.positions t false).filter (fun f => s.entryValid f (s.tblW t))
    s.auditTcam t (es.length + recs.length + 1) 0 es recs
  | 2 =>
    let es := (s.exactEntries t).filter (fun p => !(ignore && entLearned (s.unitBytesOf p)))
    (numbered recs).flatMap (fun x => s.auditExact t x.1 x.2) ++ countMismatch es.length recs.length
  | 3 => (numbered recs).flatMap (fun x => s.auditDix x.1 x.2)
  | 4 =>
    let root := (s.lpmRootOf t).getD 0
    (numbered recs).flatMap (fun x => s.auditLpm t x.1 x.2) ++
      countMismatch (s.prefixes t + s.rdi LPM_ROOT_CFG_dflt_valid root) recs.length
  | _ => []

/-- The failing words that an audit reads, reported with detector 0x08. -/
def State.auditReports (s : State) (t : Nat) : State :=
  let words : List (Nat × Nat) := match s.imgEngine t with
    | 1 => (s.positions t false).map (fun f => (sidResult, f))
    | 2 => (s.exactEntries t).flatMap (fun p => (List.range 4).map (fun k => (p.sid, 4 * p.unit + k)))
    | 3 => ((listedUnits s.mem sidDix).filter (· < s.rd DIX_CFG_dix_limit)).map (fun h => (sidDix, h))
    | 4 => (List.range 7).flatMap (fun st => (s.tblRecs t st).flatMap (fun j =>
        [(sidStage st, recBase st + 2 * j), (sidStage st, recBase st + 2 * j + 1)]))
    | _ => []
  words.foldl (fun s w => s.reportRead w.1 w.2 8 t) s

/-- An audit of a table starts: its shadow is read from host memory. A shadow of length 0 is there at once (R622). -/
def State.startAudit (s0 : State) (t ignore shadow len res resLen : Nat) (m : Option Mb) : State :=
  let s := s0.exitDoze
  let run : AuditRun := { table := t, ignoreLearned := ignore == 1, shadowAddr := shadow, shadowLen := len, resAddr := res
                          resLen := resLen, mb := m, startPly := (s.tblInfo t).lastPly
                          shadow := if len = 0 then some [] else none, poison := false }
  let u := ({ s with integ := { s.integ with audit := some run } } : State).wr INTEG_STATUS_audit_busy 1
  if len = 0 then u else u.dmaRead shadow len .auditShadow

/-- The running audit stops. -/
def State.dropAudit (s : State) : State :=
  ({ s with
      integ := { s.integ with audit := none }
      host := (s.dropJobs (fun u => u == .auditShadow)).host } : State).wr
    INTEG_STATUS_audit_busy 0

/-- The end of an audit: its status registers, its events, and the answer of its command. -/
def State.endAudit (s : State) (a : AuditRun) (outcome compared : Nat) (ms : List Mismatch) : State :=
  let changed := (s.tblInfo a.table).lastPly != a.startPly
  let first := (ms.map (·.rec_)).headD noRecord
  let written := min ms.length (a.resLen / 16)
  let s1 := (((((s.dropAudit.wr INTEG_AUD_STATUS_outcome outcome).wr INTEG_AUD_STATUS_table_changed (b2n changed)).wr
    INTEG_AUD_COMPARED_compared compared).wr INTEG_AUD_MISMATCH_mismatches ms.length).wr INTEG_AUD_FIRST_first_mismatch
    first).raise INTEG_EVENT_audit_done
  let s2 := if outcome = 1 then s1.raise INTEG_EVENT_audit_mismatch else s1
  match a.mb with
  | none => s2
  | some m =>
    let resp := leBytes 1 outcome ++ leBytes 1 (b2n changed) ++ leBytes 2 0 ++ leBytes 4 compared ++
      leBytes 4 ms.length ++ leBytes 4 first ++ leBytes 4 written ++ leBytes 4 0
    if outcome = 2 then s2.done m stBadParam 8 resp
    else if outcome = 3 then s2.done m stPoisoned 0 resp
    else s2.okResp m resp

/-- The mismatch records written into the result buffer while space remains (R621). -/
def State.writeMismatches (s : State) (a : AuditRun) (ms : List Mismatch) : State :=
  ((List.range ms.length).zip ms).foldl (fun s x =>
    if x.1 < a.resLen / 16 then s.dmaWrite (a.resAddr + 16 * x.1) (mismatchBytes x.2) else s) s

/-- The comparison of an audit whose shadow has arrived. -/
def State.runAudit (s : State) (a : AuditRun) (img : List Byte) : State :=
  if a.poison then (s.bite 0 8 0 0xFFFF).endAudit a 3 0 []
  else match s.shadowRecs a.table img with
    | none => s.endAudit a 2 0 []
    | some recs =>
      let ms := s.auditAll a.table a.ignoreLearned recs
      let s1 := (s.auditReports a.table).writeMismatches a ms
      s1.endAudit a (if recNat img 16 4 ≠ crc32 (img.drop 32) then 2 else if ms.isEmpty then 0 else 1) recs.length ms

/-- AUDIT_DONE: an audit whose shadow has arrived ends with its outcome. -/
def execAuditDone (s : State) : Out :=
  match s.integ.audit with
  | none => ok s
  | some a => match a.shadow with
    | none => ok s
    | some img => ok (s.runAudit a img)

/-- AUDIT_GO: a write of INTEG_AUD_CTRL that starts an audit (R629). -/
def execAuditGo (w : RegWord) (s : State) : Out :=
  ok (s.regOp 0xD0D8 w (fun s =>
    let t := fieldOf w INTEG_AUD_CTRL_table
    let shadow := s.rd INTEG_AUD_SHADOW_LO_shadow + 2 ^ 32 * s.rd INTEG_AUD_SHADOW_HI_shadow
    let res := s.rd INTEG_AUD_RES_LO_res + 2 ^ 32 * s.rd INTEG_AUD_RES_HI_res
    if 63 ≤ t ∧ t ≠ dixTable then s.refuseWrite
    else if fieldOf w INTEG_AUD_CTRL_go = 0 then s.wrRW 0xD0D8 w
    else if s.integ.audit.isSome then s.refuseWrite
    else (s.wrRW 0xD0D8 w).startAudit t (fieldOf w INTEG_AUD_CTRL_ignore_learned) shadow (s.rd INTEG_AUD_SHADOW_LEN_shadow_len) res
      (s.rd INTEG_AUD_RES_LEN_res_len) none))

/-! ### The flip-mask (R626, R627) -/

/-- Whether a flip-mask may be armed for a structure, copies and word. A command must select a copy. -/
def flipOk (sid copy word : Nat) : Bool :=
  (sidIndex sid).isSome && sid != 0x75 && word < unitBytes sid / 8 && (paired sid || copy != 0) && copy < 4

/-- A selection that a write which does not arm may leave: that of a mask which could be armed, or none as yet. -/
def flipNamed (sid copy word : Nat) : Bool :=
  if (sidIndex sid).isSome then flipOk sid copy word else word < unitBytes sid / 8

/-- FLIP_ARM: a write of INTEG_FLIP_SEL that arms the flip-mask, or that only selects (R629). -/
def execFlipArm (w : RegWord) (s : State) : Out :=
  ok (s.regOp 0xD110 w (fun s =>
    let sid := fieldOf w INTEG_FLIP_SEL_flip_sid
    let copy := fieldOf w INTEG_FLIP_SEL_flip_copy
    let word := fieldOf w INTEG_FLIP_SEL_flip_word
    if s.rd INTEG_FLIP_SEL_flip_armed = 1 then s.refuseWrite
    else if fieldOf w INTEG_FLIP_SEL_flip_armed = 0 then
      if flipNamed sid copy word then s.wrRW 0xD110 w else s.refuseWrite
    else if flipOk sid copy word then (s.wrRW 0xD110 w).wr INTEG_FLIP_SEL_flip_armed 1
    else s.refuseWrite))

/-! ### The log and the seen list -/

/-- LOG_CONS_WRITE: the host's count of consumed records, at both levels of control (R607). -/
def execLogConsWrite (w : RegWord) (s : State) : Out :=
  let s := s.touchLink
  if s.discards then ok s
  else
    let s1 := s.noteReserved 0xD204 w
    let c := fieldOf w INTEG_LOG_CONS_cons
    let old := s1.rd INTEG_LOG_STATUS_consumed
    let open_ := (s1.rd INTEG_LOG_STATUS_written + 65536 - old) % 65536
    if (c + 65536 - old) % 65536 ≤ open_ then ok (s1.wr INTEG_LOG_STATUS_consumed c) else ok s1.refuseWrite

/-- The seen list emptied. -/
def State.clearSeen (s : State) : State :=
  (({ s with integ := { s.integ with seen := [] } } : State).wr INTEG_STATUS_seen_count 0).wr INTEG_STATUS_seen_full 0

/-- SEEN_CLR: at both levels of control. -/
def execSeenClr (w : RegWord) (s : State) : Out :=
  let s := s.touchLink
  if s.discards then ok s
  else
    let s1 := s.noteReserved 0xD20C w
    ok (if fieldOf w INTEG_SEEN_CLR_seen_clr = 1 then s1.clearSeen else s1)

/-! ### Commands -/

/-- The response of INTEG.QUERY. -/
def State.integResp (s : State) : List Byte :=
  leBytes 4 s.integ.corrTotal ++ leBytes 4 s.integ.uncorrTotal ++ leBytes 4 s.integ.repeatTotal ++
    leBytes 4 s.integ.biteTotal ++ leBytes 2 (s.rd INTEG_LOG_STATUS_written) ++
    leBytes 2 (s.rd INTEG_LOG_STATUS_consumed) ++ leBytes 4 s.integ.lostTotal ++ leBytes 2 s.integ.seen.length ++
    leBytes 1 (s.rd INTEG_STEEP_CTRL_steep_en + 2 * s.rd INTEG_STEEP_CTRL_steep_repair_en +
      4 * b2n s.integ.scrub.isSome + 8 * b2n s.integ.audit.isSome + 16 * s.rd INTEG_RAW_raw_en +
      32 * s.rd INTEG_FLIP_SEL_flip_armed) ++ leBytes 1 0 ++
    leBytes 4 (s.rd INTEG_LAPS_laps) ++ leBytes 4 (s.rd INTEG_LAP_LAST_lap_last) ++
    leBytes 4 (s.rd INTEG_LAP_MIN_lap_min) ++ leBytes 4 (s.rd INTEG_LAP_MAX_lap_max) ++
    leBytes 2 (s.rd INTEG_STEEP_CTRL_steep_pace) ++ leBytes 2 0

/-- INTEG.QUERY (0x0D01). -/
def execIntegQuery (m : Mb) (s : State) : Out := runCmd m 0x0D01 s (fun _ s => s.okResp m s.integResp)

/-- INTEG.STEEP (0x0D02). -/
def execIntegSteep (m : Mb) (s : State) : Out :=
  runCmd m 0x0D02 s (fun c s => checked m
    [need (c.u8 0 < 8) 0, c.notZero 1 1, need (1 ≤ c.u16 2 && c.u16 2 ≤ 1023) 2] s (fun s =>
      let t := s.setSteep (c.u8 0 % 2) (c.u8 0 / 2 % 2) (c.u16 2)
      (if bitOf (c.u8 0) 2 then t.steepRestart else t).okResp m []))

/-- INTEG.SCRUB (0x0D03): it acts on the same registers that the host writes. -/
def execIntegScrub (m : Mb) (s : State) : Out :=
  runCmd m 0x0D03 s (fun c s => checked m
    [need (0 < sidSize (c.u8 0)) 0, need (c.u8 1 < 2) 1, c.notZero 2 2, scrubCheck (c.u8 0) (c.u32 4) (c.u32 8)] s (fun s =>
      if s.integ.scrub.isSome then s.fail m stBusy
      else
        let t := (((s.wr INTEG_SCRUB_CTRL_scrub_sid (c.u8 0)).wr INTEG_SCRUB_CTRL_scrub_repair (c.u8 1)).wr
          INTEG_SCRUB_START_start (c.u32 4)).wr INTEG_SCRUB_LEN_length (c.u32 8)
        (t.startScrub (c.u8 0) (c.u32 4) (c.u32 8) (c.u8 1) (some m)).wait m))

/-- INTEG.AUDIT (0x0D04). -/
def execIntegAudit (m : Mb) (s : State) : Out :=
  runCmd m 0x0D04 s (fun c s => checked m
    [need (c.u8 0 < 63 || c.u8 0 == dixTable) 0, need (c.u8 1 < 2) 1, c.notZero 2 2, need (c.u64 8 % 8 == 0) 8,
     need (c.u64 16 % 8 == 0) 16, need (c.u32 24 % 16 == 0) 24] s (fun s =>
      if s.imgEngine (c.u8 0) = 0 then s.fail m stNotFound
      else if s.integ.audit.isSome then s.fail m stBusy
      else (s.startAudit (c.u8 0) (c.u8 1) (c.u64 8) (c.u32 4) (c.u64 16) (c.u32 24) (some m)).wait m))

/-- INTEG.INJECT (0x0D05): it arms the flip-mask. -/
def execIntegInject (m : Mb) (s : State) : Out :=
  runCmd m 0x0D05 s (fun c s => checked m
    [need ((sidIndex (c.u8 0)).isSome && c.u8 0 != 0x75) 0, need (1 ≤ c.u8 1 && c.u8 1 ≤ 3) 1,
     need (flipOk (c.u8 0) (c.u8 1) (c.u8 2)) 2, c.notZero 3 1, c.notZero 13 3] s (fun s =>
      if s.rd INTEG_FLIP_SEL_flip_armed = 1 then s.fail m stBusy
      else
        let t := ((((((s.wr INTEG_FLIP_SEL_flip_sid (c.u8 0)).wr INTEG_FLIP_SEL_flip_copy (c.u8 1)).wr
          INTEG_FLIP_SEL_flip_word (c.u8 2)).wr INTEG_FLIP_DATA_LO_flip_data (c.u32 4)).wr
          INTEG_FLIP_DATA_HI_flip_data (c.u32 8)).wr INTEG_FLIP_CHK_flip_chk (c.u8 12)).wr INTEG_FLIP_SEL_flip_armed 1
        t.okResp m []))

/-- The 32 bytes of the log record with count `c`. -/
def State.logRec (s : State) (c : Nat) : List Byte :=
  (List.range 8).flatMap (fun k => leBytes 4 (s.rdi INTEG_LOG_record (8 * (c % 64) + k)))

/-- INTEG.LOG_READ (0x0D06). -/
def execIntegLogRead (m : Mb) (s : State) : Out :=
  runCmd m 0x0D06 s (fun c s => checked m [need (1 ≤ c.u8 0 && c.u8 0 ≤ 7) 0, need (c.u8 1 < 4) 1] s (fun s =>
    let first := s.rd INTEG_LOG_STATUS_consumed
    let n := min (c.u8 0) ((s.rd INTEG_LOG_STATUS_written + 65536 - first) % 65536)
    let resp := leBytes 1 n ++ List.replicate 7 0 ++ (List.range n).flatMap (fun k => s.logRec (first + k))
    let s1 := if bitOf (c.u8 1) 0 then s.wr INTEG_LOG_STATUS_consumed ((first + n) % 65536) else s
    (if bitOf (c.u8 1) 1 then s1.clearSeen else s1).okResp m resp))

end Sys2Proof.Machine
end

