-- ==== Sys2Proof/Machine/Stop.lean ====
section
/-! DEFINITION. The end of a command before its time: the time limit of a command, SYS.ABORT, and the completion of every
command at a restart, in the fatal state and in a shutdown (R243, R244, R246 to R251, R270). What a stopped command has under
way is given up here, so that it takes no effect (R244). -/

namespace Sys2Proof.Machine
open Reg

/-! ### What a command has under way -/

/-- A running warm start is given up: the updates that it queued leave the port, and updates that delete the tables which it has
created come in their place. -/
def State.dropWarm (s : State) : State :=
  match s.cores.warm with
  | none => s
  | some w =>
    let s1 : State := { s with
      cores := { s.cores with warm := none }
      tbl := { s.tbl with queue := s.tbl.queue.filter (fun r => match r.origin with | .warm _ => false | _ => true) } }
    let made := (List.range 64).filter (fun t => w.status.getD t 0 == 1)
    (s1.queueUndo w.mb (made.map (fun t => if t = 63 then .dixLimit 0 else .delTable t))).noteBusy.wr CADDY_STATUS_warm_run 0

/-- The table updates, the walks and the warm start of a mailbox's command are given up. After VOID the entries of an image
load may remain (R344). -/
def State.dropTables (s : State) (m : Mb) (st : Nat) : State :=
  let s1 := (s.cancelUpdates m (st != stVoid)).dropWalkCmd m
  if (s1.cores.warm.map (·.mb)) = some m then s1.dropWarm else s1

/-- What an eject pulse serves without mailbox `m`: a pulse that follows an unmounting goes on without it, and one that
nothing else asks for ends. -/
def pulseWithout (m : Mb) (l : List (Option Mb × Nat)) : Option (List (Option Mb × Nat)) :=
  let rest := l.filterMap (fun e => if e.1 = some m then (if e.2 = 0 then none else some (none, e.2)) else some e)
  if rest.isEmpty then none else some rest

/-- The media operations of a mailbox's command at slot `p`: a mount ends with the slot switched off, save and page commands
leave their queue, a slot that drains is mounted again, an eject pulse of a slot that was not mounted ends, and a port reset
goes on without the command (R244; log entry 59). -/
def State.dropMedia (st : Nat) (m : Mb) (s : State) (p : Nat) : State :=
  let x := s.port p
  let s0 := if (x.drain.bind (·.mb)) = some m then (s.dropUnmount p).setSlotState p (if x.header.isEmpty then slRaw else slReady)
    else s
  let s1 := if (x.mount.map (·.mb)) = some m then ((s0.slotOff p).setSlotState p slPresent).endMount p 0 st else s0
  let s2 := (s1.dropData p (fun u => u == .save m || u == .page m)).updPort p (fun x => { x with
    saves := x.saves.filter (fun r => r.mb != m)
    pageRuns := x.pageRuns.filter (fun r => r.mb != m)
    drain := x.drain.filter (fun d => d.mb != some m)
    pulse := x.pulse.bind (pulseWithout m)
    portReset := x.portReset.map (fun q => (q.1.filter (· != m), q.2)) })
  let s3 := s2.updTag p (fun t => { t with auth := t.auth.map (fun a => { a with mbs := a.mbs.filter (· != m) }) })
  if s2.xferMb p = some m then s3.xferOver p else s3

/-- A rule set whose last part a mailbox's command carries is abandoned. -/
def State.dropRules (s : State) (m : Mb) : State :=
  match s.guard.due with
  | some l =>
    if l.mb = some m then
      (({ s with tbl := { s.tbl with guardQ := [] }, guard := { s.guard with due := none } } : State).setGuardCastle
        false).resumeLoad
    else s
  | none => s

/-- The queue pairs and stream channels that a mailbox's command is closing are open again, and serve their rings from where
they stopped (R244). -/
def State.reopen (s : State) (m : Mb) : State :=
  let s1 := (List.range 16).foldl (fun s q =>
    if (s.pair q).closer = some m then (s.setPair q { s.pair q with closing := false, closer := none }).servePair q else s) s
  (List.range 16).foldl (fun s c =>
    if (s.chan c).closer = some m then (s.setChan c { s.chan c with closing := false, closer := none }).pumpChan c else s) s1

/-- An enumeration is withdrawn, and this head keeps the chain that it had (R244; log entry 59). -/
def State.dropEnum (s : State) (m : Mb) : State :=
  if s.chain.enum = some (some m) then
    (({ s with chain := { s.chain with
        enum := none, training := false, startAt := none, tokenIn := false, upBack := false } } : State).wr CHN_STATUS_state
      s.chain.enumPrev).wr CHN_STATUS_members s.chain.enumMembers
  else s

/-- Everything else that names a mailbox's command: closes, an enumeration, a scrub, an audit, a dump, what it awaits from the
chain, and what it waits for at a pin. -/
def State.dropRest (s0 : State) (m : Mb) : State :=
  let s := (s0.reopen m).dropEnum m
  let s1 := if (s.integ.scrub.bind (·.mb)) = some m then s.dropScrub else s
  let s2 := if (s1.integ.audit.bind (·.mb)) = some m then s1.dropAudit else s1
  { s2 with
    host := (s2.dropJobs (fun u => u == .saveImage m)).host
    cores := { s2.cores with dump := if (s2.cores.dump.bind (·.mb)) = some m then none else s2.cores.dump }
    chain := { s2.chain with
      awaits := s2.chain.awaits.filter (fun a => a.mb != m) }
    pins := { s2.pins with
      uarts := s2.pins.uarts.map (fun u => { u with waits := u.waits.filter (fun w => w.1 != m) })
      i2c := s2.pins.i2c.map (fun r => { r with mb := r.mb.filter (· != m) })
      i2cNext := s2.pins.i2cNext.filter (fun r => r.mb != some m) } }

/-- A DOZE request that waits for its blocks to be gated is withdrawn. -/
def State.dropDoze (s : State) (m : Mb) : State :=
  if s.waiting m 0x0202 && s.dozeEntering then { s with clk := { s.clk with admitStop := false } } else s

/-- Everything that a mailbox's command has under way is given up; `st` is the status it is about to complete with. -/
def State.cancelRefs (s : State) (m : Mb) (st : Nat) : State :=
  ((((List.range 2).foldl (State.dropMedia st m) (s.dropTables m st)).dropRules m).dropRest m).dropDoze m

/-- The mailbox that an OTP job serves. -/
def OtpJob.mb (j : OtpJob) : Option Mb :=
  match j.who with
  | .settings m _ => some m
  | .security m _ => some m
  | .lock m => some m
  | .raise m => some m
  | .expert => none

/-- A mailbox's OTP job is to stop after the word in progress, which completes its command (R129, R270). DESIGN CHOICE (log entry 193):
one that is stopping keeps its first status. -/
def State.stopOtp (s : State) (m : Mb) (st : Nat) : Option State :=
  match s.otp with
  | some j =>
    if j.mb = some m then some { s with otp := some { j with words := j.words.take 1, stop := some (j.stop.getD st) } } else none
  | none => none

/-- The running command of a mailbox is stopped and completes with a status (R243, R270). What it has under way is given up, and
what it has committed is taken back first where that can be (R244; log entries 59 and 60). One that programs the OTP array
completes after the word in progress. -/
def State.stopCmd (s : State) (m : Mb) (st : Nat) : State :=
  match (s.mbx m).taken with
  | none => s
  | some c =>
    if c.stop.isSome then s
    else match s.stopOtp m st with
      | some t => t
      | none =>
        let t := s.cancelRefs m st
        if t.undoing m then t.holdStop m st else t.finish m st 0 []

/-- A stopped command is not over: its OTP word is in progress (R129), or what it has committed is being taken back (R244). -/
def State.stopsRun (s : State) : Bool :=
  s.otp.any (fun j => j.stop.isSome) || (hostMbs ++ [Mb.relay]).any s.undoing

/-! ### Every command (R129, R247, R248, R250) -/

/-- Accepted commands of a mailbox completed with a status while they stand next in count order. -/
def State.flushAccepted (st : Nat) (m : Mb) : Nat → State → State
  | 0, s => s
  | n + 1, s =>
    let c := s.doneCnt m
    if (s.mbx m).taken.isNone && c != s.posted m then
      State.flushAccepted st m n
        ((s.setMbx m { s.mbx m with marked := (s.mbx m).marked.filter (· != c) }).finishSlot m st 0 [])
    else s

/-- Every TAKEN command of the four mailboxes completes with a status. -/
def State.completeTaken (s : State) (st : Nat) : State := hostMbs.foldl (fun s m => s.stopCmd m st) s

/-- The relayed commands of a follower, running and waiting, are answered with a status. -/
def State.completeRelayed (s : State) (st : Nat) : State :=
  let s1 := s.stopCmd .relay st
  let q := s1.chain.relayQ
  q.foldl (fun s r => s.sendPkt { dst := r.src, src := s.ownAddr, kind := 2, tag := r.tag, fields := 0,
                                  payload := rspSlot r.slot st 0 [] })
    ({ s1 with chain := { s1.chain with relayQ := [] } } : State)

/-- The ACCEPTED commands of a mailbox marked, so that they complete with ABORTED behind its TAKEN command (R237, R270). -/
def State.markAccepted (s : State) (m : Mb) : State :=
  let d := s.doneCnt m
  let n := (s.posted m + 65536 - d) % 65536
  if (s.mbx m).taken.isNone then s
  else s.setMbx m { s.mbx m with marked := (s.mbx m).marked ++ (List.range (n - 1)).map (fun k => (d + 1 + k) % 65536) }

/-- Every TAKEN and every ACCEPTED command completes with a status, but that of mailbox `except`. Where a TAKEN command has to
end a word of the OTP array or to take its updates back first, the commands behind it complete ABORTED after it, and a SYS.ABORT that waits for it completes
OK then (R247, R270). -/
def State.completeAll (s : State) (st : Nat) (except : Option Mb) : State :=
  let one (s : State) (m : Mb) : State :=
    let t := State.flushAccepted st m 8 (if st = stAborted && s.waiting m 0x0106 then s else s.stopCmd m st)
    if st = stAborted then t.markAccepted m else t
  ((hostMbs.filter (fun m => some m != except)).foldl one s).settleAborts

/-- Every command of the mailboxes and of the chain port completes with a status. -/
def State.completeEvery (s : State) (st : Nat) : State := (s.completeAll st none).completeRelayed st

/-! ### Time limits (R243) -/

/-- COMMAND_TIMEOUT: the limit of the command that a mailbox runs is over. A waiting claim, and a rule set that waits behind
a host castling, complete with BUSY (R253; GUARD.RULES_LOAD). -/
def execCommandTimeout (m : Mb) (s : State) : Out :=
  match (s.mbx m).taken with
  | none => ok s
  | some c =>
    if c.stage = .waiting ∧ (c.opcode = 0x0104 ∨ (c.opcode = 0x0C02 ∧ s.rd SEC_STATUS_castle_wait = 1)) then
      ok (s.stopCmd m stBusy)
    else ok (s.stopCmd m stTimeout)

/-! ### SYS.ABORT (R270) -/

/-- The state of the command with count `c` of a mailbox: 0 not posted, 1 ACCEPTED, 2 TAKEN, 3 DONE. DESIGN CHOICE (log entry 194): of
the counts outside the posted window, the 32,768 below done are DONE. -/
def State.cmdState (s : State) (m : Mb) (c : Nat) : Nat :=
  let d := s.doneCnt m
  if (c + 65536 - d) % 65536 < (s.posted m + 65536 - d) % 65536 then
    (if c = d ∧ (s.mbx m).taken.isSome then 2 else 1)
  else if (d + 65536 - c) % 65536 ≤ 32768 ∧ c ≠ d then 3
  else 0

/-- SYS.ABORT (0x0106). -/
def execSysAbort (m : Mb) (s : State) : Out :=
  runCmd m 0x0106 s (fun c s =>
    checked m [need (1 ≤ c.u8 0 && c.u8 0 ≤ 3) 0, c.notZero 1 1] s (fun s =>
      let t := mbOf (c.u8 0)
      let st := s.cmdState t (c.u16 2)
      match st with
      | 1 =>
        let s1 := s.setMbx t { s.mbx t with marked := (s.mbx t).marked ++ [c.u16 2] }
        (State.settleMarked 8 t s1).okResp m [1]
      | 2 =>
        let s1 := s.stopCmd t stAborted
        -- a command that ends with a word of the OTP array or with the last update taken back, and SYS.ABORT with it
        if (s1.mbx t).taken.isSome then s1.wait m else s1.okResp m [2]
      | n => s.done m stNotFound 0 (leBytes 1 n)))

end Sys2Proof.Machine
end

