-- ==== Sys2Proof/Machine/Pins.lean ====
section
/-! DEFINITION. The pads and the crossbar, their peripherals, and the pad commands and events (chapter *Pins, crossbar
and wake*). -/

namespace Sys2Proof.Machine
open Reg

/-! ### Signals (R694) -/

/-- Peripheral inputs of the crossbar, the bidirectional signals included. -/
def sigInput (g : Nat) : Bool :=
  [1, 3, 6, 8, 10, 11, 12, 17, 34].contains g || (18 ≤ g && g ≤ 25) || (37 ≤ g && g ≤ 46)

/-- The value that an input takes when no pad carries it. -/
def sigDefault (g : Nat) : Bool := [1, 6, 10, 11, 12, 17].contains g || (39 ≤ g && g ≤ 46)

/-- The inputs that skip the debounce stage. -/
def sigFast (g : Nat) : Bool :=
  [1, 3, 6, 8, 10, 11, 17, 34, 37, 38].contains g || (18 ≤ g && g ≤ 25)

/-- The pads that carry a signal. -/
def State.carriers (s : State) (g : Nat) : List Nat :=
  (List.range 24).filter (fun n => s.rdi PIN_PAD_CFG_mode n == 2 && s.rdi PIN_PAD_CFG_sig n == g)

/-- Exactly one pad carries a signal. -/
def State.carried (s : State) (g : Nat) : Bool := (s.carriers g).length == 1

/-- The signals in conflict: inputs that two or more pads select (R696). -/
def State.conflicts (s : State) : Nat :=
  bitsNat ((List.range 64).map (fun g => sigInput g && (s.carriers g).length ≥ 2))

/-- Bit `n` of a 24-bit pad mask. -/
def padBit (v n : Nat) : Bool := bitOf v n

/-- Bit `n` of a 24-bit pad mask set to `b`. -/
def padSet (v n : Nat) (b : Bool) : Nat :=
  if b then v ||| 2 ^ n else v &&& (2 ^ 24 - 1 - 2 ^ n % 2 ^ 24)

/-- The level that a consumer of pad `n` receives: debounced, or filtered where the pad carries a signal that skips the
debounce, and inverted by inv (R703). -/
def State.padSeen (s : State) (n : Nat) : Bool :=
  let fast := s.rdi PIN_PAD_CFG_mode n == 2 && sigFast (s.rdi PIN_PAD_CFG_sig n)
  let v := if fast then padBit s.pins.filt n else padBit s.pins.deb n
  v != (s.rdi PIN_PAD_CFG_inv n == 1)

/-- The level of a peripheral input: of its one pad, else its default (R694, R696). -/
def State.sigIn (s : State) (g : Nat) : Bool :=
  match s.carriers g with
  | [n] => s.padSeen n
  | _ => sigDefault g

/-! ### Output levels -/

/-- The pads are powered and not inert: from step 6 of a sequence on they are (R715). -/
def State.padsLive (s : State) : Bool :=
  s.powered && s.phase != .start && !(s.inSequence && s.rd PWR_STATE_shdn_step == 6)

/-- What an output signal drives at an instant: a level, or a waveform whose phase the model does not follow. -/
inductive PadOut where
  | level (b : Bool)
  | wave
  deriving DecidableEq, Repr

/-- A UART. -/
def State.uart (s : State) (u : Nat) : Uart := s.pins.uarts.getD u { tx := [], rx := [], cur := none, de := false, waits := [] }

/-- A PWM channel. -/
def State.pwm (s : State) (k : Nat) : Pwm := s.pins.pwm.getD k { period := 0, duty := 0, killed := false }

/-- A fan input. -/
def State.fan (s : State) (k : Nat) : Fan := s.pins.fans.getD k { seen := false, gaps := [] }

/-- UART `u` holds U_RTS_N at 1: with flow control while 8 or fewer receive places are free (R717), and without it. -/
def State.rtsHigh (s : State) (u : Nat) : Bool :=
  s.rdi PIN_Uu_CFG_flow u == 0 || 64 - (s.uart u).rx.length ≤ 8

/-- PWM channel `k` (R719). -/
def State.pwmOut (s : State) (k : Nat) : PadOut :=
  let c := s.pwm k
  let act := s.rdi PIN_PWM_PER_pol k == 0
  if s.rdi PIN_PWM_PER_en k = 0 then .level false
  else if c.killed || c.duty == 0 then .level (!act)
  else if c.period + 1 ≤ c.duty then .level act
  else .wave

/-- A LED mode: off, on, blinking, or following slot `p` (R721). -/
def State.ledOut (s : State) (mode p : Nat) : PadOut :=
  match mode with
  | 0 => .level false
  | 1 => .level true
  | 4 => match s.rdi SLOT_STATUS_state p with
    | 0 | 1 => .level false
    | 3 | 4 => .level true
    | _ => .wave
  | _ => .wave

/-- The level that a unit gives an output signal (R694, R706, R724); the default where the unit is disabled. -/
def State.sigOut (s : State) (g : Nat) : PadOut :=
  if g = 0 ∨ g = 5 then
    let u := g / 5
    if s.rdi PIN_Uu_CFG_en u = 1 ∧ (s.uart u).cur.isSome then .wave else .level true
  else if g = 2 ∨ g = 7 then
    let u := g / 5
    .level (if s.rdi PIN_Uu_CFG_en u = 1 then s.rtsHigh u else true)
  else if g = 4 ∨ g = 9 then .level (s.uart (g / 5)).de
  else if 13 ≤ g ∧ g ≤ 16 then s.pwmOut (g - 13)
  else if 26 ≤ g ∧ g ≤ 33 then .level (s.rd PIN_TMR_CTRL_en == 1 && bitOf s.pins.tcmp (g - 26))
  else if g = 35 then s.ledOut (s.rd PIN_LED_mode_a) 0
  else if g = 36 then s.ledOut (s.rd PIN_LED_mode_b) 1
  else if 47 ≤ g ∧ g ≤ 54 then .level (s.irqStatus &&& s.rdi PIN_UOUT_uout_mask (g - 47) == 0)
  else if g = 55 then (if s.rd PIN_CLKOUT_en = 1 then .wave else .level false)
  else if g = 56 then .level (s.rd PWR_STATE_fw_state == 2)
  else if g = 57 then .level (s.rd GLB_STATUS_fatal == 0)
  else if g = 58 then .level (s.rd THM_STATUS_throttle_active == 0)
  else if g = 59 then .level (!s.alertN)
  else if g = 60 ∨ g = 61 then
    .level (s.rdi SLOT_STATUS_vcc_on (g - 60) == 1 && s.rdi SLOT_STATUS_vccq_on (g - 60) == 1)
  else if g = 62 then .level s.isHead
  else if g = 63 then .level (!s.inSequence)
  else .level false

/-- What pad `n` drives, if it drives (R704, R706, R715). An open-drain pad is released for 1. A bidirectional signal is open-drain:
its one pad drives low in the low phases of a transfer, and two pads that select it are released (R696). -/
def State.padDrive (s : State) (n : Nat) : Option PadOut :=
  let inv := s.rdi PIN_PAD_CFG_inv n == 1
  let od := s.rdi PIN_PAD_CFG_od n == 1
  let drive (o : PadOut) : Option PadOut :=
    match o with
    | .wave => some .wave
    | .level b => if od && (b != inv) then none else some (.level (b != inv))
  if !s.padsLive then none
  else if s.rdi PIN_PAD_CFG_mode n = 1 then drive (.level (s.bit PIN_OUT_out 0 n))
  else if s.rdi PIN_PAD_CFG_mode n = 2 then
    let g := s.rdi PIN_PAD_CFG_sig n
    if g = 10 ∨ g = 11 then
      (if s.carried g && s.pins.i2c.isSome && s.rd PIN_I2C_CFG_en == 1 then some .wave else none)
    else if sigInput g then none else drive (s.sigOut g)
  else none

/-- Pad `n` is an open-drain output, which its level releases without a switch (R704, R706). -/
def State.selfReleases (s : State) (n : Nat) : Bool :=
  let m := s.rdi PIN_PAD_CFG_mode n
  let g := s.rdi PIN_PAD_CFG_sig n
  (s.rdi PIN_PAD_CFG_od n == 1 && (m == 1 || (m == 2 && !sigInput g))) || (m == 2 && (g == 10 || g == 11))

/-- The level at pad `n` while nothing of the module drives it: without a glitch filter every level reaches the filter's output on
its edge (R701), so that it is the level told last; behind a filter a level that has not held long enough shows too, and it is free, as
it is at an open-drain output, which may have driven the pad since (log entry 15). A land that the boundary register has cut floats. -/
def State.boardLevel (s : State) (n : Nat) : Bool :=
  if s.scanOwns || (s.rdi PIN_PAD_CFG_glitch n == 0 && !s.selfReleases n) then padBit s.pins.ext n else (Config.padLevel s.free).getLsbD n

/-- The level at pad `n` (R700): what it drives, else what the board gives it. At an instant of a waveform the level of the
signal is free, the same at each of its pads (R695; log entry 15); an open-drain pad is released for 1. -/
def State.padLevel (s : State) (n : Nat) : Bool :=
  match s.padDrive n with
  | some (.level b) => b
  | some .wave =>
    let g := s.rdi PIN_PAD_CFG_sig n
    let b := (Config.waveLevel s.free).getLsbD g != (s.rdi PIN_PAD_CFG_inv n == 1)
    if b && (s.rdi PIN_PAD_CFG_od n == 1 || g == 10 || g == 11) then s.boardLevel n else b
  | none => s.boardLevel n

/-- PIN_IN: the levels at all pads (R700). -/
def State.padIn (s : State) : Nat := bitsNat ((List.range 24).map s.padLevel)

/-- PIN_FILT: the levels that the consumers receive (R703). -/
def State.padFilt (s : State) : Nat := bitsNat ((List.range 24).map s.padSeen)

/-! ### Wake pads (R712 to R715) -/

/-- An enabled wake entry names pad `n` (R712). -/
def State.wakePad (s : State) (n : Nat) : Bool :=
  (List.range 8).any (fun k => s.rdi PIN_WAKE_en k == 1 && s.rdi PIN_WAKE_pad k == n)

/-- The pad is a wake pad, sampled in the AON island, in STANDBY (R714). -/
def State.wakeSampled (s : State) (n : Nat) : Bool := s.phase == .standby && s.wakePad n

/-- The pull at pad `n` (R715, PIN_PAD_CFG_n): that of its wake entry once a standby entry is in step 6, none at an inert pad, and the
configured one otherwise. -/
def State.padPull (s : State) (n : Nat) : Nat :=
  if s.padsLive then s.rdi PIN_PAD_CFG_pull n
  else if s.phase = .standby ∨ s.phase = .standbyEntry then
    match (List.range 8).find? (fun k => s.rdi PIN_WAKE_en k == 1 && s.rdi PIN_WAKE_pad k == n) with
    | some k => s.rdi PIN_WAKE_pull k
    | none => 0
  else 0

/-! ### Peripheral effects -/

/-- A UART replaced, its levels and busy bit reported. -/
def State.setUart (s : State) (u : Nat) (x : Uart) : State :=
  (((({ s with pins := { s.pins with uarts := listSet s.pins.uarts u x } } : State).wri PIN_Uu_STATUS_tx_level u
    x.tx.length).wri PIN_Uu_STATUS_rx_level u x.rx.length).wri PIN_Uu_STATUS_tx_busy u (b2n x.cur.isSome))

/-- The received bytes of a UART taken by a PIN.UART_XFER command, up to 236, oldest first, and its answer (R732). -/
def State.uartReply (s : State) (m : Mb) (u accepted : Nat) : State :=
  let x := s.uart u
  let got := x.rx.take 236
  (s.setUart u { x with rx := x.rx.drop 236 }).okResp m (leBytes 2 got.length ++ leBytes 2 accepted ++ got)

/-- The commands that wait for the end of transmission complete. -/
def State.uartDone (s : State) (u : Nat) : State :=
  let x := s.uart u
  x.waits.foldl (fun s w => s.uartReply w.1 u w.2) (s.setUart u { x with waits := [] })

/-- The bits of a frame in their order on the line: the start bit, 7 or 8 data bits least significant first, the parity bit, and the
stop bits (R716). -/
def State.uartFrame (s : State) (u : Nat) (b : Byte) : List Bool :=
  let d := (List.range (if s.rdi PIN_Uu_CFG_bits7 u = 1 then 7 else 8)).map b.getLsbD
  let odd := d.foldl xor false
  let par := match s.rdi PIN_Uu_CFG_parity u with
    | 1 => [odd]
    | 2 => [!odd]
    | _ => []
  [false] ++ d ++ par ++ List.replicate (if s.rdi PIN_Uu_CFG_stop2 u = 1 then 2 else 1) true

/-- UART `u` starts its next frame when it may (R717): enabled, idle, and not held by U_CTS_N. -/
def State.uartPump (s : State) (u : Nat) : State :=
  let x := s.uart u
  let held := s.rdi PIN_Uu_CFG_flow u == 1 && s.sigIn (3 + 5 * u)
  match x.tx with
  | b :: bs =>
    if s.rdi PIN_Uu_CFG_en u == 1 && x.cur.isNone && !held then
      s.setUart u { x with tx := bs, cur := some (s.uartFrame u b), de := x.de || s.rdi PIN_Uu_CFG_de_en u == 1 }
    else s
  | [] => s

/-- A UART is disabled: both FIFOs are emptied, the frame is cut, and waiting commands complete (R717). -/
def State.uartOff (s : State) (u : Nat) : State :=
  (s.setUart u { s.uart u with tx := [], rx := [], cur := none, de := false }).uartDone u

/-- Bytes offered to the transmit FIFO; those beyond its 64 places are discarded and counted when `count` is set. A
disabled unit's FIFO stays empty. -/
def State.uartPush (s : State) (u : Nat) (bs : List Byte) (count : Bool) : State :=
  if s.rdi PIN_Uu_CFG_en u = 0 then s
  else
    let x := s.uart u
    let room := 64 - x.tx.length
    let s1 := s.setUart u { x with tx := x.tx ++ bs.take room }
    (if count then s1.addi PIN_Uu_ERR_tx_drop u (bs.length - room) else s1).uartPump u

/-- The pad levels changed: a consumer edge may set a pad interrupt (R710), a rising edge of TCLK is counted towards the timer's next
count (R720), and U_CTS_N may let a frame start. -/
def State.padEdge (s t : State) (n : Nat) : State :=
  let a := s.padSeen n
  let b := t.padSeen n
  let cfg := if n < 16 then bitsOf (t.rd PIN_IRQ_CFG_LO_irq) (2 * n) 2 else bitsOf (t.rd PIN_IRQ_CFG_HI_irq) (2 * n - 32) 2
  let hit := (b && !a && bitOf cfg 0) || (a && !b && bitOf cfg 1)
  let t1 :=
    if hit then
      let t0 := t.setBit PIN_IRQ_STATUS_irq 0 n true
      if t.bit PIN_IRQ_STATUS_irq 0 n then t0 else t0.raise PIN_EVENT_pad_irq
    else t
  let t2 : State :=
    if b && !a && t.carriers 34 == [n] && t.rd PIN_TMR_CTRL_en == 1 && t.rd PIN_TMR_CTRL_clk_sel == 1 then
      { t1 with pins := { t1.pins with tclk := t1.pins.tclk + 1 } }
    else t1
  (t2.uartPump 0).uartPump 1

/-! ### Switching (R707 to R709) -/

/-- Pads that stop driving show what the board gives them, which no row tells: a free level (R708, log entry 15). -/
def State.padRelease (old s : State) (ns : List Nat) : State :=
  let go := ns.filter (fun n => (old.padDrive n).isSome && (s.padDrive n).isNone)
  if go.isEmpty then s
  else
    ({ s with pins := { s.pins with ext := go.foldl (fun v n => padSet v n ((Config.padLevel s.free).getLsbD n)) s.pins.ext } } :
      State).nextFree

/-- Filter and debounce of pads load the levels that the pads show; no consumer sees an edge (R708). A waveform's level
is taken from the present free value. -/
def State.padLoad (s : State) (ns : List Nat) : State :=
  let go (v : Nat) : Nat := ns.foldl (fun v n => padSet v n (s.padLevel n)) v
  ({ s with pins := { s.pins with filt := go s.pins.filt, deb := go s.pins.deb } } : State).nextFree

/-- PIN_CONFLICT and conflict_any follow the pad configuration; conflict is set when a bit rises (R696). -/
def State.noteConflicts (s : State) : State :=
  let new := s.conflicts
  let old := s.rd PIN_CONFLICT_LO_conflict + 2 ^ 32 * s.rd PIN_CONFLICT_HI_conflict
  let s1 := ((s.wr PIN_CONFLICT_LO_conflict new).wr PIN_CONFLICT_HI_conflict (new / 2 ^ 32)).wr PIN_STATUS_conflict_any
    (b2n (new != 0))
  if new &&& (2 ^ 64 - 1 - old % 2 ^ 64) != 0 then s1.raise PIN_EVENT_conflict else s1

/-- A disconnected pad floats to its pull; without one its level is free (R773, log entry 15). -/
def State.padFloat (s : State) (ns : List Nat) : State :=
  let lvl (n : Nat) : Bool := match s.padPull n with
    | 1 => true
    | 2 => false
    | _ => (Config.padLevel s.free).getLsbD n
  ({ s with pins := { s.pins with ext := ns.foldl (fun v n => padSet v n (lvl n)) s.pins.ext } } : State).nextFree

/-- The pads that a write changed, from state `old` to `s`, switch together: their stages load, conflicts are noted, and a frame that
waited for U_CTS_N may start (R707 to R709). -/
def State.switchPads (old s : State) (ns : List Nat) : State :=
  if ns.isEmpty then s
  else
    let s0 := if s.scanOwns then s.padFloat ns else old.padRelease s ns
    (((s0.padLoad ns).noteConflicts).uartPump 0).uartPump 1

/-! ### Register writes of the block (R731) -/

/-- A value of a PIN register that R731 does not refuse: no reserved encoding, and every field within its range. -/
def pinRangeOk (off : Nat) (w : RegWord) : Bool :=
  let f (fld : Fld) : Nat := fieldOf w fld
  if 0x6100 ≤ off ∧ off < 0x6160 then f PIN_PAD_CFG_mode != 3 && f PIN_PAD_CFG_pull != 3
  else if 0x6060 ≤ off ∧ off < 0x6080 then f PIN_WAKE_pull != 3 && f PIN_WAKE_pad ≤ 23
  else if off = 0x6200 ∨ off = 0x6220 then f PIN_Uu_CFG_parity != 3
  else if off = 0x6204 ∨ off = 0x6224 then f PIN_Uu_DIV_div_int != 0
  else if off = 0x6280 then f PIN_I2C_CFG_stretch_ms != 0
  else if off = 0x6284 then f PIN_I2C_XFER_wr_len ≤ 8 && f PIN_I2C_XFER_rd_len ≤ 8
  else if 0x6300 ≤ off ∧ off < 0x6320 ∧ off % 8 = 0 then f PIN_PWM_PER_en == 0 || f PIN_PWM_PER_period_m1 != 0
  else if off = 0x63C0 then f PIN_LED_mode_a ≤ 4 && f PIN_LED_mode_b ≤ 4
  else true

/-- An enabled wake entry `k` naming `pad` clashes with another enabled entry (R713). -/
def State.wakeClash (s : State) (k : Nat) (w : RegWord) : Bool :=
  fieldOf w PIN_WAKE_en == 1 &&
    (fieldOf w PIN_WAKE_pad > 23 ||
      (List.range 8).any (fun j => j != k && s.rdi PIN_WAKE_en j == 1 && s.rdi PIN_WAKE_pad j == fieldOf w PIN_WAKE_pad))

/-- Whether a write of a PIN register changes nothing and sets BAD_WRITE (R713, R731). -/
def State.pinRefused (s : State) (off : Nat) (w : RegWord) : Bool :=
  !pinRangeOk off w ||
    (0x6060 ≤ off && off < 0x6080 && s.wakeClash ((off - 0x6060) / 4) w) ||
    (off == 0x6284 && w.getLsbD 31 && s.rd PIN_I2C_STATUS_busy == 1)

/-- An I2C transfer starts (R718). -/
def State.i2cStart (s : State) (r : I2cRun) : State :=
  (({ s with pins := { s.pins with i2c := some r } } : State).wr PIN_I2C_STATUS_busy 1).wr PIN_STATUS_i2c_busy 1

/-- A PWM channel replaced. -/
def State.setPwm (s : State) (k : Nat) (c : Pwm) : State :=
  { s with pins := { s.pins with pwm := listSet s.pins.pwm k c } }

/-- A fan input starts afresh. -/
def State.fanClear (s : State) (k : Nat) : State :=
  (({ s with pins := { s.pins with fans := listSet s.pins.fans k { seen := false, gaps := [] } } } : State).wri PIN_FAN_rpm k
    0).wri PIN_FAN_stalled k 0

/-- The bytes of PIN_I2C_BUF. -/
def State.i2cBuf (s : State) : List Byte := leBytes 4 (s.rd PIN_I2C_BUF_LO_buf) ++ leBytes 4 (s.rd PIN_I2C_BUF_HI_buf)

/-- The RW fields of a PIN register written, and what the unit does with them. DESIGN CHOICE (log entry 167): a write of PIN_TMR_CTRL
starts the prescaler afresh. -/
def State.pinWrite (s : State) (off : Nat) (w : RegWord) : State :=
  let t := s.wrRW off w
  if 0x6100 ≤ off ∧ off < 0x6160 then
    if t.rawReg off = s.rawReg off then t else s.switchPads t [(off - 0x6100) / 4]
  else if off = 0x6200 ∨ off = 0x6220 then
    let u := (off - 0x6200) / 32
    if t.rdi PIN_Uu_CFG_en u = 0 then t.uartOff u else t.uartPump u
  else if off = 0x6284 then
    if w.getLsbD 31 ∧ t.rd PIN_I2C_CFG_en = 1 then
      t.i2cStart { mb := none, addr := t.rd PIN_I2C_XFER_addr, wr := t.i2cBuf.take (t.rd PIN_I2C_XFER_wr_len)
                   rd := t.rd PIN_I2C_XFER_rd_len }
    else t
  else if 0x6300 ≤ off ∧ off < 0x6320 then
    let k := (off - 0x6300) / 8
    if t.rdi PIN_PWM_PER_en k = 1 ∧ s.rdi PIN_PWM_PER_en k = 0 then
      t.setPwm k { period := t.rdi PIN_PWM_PER_period_m1 k, duty := t.rdi PIN_PWM_DUTY_duty k, killed := false }
    else t
  else if off = 0x63C4 then
    let t1 := if t.rd PIN_FAN_CFG_en0 ≠ s.rd PIN_FAN_CFG_en0 then t.fanClear 0 else t
    if t1.rd PIN_FAN_CFG_en1 ≠ s.rd PIN_FAN_CFG_en1 then t1.fanClear 1 else t1
  else if off = 0x6340 then { t with pins := { t.pins with tclk := 0 } }
  else if off = 0x6400 then
    if t.rd PIN_SMB_CFG_en = 0 then { t with pins := { t.pins with smbAlert := false } } else t
  else t

/-- A host write of a PIN register that the host owns: refused by R731, else its effect. -/
def State.pinHostWrite (s : State) (off : Nat) (w : RegWord) : State :=
  if s.pinRefused off w then s.badWrite else s.pinWrite off w

/-! ### Commands -/

/-- The 8-byte entries of PIN.PAD_CONFIG: pad and value. -/
def padEntries (c : Cmd) : List (Nat × RegWord) :=
  (List.range (c.u8 0)).map (fun i => (c.u8 (4 + 8 * i), BitVec.ofNat 32 (c.u32 (8 + 8 * i))))

/-- The checks of PIN.PAD_CONFIG entry `i`. -/
def padEntryChecks (c : Cmd) (i : Nat) : List (Option Nat) :=
  let p := c.u8 (4 + 8 * i)
  let w := BitVec.ofNat 32 (c.u32 (8 + 8 * i))
  [need (p ≤ 23 && !(List.range i).any (fun j => c.u8 (4 + 8 * j) == p)) (4 + 8 * i), c.notZero (5 + 8 * i) 3,
   need (pinRangeOk (0x6100 + 4 * p) w && !reservedSet (0x6100 + 4 * p) w) (8 + 8 * i)]

/-- PIN.PAD_CONFIG (0x0E01, R709): all named pads switch on one edge. -/
def execPinPadConfig (m : Mb) (s : State) : Out :=
  runCmd m 0x0E01 s (fun c s =>
    checked m ([need (1 ≤ c.u8 0 && c.u8 0 ≤ 24) 0, c.notZero 1 3] ++
        (List.range (min 24 (c.u8 0))).flatMap (padEntryChecks c)) s (fun s =>
      let es := padEntries c
      let t := es.foldl (fun s e => s.wrRW (0x6100 + 4 * e.1) e.2) s
      let ns := (es.map (·.1)).filter (fun n => t.rawReg (0x6100 + 4 * n) != s.rawReg (0x6100 + 4 * n))
      (s.switchPads t ns).okResp m []))

/-- What the module drives at fixed-function pad `k`, in the order of PIN_FIXED: low at an asserted open-drain output, the level of an
eject output, and nothing at an input or a released output (R711). -/
def State.fixedDrive (s : State) (k : Nat) : Option Bool :=
  let low (b : Bool) : Option Bool := if b then some false else none
  match k with
  | 5 => low s.host.wakeN
  | 6 => low (s.padsLive && s.host.cfg.clockPm && !s.host.inL1)
  | 7 => low s.alertN
  | 8 => low (s.rd THM_STATUS_throttle_active == 1)
  | 9 => low s.pins.smbAlert
  | 10 => if s.padsLive then some (s.slots.getD 0 SlotPort.empty).pulse.isSome else none
  | 11 => if s.padsLive then some (s.slots.getD 1 SlotPort.empty).pulse.isSome else none
  | _ => none

/-- The level at fixed-function pad `k` (R711). A released output reads the board's pull-up (log entry 86). The levels at
SLOT_DET_x before the module recognises a change, and those of the SMBus lines, are brought by no row of the table, and a pad that the
boundary register has cut from its land floats: free values (log entry 86). -/
def State.fixedLevel (s : State) (k : Nat) : Bool :=
  match s.fixedDrive k with
  | some b => b
  | none =>
    if s.scanOwns || (1 ≤ k && k ≤ 4) then (Config.fixedLevel s.free).getLsbD k
    else if k = 0 then s.host.perstHigh else true

/-- PIN_FIXED: the levels at the fixed-function pads (R711). -/
def State.padFixed (s : State) : Nat := bitsNat ((List.range 12).map s.fixedLevel)

/-- PIN.QUERY (0x0E02). -/
def execPinQuery (m : Mb) (s : State) : Out :=
  runCmd m 0x0E02 s (fun _ s =>
    (s.okResp m (leBytes 4 s.padIn ++ leBytes 4 s.padFilt ++ leBytes 4 (s.rd PIN_OUT_out) ++
      leBytes 4 (s.rd PIN_IRQ_STATUS_irq) ++ leBytes 4 (s.rd PIN_CONFLICT_LO_conflict) ++
      leBytes 4 (s.rd PIN_CONFLICT_HI_conflict) ++ leBytes 4 s.padFixed ++ leBytes 4 (s.rawReg 0x6000))).nextFree)

/-- PIN_OUT after a set, a clear and a toggle mask acted together. -/
def gpioOut (v set clr tgl : Nat) : Nat := ((v ||| set) &&& (2 ^ 24 - 1 - clr % 2 ^ 24)) ^^^ (tgl % 2 ^ 24)

/-- PIN.GPIO_WRITE (0x0E03, R732). -/
def execPinGpioWrite (m : Mb) (s : State) : Out :=
  runCmd m 0x0E03 s (fun c s =>
    let st := c.u32 0
    let cl := c.u32 4
    let tg := c.u32 8
    checked m [need (st < 2 ^ 24) 0, need (cl < 2 ^ 24 && st &&& cl == 0) 4,
               need (tg < 2 ^ 24 && tg &&& (st ||| cl) == 0) 8] s (fun s =>
      let v := gpioOut (s.rd PIN_OUT_out) st cl tg
      (s.wr PIN_OUT_out v).okResp m (leBytes 4 v)))

/-- PIN.IRQ_CONFIG (0x0E04, R710). -/
def execPinIrqConfig (m : Mb) (s : State) : Out :=
  runCmd m 0x0E04 s (fun c s =>
    checked m [need (c.u32 4 < 2 ^ 16) 4] s (fun s =>
      ((s.wr PIN_IRQ_CFG_LO_irq (c.u32 0)).wr PIN_IRQ_CFG_HI_irq (c.u32 4)).okResp m []))

/-- The check of wake entry `k` in PIN.WAKE_CONFIG: its encodings, and no pad named by two enabled entries (R713). -/
def wakeEntryCheck (c : Cmd) (k : Nat) : Option Nat :=
  let w (j : Nat) : RegWord := BitVec.ofNat 32 (c.u32 (4 * j))
  let clash := fieldOf (w k) PIN_WAKE_en == 1 && (List.range k).any (fun j =>
    fieldOf (w j) PIN_WAKE_en == 1 && fieldOf (w j) PIN_WAKE_pad == fieldOf (w k) PIN_WAKE_pad)
  need (pinRangeOk (0x6060 + 4 * k) (w k) && !reservedSet (0x6060 + 4 * k) (w k) && !clash) (4 * k)

/-- PIN.WAKE_CONFIG (0x0E05, R713). -/
def execPinWakeConfig (m : Mb) (s : State) : Out :=
  runCmd m 0x0E05 s (fun c s =>
    checked m ((List.range 8).map (wakeEntryCheck c)) s (fun s =>
      ((List.range 8).foldl (fun s k => s.wrRW (0x6060 + 4 * k) (BitVec.ofNat 32 (c.u32 (4 * k)))) s).okResp m []))

/-- PIN.SMB_CONFIG (0x0E06, R725). -/
def execPinSmbConfig (m : Mb) (s : State) : Out :=
  runCmd m 0x0E06 s (fun c s =>
    checked m [need (0x08 ≤ c.u8 0 && c.u8 0 ≤ 0x77 && c.u8 0 != 0x0C) 0, need (c.u8 1 < 4) 1, c.notZero 3 1] s (fun s =>
      (s.pinWrite 0x6400 (BitVec.ofNat 32 (c.u8 0 + 256 * c.u8 1 + 65536 * c.u8 2))).okResp m []))

/-- The registers with RW fields of a unit of PIN.PERIPH_SET, ascending. -/
def unitRegs (unit : Nat) : Option (List Nat) :=
  match unit with
  | 0x01 => some [0x6200, 0x6204]
  | 0x02 => some [0x6220, 0x6224]
  | 0x03 => some [0x6280, 0x6284, 0x6288, 0x628C]
  | 0x10 => some [0x6300, 0x6304]
  | 0x11 => some [0x6308, 0x630C]
  | 0x12 => some [0x6310, 0x6314]
  | 0x13 => some [0x6318, 0x631C]
  | 0x20 => some ([0x6340] ++ (List.range 8).map (fun i => 0x6380 + 4 * i) ++ (List.range 8).map (fun i => 0x63A0 + 4 * i))
  | 0x30 => some [0x63C0]
  | 0x31 => some [0x63C4]
  | 0x32 => some [0x63D0]
  | 0x33 => some ((List.range 8).map (fun i => 0x63E0 + 4 * i))
  | 0x34 => some [0x63D8]
  | _ => none

/-- The bits of a register that RW fields occupy. -/
def rwMask (off : Nat) : Nat :=
  (regFields off).foldl (fun n fi => if fi.1.acc = .rw then n ||| ((2 ^ fi.1.width - 1) * 2 ^ fi.1.lo) else n) 0

/-- PIN.PERIPH_SET (0x0E07): the unit's RW registers from byte 4 in ascending order. -/
def execPinPeriphSet (m : Mb) (s : State) : Out :=
  runCmd m 0x0E07 s (fun c s =>
    let regs := ((unitRegs (c.u8 0)).getD []).zipIdx
    let word (i : Nat) : RegWord := BitVec.ofNat 32 (c.u32 (4 + 4 * i))
    checked m ([need (unitRegs (c.u8 0)).isSome 0, c.notZero 1 3] ++ regs.map (fun r =>
        need (pinRangeOk r.1 (word r.2) && (word r.2).toNat &&& (2 ^ 32 - 1 - rwMask r.1) == 0) (4 + 4 * r.2))) s (fun s =>
      (regs.foldl (fun s r => s.pinWrite r.1 (word r.2)) s).okResp m []))

/-- PIN.UART_XFER (0x0E08, R732). -/
def execPinUartXfer (m : Mb) (s : State) : Out :=
  runCmd m 0x0E08 s (fun c s =>
    let n := c.u16 2
    checked m [need (c.u8 0 == 1 || c.u8 0 == 2) 0, need (c.u8 1 ≤ 1) 1, need (n ≤ 232) 2, c.notZero 4 4] s (fun s =>
      let u := c.u8 0 - 1
      if s.rdi PIN_Uu_CFG_en u = 0 then s.fail m stWrongState
      else
        let taken := min n (64 - (s.uart u).tx.length)
        let s1 := s.uartPush u ((c.bytes 8 n).take taken) false
        let x := s1.uart u
        if c.u8 1 = 1 ∧ (x.cur.isSome ∨ !x.tx.isEmpty) then
          (s1.setUart u { x with waits := x.waits ++ [(m, taken)] }).wait m
        else s1.uartReply m u taken))

/-- PIN.I2C_XFER (0x0E09, R718, R732): it completes with the transfer's outcome, and waits for one that runs. -/
def execPinI2cXfer (m : Mb) (s : State) : Out :=
  runCmd m 0x0E09 s (fun c s =>
    checked m [need (c.u8 0 < 128) 0, need (c.u8 1 ≤ 64) 1, need (c.u8 2 ≤ 64) 2, c.notZero 3 1] s (fun s =>
      if s.rd PIN_I2C_CFG_en = 0 then s.fail m stWrongState
      else
        let r : I2cRun := { mb := some m, addr := c.u8 0, wr := c.bytes 4 (c.u8 1), rd := c.u8 2 }
        if s.pins.i2c.isSome then ({ s with pins := { s.pins with i2cNext := s.pins.i2cNext ++ [r] } } : State).wait m
        else (s.i2cStart r).wait m))

/-! ### Register operations -/

/-- PIN_SET: sets the named bits of PIN_OUT (R705). -/
def execPinSet (w : RegWord) (s : State) : Out :=
  ok (s.regOp 0x601C w (fun s => s.wr PIN_OUT_out (gpioOut (s.rd PIN_OUT_out) (w.toNat % 2 ^ 24) 0 0)))

/-- PIN_CLR: clears the named bits of PIN_OUT (R705). -/
def execPinClr (w : RegWord) (s : State) : Out :=
  ok (s.regOp 0x6020 w (fun s => s.wr PIN_OUT_out (gpioOut (s.rd PIN_OUT_out) 0 (w.toNat % 2 ^ 24) 0)))

/-- PIN_TGL: inverts the named bits of PIN_OUT (R705). -/
def execPinTgl (w : RegWord) (s : State) : Out :=
  ok (s.regOp 0x6024 w (fun s => s.wr PIN_OUT_out (gpioOut (s.rd PIN_OUT_out) 0 0 (w.toNat % 2 ^ 24))))

/-- PAD_CFG_WRITE: PIN_PAD_CFG_n (R697, R707, R731). -/
def execPadCfgWrite (n : Fin 24) (w : RegWord) (s : State) : Out :=
  ok (s.regOp (0x6100 + 4 * n.val) w (fun s => s.pinHostWrite (0x6100 + 4 * n.val) w))

/-- UART_TX_PUSH: a byte pushed into the transmit FIFO (R717). -/
def execUartTxPush (u : Fin 2) (w : RegWord) (s : State) : Out :=
  ok (s.regOp (0x6210 + 0x20 * u.val) w (fun s => s.uartPush u.val [w.setWidth 8] true))

/-- I2C_GO: PIN_I2C_XFER with go (R718, R731). -/
def execI2cGo (w : RegWord) (s : State) : Out :=
  ok (s.regOp 0x6284 (w ||| 0x80000000) (fun s => s.pinHostWrite 0x6284 (w ||| 0x80000000)))

/-! ### Pad events -/

/-- A board level at pad `n` is one that the pad can show: what it drives, if it drives a level; a disconnected pad keeps
its floating level (R773). -/
def State.padCanShow (s : State) (n : Nat) (l : Bool) : Bool :=
  match s.padDrive n with
  | some (.level b) => b == l
  | some .wave => true
  | none => !s.scanOwns || padBit s.pins.ext n == l

/-- A pad whose filter output is now `l`; without a debounce time the level passes on (R702). -/
def State.filterShows (s : State) (n : Nat) (l : Bool) : State :=
  let ext := if (s.padDrive n).isSome then s.pins.ext else padSet s.pins.ext n l
  let deb := if s.rdi PIN_PAD_CFG_debounce_ms n = 0 then padSet s.pins.deb n l else s.pins.deb
  { s with pins := { s.pins with ext := ext, filt := padSet s.pins.filt n l, deb := deb } }

/-- A pad whose debounce passes its filter output on (R702). -/
def State.debounceShows (s : State) (n : Nat) : State :=
  { s with pins := { s.pins with deb := padSet s.pins.deb n (padBit s.pins.filt n) } }

/-- GLITCH_FILTER_PASS: pad `n` has shown level `l` for glitch MON clocks (R701). In STANDBY, where no glitch filter applies, it is
the sample of a wake pad that first shows the level (R714; log entry 168). -/
def execGlitchFilterPass (n : Fin 24) (l : Bool) (s : State) : Out :=
  if s.padsLive && s.padCanShow n.val l then ok (s.padEdge (s.filterShows n.val l) n.val)
  else if s.wakeSampled n.val then ok (s.filterShows n.val l)
  else ok s

/-- DEBOUNCE_EXPIRY: the filter output of pad `n` has held for debounce_ms (R702); a wake pad's debounce runs on in STANDBY
(R714). -/
def execDebounceExpiry (n : Fin 24) (s : State) : Out :=
  if s.padsLive then ok (s.padEdge (s.debounceShows n.val) n.val)
  else if s.wakeSampled n.val then ok (s.debounceShows n.val)
  else ok s

/-! ### UART events -/

/-- One of a UART's error counters advanced, with uart_err. -/
def State.uartErr (s : State) (f : Fld) (u : Nat) : State := (s.addi f u 1).raise PIN_EVENT_uart_err

/-- UART_FRAME_RECEIVED (R716, R717). A frame can arrive only while exactly one pad carries U_RXD. -/
def execUartFrameReceived (u : Fin 2) (b : Byte) (framing parity brk : Bool) (s : State) : Out :=
  let i := u.val
  if s.padsLive && !s.scanOwns && s.rdi PIN_Uu_CFG_en i == 1 && s.carried (1 + 5 * i) then
    if brk then ok ((s.wri PIN_Uu_STATUS_break_seen i 1).raise PIN_EVENT_uart_err)
    else
      let x := s.uart i
      if 64 ≤ x.rx.length then ok (s.uartErr PIN_Uu_ERR_overrun i)
      else
        let d := if s.rdi PIN_Uu_CFG_bits7 i = 1 then b &&& 0x7F else b
        let s1 := (s.setUart i { x with rx := x.rx ++ [d] }).raise (if i = 0 then PIN_EVENT_u1_rx else PIN_EVENT_u2_rx)
        let s2 := if framing then s1.uartErr PIN_Uu_ERR_framing i else s1
        ok (if parity && s2.rdi PIN_Uu_CFG_parity i != 0 then s2.uartErr PIN_Uu_ERR_parity i else s2)
  else ok s

/-- UART_FRAME_SENT (R717): the next frame starts when it may; when nothing is left, the commands that waited complete,
and U_DE falls after de_tail bit times, at once when there are none. -/
def execUartFrameSent (u : Fin 2) (s : State) : Out :=
  let i := u.val
  if (s.uart i).cur.isSome then
    let s1 := (s.setUart i { s.uart i with cur := none }).uartPump i
    if (s1.uart i).cur.isNone && (s1.uart i).tx.isEmpty then
      let s2 := if s1.rdi PIN_Uu_CFG_de_tail i = 0 then s1.setUart i { s1.uart i with de := false } else s1
      ok (s2.uartDone i)
    else ok s1
  else ok s

/-- UART_DE_TAIL_END (R717): nothing has been sent since the last stop bit. -/
def execUartDeTailEnd (u : Fin 2) (s : State) : Out :=
  let x := s.uart u.val
  if x.de && x.cur.isNone && x.tx.isEmpty then ok (s.setUart u.val { x with de := false }) else ok s

/-! ### I2C -/

/-- What a transfer can have done when it ends with an outcome (R718): reading begins once all is written; everything for OK;
nothing read, and no part under way, at an address that is not acknowledged; nothing read when a written byte is not acknowledged. A
device takes part only over both lines, each on one pad and on its land; a line that no pad carries reads 1 (R694), so that
arbitration is lost, and SDA stays low, only on a carried line, as SCL is stretched. -/
def State.i2cCan (s : State) (r : I2cRun) (outcome written : Nat) (data : List Byte) : Bool :=
  let linked : Bool := s.carried 10 && s.carried 11 && !s.scanOwns
  let full : Bool := written == r.wr.length
  written ≤ r.wr.length && data.length ≤ r.rd && (data.isEmpty || full) && (linked || (written == 0 && data.isEmpty)) &&
    (match outcome with
     | 0 => linked && full && data.length == r.rd
     | 1 => data.isEmpty && (written == 0 || (full && r.rd != 0))
     | 2 => linked && data.isEmpty && !r.wr.isEmpty
     | 4 => s.carried 10
     | _ => s.carried 11)

/-- What the controller did on the bus in a transfer that ended so (R718): START, the address and the bytes written, a repeated START
and the address before the bytes read when both parts are there, and STOP; after a stretch timeout or a bus that stays low, nine clocks
and STOP; nothing more once arbitration is lost. DESIGN CHOICE (log entry 82): a transfer of no bytes sends the address to write. -/
def i2cActs (r : I2cRun) (outcome written : Nat) (data : List Byte) : List I2cAct :=
  let reads : Bool := r.rd != 0 && written == r.wr.length && (outcome ≤ 1 || !data.isEmpty || r.wr.isEmpty)
  let wr := if r.wr.isEmpty && r.rd != 0 then [] else [.start, .address r.addr false] ++ (r.wr.take written).map .write
  let rd := if reads then [if wr.isEmpty then .start else .restart, .address r.addr true] ++ data.map .read else []
  wr ++ rd ++ (match outcome with
    | 3 => []
    | 4 | 5 => [.clocks 9, .stop]
    | _ => [.stop])

/-- The next transfer that waits begins; one whose unit has been disabled meanwhile fails (R732). -/
def State.i2cResume (s : State) : List I2cRun → State
  | [] => { s with pins := { s.pins with i2cNext := [] } }
  | r :: rs =>
    if s.rd PIN_I2C_CFG_en = 1 then ({ s with pins := { s.pins with i2cNext := rs } } : State).i2cStart r
    else (match r.mb with | some m => s.fail m stWrongState | none => s).i2cResume rs

/-- I2C_TRANSFER_END (R718): the outcome goes to the command that asked for the transfer, or to the buffer registers, and the next
transfer that waits begins (R732). -/
def execI2cTransferEnd (outcome : Fin 6) (written : Nat) (data : List Byte) (s : State) : Out :=
  match s.pins.i2c with
  | none => ok s
  | some r =>
    if !s.i2cCan r outcome.val written data then ok s
    else
      let s1 := ({ s with pins := { s.pins with i2c := none, i2cBus := i2cActs r outcome.val written data } } : State)
      let s2 := (((s1.wr PIN_I2C_STATUS_busy 0).wr PIN_STATUS_i2c_busy 0).wr PIN_I2C_STATUS_outcome outcome.val).wr
        PIN_I2C_STATUS_count (written + data.length)
      let s3 := match r.mb with
        | some m => s2.okResp m (leBytes 1 outcome.val ++ leBytes 1 written ++ leBytes 1 data.length ++ [0] ++ data)
        | none =>
          let buf := data.take 8 ++ s2.i2cBuf.drop (min 8 data.length)
          (s2.wr PIN_I2C_BUF_LO_buf (leNat (buf.take 4))).wr PIN_I2C_BUF_HI_buf (leNat (buf.drop 4))
      ok ((s3.raise PIN_EVENT_i2c_done).i2cResume s.pins.i2cNext)

/-! ### PWM, timer, fans and user interrupts -/

/-- PWM_PERIOD_BOUNDARY (R719): period and duty apply; a killed output resumes once PWM_KILL_N reads 1 or no longer
counts. -/
def execPwmPeriodBoundary (k : Fin 4) (s : State) : Out :=
  if s.rdi PIN_PWM_PER_en k.val = 1 then
    let held := (s.pwm k.val).killed && s.rdi PIN_PWM_PER_kill_en k.val == 1 && !s.sigIn 17
    ok (s.setPwm k.val { period := s.rdi PIN_PWM_PER_period_m1 k.val, duty := s.rdi PIN_PWM_DUTY_duty k.val, killed := held })
  else ok s

/-- PWM_KILL (R719): PWM_KILL_N reads 0, and the outputs whose kill_en is set become inactive. -/
def execPwmKill (s : State) : Out :=
  let hit (k : Nat) : Bool := s.rdi PIN_PWM_PER_en k == 1 && s.rdi PIN_PWM_PER_kill_en k == 1 && !(s.pwm k).killed
  if !s.sigIn 17 && (List.range 4).any hit then
    ok (((List.range 4).foldl (fun t k => if hit k then t.setPwm k { t.pwm k with killed := true } else t) s).raise
      PIN_EVENT_pwm_kill)
  else ok s

/-- TCMP outputs after a count `v` (R720). -/
def State.tcmpNext (s : State) (v : Nat) : Nat :=
  (List.range 8).foldl (fun n i =>
    if s.rdi PIN_TCMP_cmp i = v then
      match s.rdi PIN_TCFG_cmp_action i with
      | 1 => n ||| 2 ^ i
      | 2 => n &&& (255 - 2 ^ i)
      | 3 => n ^^^ 2 ^ i
      | _ => n
    else n) s.pins.tcmp

/-- The timer's next count is due: with TCLK, prescale + 1 rising edges of it have come (R720); how many MON clocks have passed no row of
the table tells (log entry 167). -/
def State.timerDue (s : State) : Bool :=
  s.padsLive && s.rd PIN_TMR_CTRL_en == 1 && (s.rd PIN_TMR_CTRL_clk_sel == 0 || s.rd PIN_TMR_CTRL_prescale < s.pins.tclk)

/-- TIMER_COUNT (R720): the enabled counter counts, and the compare channels that are not off act on a match. -/
def execTimerCount (s : State) : Out :=
  if s.timerDue then
    let v := (s.rd PIN_TMR_COUNT_count + 1) % 2 ^ 32
    let left := s.pins.tclk - (if s.rd PIN_TMR_CTRL_clk_sel = 1 then s.rd PIN_TMR_CTRL_prescale + 1 else 0)
    let s1 := (({ s with pins := { s.pins with tcmp := s.tcmpNext v, tclk := left } } : State).wr PIN_TMR_COUNT_count v)
    if (List.range 8).any (fun i => s.rdi PIN_TCMP_cmp i == v && s.rdi PIN_TCFG_cmp_action i != 0) then
      ok (s1.raise PIN_EVENT_tcmp)
    else ok s1
  else ok s

/-- An edge of an input signal that a 2-bit selection watches: the signal stands at its new level (R710). -/
def State.edgeOn (s : State) (g sel : Nat) (rising : Bool) : Bool :=
  s.carried g && s.sigIn g == rising && bitOf sel (if rising then 0 else 1)

/-- TIMER_CAPTURE (R720). -/
def execTimerCapture (i : Fin 8) (rising : Bool) (s : State) : Out :=
  if s.edgeOn (18 + i.val) (s.rdi PIN_TCFG_cap_edge i.val) rising then
    ok ((s.wri PIN_TCAP_cap i.val (s.rd PIN_TMR_COUNT_count)).raise PIN_EVENT_tcap)
  else ok s

/-- Fan `k` is enabled. -/
def State.fanOn (s : State) (k : Nat) : Bool :=
  (if k = 0 then s.rd PIN_FAN_CFG_en0 else s.rd PIN_FAN_CFG_en1) == 1

/-- Pulses per revolution of fan `k`. -/
def State.fanPpr (s : State) (k : Nat) : Nat :=
  (if k = 0 then s.rd PIN_FAN_CFG_ppr0 else s.rd PIN_FAN_CFG_ppr1) + 1

/-- The speed that eight intervals tell (R722). -/
def fanRpm (ppr : Nat) (gaps : List Nat) : Nat := min 65535 (1500000000 * 8 / (ppr * gaps.sum))

/-- FAN_TACH_EDGE: a falling edge, `gap` MON clocks after the one before, if there was one (R722). An interval above 1 s
is a stall, not an interval. -/
def execFanTachEdge (k : Fin 2) (gap : Nat) (s : State) : Out :=
  let f := s.fan k.val
  if s.padsLive && !s.scanOwns && s.fanOn k.val && s.carried (37 + k.val) && !s.sigIn (37 + k.val) && (!f.seen || (0 < gap && gap ≤ 25000000)) then
    let gaps := if f.seen then (f.gaps ++ [gap]).drop ((f.gaps.length + 1) - 8) else []
    let s1 := ({ s with pins := { s.pins with fans := listSet s.pins.fans k.val { seen := true, gaps := gaps } } } : State)
    if gaps.length = 8 then ok ((s1.wri PIN_FAN_rpm k.val (fanRpm (s.fanPpr k.val) gaps)).wri PIN_FAN_stalled k.val 0)
    else ok s1
  else ok s

/-- FAN_STALL: no falling edge for 1 s (R722). A fan that has stalled and shown no edge since is stalled already. -/
def execFanStall (k : Fin 2) (s : State) : Out :=
  if s.fanOn k.val && ((s.fan k.val).seen || s.rdi PIN_FAN_stalled k.val == 0) then
    ok (((s.fanClear k.val).wri PIN_FAN_stalled k.val 1).raise PIN_EVENT_fan_stall)
  else ok s

/-- UIN_EDGE (R723). -/
def execUinEdge (i : Fin 8) (rising : Bool) (s : State) : Out :=
  if s.edgeOn (39 + i.val) (bitsOf (s.rd PIN_UIN_CFG_uin_edge) (2 * i.val) 2) rising then
    ok ((s.setBit PIN_UIN_STATUS_uin 0 i.val true).raise PIN_EVENT_uin)
  else ok s

end Sys2Proof.Machine
end

