-- ==== Sys2Proof/Machine/Lands.lean ====
section
/-! DEFINITION. The covered lands in grid order, what the module drives at each of them, the boundary register, and the TAP (R736 to
R742, R770 to R773). -/

namespace Sys2Proof.Machine
open Reg

/-! ### The land map (R736 to R739) -/

/-- A land of an ONFI channel. -/
inductive OnfiLand where
  | dq (i : Nat)
  | dqs (neg : Bool)
  | re (neg : Bool)
  | weN | ale | cle | wpN
  | ceN (i : Nat)
  | rbN
  deriving DecidableEq, Repr

/-- A covered land: a line of the chain in or out, 16 for the flag; a strobe; a land of channel `ch` of port `p`; a tag, detect or
eject land of a port; a GP pad; or a fixed-function pad by its bit of PIN_FIXED. -/
inductive Land where
  | chain (out : Bool) (line : Nat)
  | strobe (out neg : Bool)
  | onfi (p ch : Nat) (l : OnfiLand)
  | tagClk (p : Nat)
  | tagDat (p : Nat)
  | det (p : Nat)
  | eject (p : Nat)
  | gp (n : Nat)
  | fixed (k : Nat)
  deriving DecidableEq, Repr

/-- The covered lands of rows A to C (R736). -/
def topLands : List Land :=
  let half (r : Nat) (out : Bool) : List Land := (List.range 8).map (fun i => .chain out (8 * r + i))
  half 0 false ++ half 0 true ++ half 1 false ++ half 1 true ++
    [.chain false 16, .strobe false false, .strobe false true, .chain true 16, .strobe true false, .strobe true true]

/-- Row `r` of an ONFI channel, of the six that R737 gives each. -/
def onfiRow (r : Nat) : List OnfiLand :=
  match r with
  | 0 => (List.range 4).map .dq
  | 1 => (List.range 4).map (fun i => .dq (4 + i))
  | 2 => [.dqs false, .dqs true, .re false, .re true]
  | 3 => [.weN, .ale, .cle, .wpN]
  | 4 => (List.range 4).map .ceN
  | _ => [.rbN]

/-- The covered lands of port `p` in row `r` of the rows D to U, in the order of the columns of port A (R737). -/
def portRow (p r : Nat) : List Land :=
  if r < 6 then (onfiRow r).map (.onfi p 0)
  else if r < 11 then (onfiRow (r - 6)).map (.onfi p 1)
  else if r = 11 then [.onfi p 1 .rbN, .tagClk p, .tagDat p]
  else [.det p, .eject p]

/-- The covered lands of the inner region in row `r` of the rows D to U (R739). -/
def innerRow (r : Nat) : List Land :=
  match r with
  | 0 => (List.range 9).map .gp
  | 1 => (List.range 9).map (fun i => .gp (9 + i))
  | 2 => (List.range 6).map (fun i => .gp (18 + i))
  | 12 => [0, 6, 5, 7, 8, 3, 4, 9].map .fixed
  | _ => []

/-- The covered lands in grid order, rows A to Y and columns ascending; port B mirrors port A (R738, R772). -/
def landGrid : List Land :=
  topLands ++ (List.range 13).flatMap (fun r => portRow 0 r ++ innerRow r ++ (portRow 1 r).reverse)

/-- The output and enable cells of an input-only land have no effect (R741, R772). -/
def Land.inputOnly : Land → Bool
  | .strobe out _ => !out
  | .onfi _ _ .rbN => true
  | .det _ => true
  | .fixed k => k == 0
  | _ => false

/-- An open-drain land: an output cell holding 1 releases it (R741, R772). -/
def Land.openDrain : Land → Bool
  | .tagDat _ => true
  | .fixed k => k != 0
  | _ => false

/-! ### What the functions drive (R741, R742) -/

/-- What is driven at a land: nothing, a level, or, by a function whose every edge the model does not follow, a level or nothing as it
goes. -/
inductive LandOut where
  | released
  | level (b : Bool)
  | moving
  deriving DecidableEq, Repr

/-- The ONFI lands of port `p` have left high impedance: VCCQ is good, and a mount has come to its step 4 (R741, R764). With the slot's
power, which a removal switches off, they are released (R490). -/
def State.onfiOn (s : State) (p : Nat) : Bool :=
  s.padsLive && s.rdi SLOT_STATUS_vccq_on p == 1 && (s.slots.getD p SlotPort.empty).vccqGood && (match (s.slots.getD p SlotPort.empty).mount with
    | some r => decide (4 ≤ r.step)
    | none => true)

/-- The operation at a die of a channel that satisfies a predicate: each die runs its oldest one (R482). -/
def SlotPort.runsOn (x : SlotPort) (ch : Nat) (q : DieOp → Bool) : Bool :=
  x.ops.zipIdx.any (fun e => e.1.die % 2 == ch && x.isIssued e.2 && q e.1)

/-- What an ONFI land is driven to (R741, R742): write protect is low in a mounted slot but while a program or an erase is issued on the
channel, and a chip enable is high but while its die is addressed; an operation issues its cycles at instants that the model does not
follow. -/
def State.onfiOut (s : State) (p ch : Nat) (l : OnfiLand) : LandOut :=
  let x := s.slots.getD p SlotPort.empty
  if !s.onfiOn p then .released
  else match l with
    | .rbN => .released
    | .wpN =>
      if !s.slotMounted p || x.runsOn ch (fun o => match o.kind with
          | .program _ | .erase => true
          | _ => false) then .moving
      else .level false
    | .ceN i => if x.runsOn ch (fun o => o.die == ch + 2 * i) then .moving else .level true
    | _ => .moving

/-- The chain drivers of a direction are on: the link is driven, and the member is in its drive plies; the head never drives CHAIN_IN
(R431, R741). -/
def State.chainOn (s : State) (out : Bool) : Bool :=
  s.padsLive && s.rd CHN_LINK_OUT_driving == 1 && s.windowPos ≤ 3 && (out || !s.isHead)

/-- What the functions of the module drive at a land, in its present power state (R741). -/
def State.landOut (s : State) (l : Land) : LandOut :=
  let of (o : Option Bool) : LandOut := match o with
    | some b => .level b
    | none => .released
  match l with
  | .chain out _ => if s.chainOn out then .moving else .released
  | .strobe out _ => if out && s.padsLive && s.rd CHN_LINK_OUT_driving == 1 then .moving else .released
  | .onfi p ch l => s.onfiOut p ch l
  | .tagClk p => if s.padsLive && s.rdi TAG_STATUS_enabled p == 1 then .moving else .released
  | .tagDat p => if s.padsLive && s.rdi TAG_STATUS_enabled p == 1 && s.rdi TAG_STATUS_busy p == 1 then .moving else .released
  | .det _ => .released
  | .eject p => of (s.fixedDrive (10 + p))
  | .gp n => match s.padDrive n with
    | some (.level b) => .level b
    | some .wave => .moving
    | none => .released
  | .fixed k => of (s.fixedDrive k)

/-! ### The boundary register (R772, R773) -/

/-- Cell `k` of a boundary value. -/
def cell (v : BitVec 486) (k : Nat) : Bool := v.getLsbD k

/-- One cell of a boundary value replaced. -/
def cellSet (v : BitVec 486) (k : Nat) (b : Bool) : BitVec 486 :=
  if b then v ||| BitVec.ofNat 486 (2 ^ k) else v &&& ~~~ BitVec.ofNat 486 (2 ^ k)

/-- What the boundary register drives at land `i` of the grid: the output cell where the enable cell holds 1, but nothing for 1 at an
open-drain land, nothing at an input-only land, and nothing in HIGHZ (R770, R772). -/
def State.scanOut (s : State) (i : Nat) (l : Land) : LandOut :=
  let b := cell s.pins.boundary (3 * i + 1)
  if s.pins.tap = .highz ∨ l.inputOnly = true ∨ cell s.pins.boundary (3 * i + 2) = false then .released
  else if l.openDrain && b then .released else .level b

/-- What is driven at land `i` of the grid: by the boundary register while it owns the lands, else by the functions (R773). -/
def State.landDriver (s : State) (i : Nat) (l : Land) : LandOut := if s.scanOwns then s.scanOut i l else s.landOut l

/-- The level at land `i` of the grid: what is driven, else, at a land that a function reads, what it reads, and else a free level
(log entry 16). -/
def State.landLevel (s : State) (i : Nat) (l : Land) : Bool :=
  match s.landDriver i l with
  | .level b => b
  | _ =>
    if s.scanOwns then cell (Config.boundaryCells s.free) (3 * i)
    else match l with
      | .gp n => s.padLevel n
      | .fixed k => s.fixedLevel k
      | .det p => s.fixedLevel (1 + p)
      | _ => cell (Config.boundaryCells s.free) (3 * i)

/-- What the boundary register captures: at each land the level, the driven level, and whether it is driven, the output cell of a
released open-drain land holding 1; the cells of what no rule tells are free (R772, log entry 16). -/
def State.scanCapture (s : State) : BitVec 486 :=
  landGrid.zipIdx.foldl (fun v e =>
    let k := 3 * e.2
    let v1 := cellSet v k (s.landLevel e.2 e.1)
    if s.scanOwns then v1
    else match s.landOut e.1 with
      | .level b => cellSet (cellSet v1 (k + 1) b) (k + 2) true
      | .released => if e.1.openDrain then cellSet v1 (k + 1) true else cellSet v1 (k + 2) false
      | .moving => v1) (Config.boundaryCells s.free)

/-! ### The TAP (R770, R771) -/

/-- The code of an instruction. -/
def TapInstr.code : TapInstr → BitVec 5
  | .extest => 0b00000
  | .idcode => 0b00001
  | .samplePreload => 0b00010
  | .clamp => 0b00011
  | .highz => 0b00100
  | .bypass => 0b11111

/-- The instruction of a code; every code that is not listed acts as BYPASS (R770). -/
def tapOfCode (c : BitVec 5) : TapInstr :=
  match c.toNat with
  | 0 => .extest
  | 1 => .idcode
  | 2 => .samplePreload
  | 3 => .clamp
  | 4 => .highz
  | _ => .bypass

/-- What the instruction register captures (R770). -/
def tapIrCapture : BitVec 5 := 0b00001

/-- The instruction that acts when a code is loaded: BYPASS for one that the debug lock fuse withholds (R582, R770). -/
def State.tapOffered (s : State) (i : TapInstr) : TapInstr :=
  if s.rd DBG_STATUS_debug_lock = 0 then i
  else match i with
    | .idcode => .idcode
    | _ => .bypass

/-- IDCODE (R771). -/
def State.idcode (s : State) : BitVec 32 :=
  BitVec.ofNat 32 ((s.rd GLB_ID_die_rev % 16) * 2 ^ 28 + 0x7484 * 2 ^ 12 + 0x24B * 2 + 1)

/-- The covered lands return to their functions: the board gives the pads `levels`, which the stages load (R773). -/
def State.landsBack (s : State) (levels : Nat) : State :=
  let s1 := ({ s with pins := { s.pins with ext := levels % 2 ^ 24 } } : State)
  ((s1.padLoad (List.range 24)).uartPump 0).uartPump 1

/-- An instruction becomes current: `cells` is what has been shifted into the boundary register, where it is selected, and
`levels` is what the board gives the pads (R770, R773). -/
def State.tapLoad (s : State) (i : TapInstr) (cells : Option (BitVec 486)) (levels : BitVec 24) : State :=
  let e := s.tapOffered i
  let boundary := if e = .extest ∨ e = .samplePreload then cells.getD s.pins.boundary else s.pins.boundary
  let sample := if e = .extest ∨ e = .samplePreload then s.scanCapture else s.pins.sample
  let capture : BitVec 32 := if e = .idcode then s.idcode else 0
  let s1 := ((({ s with pins := { s.pins with tap := e, boundary := boundary, sample := sample, tapCapture := capture } } :
    State).wr DBG_STATUS_tap_active (b2n (e != .idcode && e != .bypass))).wr CLK_ISL_STATUS_tck_seen 1).nextFree
  if s1.scanOwns && !s.scanOwns then s1.padFloat (List.range 24)
  else if s.scanOwns && !s1.scanOwns then s1.landsBack levels.toNat
  else s1

/-- A code shifted into the instruction register, which gives what it captured at TDO (R770). -/
def State.tapShift (s : State) (c : BitVec 5) (cells : Option (BitVec 486)) (levels : BitVec 24) : State :=
  let s1 := s.tapLoad (tapOfCode c) cells levels
  { s1 with pins := { s1.pins with tapIr := c, irOut := tapIrCapture } }

/-- The fuse has been set: the TAP returns to the locked set at once, and the lands to their functions; the levels that
the board then gives the pads are free (R687, log entry 15). -/
def State.tapLock (s : State) : State :=
  if s.pins.tap = .idcode ∨ s.pins.tap = .bypass then s
  else (s.tapLoad .bypass none (Config.padLevel s.free)).nextFree

/-- TAP_EXTEST (R773). -/
def execTapExtest (cells : BitVec 486) (levels : BitVec 24) (s : State) : Out :=
  ok (if s.padsLive then s.tapShift TapInstr.extest.code (some cells) levels else s)

/-- TAP_IDCODE (R771). -/
def execTapIdcode (levels : BitVec 24) (s : State) : Out :=
  ok (if s.padsLive then s.tapShift TapInstr.idcode.code none levels else s)

/-- TAP_SAMPLE_PRELOAD (R770). -/
def execTapSamplePreload (cells : BitVec 486) (levels : BitVec 24) (s : State) : Out :=
  ok (if s.padsLive then s.tapShift TapInstr.samplePreload.code (some cells) levels else s)

/-- TAP_CLAMP (R773). -/
def execTapClamp (levels : BitVec 24) (s : State) : Out :=
  ok (if s.padsLive then s.tapShift TapInstr.clamp.code none levels else s)

/-- TAP_HIGHZ (R773). -/
def execTapHighz (levels : BitVec 24) (s : State) : Out :=
  ok (if s.padsLive then s.tapShift TapInstr.highz.code none levels else s)

/-- TAP_BYPASS (R770). -/
def execTapBypass (levels : BitVec 24) (s : State) : Out :=
  ok (if s.padsLive then s.tapShift TapInstr.bypass.code none levels else s)

/-- TAP_RESET: IDCODE becomes the current instruction, and no code is shifted (R770). -/
def execTapReset (levels : BitVec 24) (s : State) : Out :=
  if s.padsLive then
    let s1 := s.tapLoad .idcode none levels
    ok { s1 with pins := { s1.pins with tapIr := TapInstr.idcode.code } }
  else ok s

end Sys2Proof.Machine
end

