-- ==== Sys2Proof/Machine/Otp.lean ====
section
/-! DEFINITION. The one-time-programmable array: its load at START, its commands and the programming of its words (chapter
*One-time-programmable settings*). -/

namespace Sys2Proof.Machine
open Reg

/-! ### The array -/

/-- Word `w` of the array. -/
def State.otpWord (s : State) (w : Nat) : Nat := leNat (s.otpBytes (4 * w) 4)

/-- Word `w` of the array after a pulse. -/
def State.setOtpWord (s : State) (w v : Nat) : State :=
  { s with mem := memSetBytes s.mem (dataBase sidOtp 0 + 4 * w) (leBytes 4 v) }

/-- A range of words is blank. -/
def State.otpBlank (s : State) (lo n : Nat) : Bool := (List.range n).all (fun i => s.otpWord (lo + i) == 0)

/-- The first word of settings position `g`. -/
def setWord (g : Nat) : Nat := 0xC0 + 0x20 * g

/-- A settings position is spent (R679). -/
def State.otpSpent (s : State) (g : Nat) : Bool := !s.otpBlank (setWord g) 32

/-- The next settings position, 4 when there is none (R680). -/
def State.otpNext (s : State) : Nat :=
  ((List.range 4).find? (fun g => (List.range 4).all (fun h => h < g || !s.otpSpent h))).getD 4

/-- The number of ones of a number below 2^64. -/
def ones64 (v : Nat) : Nat := (List.range 64).foldl (fun n i => n + b2n (bitOf v i)) 0

/-- The fw_min_sv counter as the array holds it (R671). -/
def State.otpSv (s : State) : Nat := ones64 (s.otpWord 0xA2 + 2 ^ 32 * s.otpWord 0xA3)

/-- OTP_GEN.spent, next_pos and OTP_SV.sv_array follow the array. -/
def State.otpRefresh (s : State) : State :=
  ((s.wr OTP_GEN_spent (bitsNat ((List.range 4).map s.otpSpent))).wr OTP_GEN_next_pos s.otpNext).wr OTP_SV_sv_array s.otpSv

/-! ### Loading at START (R673 to R678) -/

/-- A region's state: blank, good or bad. -/
def State.otpRegion (s : State) (off len magic : Nat) (more : List Byte → Bool) : Nat :=
  let b := s.otpBytes off len
  if b.all (· == 0) then 0
  else if recNat b 0 4 == magic && recNat b (len - 4) 4 == crc32 (b.take (len - 4)) && more b then 1
  else 2

/-- A signed 8-bit field. -/
def int8 (v : Nat) : Int := if v < 128 then (v : Int) else (v : Int) - 256

/-- The ranges of the trims region (R669). -/
def trimRanges (b : List Byte) : Bool :=
  let cal := int8 (recNat b 7 1)
  let target := recNat b 8 1
  let hyst := recNat b 9 1
  let floor := recNat b 10 1
  recNat b 6 1 ≤ 56 && -32 ≤ cal && cal ≤ 31 && 102 ≤ target && target ≤ 254 && 4 ≤ hyst && hyst ≤ 64 &&
    26 ≤ floor && floor + hyst + 1 ≤ target && recNat b 11 1 == 0 &&
    (List.range 4).all (fun k => recNat b (22 + 8 * k) 3 != 0 && recNat b (25 + 8 * k) 3 == 0) && recNat b 64 188 == 0

/-- The trims of a good region applied; a region that is not good leaves the values of R675, which the registers reset
to. The analogue trims act outside the model. -/
def State.applyTrims (s : State) (b : List Byte) : State :=
  let s1 := ((((s.wr CLK_MARGIN_LIMIT_margin_code_start (recNat b 6 1)).wr CLK_MARGIN_CTRL_canary_cal
    (recNat b 7 1)).wr CLK_MARGIN_CTRL_canary_target (recNat b 8 1)).wr CLK_MARGIN_CTRL_canary_hyst (recNat b 9 1)).wr
    CLK_MARGIN_CTRL_canary_floor (recNat b 10 1)
  let s2 := (((s1.wr THM_MODEL_CTRL_k_eff (recNat b 12 2)).wr THM_MODEL_CTRL_p_other_cw (recNat b 14 2)).wr
    THM_NTC_CAL_ntc_r25 (recNat b 16 2)).wr THM_NTC_CAL_ntc_beta (recNat b 18 2)
  (List.range 4).foldl (fun s k =>
    (s.wri THM_POLE_R_r k (recNat b (20 + 8 * k) 2)).wri THM_POLE_A_alpha k (recNat b (22 + 8 * k) 3)) s2

/-- A settings record at position `g` is valid (R678). -/
def State.setValid (s : State) (g : Nat) : Bool :=
  let b := s.otpBytes (4 * setWord g) 128
  recNat b 0 4 == 0x54385347 && recNat b 4 1 == g && recNat b 5 1 == 1 && recNat b 124 4 == crc32 (b.take 124)

/-- The number of ones of the debug lock word (R671). -/
def State.lockOnes (s : State) : Nat := ones64 (s.otpWord 0xA0)

/-- START step 3: the array is read once, and its values chosen (R673 to R678). -/
def State.otpLoad (s : State) : State :=
  let idA := s.otpRegion 0 64 0x54384944 (fun _ => true)
  let idB := s.otpRegion 0x40 64 0x54384944 (fun _ => true)
  let trim := s.otpRegion 0x80 256 0x54385452 trimRanges
  let sec := s.otpRegion 0x180 256 0x54385345 (fun _ => true)
  let s1 := ((((s.wr OTP_STATUS_id_a_state idA).wr OTP_STATUS_id_b_state idB).wr OTP_STATUS_trim_state trim).wr
    OTP_STATUS_sec_state sec).wr OTP_STATUS_id_bad (b2n (idA != 1 && idB != 1))
  let lock := b2n (8 ≤ s.lockOnes || sec == 2)
  let s2 := ((((s1.wr OTP_STATUS_trim_bad (b2n (trim != 1))).wr OTP_STATUS_sec_bad (b2n (sec == 2))).wr
    OTP_STATUS_debug_lock lock).wr DBG_STATUS_debug_lock lock).wr SEC_STATUS_debug_lock lock
  let s3 := if trim = 1 then s2.applyTrims (s2.otpBytes 0x80 256) else s2
  let gens := (List.range 4).filter s.setValid
  let s4 := match gens.getLast? with
    | some g =>
      let rcd := s3.otpBytes (4 * setWord g) 128
      ((({ s3 with settings := (rcd.drop 8).take 40 } : State).wr OTP_GEN_gen_in_force g).wr OTP_GEN_gen_valid 1).wr
        CORE_STATUS_boot_src (b2n (recNat rcd 13 1 == 1))
    | none => ((({ s3 with settings := [] } : State).wr OTP_GEN_gen_in_force 0).wr OTP_GEN_gen_valid 0).wr
        CORE_STATUS_boot_src 0
  let s5 := (s4.otpRefresh.wr OTP_SV_fw_min_sv s.otpSv).wr SEC_STATUS_key_gen (if sec = 1 then recNat (s.otpBytes 0x180 5) 4 1 else 0)
  let s6 := ((((s5.wr GLB_ID_grade (recNat s5.identity 6 1)).wr GLB_ID_die_rev (recNat s5.identity 7 1)).wr
    SEC_STATUS_module_gen (recNat s5.identity 18 1)).wr SEC_STATUS_console_class (recNat s5.settings 4 1))
  if idA = 2 ∨ idB = 2 ∨ trim = 2 ∨ sec = 2 then s6.wr OTP_EVENT_region_bad 1 else s6

/-! ### Programming (R683 to R685) -/

/-- The conditions of R683. -/
def State.otpMay (s : State) : Bool :=
  s.phase == .run && 9000 ≤ s.rd PWR_VIN_vin_mv && s.rd PWR_VIN_vin_mv ≤ 60000 && s.rd THM_STATUS_est_valid == 1 &&
    0 ≤ s.heat.tEst && s.heat.tEst ≤ 90 * 2 ^ 32

/-- The fuse is set from this instant (R687): the DBG claim ends, and the TAP returns to the locked set. -/
def State.lockDebug (s : State) : State :=
  ((((s.wr OTP_STATUS_debug_lock 1).wr DBG_STATUS_debug_lock 1).wr SEC_STATUS_debug_lock 1).releaseClaims
    (2 ^ 20)).tapLock

/-- A halted core holds the answer of the command that a mailbox runs (R666). -/
def State.answerHeld (s : State) (m : Mb) : Bool :=
  match (s.mbx m).taken with
  | some c => s.haltHolds c
  | none => false

/-- A core runs again: the answers that it held are given (R666). An OTP.LOCK_DEBUG that completes so with OK sets the fuse now
(R687). -/
def State.haltEnds (s : State) : State :=
  let locks := (hostMbs ++ [Mb.relay]).any (fun m =>
    match (s.mbx m).taken with
    | some c => c.opcode == 0x0404 && (c.answer.map (·.1)) == some stOk && !s.haltHolds c
    | none => false)
  (if locks then s.lockDebug else s).settleHalt

/-- The range that a security image lies in is zeroed (R686). -/
def State.wipeRef (s : State) (r : Nat × Nat) : State := s.refPut r 0 (List.replicate r.2 0)

/-- A job ends: `st` and `detail` are its outcome, OK when every word was programmed. The debug lock is in force from the
completion of its command (R687). -/
def State.endOtp (s : State) (j : OtpJob) (st detail : Nat) : State :=
  let s1 : State := { s with otp := none }
  let s2 := if st = stOk then s1.raise OTP_EVENT_prog_done else s1
  match j.who with
  | .settings m pos => if st = stOk then s2.okResp m (leBytes 1 pos ++ leBytes 3 0) else s2.done m st detail []
  | .security m r => (s2.wipeRef r).done m st detail []
  | .lock m =>
    if st = stOk then (if s2.answerHeld m then s2.okResp m [] else s2.lockDebug.okResp m []) else s2.done m st detail []
  | .raise m => if st = stOk then s2.okResp m (leBytes 1 s2.otpSv) else s2.done m st detail []
  | .expert => (s2.wr OTP_PROG_STATUS_busy 0).wr OTP_PROG_STATUS_outcome (if st = stOk then 0 else if detail = 1 then 1 else 3)

/-- The command of a job that was stopped completes after its word (R129, R244, R270). -/
def State.stopOtpJob (s : State) (j : OtpJob) (st : Nat) : State :=
  let s1 : State := { s with otp := none }
  match j.who with
  | .settings m _ => s1.endStopped m st
  | .security m r => (s1.wipeRef r).endStopped m st
  | .lock m => s1.endStopped m st
  | .raise m => s1.endStopped m st
  | .expert => s1

/-- A job starts: WRONG_STATE with detail 1 when a condition fails before its first word (R683). -/
def State.startOtp (s : State) (who : OtpWho) (words : List (Nat × Nat)) : State :=
  let j : OtpJob := { who := who, words := words, retried := false, stop := none }
  if !s.otpMay then s.endOtp j stWrongState 1
  else
    let s1 : State := { s with otp := some j }
    match j.mb with
    | some m => s1.wait m
    | none => s1.wr OTP_PROG_STATUS_busy 1

/-- The word in progress reads back as `v`: it is the data written, or it gets one further pulse, or the job ends with
WRONG_STATE and detail 2 (R684). Before the next word the conditions are checked again (R683). -/
def State.otpPulse (s : State) (j : OtpJob) (w data v : Nat) : State :=
  let s1 := (s.setOtpWord w v).otpRefresh
  if v = data then
    let s2 := s1.inc OTP_PROG_COUNT_words
    match j.stop, j.words.tail with
    | some st, _ => s2.stopOtpJob j st
    | none, [] => s2.endOtp j stOk 0
    | none, rest => if s2.otpMay then { s2 with otp := some { j with words := rest, retried := false } } else s2.endOtp j stWrongState 1
  else if !j.retried then
    { s1.inc OTP_PROG_COUNT_retries with otp := some { j with retried := true } }
  else
    let s2 := s1.raise OTP_EVENT_prog_fail
    match j.stop with
    | some st => s2.stopOtpJob j st
    | none => s2.endOtp j stWrongState 2

/-- OTP_WORD_PROGRAMMED: one pulse is over and the word reads back. A pulse sets bits of the data and clears none. -/
def execOtpWordProgrammed (readback : BitVec 32) (s : State) : Out :=
  match s.otp with
  | none => ok s
  | some j =>
    match j.words with
    | [] => ok { s with otp := none }
    | (w, data) :: _ =>
      let v := readback.toNat
      let old := s.otpWord w
      if v &&& old = old ∧ v ||| (old ||| data) = old ||| data then ok (s.otpPulse j w data v) else ok s

/-! ### Commands -/

/-- The array is free for another job; a command that finds it busy waits for it (R241). -/
def otpCmd (m : Mb) (op : Nat) (s : State) (body : Cmd → State → State) : Out :=
  if s.otp.isSome then ok s else runCmd m op s body

/-- OTP.QUERY (0x0401, R691). -/
def execOtpQuery (m : Mb) (s : State) : Out :=
  runCmd m 0x0401 s (fun _ s =>
    s.okResp m (leBytes 4 (s.rawReg 0x4000) ++ leBytes 4 (s.rawReg 0x4004) ++ leBytes 1 (s.rd OTP_SV_fw_min_sv) ++
      leBytes 1 s.keyGen ++ leBytes 2 0 ++ padTo 40 s.settings ++ leBytes 4 0))

/-- A Workbench image of a kind with a body of `len` bytes: the body, when the header and the body's CRC are right. -/
def workbench (b : List Byte) (kind len : Nat) : Option (List Byte) :=
  let body := (b.drop 16).take len
  if recNat b 0 4 == 0x54384F49 && recNat b 4 1 == kind && recNat b 5 1 == 1 && recNat b 6 2 == len &&
      recNat b 8 4 == crc32 body && recNat b 12 4 == 0 && b.length == 16 + len then some body
  else none

/-- The zeros that R672 asks of a settings body, and its boot_src (R692). -/
def settingsBody (b : List Byte) : Bool := recNat b 5 1 ≤ 1 && recNat b 6 1 ≤ 1 && recNat b 7 1 == 0

/-- The 128 bytes of a settings record (R672). -/
def settingsRecord (g : Nat) (body : List Byte) : List Byte :=
  let b := padTo 124 (leBytes 4 0x54385347 ++ leBytes 1 g ++ leBytes 1 1 ++ leBytes 2 0 ++ body)
  b ++ leBytes 4 (crc32 b)

/-- The 256 bytes of the security region (R670): its body holds bytes 4 to 71. -/
def securityRegion (body : List Byte) : List Byte :=
  let b := padTo 252 (leBytes 4 0x54385345 ++ body)
  b ++ leBytes 4 (crc32 b)

/-- The words of a byte string from word `w` upward, the last one last (R685). -/
def otpWords (w : Nat) (b : List Byte) : List (Nat × Nat) :=
  (List.range (b.length / 4)).map (fun i => (w + i, recNat b (4 * i) 4))

/-- OTP.SETTINGS_WRITE (0x0402, R680, R692). -/
def execOtpSettingsWrite (m : Mb) (s : State) : Out :=
  otpCmd m 0x0402 s (fun c s =>
    let r := c.ref 0
    checked m [c.refCheck 0, need (16 + 40 ≤ r.2) 0] s (fun s =>
      if s.refPoison r then s.fail m stPoisoned
      else
        match workbench ((s.refBytes r).take 56) 1 40 with
        | none => s.badParam m 0
        | some body =>
          if !settingsBody body then s.badParam m 0
          else if s.otpNext = 4 then (s.raise OTP_EVENT_exhausted).fail m stOtpExhausted
          else s.startOtp (.settings m s.otpNext) (otpWords (setWord s.otpNext) (settingsRecord s.otpNext body))))

/-- OTP.SECURITY_WRITE (0x0403, R686, R692): the range that the command names is zeroed whatever the outcome. -/
def execOtpSecurityWrite (m : Mb) (s : State) : Out :=
  otpCmd m 0x0403 s (fun c s =>
    let r := c.ref 0
    checked m [c.refCheck 0] s (fun s =>
      if s.refPoison r then s.fail m stPoisoned
      else
        match workbench ((s.refBytes r).take 84) 2 68 with
        | none => (s.wipeRef r).badParam m 0
        | some body =>
          if recNat body 1 3 ≠ 0 then (s.wipeRef r).badParam m 0
          else if !s.otpBlank 0x60 64 then (s.wipeRef r).fail m stDenied
          else s.startOtp (.security m r) (otpWords 0x60 (securityRegion body))))

/-- OTP.LOCK_DEBUG (0x0404, R687). -/
def execOtpLockDebug (m : Mb) (s : State) : Out :=
  otpCmd m 0x0404 s (fun c s =>
    checked m [need (c.u32 0 == 0x4C4F434B) 0] s (fun s =>
      if !s.secGood then s.fail m stWrongState
      else s.startOtp (.lock m) [(0xA0, 0xFFFFFFFF)]))

/-- The counter words that hold the bits from fw_min_sv up to bit v - 1, with those bits programmed (R688). -/
def State.svWords (s : State) (v : Nat) : List (Nat × Nat) :=
  let bits := 2 ^ v - 2 ^ s.otpSv
  let word (w part : Nat) : List (Nat × Nat) := if part = 0 then [] else [(w, s.otpWord w ||| part)]
  word 0xA2 (bits % 2 ^ 32) ++ word 0xA3 (bits / 2 ^ 32)

/-- OTP.SV_RAISE (0x0405, R688). -/
def execOtpSvRaise (m : Mb) (s : State) : Out :=
  otpCmd m 0x0405 s (fun c s =>
    let v := c.u8 0
    checked m [need (s.otpSv < v && v ≤ 64 && v ≤ s.cores.securityVersion &&
        (List.range 2).all (fun i => s.slotVerifies i && v ≤ recNat (s.slotRec i) 16 4)) 0] s (fun s =>
      s.startOtp (.raise m) (s.svWords v)))

/-! ### The expert write (R689) -/

/-- A word that an expert write may program: blank, and in a settings position or in a region of identity or trims that
was blank at START. -/
def State.otpAllowed (s : State) (w : Nat) : Bool :=
  s.otpWord w == 0 &&
    ((0xC0 ≤ w && w < 0x140) || (w < 16 && s.rd OTP_STATUS_id_a_state == 0) ||
      (16 ≤ w && w < 32 && s.rd OTP_STATUS_id_b_state == 0) || (32 ≤ w && w < 96 && s.rd OTP_STATUS_trim_state == 0))

/-- OTP_PROG_GO: a write of OTP_PROG_CMD (R683, R684, R689). -/
def execOtpProgGo (w : RegWord) (s : State) : Out :=
  ok (s.regOp 0x4028 w (fun s =>
    if !w.getLsbD 31 then s
    else if s.otp.isSome then s.badWrite
    else if !s.otpAllowed (s.rd OTP_PROG_ADDR_word) then s.wr OTP_PROG_STATUS_outcome 2
    else s.startOtp .expert [(s.rd OTP_PROG_ADDR_word, s.rd OTP_PROG_DATA_data)]))

end Sys2Proof.Machine
end

