-- ==== Sys2Proof/Machine/View.lean ====
section
/-! DEFINITION. What a register reads as, without side effects: the fields that report other state (R200, R654, R727). -/

namespace Sys2Proof.Machine
open Reg

/-- mb_state of mailbox index `i` (MBX_MB_INFO). -/
def State.mbState (s : State) (i : Nat) : Nat :=
  let m := mbOf i
  if s.isFollower then 5
  else if s.inSequence then 6
  else if s.fatal then 4
  else if s.rd PWR_STATE_fw_state = 3 then 3
  else if (s.mbx m).taken.isSome then 2
  else if s.rd PWR_STATE_fw_state ≠ 2 ∧ s.posted m ≠ s.doneCnt m then 1
  else 0

/-- CHN_CHAIN_PLY: the chain ply at a follower, else the ply counter (R444). -/
def State.chainPlyView (s : State) : Nat := if s.isFollower then s.chainPly else s.clk.ply

/-- The kept word that STRM_KEEP_SEL selects: its word in the sector buffers. -/
def State.keepWord (s : State) : Nat := 512 * s.rd STRM_KEEP_SEL_channel + s.rd STRM_KEEP_SEL_word

/-- A 32-bit word of the hit map. -/
def State.hitWord (s : State) (k : Nat) : Nat := leNat (memBytes s.mem (dataBase sidHitMap 0 + 4 * k) 4)

/-- dump_seq of the dump that the caddy holds; its header's magic tells whether it does (R653). -/
def State.dumpHeld (s : State) : Bool := s.cadNat cadDump 4 == 0x54384450
def State.dumpSeq (s : State) : Nat := s.cadNat (cadDump + 8) 8

/-- A field of instance `i` that reports state kept elsewhere; none: the register file holds it. -/
def State.derived (s : State) (f : Fld) (i : Nat) : Option Nat :=
  if f = GLB_LINK_aspm_l1_en then some (b2n s.host.cfg.aspmL1)
  else if f = GLB_LINK_in_l1 then some (b2n s.host.inL1)
  else if f = GLB_IRQ_STATUS_blk_irq then some s.irqStatus
  else if f = CLK_ISL_STATUS_hli_run then some (b2n s.host.training)
  else if f = CLK_PLY_LO_ply_lo then some s.clk.ply
  else if f = MBX_MB_INFO_mb_state then some (s.mbState i)
  else if f = PIN_IN_pad_in then some s.padIn
  else if f = PIN_FILT_pad_filt then some s.padFilt
  else if f = PIN_FIXED_fixed then some s.padFixed
  else if f = PIN_Uu_RX_rx then some (((s.uart i).rx.head?.map (·.toNat)).getD 0)
  else if f = PIN_Uu_RX_rx_valid then some (b2n (!(s.uart i).rx.isEmpty))
  else if f = CHN_CHAIN_PLY_chain_ply then some s.chainPlyView
  else if f = CHN_GROUP_k then some s.groupK
  else if f = TCAM_STATUS_blocks_powered then
    some ((List.range 256).filter (fun b => s.blk b != blkGated)).length
  else if f = TCAM_STATUS_blocks_owned then
    some ((List.range 256).filter (fun b => s.blk b == blkOwned)).length
  else if f = TCAM_BLK_CTRL_valid_slots then some (s.blkValid i).length
  else if f = TCAM_TBL_ENT_entries then some (s.tcamEntries i)
  else if f = TCAM_TBL_ENT_blocks then some (s.tblBlocks i).length
  else if f = HASH_USED_ways_used then some s.waysUsed
  else if f = HASH_OVF_ovf_used then some s.ovfUsed
  else if f = HASH_OVF_sweep_busy then
    some (b2n ((List.range 63).any (fun t => s.rdi HASH_TBL_CFG_sweep t == 1)))
  else if f = HASH_HITMAP_DATA_hm_data then some (s.hitWord (s.rd HASH_HITMAP_IDX_hm_word))
  else if f = HASH_TBL_ENT_entries then some (s.exactEntries i).length
  else if f = HASH_TBL_LRN_learned then some (s.learnedEntries i)
  else if f = LPM_STATUS_sweep_busy then
    some (b2n ((List.range 4).any (fun r => s.rdi LPM_ROOT_CFG_sweep r == 1)))
  else if f = LPM_STATUS_tables then some s.lpmTables
  else if f = LPM_NODES_nodes_used then some (s.nodesUsed (i + 1)).length
  else if f = LPM_RECS_recs_used then some (s.recsUsed i).length
  else if f = LPM_ROOT_COUNT_prefixes then
    some (if s.rdi LPM_ROOT_CFG_defined i = 1 then s.prefixes (s.rdi LPM_ROOT_CFG_table i) else 0)
  else if f = INTEG_STATUS_steep_run then some (b2n s.steepRuns)
  else if f = INTEG_STATUS_steep_paused then some (b2n (s.rd INTEG_STEEP_CTRL_steep_en == 1 && !s.steepRuns))
  else if f = SEC_CTX_AGE_age_s then some (s.authAge i)
  else if f = STRM_KEEP_LO_kept then some (leNat ((readWord s.mem 0x74 s.keepWord).data.take 4))
  else if f = STRM_KEEP_HI_kept then some (leNat ((readWord s.mem 0x74 s.keepWord).data.drop 4))
  else if f = SLOT_OP_DATA_data then
    some (leNat (((padTo pageSize (s.port i).buf).drop (s.rdi SLOT_OP_PTR_ptr i)).take 4))
  else if f = CORE_STATUS_active_slot then some s.activeSlot
  else if f = CORE_DUMP_dump_valid then some (b2n s.dumpHeld)
  else if f = CORE_DUMP_dump_seq_lo then some (if s.dumpHeld then s.dumpSeq else 0)
  else if f = CADDY_JRNL_SEQ_next_seq then some s.jrnl.seq
  else if f = CADDY_JRNL_COMMIT_commit_seq then some s.jrnl.commitSeq
  else if f = CADDY_JRNL_USED_used then some s.jrnl.used
  else if f = CADDY_JRNL_PENDING_pending then some s.jrnl.pending
  else if f = DBG_CTL_PC_ctl_pc then
    some (if s.rd CORE_STATUS_ctl_state = 0 then 0 else (Config.corePc (2 * s.free)).toNat)
  else if f = DBG_GRD_PC_grd_pc then
    some (if s.rd CORE_STATUS_grd_state = 0 then 0 else (Config.corePc (2 * s.free + 1)).toNat)
  else none

/-- The value of instance `i` of a field as a read shows it: a WO field reads as 0 (R11). -/
def State.viewField (s : State) (f : Fld) (i : Nat) : Nat :=
  if f.acc = .wo then 0 else ((s.derived f i).getD (s.rdi f i)) % 2 ^ f.width

/-- The dword at a BAR0 register offset as a read without side effects shows it; an unassigned offset reads 0 (R183). -/
def State.viewReg (s : State) (off : Nat) : Nat :=
  (regFields off).foldl (fun n fi => n + s.viewField fi.1 fi.2 * 2 ^ fi.1.lo) 0

/-- The state after a register has been read: the program counter of a running core, and the levels of waves and of lands that no
row tells in PIN_IN and PIN_FIXED, are other free values at the next read (log entries 15, 17 and 86). -/
def State.pastView (s : State) (off : Nat) : State :=
  if off = 0x14008 ∨ off = 0x1400C ∨ off = 0x6010 ∨ off = 0x6038 then s.nextFree else s

/-- A read of a register meets poison (R201): a kept word, a hit-map word, or a word of configuration RAM. -/
def State.regPoison (s : State) (off : Nat) : Bool :=
  if off = 0xE024 ∨ off = 0xE028 then (readWord s.mem 0x74 s.keepWord).poison
  else if off = 0xA074 then (readWord s.mem sidHitMap (s.rd HASH_HITMAP_IDX_hm_word / 2)).poison
  else cfgReg off && s.cfgSyn (off / 8) != 0

end Sys2Proof.Machine
end

