-- ==== Sys2Proof/Machine/Boot.lean ====
section
/-! DEFINITION. The two cores: boot, restarts, faults, watchdogs, the dump and the fatal state (R630 to R648, R653 to R656,
R662; chapter *Cores, caddy and the fatal dump*). -/

namespace Sys2Proof.Machine
open Reg

/-! ### The control area of BAR2 -/

/-- The bytes that a read of BAR2 below the data RAM returns: the rings, each doorbell as last written, the counts that the
module reports beside them, and the stored bytes of the window lanes (R179, R184, R306). -/
def State.ctrlByte (s : State) (o : Nat) : Byte :=
  if o < 0x3000 ∨ (0x8000 ≤ o ∧ o < 0x9000) then memByte s.mem (dataBase sidBar2 0 + o)
  else
    let a := o / 4 * 4
    let dword :=
      if a < 0x3040 ∧ a % 16 = 4 then s.rdi MBX_MB_STATUS_done ((a - 0x3000) / 16)
      else if a = 0x3040 then s.rd MBX_EVT_STATUS_evt_written
      else storeGetD 0 s.host.doorbells a
    BitVec.ofNat 8 (dword / 2 ^ (8 * (o % 4)))

/-! ### Firmware slots (R648) -/

/-- The slot record of an image (R647). -/
def slotRecord (b : List Byte) (ply : Nat) : List Byte :=
  let r := padTo 60 ([(1 : Byte), 0, 0, 0] ++ leBytes 4 b.length ++ (b.drop 8).take 12 ++ leBytes 8 ply ++ leBytes 4 (crc32 b))
  r ++ leBytes 4 (crc32 r)

/-- An image that verifies is stored into firmware slot `i`: the slot is not valid while it is written, and its record comes
last (R648). None: the caddy did not read back what was written. -/
def State.storeSlot (s : State) (i : Nat) (b : List Byte) : State × Bool :=
  let s1 := ((s.cadPut (cadSlotRec i) [0]).cadPut (cadSlot i) b).cadRead (cadSlot i) b.length
  if b.isEmpty || s1.rangePoison sidCaddy (cadSlot i) b.length || s1.cadGet (cadSlot i) b.length != b then (s1, false)
  else ((s1.cadPut (cadSlotRec i) (slotRecord b s1.clk.ply)).raise CORE_EVENT_fw_stored, true)

/-! ### Loading an image (R632) -/

/-- A core RAM filled from address 0, the rest of it zero, with fresh parity. -/
def State.fillRam (s : State) (sid size : Nat) (b : List Byte) : State :=
  (s.fillRange sid 0 size).storeBytes sid 0 (b.map some)

/-- A verified image is loaded and both cores start at their entries; `source` as CORE_STATUS.fw_source. -/
def State.loadImage (s : State) (b : List Byte) (source : Nat) (fallback : Bool) : State :=
  let ctl := recNat b 20 4
  let s1 := (s.fillRam 0x50 0x80000 ((b.drop 128).take ctl)).fillRam 0x51 0x40000 ((b.drop (128 + ctl)).take (recNat b 24 4))
  let s2 : State := { s1 with
    eupex := { s1.eupex with ctlFwVersion := recNat b 8 4, grdFwVersion := recNat b 12 4 }
    cores := { s1.cores with securityVersion := recNat b 16 4, caddyBoot := false, boot := none, ctlDead := false,
                             grdDead := false, ctlWdog := false, grdWdog := false } }
  ((((s2.wr CORE_STATUS_ctl_state 2).wr CORE_STATUS_grd_state 2).wr CORE_STATUS_fw_source source).wr CORE_STATUS_fallback
    (b2n fallback)).wr PWR_STATE_fw_state 1

/-! ### The boot record (R634 to R636) -/

/-- The boot record's place in BAR2. -/
def bootRec : Nat := 0x8FFC0

/-- Bytes of the boot record. -/
def State.bootNat (s : State) (o n : Nat) : Nat := s.bar2Nat (bootRec + o) n

/-- State, status and detail of the boot record, with the ply of the change. -/
def State.bootState (s : State) (state status detail : Nat) : State :=
  s.bar2Put (bootRec + 36) (leBytes 1 state ++ leBytes 1 status ++ leBytes 2 detail ++ leBytes 8 s.clk.ply)

/-- The running boot request ends refused; the ROM keeps waiting. -/
def State.bootRefused (s : State) (status detail : Nat) : State :=
  ({ s with cores := { s.cores with boot := none } } : State).bootState 5 status detail

/-- A boot record that may be acted on: its request number is new, and the module is in one of the states of R635. -/
def State.bootDue (s : State) : Bool :=
  s.bootNat 24 4 != s.bootNat 32 4 &&
    (s.fatal || s.rd PWR_STATE_fw_state == 3 || (s.rd PWR_STATE_fw_state == 0 && s.rd CORE_STATUS_boot_src == 1))

/-- Why a boot request cannot be acted on (R636). -/
def State.bootWrong (s : State) : Option Nat :=
  let req := s.bootNat 4 1
  let host : Bool := req == 1 || req == 3
  if s.bootNat 0 4 != 0x54384254 || !(req == 1 || req == 2 || req == 3) || (req == 3 && s.bootNat 5 1 > 1) then some stBadParam
  else if host && (s.bootNat 8 8 % 4096 != 0 || s.bootNat 16 4 < 704 || 655936 < s.bootNat 16 4) then some stBadParam
  else if host && !s.dmaOk then some stWrongState
  else none

/-- The module acts on the boot record: served, state and status first, then the request (R635), which takes the place of
one that runs (log entry 163). In the fatal state both cores restart from ROM (R645). -/
def State.bootServe (s : State) : State :=
  if !s.bootDue then s
  else
    let n := s.bootNat 24 4
    let begin_ (state status : Nat) : State :=
      ((s.bar2Put (bootRec + 32) (leBytes 4 n ++ leBytes 1 state ++ leBytes 1 status ++ leBytes 2 0 ++ leBytes 8 s.clk.ply)).wr
        CORE_BOOT_SERVED_served n)
    match s.bootWrong with
    | some st => ({ (begin_ 5 st).dropJobs (· == .bootImage) with cores := { s.cores with boot := none } } : State)
    | none =>
      let req := s.bootNat 4 1
      let s1 := (begin_ (if req = 2 then 2 else 1) 0).dropJobs (· == .bootImage)
      let s2 := if s.fatal then (s1.wr CORE_STATUS_ctl_state 1).wr CORE_STATUS_grd_state 1 else s1
      let run : BootRun := { request := req, slot := s.bootNat 5 1, addr := s.bootNat 8 8, len := s.bootNat 16 4, bytes := [] }
      let s3 : State := { s2 with cores := { s2.cores with boot := some run, caddyBoot := req == 2 } }
      if req = 2 then s3 else s3.dmaRead run.addr run.len .bootImage

/-- The answer of the image's DMA read: with poison the request ends POISONED; else the image is verified next (R636). -/
def State.bootImage (s : State) (data : List Byte) (poison : Bool) : State :=
  match s.cores.boot with
  | none => s
  | some r =>
    if poison then (s.bite 0 3 0 0xFFFF).bootRefused stPoisoned 0
    else ({ s with cores := { s.cores with boot := some { r with bytes := padTo r.len data } } } : State).bootState 2 0 0

/-- The ROM looks at the caddy slots: a poisoned one is reported in CADDY_EVENT, and an image that does not verify in
SEC_EVENT. -/
def State.noteSlots (s : State) : State :=
  let look (s : State) (i : Nat) : State :=
    let s1 := (s.cadRead (cadSlotRec i) 64).reportRange sidCaddy (cadSlotRec i) 64 3
    if !s1.slotValid i then s1
    else
      let s2 := s1.cadRead (cadSlot i) (recNat (s1.slotRec i) 4 4)
      let s3 := if s2.slotPoison i then
          (s2.raise CADDY_EVENT_caddy_poison).reportRange sidCaddy (cadSlot i) (recNat (s2.slotRec i) 4 4) 3 else s2
      if s3.slotVerifies i then s3 else s3.raise SEC_EVENT_fw_verify_fail
  let a := s.activeSlot
  let s1 := look s a
  if s.slotVerifies a then s1 else look s1 (1 - a)

/-- R633: the active slot, else the other one; neither: boot failed, and the BOOT_CADDY request that asked is refused (R636). -/
def State.bootCaddy (s : State) : State :=
  let s1 := s.noteSlots
  let asked := (s.cores.boot.map (·.request)) == some 2
  match s.bootSlot with
  | some (i, fb) => (if asked then s1.bootState 4 0 0 else s1).loadImage (s.slotImage i) i fb
  | none =>
    let s2 : State := { s1 with cores := { s1.cores with caddyBoot := false } }
    let s3 := (s2.wr PWR_STATE_fw_state 3).raise CORE_EVENT_boot_failed
    if asked then s3.bootRefused stNotFound 0 else s3

/-- BOOT_IMAGE_VERIFIED: the ROM has checked the image that it was to run, and runs it or refuses it. While CADDY is claimed
it stores none (R256). -/
def execBootImageVerified (s : State) : Out :=
  -- R129, R247: an OTP command that was stopped ends with its word before anything starts
  if s.otp.any (fun j => j.stop.isSome) || s.inSequence then ok s
  else if s.cores.caddyBoot then ok s.bootCaddy
  else match s.cores.boot with
    | none => ok s
    | some r =>
      if r.bytes.length ≠ r.len then ok s
      else match s.imageFail r.bytes with
        | some d => ok ((s.bootRefused stDenied d).raise SEC_EVENT_fw_verify_fail)
        | none =>
          if r.request = 3 ∧ s.claimed 19 then
            -- the claimed caddy is not written (R256)
            ok (((s.conflict 19 2 1).bootState 4 0 0).loadImage r.bytes 2 false)
          else if r.request = 3 then
            let p := (s.bootState 3 0 0).storeSlot r.slot r.bytes
            ok ((p.1.bootState 4 0 0).loadImage r.bytes 2 false)
          else ok ((s.bootState 4 0 0).loadImage r.bytes 2 false)

/-- FW_READY: fw_state becomes READY, FW_READY is posted, then ROLE_CHANGE when a role is held (R797), and the fatal state
is over (R645). A stopped command that is not over holds it (R247). -/
def execFwReady (s : State) : Out :=
  if s.stopsRun ∨ s.rd PWR_STATE_fw_state ≠ 1 ∨ s.rd CORE_STATUS_ctl_state ≠ 2 ∨ s.rd DBG_HALT_ctl_halt = 1 then ok s
  else
    let s1 := ((((s.wr PWR_STATE_fw_state 2).wr GLB_STATUS_fw_ready 1).wr GLB_STATUS_fatal 0).wr CORE_STATUS_fatal 0).smbCause 4
    let s2 := s1.postFw 0x0101 0xFF (leBytes 4 s.eupex.ctlFwVersion ++ leBytes 4 s.eupex.grdFwVersion)
    ok (if s2.rd CHN_STATUS_role = 0 then s2
      else s2.postFw 0x0103 0xFF (leBytes 1 (s2.rd CHN_STATUS_role) ++ leBytes 1 s2.ownAddr))

/-! ### Restarts -/

/-- The catalog walks of both slots end without an insert, and what waits for them completes VOID (R642). -/
def State.endAllWalks (s : State) : State :=
  let waiting := (s.strm.fetches.filter (fun f => f.stage == .walking)).map (·.id)
  let s1 := waiting.foldl (fun s id => s.endFetch id stVoid) s
  (List.range 2).foldl (fun s p => s.endWalks p stVoid) s1

/-- The control core starts over in ROM, and both sections are reloaded from the caddy (R638). -/
def State.toRom (s : State) : State :=
  ((({ s with cores := { s.cores with caddyBoot := true, boot := none, store := none, ctlDead := false, ctlWdog := false } } :
    State).wr PWR_STATE_fw_state 0).wr GLB_STATUS_fw_ready 0).wr CORE_STATUS_ctl_state 1

/-- A planned restart (R247): every other command completes with ABORTED and the new image starts. -/
def State.plannedRestart (s : State) : State :=
  let s1 := (s.completeAll stAborted none).stopCmd .relay stVoid
  let s2 := ((s1.endAllWalks.guardReset stAborted).postFw 0x0102 0xFF [1]).toRom
  ({ s2 with cores := { s2.cores with grdDead := false, grdWdog := false } } : State).wr CORE_STATUS_grd_state 1

/-- The guard core starts over (R583). -/
def State.restartGuard (s : State) (st : Nat) : State :=
  let s1 := s.guardReset st
  (({ s1 with cores := { s1.cores with grdDead := false, grdWdog := false } } : State).wr CORE_STATUS_grd_state 1).postFw
    0x0102 0xFF [3]

/-- A mount in progress ends in the fatal state, with the slot's power as it is (R644; log entry 159). -/
def State.stopMount (s : State) (p : Nat) : State :=
  if (s.port p).mount.isSome then (s.setSlotState p slPresent).endMount p 0 stVoid else s

/-- Entry of the fatal state, in the order of R643, and what R644 ends. -/
def State.enterFatal (s : State) : State :=
  let s1 := (((s.wr CORE_STATUS_ctl_state 0).wr CORE_STATUS_grd_state 0).stopMount 0).stopMount 1
  let s2 := (s1.completeEvery stVoid).guardReset stVoid
  let s3 := s.alertFrom (((s2.wr GLB_STATUS_fatal 1).wr CORE_STATUS_fatal 1).raise CORE_EVENT_fatal)
  let s4 := (if s.rd GLB_STATUS_fatal = 1 then s3 else s3.smbCause 2).aer .internal
  let s5 := (s4.strm.fetches.map (·.id)).foldl (fun s id => s.endFetch id stVoid) (s4.endAllWalks.answerRemotes stVoid)
  let s6 : State := { s5 with
    learn := { s5.learn with updates := [], agerDue := false }
    cores := { s5.cores with dump := none, boot := none, store := none, caddyBoot := false } }
  (s6.wr PWR_STATE_fw_state 0).wr GLB_STATUS_fw_ready 0

/-- The plies of a core's unplanned restarts within 10 s, the present one included (R643). -/
def recentRestarts (ply : Nat) (l : List Nat) : List Nat := l.filter (fun p => ply < p + 4000000000) ++ [ply]

/-- An unplanned restart of the control core (R248, R642). -/
def State.unplannedControl (s : State) : State :=
  let l := recentRestarts s.clk.ply s.cores.ctlRestarts
  let s1 := ({ s with cores := { s.cores with ctlRestarts := l } } : State).inc CORE_RESTARTS_ctl_restarts
  if 3 ≤ l.length then s1.enterFatal
  else (((s1.completeTaken stVoid).stopCmd .relay stVoid).endAllWalks.postFw 0x0102 0xFF [2]).toRom

/-- An unplanned restart of the guard core (R249, R583, R642). -/
def State.unplannedGuard (s : State) : State :=
  let l := recentRestarts s.clk.ply s.cores.grdRestarts
  let s1 := ({ s with cores := { s.cores with grdRestarts := l } } : State).inc CORE_RESTARTS_grd_restarts
  if 3 ≤ l.length then s1.enterFatal else s1.restartGuard stVoid

/-- CONTROL_CORE_RESET: the control core is reset without a planned restart (R248). A core held in reset, or one whose
fault waits for its dump, is not reset again. -/
def execControlCoreReset (s : State) : Out :=
  if s.rd CORE_STATUS_ctl_state = 0 ∨ s.cores.ctlDead then ok s else ok s.unplannedControl

/-- GUARD_CORE_RESET: an unplanned reset of the guard core (R583, R249). -/
def execGuardCoreReset (s : State) : Out :=
  if s.guardUp && !s.cores.grdDead then ok s.unplannedGuard else ok s

/-! ### Faults and watchdogs (R639 to R642) -/

/-- The status, the fault record and the flags of a core. -/
def coreField : CoreSel → Fld
  | .control => CORE_STATUS_ctl_state
  | .guard => CORE_STATUS_grd_state
def faultField : CoreSel → Fld
  | .control => CORE_FAULT_CTL_fault
  | .guard => CORE_FAULT_GRD_fault
def coreNo : CoreSel → Nat
  | .control => 1
  | .guard => 2

/-- The fault record of a core as bytes. -/
def State.faultRecord (s : State) (c : CoreSel) : List Byte :=
  (List.range 16).flatMap (fun i => leBytes 4 (s.rdi (faultField c) i))

/-- The fault record captured (R639, R662). -/
def State.capture (s : State) (c : CoreSel) (cause : Nat) (f : FaultIn) : State :=
  let count := countUp 16 (s.rdi (faultField c) 0 / 65536)
  let words := [cause + 256 * coreNo c + 65536 * count, f.pc.toNat, f.addr.toNat, f.psw.toNat,
    s.clk.ply % 2 ^ 32, s.clk.ply / 2 ^ 32] ++ (List.range 10).map (fun i => (f.regs.getD i 0).toNat)
  (List.range 16).foldl (fun s i => s.wri (faultField c) i (words.getD i 0)) s

/-- A dump starts: the header's magic goes to 0 (R654). -/
def State.startDump (s : State) (kind writer : Nat) (mb : Option Mb) : State :=
  ({ s with cores := { s.cores with dump := some { kind := kind, writer := writer, mb := mb, ply := s.clk.ply } } } :
    State).cadPut cadDump [0, 0, 0, 0]

/-- The other core can write a dump: it runs firmware and is not in an unrecoverable fault itself. -/
def State.coreRuns (s : State) (c : CoreSel) : Bool :=
  match c with
  | .control => 2 ≤ s.rd CORE_STATUS_ctl_state && !s.cores.ctlDead
  | .guard => 2 ≤ s.rd CORE_STATUS_grd_state && !s.cores.grdDead

/-- A core that can trap: it runs ROM or firmware, and is not in an unrecoverable fault (R639). -/
def State.coreTraps (s : State) (c : CoreSel) : Bool :=
  match c with
  | .control => 1 ≤ s.rd CORE_STATUS_ctl_state && !s.cores.ctlDead
  | .guard => 1 ≤ s.rd CORE_STATUS_grd_state && !s.cores.grdDead

/-- An unrecoverable fault of a core (R640 to R643): the surviving core writes a dump, and the restart follows it. Both cores
in such a fault at once, or a fault of the writer of a fault's dump, is the fatal state; a DUMP.TAKE that the faulting core
was writing is taken over as the dump of the fault. While fatal is 1 none is written (R795). -/
def State.unrecoverable (s : State) (c : CoreSel) : State :=
  let other := match c with | .control => CoreSel.guard | .guard => CoreSel.control
  let s1 := match c with
    | .control => ({ s with cores := { s.cores with ctlDead := true } } : State).raise CORE_EVENT_ctl_fault
    | .guard => ({ s with cores := { s.cores with grdDead := true } } : State).raise CORE_EVENT_grd_fault
  let s2 := s1.wr (coreField c) 3
  let writing : Bool := match s.cores.dump with
    | some d => d.writer == coreNo c && d.kind != 3
    | none => false
  let otherDead : Bool := match other with | .control => s.cores.ctlDead | .guard => s.cores.grdDead
  if writing || otherDead then s2.enterFatal
  else if s.coreRuns other && !s.fatal then
    s2.startDump (coreNo c) (coreNo other) (match c with | .control => none | .guard => s.cores.dump.bind (·.mb))
  else match c with
    | .control => s2.unplannedControl
    | .guard => s2.unplannedGuard

/-- CORE_TRAP: a core traps or aborts. Poison that it met is reported by its detector (R602); an instruction fetch of poison,
a trap within a handler and a fault that firmware declares are unrecoverable (R640). -/
def execCoreTrap (c : CoreSel) (f : FaultIn) (s : State) : Out :=
  if !s.coreTraps c then ok s
  else
    let cause := f.cause.toNat
    let s1 := s.capture c cause f
    let sid := match c with | .control => 0x50 | .guard => 0x51
    let s2 := if cause = 1 ∨ cause = 3 then s1.reportRead sid (f.addr.toNat / 8) (2 + coreNo c) 0xFFFF else s1
    if cause = 3 ∨ cause = 7 ∨ cause = 8 ∨ f.declared then ok (s2.unrecoverable c) else ok s2

/-- WATCHDOG_EXPIRY: the first expiry interrupts the core; a second without service is unrecoverable (R641). An expiry whose
record says 0x05 again tells that firmware has serviced the watchdog in between (log entry 152). A halted core's watchdog
pauses. -/
def execWatchdogExpiry (c : CoreSel) (f : FaultIn) (s : State) : Out :=
  let halted : Bool := match c with | .control => s.rd DBG_HALT_ctl_halt == 1 | .guard => s.rd DBG_HALT_grd_halt == 1
  if !s.coreTraps c || halted then ok s
  else
    let second := match c with | .control => s.cores.ctlWdog | .guard => s.cores.grdWdog
    if second && f.cause.toNat != 5 then ok ((s.capture c 6 f).unrecoverable c)
    else
      let s1 := s.capture c 5 f
      match c with
      | .control => ok (({ s1 with cores := { s1.cores with ctlWdog := true } } : State).raise CORE_EVENT_ctl_wdog)
      | .guard => ok (({ s1 with cores := { s1.cores with grdWdog := true } } : State).raise CORE_EVENT_grd_wdog)

/-! ### The dump (R653 to R655) -/

/-- Words of a structure with their poison, from word `w` on. -/
def State.dumpWords (s : State) (sid w n : Nat) : List (List Byte × Bool) :=
  (List.range n).map (fun k => let r := readWord s.mem sid (w + k); (r.data, r.poison))

/-- Section 0x04: BAR0 to 0x1_4FFF, read without side effects. -/
def State.dumpRegs (s : State) : List (List Byte × Bool) :=
  (List.range 10752).map (fun k =>
    (leBytes 4 (s.viewReg (8 * k)) ++ leBytes 4 (s.viewReg (8 * k + 4)), s.regPoison (8 * k) || s.regPoison (8 * k + 4)))

/-- Section 0x05: BAR2 to 0x8FFF. -/
def State.dumpCtrl (s : State) : List (List Byte × Bool) :=
  (List.range 4608).map (fun k =>
    ((List.range 8).map (fun j => s.ctrlByte (8 * k + j)), (k < 0x600 || 0x1000 ≤ k) && wordSyn s.mem sidBar2 0 k != 0))

/-- A byte string in 8-byte words without poison. -/
def cleanWords : Nat → List Byte → List (List Byte × Bool)
  | 0, _ => []
  | n + 1, b => (padTo 8 (b.take 8), false) :: cleanWords n (b.drop 8)

/-- The five sections in type order, each with its type. -/
def State.dumpSections (s : State) : List (Nat × List (List Byte × Bool)) :=
  [(1, cleanWords 16 (s.faultRecord .control ++ s.faultRecord .guard)), (2, s.dumpWords 0x50 0 65536),
   (3, s.dumpWords 0x51 0 32768), (4, s.dumpRegs), (5, s.dumpCtrl)]

/-- The section directory of the header: type, offset, length and poisoned words of each section, from offset `o` on. -/
def dumpDir : Nat → List (Nat × List (List Byte × Bool)) → List Byte
  | _, [] => []
  | o, (ty, ws) :: rest =>
    leBytes 4 ty ++ leBytes 4 o ++ leBytes 4 (8 * ws.length) ++ leBytes 4 (ws.filter (·.2)).length ++
      dumpDir (o + 8 * ws.length) rest

/-- The 256-byte header of a dump whose sections read as `body`. -/
def State.dumpHeader (s : State) (d : DumpRun) (seq : Nat) (secs : List (Nat × List (List Byte × Bool))) (body : List Byte) :
    List Byte :=
  let h := leBytes 4 0x54384450 ++ leBytes 2 1 ++ leBytes 1 d.kind ++ leBytes 1 d.writer ++ leBytes 8 seq ++ leBytes 8 d.ply ++
    leBytes 8 s.moduleSerial ++ leBytes 4 s.eupex.ctlFwVersion ++ leBytes 4 s.eupex.grdFwVersion ++
    leBytes 4 (256 + body.length) ++ leBytes 4 secs.length ++ leBytes 4 (crc32 body)
  padTo 256 (h ++ leBytes 4 (crc32 h) ++ List.replicate 8 0 ++
    s.faultRecord (if d.kind = 2 then .guard else .control) ++ dumpDir 256 secs)

/-- The caddy copy of a word list from offset `o`: a poisoned word is stored with poison (R594). -/
def State.dumpPut : State → Nat → List (List Byte × Bool) → State
  | s, _, [] => s
  | s, o, (d, true) :: ws => State.dumpPut (s.storePoison sidCaddy (o / 8) d) (o + 8) ws
  | s, o, (d, false) :: ws => State.dumpPut (s.storeBytes sidCaddy o (d.map some)) (o + 8) ws

/-- The host buffer takes a dump: registered, long enough, and the module may issue requests (R655). -/
def State.dumpToHost (s : State) : Bool :=
  s.addr64 CORE_DUMP_HOST_LO_dump_addr CORE_DUMP_HOST_HI_dump_addr 0 != 0 && 909696 ≤ s.rd CORE_DUMP_HOST_LEN_dump_len && s.dmaOk

/-- The dump written: the caddy copy with its header last, then the host copy, in which a poisoned word reads
0xBAD0_BAD0_BAD0_BAD0, with its header last. -/
def State.writeDump (s : State) (d : DumpRun) : State :=
  let secs := s.dumpSections
  let words := secs.flatMap (·.2)
  let seq := s.dumpSeq + 1
  let body := words.flatMap (·.1)
  let s1 := (s.dumpPut (cadDump + 256) words).addi CADDY_WRITES_lines_written 0 (linesOf (cadDump + 256) body.length)
  let s2 := s1.cadPut cadDump (s.dumpHeader d seq secs body)
  let host := s2.dumpToHost
  let s3 :=
    if host then
      let at_ := s2.addr64 CORE_DUMP_HOST_LO_dump_addr CORE_DUMP_HOST_HI_dump_addr 0
      let hb := words.flatMap (fun w => if w.2 then leBytes 8 0xBAD0BAD0BAD0BAD0 else w.1)
      (s2.dmaWrite (at_ + 256) hb).dmaWrite at_ (s.dumpHeader d seq secs hb)
    else s2
  ((s3.wr CORE_DUMP_host_copy (b2n host)).raise CORE_EVENT_dump_written).postFw 0x0F01 0xFF
    (leBytes 8 seq ++ leBytes 1 (b2n host))

/-- The failing words that the writer of a dump has read, reported once the dump is written (R602, R653; log entry 183). -/
def State.dumpReport (s : State) (detector : Nat) : State :=
  (((s.reportRange 0x50 0 524288 detector).reportRange 0x51 0 262144 detector).cfgReport detector 0 0x15000).reportRange sidBar2 0
    0x9000 detector

/-- DUMP_WRITTEN: the dump engine is done; a dump of a fault is followed by the restart of the faulting core (R642), and
DUMP.TAKE answers the dump's sequence number. -/
def execDumpWritten (s : State) : Out :=
  match s.cores.dump with
  | none => ok s
  | some d =>
    let s0 := ({ s with cores := { s.cores with dump := none } } : State).writeDump d
    let s1 := (s0.dumpReport (2 + d.writer)).nextFree
    let s2 := match d.mb with
      | some m => s1.okResp m (leBytes 8 s1.dumpSeq)
      | none => s1
    ok (if d.kind = 1 then s2.unplannedControl else if d.kind = 2 then s2.unplannedGuard else s2)

/-! ### DBG and SYS.RESET -/

/-- DBG_HALT_WRITE: effective only while DBG is claimed; a core that runs again completes what it held (R666). -/
def execDbgHaltWrite (w : RegWord) (s : State) : Out := ok (s.regOp 0x14004 w (fun s => (s.wrRW 0x14004 w).haltEnds))

/-- SYS.RESET (0x0103): both cores as a planned restart (R247), or the guard core only. -/
def execSysReset (m : Mb) (s : State) : Out :=
  runCmd m 0x0103 s (fun c s =>
    checked m [need (c.u8 0 == 1 || c.u8 0 == 2) 0, c.notZero 1 3] s (fun s =>
      if s.inSequence then s.fail m stWrongState
      else
        let s1 := s.okResp m []
        if c.u8 0 = 1 then s1.plannedRestart else s1.restartGuard stAborted))

end Sys2Proof.Machine
end

