-- ==== Sys2Proof/Machine/CaddyCmds.lean ====
section
/-! DEFINITION. The FW, CADDY and DUMP commands of Eupex and the journal's timers (R658 to R664; chapter *Cores, caddy and
the fatal dump*). -/

namespace Sys2Proof.Machine
open Reg

/-! ### FW -/

/-- FW.QUERY (0x1001). -/
def execFwQuery (m : Mb) (s : State) : Out :=
  runCmd m 0x1001 s (fun _ s =>
    s.okResp m (leBytes 4 s.eupex.ctlFwVersion ++ leBytes 4 s.eupex.grdFwVersion ++ leBytes 4 s.cores.securityVersion ++
      leBytes 1 (s.rd CORE_STATUS_fw_source) ++ leBytes 1 s.activeSlot ++ leBytes 1 (s.rd CORE_STATUS_fallback) ++ leBytes 1 0 ++
      (s.slotRec 0).take 16 ++ (s.slotRec 1).take 16))

/-- The open store of firmware parts is given up. -/
def State.dropStore (s : State) : State := { s with cores := { s.cores with store := none } }

/-- The last part has come: the image is verified and stored (R663, R648). -/
def State.endStore (s : State) (m : Mb) (r : StoreRun) : State :=
  let s1 := s.dropStore
  match s1.imageFail r.bytes with
  | some d => (s1.raise SEC_EVENT_fw_verify_fail).done m stDenied d []
  | none =>
    let p := s1.storeSlot r.slot r.bytes
    if p.2 then p.1.okResp m (leBytes 4 r.total ++ leBytes 1 1 ++ leBytes 3 0) else p.1.fail m stNoRoom

/-- FW.STORE (0x1002): parts as R586 rules them (R663). -/
def execFwStore (m : Mb) (s : State) : Out :=
  runCmd m 0x1002 s (fun c s =>
    let r := c.ref 0
    let off := c.u32 8
    let total := c.u32 12
    let slot := c.u8 16
    checked m [c.refCheck 0, need (slot ≤ 1) 16, c.notZero 17 3] s (fun s =>
      if s.refPoison r then s.fail m stPoisoned
      else if s.rd CORE_STATUS_fw_source = slot then s.fail m stWrongState
      else
        let old : List Byte := if off = 0 then [] else match s.cores.store with | some l => l.bytes | none => []
        let fits : Bool := off == 0 ||
          (match s.cores.store with
           | some l => l.bytes.length == off && l.total == total && l.slot == slot
           | none => false)
        if !fits then s.dropStore.badParam m 8
        else if total < off + r.2 then s.dropStore.badParam m 12
        else
          let l : StoreRun := { slot := slot, total := total, bytes := old ++ s.refBytes r }
          if l.bytes.length = total then s.endStore m l
          else ({ s with cores := { s.cores with store := some l } } : State).okResp m
            (leBytes 4 l.bytes.length ++ leBytes 1 0 ++ leBytes 3 0)))

/-- FW.ACTIVATE (0x1003): active_slot in one caddy line (R649, R663), then the planned restart when asked (R247). -/
def execFwActivate (m : Mb) (s : State) : Out :=
  runCmd m 0x1003 s (fun c s =>
    checked m [need (c.u8 0 ≤ 1) 0, need (c.u8 1 ≤ 1) 1, c.notZero 2 2] s (fun s =>
      if !s.slotValid (c.u8 0) then s.fail m stNotFound
      else
        let s1 := (s.cadPut 0 (leBytes 1 (c.u8 0))).okResp m (leBytes 1 (c.u8 0))
        if c.u8 1 = 1 then s1.plannedRestart else s1))

/-! ### CADDY -/

/-- CADDY.QUERY (0x1101). -/
def execCaddyQuery (m : Mb) (s : State) : Out :=
  runCmd m 0x1101 s (fun _ s =>
    s.okResp m (leBytes 1 (s.rawReg 0x13000) ++ leBytes 3 0 ++ leBytes 2 (s.rd CADDY_JRNL_CFG_commit_ms) ++ leBytes 2 0 ++
      leBytes 8 s.jrnlMask ++ leBytes 8 s.jrnl.commitSeq ++ leBytes 4 s.jrnl.used ++ leBytes 4 s.jrnl.pending))

/-- CADDY.JOURNAL_CONFIG (0x1102, R664). -/
def execCaddyJournalConfig (m : Mb) (s : State) : Out :=
  runCmd m 0x1102 s (fun c s =>
    checked m [need (c.u8 0 ≤ 1) 0, c.notZero 1 1, need (10 ≤ c.u16 2 && c.u16 2 ≤ 10000) 2] s (fun s =>
      if s.rd CADDY_STATUS_warm_run = 1 then s.fail m stWrongState
      else
        let mask := c.u64 4
        let on : Bool := s.rd CADDY_STATUS_jrnl_en == 1
        let s1 := s.wr CADDY_JRNL_CFG_commit_ms (c.u16 2)
        let s2 :=
          if c.u8 0 = 1 then (if on && s.jrnlMask == mask then s1 else s1.jrnlEnable mask)
          else ((if on then s1.jrnlDisable else s1).wr CADDY_JRNL_MASK_LO_mask mask).wr CADDY_JRNL_MASK_HI_mask (mask / 2 ^ 32)
        s2.okResp m []))

/-- CADDY.JOURNAL_COMMIT (0x1103). -/
def execCaddyJournalCommit (m : Mb) (s : State) : Out :=
  runCmd m 0x1103 s (fun c s =>
    checked m [need (c.u8 0 ≤ 1) 0] s (fun s =>
      if !s.jrnlOn then s.fail m stWrongState
      else
        let s1 := s.jrnlCommit
        if s1.rd CADDY_STATUS_jrnl_full = 1 then s1.fail m stWrongState
        else
          let s2 := if c.u8 0 = 1 ∧ s1.jrnl.ckpt.isNone then s1.jrnlCheckpoint else s1
          s2.okResp m (leBytes 8 s1.jrnl.commitSeq)))

/-- CADDY.JOURNAL_CLEAR (0x1104, R664). -/
def execCaddyJournalClear (m : Mb) (s : State) : Out := runCmd m 0x1104 s (fun _ s => s.jrnlClear.okResp m [])

/-- A scratch range of SCRATCH_READ and SCRATCH_WRITE (R664). -/
def scratchChecks (c : Cmd) : List (Option Nat) :=
  [need (c.u32 0 % 64 == 0 && c.u32 0 + c.u32 8 ≤ 0x100000) 0, c.refCheck 4]

/-- Words copied from the caddy into BAR2 RAM, a poisoned one with poison. -/
def State.copyScratch : Nat → Nat → Nat → Nat → State → State
  | 0, _, _, _, s => s
  | n + 1, src, dst, left, s =>
    let r := readWord s.mem sidCaddy (src / 8)
    let s1 :=
      if r.poison then s.storePoison sidBar2 (dst / 8) r.data
      else s.bar2Put dst (r.data.take left)
    State.copyScratch n (src + 8) (dst + 8) (left - 8) s1

/-- CADDY.SCRATCH_READ (0x1106): poisoned words are copied with poison (R664). -/
def execCaddyScratchRead (m : Mb) (s : State) : Out :=
  runCmd m 0x1106 s (fun c s =>
    checked m (scratchChecks c) s (fun s =>
      let r := c.ref 4
      let src := cadScratch + c.u32 0
      let bad := r.2 != 0 && s.rangePoison sidCaddy src r.2
      let s1 := (State.copyScratch ((r.2 + 7) / 8) src (dataRam + r.1) r.2 s).cadRead src r.2
      let s2 := if bad then (s1.raise CADDY_EVENT_caddy_poison).reportRange sidCaddy src r.2 3 else s1
      s2.done m (if bad then stPoisoned else stOk) 0 (leBytes 4 r.2)))

/-- CADDY.SCRATCH_WRITE (0x1107). -/
def execCaddyScratchWrite (m : Mb) (s : State) : Out :=
  runCmd m 0x1107 s (fun c s =>
    checked m (scratchChecks c) s (fun s =>
      let r := c.ref 4
      if s.refPoison r then s.fail m stPoisoned
      else (s.cadPut (cadScratch + c.u32 0) (s.refBytes r)).okResp m (leBytes 4 r.2)))

/-! ### Warm start (R660, R661) -/

/-- The updates that restore a table of the journal: its creation, then its entries, a record of length 0 being the default
route of an LPM table. -/
def jtableOps (t : Nat) (j : JTable) : List UpdOp :=
  let d := j.defn
  let bind := bindOf (recNat d 3 1)
  let hid := recNat d 40 1
  match recNat d 1 1 with
  | 1 =>
    let w := 2 ^ recNat d 4 1
    .tcamCreate t hid bind (recNat d 4 1) (bitmapList ((d.drop 8).take 32) 248) ::
      j.recs.map (fun r =>
        .tcamWrite t (tcamRecIdx r) (recNat r 4 2) (recNat r 8 8) (tcamRecValue w r) (tcamRecMask w r) false false)
  | 2 =>
    .exactCreate t hid bind (recNat d 4 1) (recNat d 5 1) (recNat d 8 4) ::
      j.recs.map (fun r => .exactWrite t (recNat r 24 1) (r.take 16) (recNat r 16 8) (bitOf (recNat r 25 1) 0) false false)
  | 3 =>
    .dixLimit (recNat d 52 8) :: j.recs.map (fun r => .dixWrite (recNat r 0 2) (recNat r 8 8))
  | 4 =>
    .lpmCreate t hid bind (recNat d 4 4) none :: j.recs.map (fun r =>
      if recNat r 12 1 = 0 then .lpmDefault t (some 1) (some (recNat r 8 4))
      else .lpmInsert t (recNat r 0 8) (recNat r 12 1) (recNat r 8 4) false false)
  | _ => []

/-- The register block that a table of the journal needs. -/
def jtableBlock (j : JTable) : Nat := match recNat j.defn 1 1 with | 1 => 9 | 2 => 10 | 3 => 11 | _ => 12

/-- What stands against a table's restoration (R660); 1: nothing. -/
def State.warmStatus (s : State) (t : Nat) (j : JTable) : Nat :=
  let bind := recNat j.defn 3 1
  let defined : Bool := if t = dixTable then s.rd DIX_CFG_dix_limit != 0 else s.tblDefined t
  let blocks := bitmapList ((j.defn.drop 8).take 32) 248
  if j.unknown then 5
  else if defined then 2
  else if t ≠ dixTable ∧ bind < 2 ∧ (s.slotState bind ≠ slReady ∨ s.cartId bind ≠ recNat j.defn 44 8) then 3
  else if recNat j.defn 1 1 = 1 ∧ (s.blocksAnswer blocks).isSome then 4
  else if t ≠ dixTable ∧ s.sweeping t then 4
  else 1

/-- The tables of a warm start, one after another: each one's status, and the updates of those restored. -/
def State.warmTables (s : State) (tabs : Store JTable) (bad : Bool) (mask : Nat) : List Nat → State × List Nat
  | [] => (s, [])
  | i :: is =>
    let t := if i = 63 then dixTable else i
    let cont (s : State) (v : Nat) : State × List Nat :=
      let p := s.warmTables tabs bad mask is
      (p.1, v :: p.2)
    if !bitOf mask i then cont s 0
    else match storeGet? tabs t with
      | none => cont s (if bad then 6 else 0)
      | some j =>
        let v := s.warmStatus t j
        if v = 1 then
          let blocks := if recNat j.defn 1 1 = 1 then bitmapList ((j.defn.drop 8).take 32) 248 else []
          let s1 := s.ungateAll blocks
          cont ({ s1 with tbl := { s1.tbl with
            queue := s1.tbl.queue ++ (jtableOps t j).map (fun op => { origin := .warm t, op := op }) } }) 1
        else cont s v

/-- The place behind the records that a warm start reads holds poison: they end there. -/
def State.replayPoison (s : State) (off q : Nat) : Bool :=
  let l := s.jrnlRead 441344 off q
  s.ringPoison ((l.foldl (fun n r => n + r.bytes.length) off) % cadRingSize) 64

/-- The blocks that a warm start writes: those of the tables of its mask that the journal holds. -/
def State.warmBlocks (s : State) (c : Cmd) : List Nat :=
  match s.jrnlReplay with
  | some l =>
    let tabs := jrnlTablesOf l
    ((List.range 64).filterMap (fun i =>
      if bitOf (c.u64 0) i then storeGet? tabs (if i = 63 then dixTable else i) else none)).map jtableBlock
  | none => []

/-- CADDY.WARM_START (0x1105): refused while journaling is enabled (R661) and without a valid anchor; while a block that a
table needs is claimed it takes no effect (R255). -/
def execCaddyWarmStart (m : Mb) (s : State) : Out :=
  runCmd m 0x1105 s (fun c s =>
    if s.rd CADDY_STATUS_jrnl_en = 1 ∨ s.cores.warm.isSome then s.fail m stWrongState
    else match s.anchor, s.jrnlReplay with
      | some (off, q), some l =>
        let mask := c.u64 0
        let tabs := jrnlTablesOf l
        let blocks := s.warmBlocks c
        let bad := s.replayPoison off q
        let s0 := if bad then (s.raise CADDY_EVENT_caddy_poison).reportRange sidCaddy cadRing cadRingSize 3 else s
        match blocks.find? s.claimed with
        | some b => s0.done m stExpertHeld b []
        | none =>
          let len := l.foldl (fun n r => n + r.bytes.length) 0
          let p := (s0.cadRead cadRing len).warmTables tabs bad mask (List.range 64)
          let seq := (l.filter (fun r => r.type == 5)).foldl (fun n r => max n r.seq) 0
          let w : WarmRun := { mb := m, status := p.2, written := 0, commitSeq := seq }
          (((({ p.1 with cores := { p.1.cores with warm := some w } } : State).wr CADDY_STATUS_warm_run 1).noteBusy).wait m).warmCheck
      | _, _ => (s.raise CADDY_EVENT_caddy_poison).fail m stPoisoned)

/-! ### The journal's timers -/

/-- JOURNAL_COMMIT_TIMER: commit_ms has passed; the records written so far are closed (R658). While the caddy is claimed
nothing is committed, and the conflict is posted (R256). -/
def execJournalCommitTimer (s : State) : Out :=
  if s.jrnl.pending = 0 then ok s
  else if s.rd CADDY_STATUS_jrnl_en = 1 ∧ s.claimed 19 then ok (s.conflict 19 2 1)
  else ok s.jrnlCommit

/-- CHECKPOINT_END: the running checkpoint completes with CKPT_END and its anchor (R658). -/
def execCheckpointEnd (s : State) : Out := ok s.finishCheckpoint

/-! ### DUMP -/

/-- DUMP.CONFIG (0x0F01): the host buffer. -/
def execDumpConfig (m : Mb) (s : State) : Out :=
  runCmd m 0x0F01 s (fun c s =>
    checked m [need (c.u64 0 % 8 == 0) 0, need (c.u64 0 == 0 || 909696 ≤ c.u32 8) 8] s (fun s =>
      ((s.wr64 CORE_DUMP_HOST_LO_dump_addr CORE_DUMP_HOST_HI_dump_addr 0 (c.u64 0)).wr CORE_DUMP_HOST_LEN_dump_len
        (c.u32 8)).okResp m []))

/-- DUMP.QUERY (0x0F02): bytes 0 to 31 of the header in the caddy. -/
def execDumpQuery (m : Mb) (s : State) : Out :=
  runCmd m 0x0F02 s (fun _ s =>
    s.okResp m ((if s.dumpHeld then s.cadGet cadDump 4 else [0, 0, 0, 0]) ++ s.cadGet (cadDump + 4) 28))

/-- DUMP.TAKE (0x0F03): a dump of kind REQUESTED, written by the control core. -/
def execDumpTake (m : Mb) (s : State) : Out :=
  runCmd m 0x0F03 s (fun _ s =>
    if s.cores.dump.isSome then s.fail m stBusy else (s.startDump 3 1 (some m)).wait m)

/-- DUMP.CLEAR (0x0F04). -/
def execDumpClear (m : Mb) (s : State) : Out :=
  runCmd m 0x0F04 s (fun c s =>
    if !s.dumpHeld || s.dumpSeq != c.u64 0 then s.fail m stNotFound
    else (s.cadPut cadDump [0, 0, 0, 0]).okResp m [])

end Sys2Proof.Machine
end

