-- ==== Sys2Proof/Machine/Heat.lean ====
section
/-! DEFINITION. Heat: the power samples, the four-pole model, warning, grace and enforcement, and the sensor faults
(chapter *Heat: model, warning and enforcement*). Temperatures inside the model are integers in units of 2^-32 °C. -/

namespace Sys2Proof.Machine
open Reg

/-! ### Numbers -/

/-- A 16-bit two's complement value. -/
def int16 (v : Nat) : Int := if v < 32768 then (v : Int) else (v : Int) - 65536

/-- The 16-bit two's complement form of an integer, held at the ends of its range. -/
def enc16 (v : Int) : Nat := (max (-32768) (min 32767 v) % 65536).toNat

/-- A temperature of the model in 1/16 °C. -/
def sixteenths (t : Int) : Int := t / 2 ^ 28

/-- A whole number of degrees in the model's unit. -/
def degC (c : Nat) : Int := (c : Int) * 2 ^ 32

/-- T_ntc in 1/16 °C. -/
def State.ntc16 (s : State) : Int := int16 (s.rd THM_NTC_t_ntc)

/-! ### Throttle and states -/

/-- state of THM_STATUS: 0 NORMAL, 1 GRACE, 2 ENFORCE. -/
def State.thm (s : State) : Nat := s.rd THM_STATUS_state

/-- throttle_active follows R161: THROTTLE_N is asserted exactly in GRACE, in ENFORCE, and while sensor_fault is set. -/
def State.throttle (s : State) : State :=
  let on : Bool := s.thm != 0 || s.rd THM_STATUS_sensor_fault == 1
  let t := s.wr THM_STATUS_throttle_active (b2n on)
  if on && s.rd THM_STATUS_throttle_active == 0 then t.smbCause 0 else t

/-- State and level of the enforcement set. -/
def State.setThm (s : State) (st level : Nat) : State :=
  ((s.wr THM_STATUS_state st).wr THM_STATUS_level level).throttle

/-- The band level of a temperature (R158). -/
def State.band (s : State) (t : Int) : Nat :=
  let w := s.rd THM_LIMITS_warn_c
  let st := s.rd THM_LIMITS_step_c
  if t < degC (w + st) then 1 else if t < degC (w + 2 * st) then 2 else if t < degC (w + 3 * st) then 3 else 4

/-- The whole milliseconds of 400,000 plies since the grace timer started; the timer counts in plies. -/
def State.graceMs (s : State) : Nat := (s.clk.ply - s.heat.gracePly) / 400000

/-- Entry of GRACE: the warn event, its count, and the grace timer from grace_ms (R155). -/
def State.enterGrace (s : State) : State :=
  let s1 : State := { s with heat := { s.heat with gracePly := s.clk.ply, warnTotal := countUp 32 s.heat.warnTotal } }
  (((s1.wr THM_GRACE_grace_left_ms (s.rd THM_GRACE_grace_ms)).inc THM_WARN_COUNT_warn_count).setThm 1 0).raise
    THM_EVENT_warn

/-- The grace timer expires: ENFORCE at the band level, at level 1 below warn_c, at level 4 under a sensor fault (R157,
R165). -/
def State.enterEnforce (s : State) : State :=
  let level := if s.rd THM_STATUS_sensor_fault = 1 then 4 else s.band s.heat.tEst
  let s1 : State := { s with heat := { s.heat with holdRun := false } }
  ((s1.wr THM_GRACE_grace_left_ms 0).setThm 2 level).raise THM_EVENT_enforce

/-- The return to NORMAL: THROTTLE_N released, caps lifted, release event (R156). -/
def State.heatRelease (s : State) : State :=
  let s1 : State := { s with heat := { s.heat with holdRun := false } }
  ((s1.wr THM_GRACE_grace_left_ms 0).setThm 0 0).raise THM_EVENT_release

/-- A new level in ENFORCE, with its level_change event (R158). -/
def State.changeLevel (s : State) (level : Nat) : State :=
  if s.rd THM_STATUS_level = level then s
  else (s.wr THM_STATUS_level level).raise THM_EVENT_level_change

/-! ### Sensor faults (R163 to R166) -/

/-- A fault condition is present. -/
def State.faultPresent (s : State) : Bool := s.heat.ntcOpen || s.heat.ntcShort || s.heat.isenseFail || s.heat.stale

/-- A fault condition is met: its bit in fault_src, and, when none was set, sensor_fault with its event and count; from
NORMAL the module acts as under R155, in ENFORCE it goes to level 4 at once (R163 to R165). DESIGN CHOICE (log entry 185): that move
sets level_change. -/
def State.sensorFault (s : State) (src : Nat) : State :=
  let s1 := s.setBit THM_FAULT_fault_src 0 src true
  if s.rd THM_STATUS_sensor_fault = 1 then s1
  else
    let s2 : State := { s1 with heat := { s1.heat with critRun := 0, holdRun := false } }
    let s3 := (((((s2.inc THM_FAULT_fault_count).wr THM_STATUS_sensor_fault 1).smbCause 1).wr THM_STATUS_est_valid 0).throttle).raise
      THM_EVENT_sensor_fault
    if s3.thm = 0 then s3.enterGrace
    else if s3.thm = 2 then s3.changeLevel 4
    else s3

/-! ### The model update (R149 to R160) -/

/-- Input power in centiwatts from mV and mA. -/
def centiwatts (mv ma : Nat) : Nat := mv * ma / 10000

/-- VCCQ of slot `p` in mV. -/
def State.vccqMv (s : State) (p : Nat) : Nat := if s.rdi SLOT_STATUS_vccq_1v2 p = 1 then 1200 else 1800

/-- Slot power in µW: VCC (3.3 V) and VCCQ of both slots. -/
def State.slotMicrowatts (s : State) (x : PowerIn) : Nat :=
  3300 * x.vccA + s.vccqMv 0 * x.vccqA + 3300 * x.vccB + s.vccqMv 1 * x.vccqB

/-- P_die in units of 2^-16 µW, held between 0 W and 25 W (R148). -/
def State.dieMicro65536 (s : State) (pinCw slotUw : Nat) : Int :=
  let p : Int := (s.rd THM_MODEL_CTRL_k_eff : Int) * ((pinCw * 10000 : Nat) - (slotUw : Int)) -
    ((s.rd THM_MODEL_CTRL_p_other_cw * 10000 * 65536 : Nat) : Int)
  max 0 (min (25000000 * 65536) p)

/-- One pole's new ΔT (R149). -/
def poleStep (dt p : Int) (r alpha : Nat) : Int := dt + (alpha : Int) * (p * (r : Int) * 64 / 1000000 - dt) / 2 ^ 24

/-- The four poles updated with the coefficients in force (R149, R153). -/
def State.poles (s : State) (p : Int) : List Int :=
  (List.range 4).map (fun k => poleStep (s.heat.dT.getD k 0) p (s.rdi THM_POLE_R_r k) (s.rdi THM_POLE_A_alpha k))

/-- ΔT_k reported in THM_POLE_DT. -/
def State.putPoles (s : State) : State :=
  (List.range 4).foldl (fun s k => s.wri THM_POLE_DT_dt k (enc16 (sixteenths (s.heat.dT.getD k 0)))) s

/-- sustain_cw: (warn_c - hyst_c - T_ntc) ÷ ΣR_k in centiwatts, held at 0 or above (R170); with every r at 0 the manual
states no quotient, and the value is free. -/
def State.sustain (s : State) : Nat :=
  let sumR := (List.range 4).foldl (fun n k => n + s.rdi THM_POLE_R_r k) 0
  let num : Int := (((s.rd THM_LIMITS_warn_c : Int) - (s.rd THM_LIMITS_hyst_c : Int)) * 16 - s.ntc16) * 100 * 1024
  if sumR = 0 then (Config.sustainNoResistance (enc16 s.ntc16)).toNat
  else (max 0 (min 65535 (num / (16 * (sumR : Int))))).toNat

/-- The thresholds act on T_est (R155 to R160, R164, R165). -/
def State.thresholds (s : State) (t : Int) : State :=
  let fault := s.rd THM_STATUS_sensor_fault = 1
  let s1 : State :=
    if !fault ∧ degC (s.rd THM_LIMITS_crit_c) ≤ t then
      { s with heat := { s.heat with critRun := min 2 (s.heat.critRun + 1) } }
    else { s with heat := { s.heat with critRun := 0 } }
  let s2 := if s1.heat.critRun = 2 ∧ s.heat.critRun = 1 then ((s1.raise THM_EVENT_critical).smbCause 6).trigger .thermal else s1
  let s3 :=
    if s2.thm = 0 then (if degC (s2.rd THM_LIMITS_warn_c) ≤ t then s2.enterGrace else s2)
    else if fault then s2
    else if t < degC (s2.rd THM_LIMITS_warn_c) - degC (s2.rd THM_LIMITS_hyst_c) then s2.heatRelease
    else if s2.thm = 2 then
      let b := s2.band t
      let l := s2.rd THM_STATUS_level
      if l < b then ({ s2 with heat := { s2.heat with holdRun := false } } : State).changeLevel b
      else { s2 with heat := { s2.heat with holdRun := b < l } }
    else s2
  s3

/-- A model update from a power sample. A grace timer that a smaller grace_ms has overtaken expires here (R168). -/
def State.modelUpdate (s : State) (pinCw slotUw : Nat) : State :=
  let p := s.dieMicro65536 pinCw slotUw
  let dT := s.poles p
  let t : Int := s.ntc16 * 2 ^ 28 + dT.foldl (· + ·) 0
  let first := !s.heat.updated
  let s1 : State := { s with heat := { s.heat with dT := dT, tEst := t, updated := true, stale := false } }
  let s2 := ((s1.putPoles.wr THM_STATUS_t_est (enc16 (sixteenths t))).wr THM_PDIE_p_die_cw
    ((p + 5000 * 65536) / (10000 * 65536)).toNat).wr THM_PDIE_sustain_cw s1.sustain
  let s3 := if first ∨ int16 (s2.rd THM_MAX_t_est_max) < sixteenths t then
      s2.wr THM_MAX_t_est_max (enc16 (sixteenths t)) else s2
  let s4 := if s3.thm = 1 ∧ s3.rd THM_GRACE_grace_ms ≤ s3.graceMs then s3.enterEnforce else s3
  s4.thresholds t

/-- The measurements of a sample (PWR_VIN to PWR_SLOTQ_I), with the events of R92 and R94. DESIGN CHOICE (log entry 138): VIN
has risen above the threshold when a sample lies above the one in force and the sample before it did not lie above the one in
force then. -/
def State.measurements (s : State) (x : PowerIn) (iin pin : Nat) : State :=
  let s1 := ((((s.wr PWR_VIN_vin_mv x.vinMv).wr PWR_VIN_iin_ma iin).wr PWR_PIN_pin_cw pin).wr PWR_PIN_pin_max_cw
    (max (s.rd PWR_PIN_pin_max_cw) pin)).wr PWR_VIN_MM_vin_min_mv (min (s.rd PWR_VIN_MM_vin_min_mv) x.vinMv)
  let s2 := ((((s1.wr PWR_VIN_MM_vin_max_dv (max (s.rd PWR_VIN_MM_vin_max_dv) (x.vinMv / 10))).wr
    PWR_SLOT_I_vcc_a_ma x.vccA).wr PWR_SLOT_I_vcc_b_ma x.vccB).wr PWR_SLOTQ_I_vccq_a_ma x.vccqA).wr
    PWR_SLOTQ_I_vccq_b_ma x.vccqB
  let above := s.rd PWR_VIN_WARN_vin_warn_mv < x.vinMv
  let rose := above && !s.pwr.vinAbove && s.rd PWR_VIN_WARN_vin_warn_en == 1
  let s3 : State := { s2 with pwr := { s2.pwr with vinAbove := above, vinMinStart := min s2.pwr.vinMinStart x.vinMv } }
  let s4 := if rose then s3.raise PWR_EVENT_vin_warn else s3
  if 60000 < x.vinMv then s4.raise PWR_EVENT_vin_high else s4

/-- The current-sense self-test of R163: three consecutive passes clear its condition (R166). -/
def State.senseTest (s : State) (inc : Nat) : State :=
  if 80 ≤ inc ∧ inc ≤ 120 then
    let n := min 3 (s.heat.isensePass + 1)
    { s with heat := { s.heat with isensePass := n, isenseFail := s.heat.isenseFail && n < 3 } }
  else
    ({ s with heat := { s.heat with isensePass := 0, isenseFail := true } } : State).sensorFault 2

/-- What is left of a port's media debt after a 10 µs window: a window pays for the share media_pct of the bytes that the data
bus moves in 10 µs at the port's rate, and level 0 has no cap (R159). -/
def State.mediaPaid (s : State) (p : Nat) : Nat :=
  let l := s.rd THM_STATUS_level
  let rate := s.rdi SLOT_STATUS_rate_mts p
  if l = 0 ∨ rate = 0 then 0 else s.heat.mediaDebt.getD p 0 - rate * s.rdi THM_LEVEL_media_pct (l - 1) / 10

/-- A 10 µs window begins: the stream and media caps of the level in force (R159), and the fetches write what they hold of it
(R528). -/
def State.strmWindow (s : State) : State :=
  ({ s with
    heat := { s.heat with
      strmLevel := s.rd THM_STATUS_level, strmCap := s.rdi THM_LEVEL_strm_cap (s.rd THM_STATUS_level - 1), strmBytes := 0
      mediaDebt := [s.mediaPaid 0, s.mediaPaid 1] }
    strm := { s.strm with fetches := s.strm.fetches.map (fun f => { f with paced := 0 }) } } : State).pumpFetches

/-- POWER_SAMPLE: one 10 µs sample (R148, R149, R154). -/
def execPowerSample (ps : PowerIn) (s : State) : Out :=
  if !s.powered then ok s
  else
    let iin := match ps.selfTest with
      | some _ => ps.iinMa - 100
      | none => ps.iinMa
    let pin := centiwatts ps.vinMv iin
    let s1 := s.measurements ps iin pin
    let s2 := s1.strmWindow
    let s3 := match ps.selfTest with
      | some inc => s2.senseTest inc
      | none => s2
    ok (s3.modelUpdate pin (s3.slotMicrowatts ps))

/-- NTC_SAMPLE: the 1 ms reading of the NTC: its code and the temperature in 1/16 °C that it converts to, before the
holding of R150. DESIGN CHOICE (log entry 187): nothing ties the two operands to each other, nor to ntc_r25 and ntc_beta. The model's millisecond counts advance with it. -/
def execNtcSample (raw : BitVec 12) (conv : Int) (s : State) : Out :=
  if !s.powered then ok s
  else
    let held := max (-640) (min 2400 conv)
    let o := if conv < -640 then min 10 (s.heat.openRun + 1) else 0
    let h := if 2400 < conv then min 10 (s.heat.shortRun + 1) else 0
    let enf := s.thm = 2
    let s1 : State := { s with heat := { s.heat with
      openRun := o, shortRun := h, ntcOpen := o == 10, ntcShort := h == 10
      enforceTotalMs := if enf then countUp 32 s.heat.enforceTotalMs else s.heat.enforceTotalMs } }
    let s2 := (s1.wr THM_NTC_t_ntc (enc16 held)).wr THM_NTC_ntc_raw raw.toNat
    let s3 := if enf then s2.inc THM_ENF_COUNT_enforce_ms else s2
    let s4 := if s3.thm = 1 then s3.wr THM_GRACE_grace_left_ms (s3.rd THM_GRACE_grace_ms - s3.graceMs) else s3
    let s5 := if s4.heat.ntcOpen then s4.sensorFault 0 else s4
    ok (if s5.heat.ntcShort then s5.sensorFault 1 else s5)

/-- GRACE_EXPIRY: the grace timer expires (R157). -/
def execGraceExpiry (s : State) : Out := if s.thm = 1 then ok s.enterEnforce else ok s

/-- LEVEL_HOLD_EXPIRY: the band level has stayed below the level in force for hold_ms: the level falls by one band, and
the hold count starts again (R158). -/
def execLevelHoldExpiry (s : State) : Out :=
  if s.thm = 2 ∧ s.rd THM_STATUS_sensor_fault = 0 ∧ s.heat.holdRun then
    let l := s.rd THM_STATUS_level
    let s1 : State := { s with heat := { s.heat with holdRun := s.band s.heat.tEst < l - 1 } }
    ok (s1.changeLevel (l - 1))
  else ok s

/-- MODEL_STALE: the SIC side has received no model update for 40,000 plies (R163). -/
def execModelStale (s : State) : Out :=
  if !s.powered then ok s
  else ok (({ s with heat := { s.heat with stale := true } } : State).sensorFault 3)

/-- SENSOR_FAULT_CLEAR: no fault condition has been present for 100 ms (R166). -/
def execSensorFaultClear (s : State) : Out :=
  if s.rd THM_STATUS_sensor_fault = 1 ∧ !s.faultPresent then
    let s1 : State := { s with heat := { s.heat with holdRun := false } }
    ok ((((s1.wr THM_STATUS_sensor_fault 0).wr THM_STATUS_est_valid 1).wr THM_FAULT_fault_src 0).throttle.raise
      THM_EVENT_sensor_ok)
  else ok s

/-! ### THM commands -/

/-- THM.QUERY: its 24 response bytes. -/
def State.thmResp (s : State) : List Byte :=
  leBytes 2 (s.rd THM_STATUS_t_est) ++ leBytes 2 (s.rd THM_NTC_t_ntc) ++ leBytes 2 (s.rd THM_MAX_t_est_max) ++
    leBytes 1 s.thm ++ leBytes 1 (s.rd THM_STATUS_level) ++ leBytes 2 (s.rd THM_PDIE_p_die_cw) ++
    leBytes 2 (s.rd THM_PDIE_sustain_cw) ++ leBytes 2 (if s.thm = 1 then s.rd THM_GRACE_grace_left_ms else 0) ++
    leBytes 1 (s.rd THM_STATUS_sensor_fault + 2 * s.rd THM_STATUS_throttle_active + 4 * s.rd THM_STATUS_est_valid +
      8 * b2n (s.claimed 2) + 16 * b2n (s.rd THM_STATUS_level < s.rd CHN_GROUP_group_level)) ++
    leBytes 1 (s.rd THM_FAULT_fault_src) ++ leBytes 4 s.heat.warnTotal ++ leBytes 4 s.heat.enforceTotalMs

/-- THM.QUERY (0x0301). -/
def execThmQuery (m : Mb) (s : State) : Out := runCmd m 0x0301 s (fun _ s => s.okResp m s.thmResp)

/-- The allowed values of THM_LIMITS (R167). -/
def limitsAllowed (warn crit hyst step hold : Nat) : Bool :=
  60 ≤ warn && warn + 6 ≤ crit && 105 ≤ crit && crit ≤ 118 && 1 ≤ hyst && hyst ≤ 15 && 1 ≤ step && step ≤ 15 &&
    1 ≤ hold && hold ≤ 255

/-- THM.LIMITS_SET (0x0302, R167): the values are written before the command completes; the next model update uses
them. -/
def execThmLimitsSet (m : Mb) (s : State) : Out :=
  runCmd m 0x0302 s (fun c s =>
    let w := c.u8 0
    let cr := c.u8 1
    checked m [need (60 ≤ w && w + 6 ≤ cr) 0, need (105 ≤ cr && cr ≤ 118) 1, need (1 ≤ c.u8 2 && c.u8 2 ≤ 15) 2,
               need (1 ≤ c.u8 3 && c.u8 3 ≤ 15) 3, need (1 ≤ c.u16 4 && c.u16 4 ≤ 10000) 4, need (1 ≤ c.u8 6) 6,
               c.notZero 7 1] s (fun s =>
      ((((((s.wr THM_LIMITS_warn_c w).wr THM_LIMITS_crit_c cr).wr THM_LIMITS_hyst_c (c.u8 2)).wr THM_LIMITS_step_c
        (c.u8 3)).wr THM_LIMITS_hold_ms (c.u8 6)).wr THM_GRACE_grace_ms (c.u16 4)).okResp m []))

/-- THM.LEVELS_SET (0x0303, R169). -/
def execThmLevelsSet (m : Mb) (s : State) : Out :=
  runCmd m 0x0303 s (fun c s =>
    let adm (n : Nat) := c.u16 (6 * n)
    let strm (n : Nat) := c.u16 (6 * n + 2)
    let pct (n : Nat) := c.u8 (6 * n + 4)
    let okv (f : Nat → Nat) (hi low n : Nat) : Bool :=
      1 ≤ f n && f n ≤ hi && (n == 0 || f n ≤ f (n - 1)) && (n != 2 || low ≤ f n)
    let chk (n : Nat) : List (Option Nat) :=
      [need (okv adm 400 (s.rdi THM_LEVEL_adm_cap 3) n) (6 * n),
       need (okv strm 1023 (s.rdi THM_LEVEL_strm_cap 3) n) (6 * n + 2),
       need (okv pct 100 (s.rdi THM_LEVEL_media_pct 3) n) (6 * n + 4), c.notZero (6 * n + 5) 1]
    checked m (chk 0 ++ chk 1 ++ chk 2) s (fun s =>
      ((List.range 3).foldl (fun s n => ((s.wri THM_LEVEL_adm_cap n (adm n)).wri THM_LEVEL_strm_cap n
        (strm n)).wri THM_LEVEL_media_pct n (pct n)) s).okResp m []))

/-- THM.MODEL_QUERY (0x0304). -/
def execThmModelQuery (m : Mb) (s : State) : Out :=
  runCmd m 0x0304 s (fun _ s =>
    s.okResp m ((List.range 4).flatMap (fun k =>
        leBytes 2 (s.rdi THM_POLE_R_r k) ++ leBytes 3 (s.rdi THM_POLE_A_alpha k) ++ leBytes 1 0 ++
          leBytes 2 (s.rdi THM_POLE_DT_dt k)) ++
      leBytes 2 (s.rd THM_MODEL_CTRL_k_eff) ++ leBytes 2 (s.rd THM_MODEL_CTRL_p_other_cw) ++
      leBytes 2 (s.rd THM_NTC_CAL_ntc_r25) ++ leBytes 2 (s.rd THM_NTC_CAL_ntc_beta)))

end Sys2Proof.Machine
end

