-- ==== Sys2Proof/Machine/Smb.lean ====
section
/-! DEFINITION. The SMBus target for board management (R725 to R730; chapter *Pins and the crossbar*). -/

namespace Sys2Proof.Machine
open Reg

/-- One bit step of the SMBus packet error code: CRC-8 with polynomial 0x07. -/
def pecStep (c : Byte) : Byte := if c.getLsbD 7 then (c <<< 1) ^^^ 0x07 else c <<< 1

/-- The packet error code over a byte string (SMBus 3.1). -/
def pecOf : Byte → List Byte → Byte
  | c, [] => c
  | c, b :: bs => pecOf (pecStep (pecStep (pecStep (pecStep (pecStep (pecStep (pecStep (pecStep (c ^^^ b))))))))) bs

/-- The target answers: enabled, its island powered, and its pads not held by the boundary register. -/
def State.smbAnswers (s : State) : Bool := s.powered && s.rd PIN_SMB_CFG_en == 1 && !s.scanOwns

/-- The address byte of the target: smb_addr shifted left by one, with the read bit. -/
def State.smbAddr (s : State) (read : Nat) : Byte := BitVec.ofNat 8 (2 * s.rd PIN_SMB_CFG_smb_addr + read)

/-- What the target did in a transaction addressed to it: the bytes that it sent, or none for a NACK. -/
def State.smbSend (s : State) (out : Option (List Byte)) : State := { s with pins := { s.pins with smbOut := out } }

/-- A read of command code `code` that returns `data`: the bytes, with PEC while pec_en is 1 (R725, R726). -/
def State.smbRead (s : State) (code : Nat) (data : List Byte) : State :=
  if !s.smbAnswers then s.smbSend none
  else
    let pec := pecOf 0 ([s.smbAddr 0, BitVec.ofNat 8 code, s.smbAddr 1] ++ data)
    (s.smbSend (some (data ++ (if s.rd PIN_SMB_CFG_pec_en = 1 then [pec] else [])))).inc PIN_SMB_COUNT_transactions

/-- A block of bytes: its count, then the bytes. -/
def smbBlock (data : List Byte) : List Byte := leBytes 1 data.length ++ data

/-- A write of command code `code` with `data`, a block with its count in front: NACKed and counted when PEC is required and
missing or wrong (R725), else its effect. -/
def State.smbWrite (s : State) (code : Nat) (data : List Byte) (pec : Option Byte) (effect : State → State) : State :=
  if !s.smbAnswers then s.smbSend none
  else
    let want := pecOf 0 ([s.smbAddr 0, BitVec.ofNat 8 code] ++ data)
    if s.rd PIN_SMB_CFG_pec_en = 1 ∧ pec ≠ some want then (s.smbSend none).inc PIN_SMB_COUNT_pec_errors
    else (effect (s.smbSend (some []))).inc PIN_SMB_COUNT_transactions

/-- The status word of command code 0x01 (R726). -/
def State.smbStatus (s : State) : Nat :=
  s.rd CHN_STATUS_role % 4 + 4 * s.rd GLB_STATUS_fw_ready + 8 * s.rd GLB_STATUS_fatal +
    16 * s.rd THM_STATUS_throttle_active + 32 * s.rd THM_STATUS_sensor_fault + 64 * (s.rd THM_STATUS_level % 8) +
    512 * (s.rd PWR_STATE_state % 8) + 4096 * b2n (s.slotState 0 == slReady) + 8192 * b2n (s.slotState 1 == slReady)

/-- Cause bits cleared; with every enabled one clear, SMB_ALERT_N is released (R729). -/
def State.clearCauses (s : State) (mask : Nat) : State :=
  let t := s.wr PIN_SMB_CAUSE_cause (s.rd PIN_SMB_CAUSE_cause &&& (127 - mask % 128))
  if t.rd PIN_SMB_CAUSE_cause &&& t.rd PIN_SMB_CFG_alert_mask = 0 then { t with pins := { t.pins with smbAlert := false } } else t

/-- A read of command code 0x11: the register at the offset set last, without side effects (R727), while this transaction runs. -/
def State.smbRegRead (s : State) : State :=
  let off := s.rd PIN_SMB_REGPTR_offset
  (s.smbRead 0x11 (smbBlock (leBytes 4 ((s.wr PIN_STATUS_smb_active 1).viewReg off)))).pastView off

/-- A protocol of the target, with the bytes of a write and the packet error code that came with it (R725). -/
inductive SmbProto where
  | readByte | readWord | blockRead
  | writeByte (b : Byte) (pec : Option Byte)
  | blockWrite (data : List Byte) (pec : Option Byte)
  deriving DecidableEq, Repr

/-- A transaction with command code `code`: the codes of the table each with its own protocol, and a NACK for every other code and
protocol (R726). -/
def State.smbTarget (s : State) (code : Nat) (proto : SmbProto) : State :=
  match code, proto with
  | 0x01, .readWord => s.smbRead 0x01 (leBytes 2 s.smbStatus)
  | 0x02, .readWord => s.smbRead 0x02 (leBytes 2 (s.rd THM_STATUS_t_est))
  | 0x03, .readWord => s.smbRead 0x03 (leBytes 2 (s.rd THM_NTC_t_ntc))
  | 0x04, .readWord => s.smbRead 0x04 (leBytes 2 (s.rd PWR_VIN_vin_mv))
  | 0x05, .readWord => s.smbRead 0x05 (leBytes 2 (s.rd PWR_PIN_pin_cw))
  | 0x06, .readWord => s.smbRead 0x06 (leBytes 2 (s.rd THM_PDIE_sustain_cw))
  | 0x07, .readByte => s.smbRead 0x07 (leBytes 1 (s.rd PIN_SMB_CAUSE_cause))
  | 0x07, .writeByte mask pec => s.smbWrite 0x07 [mask] pec (fun s => s.clearCauses mask.toNat)
  | 0x08, .blockRead => s.smbRead 0x08 (smbBlock (leBytes 8 s.moduleSerial))
  | 0x10, .blockWrite data pec =>
    let off := leNat data
    if data.length = 4 ∧ off < 0x100000 ∧ off % 4 = 0 then
      s.smbWrite 0x10 (smbBlock data) pec (fun s => s.wr PIN_SMB_REGPTR_offset off)
    else s.smbSend none
  | 0x11, .blockRead => s.smbRegRead
  | _, _ => s.smbSend none

/-- SMB_STATUS_READ: code 0x01. -/
def execSmbStatusRead (s : State) : Out := ok (s.smbTarget 0x01 .readWord)

/-- SMB_T_EST_READ: code 0x02. -/
def execSmbTEstRead (s : State) : Out := ok (s.smbTarget 0x02 .readWord)

/-- SMB_T_NTC_READ: code 0x03. -/
def execSmbTNtcRead (s : State) : Out := ok (s.smbTarget 0x03 .readWord)

/-- SMB_VIN_READ: code 0x04. -/
def execSmbVinRead (s : State) : Out := ok (s.smbTarget 0x04 .readWord)

/-- SMB_PIN_READ: code 0x05. -/
def execSmbPinRead (s : State) : Out := ok (s.smbTarget 0x05 .readWord)

/-- SMB_SUSTAIN_READ: code 0x06. -/
def execSmbSustainRead (s : State) : Out := ok (s.smbTarget 0x06 .readWord)

/-- SMB_CAUSE_READ: code 0x07, a byte; the causes stay. -/
def execSmbCauseRead (s : State) : Out := ok (s.smbTarget 0x07 .readByte)

/-- SMB_CAUSE_CLEAR: a byte written to code 0x07. -/
def execSmbCauseClear (mask : Byte) (pec : Option Byte) (s : State) : Out := ok (s.smbTarget 0x07 (.writeByte mask pec))

/-- SMB_SERIAL_READ: code 0x08, the module serial number in force. -/
def execSmbSerialRead (s : State) : Out := ok (s.smbTarget 0x08 .blockRead)

/-- SMB_REGPTR_WRITE: code 0x10; an offset that is not below 0x0010_0000 and 4-byte aligned is NACKed (R726). -/
def execSmbRegptrWrite (off : BitVec 32) (pec : Option Byte) (s : State) : Out :=
  ok (s.smbTarget 0x10 (.blockWrite (leBytes 4 off.toNat) pec))

/-- SMB_REG_READ: code 0x11. -/
def execSmbRegRead (s : State) : Out := ok (s.smbTarget 0x11 .blockRead)

/-- SMB_ALERT_RESPONSE: a read of address 0x0C. The module answers while its SMB_ALERT_N is asserted, with its own address,
and releases it (R729). -/
def execSmbAlertResponse (s : State) : Out :=
  if s.smbAnswers && s.pins.smbAlert then
    let a := s.smbAddr 0
    let pec := pecOf 0 [0x19, a]
    let t := s.smbSend (some ([a] ++ (if s.rd PIN_SMB_CFG_pec_en = 1 then [pec] else [])))
    ok (({ t with pins := { t.pins with smbAlert := false } } : State).inc PIN_SMB_COUNT_transactions)
  else ok (s.smbSend none)

/-- SMB_TIMEOUT: SMB_SCL low for more than 25 ms (R730). -/
def execSmbTimeout (s : State) : Out :=
  if s.smbAnswers then ok (((s.smbSend none).inc PIN_SMB_COUNT_timeouts).raise PIN_EVENT_smb_timeout) else ok s

end Sys2Proof.Machine
end

