-- ==== Sys2Proof/Machine/Windows.lean ====
section
/-! DEFINITION. The indirect table windows (R192 to R199), raw mode (R624, R625), and what a read that meets poison leaves
behind (R201). -/

namespace Sys2Proof.Machine
open Reg

/-- The structure and the view that a window code of R193 names: the merged view, or one copy. -/
def winView (code : Nat) : Option (Nat × Option Nat) :=
  match code with
  | 0x01 => some (0x01, none) | 0x02 => some (0x02, none) | 0x03 => some (0x02, some 0) | 0x04 => some (0x02, some 1)
  | 0x10 => some (0x10, none) | 0x11 => some (0x10, some 0) | 0x12 => some (0x10, some 1)
  | 0x13 => some (0x13, none) | 0x14 => some (0x13, some 0) | 0x15 => some (0x13, some 1)
  | 0x20 => some (0x20, none) | 0x21 => some (0x20, some 0) | 0x22 => some (0x20, some 1)
  | 0x50 => some (0x50, none) | 0x51 => some (0x51, none) | 0x60 => some (0x60, none) | 0x61 => some (0x61, none)
  | c =>
    if 0x30 ≤ c ∧ c ≤ 0x36 then some (c, none)
    else if 0x38 ≤ c ∧ c ≤ 0x3E then some (c - 8, some 0)
    else if 0x40 ≤ c ∧ c ≤ 0x46 then some (c - 16, some 1) else none

/-- The owner block for writes through a window code (R193); none: read only. -/
def winOwner (code : Nat) : Option Nat :=
  match code with
  | 0x01 | 0x02 => some 9
  | 0x10 | 0x13 => some 10
  | 0x20 => some 11
  | 0x50 => some 18
  | 0x60 => some 19
  | c => if 0x30 ≤ c ∧ c ≤ 0x36 then some 12 else none

/-- The bytes of a structure in its window layout (R193). -/
def winSize (sid : Nat) : Nat := if sid = 0x61 then 2048 else sidSize sid

/-- A window access has one of the forms of R194. -/
def winForm (off len : Nat) : Bool :=
  (len == 4 && off % 4 == 0) ||
    (8 ≤ len && len ≤ 64 && len % 8 == 0 && off % 8 == 0 && off / 64 == (off + len - 1) / 64)

/-- The code, the byte offset in the structure, and the structure and view that an access at offset `off` of window `n`
reaches (R192, R196); none: the window is closed. DESIGN CHOICE (log entry 189): a code that R193 does not list, 0x00 among them, closes
it too. -/
def State.winAt (s : State) (n off : Nat) : Option (Nat × Nat × Nat × Option Nat) :=
  let code := s.rdi GLB_WIN_SEL_win_struct n
  if s.rdi GLB_WIN_SEL_win_en n = 0 then none
  else (winView code).map (fun v => (code, s.rdi GLB_WIN_BASE_win_base n + off, v.1, v.2))

/-- A read that meets a gated or changing ternary block returns zeros (R319). -/
def State.winDark (s : State) (sid wi : Nat) : Bool := sid == 0x01 && !s.blkPowered (wi / 16384)

/-- An OTP byte that always reads as zero (R690). -/
def otpHidden (o : Nat) : Bool := (0x1A8 ≤ o && o < 0x1C8) || (0x27C ≤ o && o < 0x280)

/-- An 8-byte word of a structure as a view shows it, and whether it carries poison (R198). -/
def State.winWord (s : State) (sid : Nat) (view : Option Nat) (wi : Nat) : List Byte × Bool :=
  if winSize sid < 8 * wi + 8 ∨ s.winDark sid wi then (List.replicate 8 0, false)
  else if sid = 0x61 then
    ((List.range 8).map (fun j => if otpHidden (8 * wi + j) then 0 else memByte s.mem (dataBase sidOtp 0 + 8 * wi + j)), false)
  else match view with
    | none => let r := readWord s.mem sid wi; (r.data, r.poison)
    | some c => let r := readRaw s.mem sid c wi; (r.data, r.syn != 0)

/-- The check bits of a word in one copy, bit b covering byte b. -/
def State.wordChecks (s : State) (sid copy wi : Nat) : Nat :=
  if unit32 sid then
    let chk := leNat ((unitRaw s.mem sid copy (wi / 4)).drop 0x1C)
    bitsNat ((List.range 8).map (fun j => chk &&& checkCover sid (8 * (wi % 4) + j) != 0))
  else (memByte s.mem (checkBase sid copy + wi)).toNat

/-- Window writes of a structure take the check bits that the host supplies (R624). -/
def State.rawOn (s : State) (sid : Nat) : Bool :=
  s.rd INTEG_RAW_raw_en == 1 && s.rd INTEG_RAW_raw_sid == sid && s.claimed 13

/-- rdchk takes the check bits of the last word that a window read of structure raw_sid has read (R625). -/
def State.noteRaw (s : State) (sid wi : Nat) : State :=
  if s.rd INTEG_RAW_raw_en = 1 ∧ s.rd INTEG_RAW_raw_sid = sid ∧ sid ≠ 0x61 ∧ 8 * wi + 8 ≤ winSize sid then
    s.wr INTEG_RAW_RDCHK_rdchk
      (s.wordChecks sid 0 wi + 256 * (if paired sid then s.wordChecks sid 1 wi else 0))
  else s

/-- A completion that carries poison: poison_rd and poison_read (R201). -/
def State.poisonSent (s : State) : State := (s.inc GLB_ERR_CNT_poison_rd).raise GLB_STATUS_poison_read

/-- A read completed with Completer Abort (R182, R194). -/
def State.abortRead (s : State) : State := (s.aerAdvisory .completerAbort).reply [] false .completerAbort

/-- An access to a structure of the gated blocks is a DOZE exit trigger (R116). -/
def State.winWakes (s : State) (sid : Nat) : State := if sid ≤ 0x46 then s.exitDoze else s

/-- The words of a window read, in ascending order: a merged view's are reported as a consumer's (R195, R198). -/
def State.winReadWords (s : State) (sid : Nat) (view : Option Nat) (wi n : Nat) : State :=
  (List.range n).foldl (fun s k =>
    if view.isNone && sid != 0x61 && 8 * (wi + k) + 8 ≤ winSize sid && !s.winDark sid (wi + k) then
      s.reportRead sid (wi + k) 2 (s.wordTable sid (wi + k)) else s) s

/-- A host read of `len` bytes at offset `off` of window `n` (R194 to R198). -/
def State.winRead (s : State) (n off len : Nat) : State :=
  if !winForm off len then s.abortRead
  else match s.winAt n off with
    | none => s.reply (List.replicate len 0) false .success
    | some (_, o, sid, view) =>
      let wi := o / 8
      let k := (len + 7) / 8
      let words := (List.range k).map (fun j => s.winWord sid view (wi + j))
      let ep := words.any (·.2)
      let data := ((words.flatMap (·.1)).drop (o % 8)).take len
      let s1 := s.winReadWords sid view wi k
      let s2 := s1.noteRaw sid (wi + k - 1)
      let s3 := if sid = 0x60 then s2.cadRead o len else s2
      (if ep then s3.poisonSent else s3).reply data ep .success

/-! ### Writes (R197) -/

/-- Whether word `wi` of a structure may be written through a window by the host that claims its owner: it lies in the
structure, in a powered ternary block that is not the guard's (R319, R351), and in control core RAM only while the core is
held in reset or halted (R646). -/
def State.winMay (s : State) (sid wi : Nat) : Bool :=
  8 * wi + 8 ≤ winSize sid && !s.winDark sid wi && (sid != 0x01 || wi / 16384 < 248) && (sid != 0x02 || (wi / 4096 < 248 && s.blkPowered (wi / 4096))) &&
    (sid != 0x50 || s.rd CORE_STATUS_ctl_state == 0 || s.rd DBG_HALT_ctl_halt == 1)

/-- The bits of byte `i` of a 32-byte unit that a window write stores (R317, R366): the reserved ones stay 0, and pe_seen is
cleared by any write to its slot (R338). -/
def winMask (sid i : Nat) : Byte :=
  if sid = 0x01 then
    if i = 0x0C then 1 else if (0x0D ≤ i ∧ i < 0x10) ∨ (0x1A ≤ i ∧ i < 0x1C) then 0 else if i = 0x1E then 0x7F
    else if i = 0x1F then 0 else 0xFF
  else if i = 0x19 then 0x3F else if i = 0x1F then 0x0F else 0xFF

/-- The bytes of a 32-byte unit after a raw write: the data and the check bits that the host supplies (R624). -/
def rawUnitPut (u : List Byte) (i : Nat) (bs : List Byte) : List Byte := (u.take i ++ bs ++ u.drop (i + bs.length)).take 32

/-- pe_seen of an array slot cleared by a write to it (R338). -/
def State.winUnseen (s : State) (sid ui : Nat) : State :=
  if sid = 0x01 then
    let u := s.slot ui
    { s with mem := putUnitRaw s.mem sidArray 0 ui (u.take 0x0C ++ [u.getD 0x0C 0 &&& 0xFD] ++ u.drop 0x0D) }
  else s

/-- Bytes of one 32-byte unit written through a window from byte `i` of the unit on. -/
def State.winPutUnit (s : State) (sid ui i : Nat) (bs : List Byte) : State :=
  let bs := (List.range bs.length).map (fun j => bs.getD j 0 &&& winMask sid (i + j))
  let s0 := (s.winUnseen sid ui).unlist sid ui
  if s.rawOn sid then
    let m := (copies sid).foldl (fun m c => putUnitRaw m sid c ui (rawUnitPut (unitRaw m sid c ui) i bs)) s0.mem
    (({ s0 with mem := m } : State).forget sid (32 * ui + i) (32 * ui + i + bs.length)).fireFlip sid ui
  else s0.storeUnitBytes sid ui i (bs.map some)

/-- Bytes of one 8-byte word written through a window from byte `i` of the word on. -/
def State.winPutWord (s : State) (sid wi i : Nat) (bs : List Byte) : State :=
  if s.rawOn sid then
    let chk := BitVec.ofNat 8 (s.rd INTEG_RAW_CHECK_raw_check)
    let m := (copies sid).foldl (fun m c =>
      let d := memBytes m (dataBase sid c + 8 * wi) 8
      putWordRaw m sid c wi (d.take i ++ bs ++ d.drop (i + bs.length)) chk) s.mem
    (({ s with mem := m } : State).forget sid (8 * wi) (8 * wi + 8)).fireFlip sid wi
  else s.storeBytes sid (8 * wi + i) (bs.map some)

/-- The aligned words that bytes at offset `o` touch: each word with the first byte written and the bytes. -/
def winWords : Nat → Nat → List Byte → List (Nat × Nat × List Byte)
  | 0, _, _ => []
  | _, _, [] => []
  | n + 1, o, bs => (o / 8, o % 8, bs.take (8 - o % 8)) :: winWords n (o + (8 - o % 8)) (bs.drop (8 - o % 8))

/-- Words gathered by the 32-byte unit they lie in. -/
def winUnits : List (Nat × Nat × List Byte) → List (Nat × Nat × List Byte)
  | [] => []
  | (wi, i, bs) :: ws =>
    match winUnits ws with
    | (ui, j, cs) :: us =>
      if ui = wi / 4 ∧ j = 8 * (wi % 4) + i + bs.length then (ui, 8 * (wi % 4) + i, bs ++ cs) :: us
      else (wi / 4, 8 * (wi % 4) + i, bs) :: (ui, j, cs) :: us
    | [] => [(wi / 4, 8 * (wi % 4) + i, bs)]

/-- Bytes written at offset `o` of a structure by the host that may; what may not be written is discarded and sets
bad_write. -/
def State.winStore (s : State) (sid o : Nat) (bs : List Byte) : State :=
  let ws := winWords (bs.length + 1) o bs
  let good := ws.filter (fun w => s.winMay sid w.1)
  let s1 :=
    if unit32 sid then (winUnits good).foldl (fun s u => s.winPutUnit sid u.1 u.2.1 u.2.2) s
    else good.foldl (fun s w => s.winPutWord sid w.1 w.2.1 w.2.2) s
  if good.length = ws.length then s1 else s1.badWrite

/-- Poison stored in every word that a write with EP set touches: the bytes written take the new data (R203, R594). -/
def State.winPoison (s : State) (sid o : Nat) (bs : List (Option Byte)) : State :=
  let lo := o / 8
  let n := (o + bs.length + 7) / 8 - lo
  (List.range n).foldl (fun s k =>
    let wi := lo + k
    let at_ (j : Nat) : Option Byte := if 8 * wi + j < o then none else (bs[8 * wi + j - o]?).getD none
    if (List.range 8).all (fun j => (at_ j).isNone) then s
    else if !s.winMay sid wi then s.badWrite
    else
      let s := if unit32 sid then (s.winUnseen sid (wi / 4)).unlist sid (wi / 4) else s
      let old := (readWord s.mem sid wi).data
      let new := (List.range 8).map (fun j => match at_ j with
        | some b => if unit32 sid then b &&& winMask sid (8 * (wi % 4) + j) else b
        | none => old.getD j 0)
      s.storePoison sid wi new) s

/-- Whether the host may write through window code `code`: it claims the owner block (R197). -/
def State.winOwned (s : State) (code : Nat) : Bool := match winOwner code with | some b => s.claimed b | none => false

/-- The host has written bytes of a stage memory; while the overlay is armed, its rewrite leaves them alone (R418). -/
def State.noteHostBytes (s : State) (sid o len : Nat) : State :=
  if s.rd LPM_OVL_CTRL_armed = 1 ∧ (List.range 7).any (fun k => sidStage k == sid) then
    { s with tbl := { s.tbl with
      hostBytes := s.tbl.hostBytes ++
        ((List.range len).filter (fun k => s.winMay sid ((o + k) / 8))).map (fun k => (sid, o + k)) } }
  else s

/-- A host write at offset `off` of window `n`, with EP set or not (R194, R196, R197, R203). -/
def State.winWrite (s : State) (n off : Nat) (data : List (Option Byte)) (ep : Bool) : State :=
  let s := s.touchLink
  if s.isFollower then s
  else if !winForm off data.length || data.any (·.isNone) then s.badSize
  else match s.winAt n off with
    | none => s.badWrite
    | some (code, o, sid, _) =>
      let s1 := s.winWakes sid
      if !s1.winOwned code then s1.badWrite
      else
        let s2 := if sid = 0x60 then s1.addi CADDY_WRITES_lines_written 0 (linesOf o data.length) else s1
        (if ep then s2.winPoison sid o data else s2.winStore sid o (data.map (·.getD 0))).noteHostBytes sid o data.length

/-- The offset of an access in its window. -/
def winOff (off : Nat) : Nat := off % 0x20000

/-- WINDOW_READ. -/
def execWindowRead (n : Fin 8) (off len : Nat) (s : State) : Out := ok (s.winRead n.val (winOff off) len)

/-- WINDOW_WRITE. -/
def execWindowWrite (n : Fin 8) (off : Nat) (data : List (Option Byte)) (s : State) : Out :=
  ok (s.winWrite n.val (winOff off) data false)

end Sys2Proof.Machine
end

