-- ==== Sys2Proof/Machine/HostRegs.lean ====
section
/-! DEFINITION. Register reads and writes as the host performs them, one 32-bit access at a time (R11 to R18, R180 to
R191), and the checks of the registers that have no operation of their own. -/

namespace Sys2Proof.Machine
open Reg

/-! ### Reads -/

/-- The read-to-clear fields of a register cleared (R11). -/
def State.clearRc (s : State) (off : Nat) : State :=
  (regFields off).foldl (fun s fi => if fi.1.acc = .rc then s.wri fi.1 fi.2 0 else s) s

/-- The oldest received byte of UART `u` leaves its FIFO. -/
def State.uartPop (s : State) (u : Nat) : State := s.setUart u { s.uart u with rx := (s.uart u).rx.drop 1 }

/-- The offset of PIN_Uu_RX, and of SLOT_OP_DATA. -/
def uartRxOff (u : Nat) : Nat := 0x6214 + 0x20 * u
def slotDataOff (p : Nat) : Nat := 0xF04C + 0x100 * p

/-- The registers of the gated blocks that a driver reads on taking over a module: they are served in DOZE with no effect but
those of R182 (R793), so that reading them needs no gated block. -/
def takeoverReg (off : Nat) : Bool :=
  off == 0x8000 || off == 0x8040 || (0x8100 ≤ off && off < 0x9000) || (0x9800 ≤ off && off < 0x9C00 && off % 16 == 0) ||
    (0xA400 ≤ off && off < 0xA7F0 && off % 16 == 0) || (0xC100 ≤ off && off < 0xC140 && off % 16 == 0) || off == 0xE000 ||
    (0xE100 ≤ off && off < 0xE500)

/-- A 32-bit register read with its side effects: what it returns, and the state it leaves (R11, R180). A read of an
unassigned offset returns 0 (R183), and one of a gated block ends DOZE (R116; log entry 62). -/
def State.readReg (s0 : State) (off : Nat) : State × Nat :=
  let s := if takeoverReg off then s0 else s0.wakeReg off
  if off = slotDataOff 0 ∨ off = slotDataOff 1 then
    let p := (off - slotDataOff 0) / 0x100
    (s.wri SLOT_OP_PTR_ptr p (s.rdi SLOT_OP_PTR_ptr p + 4), s.viewReg off)
  else
    let v := s.viewReg off
    let s1 :=
      if off = CLK_PLY_LO_ply_lo.base then s.wr CLK_PLY_HI_ply_hi (s.clk.ply / 2 ^ 32)
      else if off = uartRxOff 0 ∨ off = uartRxOff 1 then s.uartPop ((off - uartRxOff 0) / 0x20)
      else s.clearRc off
    (s1.pastView off, v)

/-- A register read that meets poison, reported to the integrity block (R201). -/
def State.noteRegPoison (s : State) (off : Nat) : State :=
  if off = 0xE024 ∨ off = 0xE028 then s.reportRead 0x74 s.keepWord 2 0xFFFF
  else if off = 0xA074 then s.reportRead sidHitMap (s.rd HASH_HITMAP_IDX_hm_word / 2) 2 0xFFFF
  else s.cfgReport 2 (off / 8 * 8) (off / 8 * 8 + 8)

/-- UART_RX_POP: a host read of PIN_Uu_RX returns the oldest received byte with rx_valid, and pops it (R717). -/
def execUartRxPop (u : Fin 2) (s : State) : Out :=
  let r := s.readReg (uartRxOff u.val)
  ok (r.1.reply (leBytes 4 r.2) false .success)

/-! ### Statistics clears -/

/-- The minimum and maximum fields of a register with mm_clear back at their start values (R189). -/
def State.mmReset (s : State) (off : Nat) : State :=
  if off = 0x1018 then ((s.wr PWR_VIN_MM_vin_min_mv 0xFFFF).wr PWR_VIN_MM_vin_max_dv 0).wr PWR_PIN_pin_max_cw 0
  else if off = 0x2020 then s.wr THM_MAX_t_est_max (s.rd THM_STATUS_t_est)
  else if off = 0x3024 then (s.wr CLK_CANARY_MM_slack_min 0x7FF).wr CLK_CANARY_MM_slack_max 0
  else if off = 0xD054 then (s.wr INTEG_LAP_MIN_lap_min 0xFFFFFFFF).wr INTEG_LAP_MAX_lap_max 0
  else if off = 0xF02C then s.wri SLOT_ECC_max_bits 0 0
  else if off = 0xF12C then s.wri SLOT_ECC_max_bits 1 0
  else s

/-- A write of a register with mm_clear, which acts at both levels of control (R189). -/
def State.mmClear (s : State) (off : Nat) (w : RegWord) : State :=
  let s := s.touchLink
  if s.discards then s
  else
    let s1 := s.noteReserved off w
    if w.getLsbD 31 then s1.mmReset off else s1

/-- MM_CLEAR: a write of one of the registers with an mm_clear bit. -/
def execMmClear (off : Nat) (w : RegWord) (s : State) : Out :=
  if statClear off && off != 0x3160 then ok (s.mmClear off w) else ok s

/-! ### Registers without an operation of their own -/

/-- A register of an open queue pair or stream channel that only an open changes (R315, R540). -/
def State.openHeld (s : State) (off : Nat) : Bool :=
  (0x8100 ≤ off && off < 0x8400 && (off - 0x8100) % 0x30 != 0x18 && s.qOpen ((off - 0x8100) / 0x30)) ||
    (0xE100 ≤ off && off < 0xE500 && (off - 0xE100) % 0x40 != 0x18 && s.chOpen ((off - 0xE100) / 0x40))

/-- The value that a THM_LEVEL write carries breaks the order of R169. Level 4 is fixed: a value for it that keeps the order
is ignored like that of any RO field (R11). -/
def State.levelBad (s : State) (n : Nat) (w : RegWord) : Bool :=
  let ok1 (f : Fld) (hi : Nat) : Bool :=
    let v := fieldOf w f
    (n == 3 || (1 ≤ v && v ≤ hi && s.rdi f (n + 1) ≤ v)) && (n == 0 || v ≤ s.rdi f (n - 1))
  !(ok1 THM_LEVEL_adm_cap 400 && ok1 THM_LEVEL_strm_cap 1023 && ok1 THM_LEVEL_media_pct 100)

/-- A register write that changes nothing and sets bad_write, by the rules of the chapters that own the registers (R86,
R167, R169, R315, R369, R401, R428, R540, R624, R629, R665). -/
def State.plainRefused (s : State) (off : Nat) (w : RegWord) : Bool :=
  let v := w.toNat
  let f (fld : Fld) : Nat := fieldOf w fld
  if off = 0x2014 then
    !limitsAllowed (f THM_LIMITS_warn_c) (f THM_LIMITS_crit_c) (f THM_LIMITS_hyst_c) (f THM_LIMITS_step_c) (f THM_LIMITS_hold_ms)
  else if off = 0x2018 then !(1 ≤ f THM_GRACE_grace_ms && f THM_GRACE_grace_ms ≤ 10000)
  else if 0x2030 ≤ off ∧ off < 0x2040 then s.levelBad ((off - 0x2030) / 4) w
  else if off = 0x3028 then
    !marginAllowed (f CLK_MARGIN_CTRL_canary_target) (f CLK_MARGIN_CTRL_canary_hyst) (f CLK_MARGIN_CTRL_canary_floor)
  else if off = 0x302C then 56 < f CLK_MARGIN_LIMIT_margin_code_min
  else if 0x104 ≤ off ∧ off < 0x140 ∧ off % 8 = 4 then v % 8 != 0
  else if s.openHeld off then true
  else if off = 0xA010 then !s.seedFree && f HASH_SEED_hash_seed != s.rd HASH_SEED_hash_seed
  else if off = 0xA014 then 16384 < f HASH_LEARN_CTRL_ovf_thresh
  else if off = 0xA018 then f HASH_AGE_CFG_age_period_ms < 10 || f HASH_AGE_CFG_age_limit == 0
  else if 0xC100 ≤ off ∧ off < 0xC140 ∧ off % 16 = 8 then
    f LPM_ROOT_QUOTA_quota == 0 || 524288 < f LPM_ROOT_QUOTA_quota
  else if off = 0xD0C0 ∨ off = 0xD0CC then v % 8 != 0
  else if off = 0xD0D4 then v % 16 != 0
  else if off = 0xD100 then 
    f INTEG_RAW_raw_en == 1 && (f INTEG_RAW_raw_sid == 0x61 ||
      ((winView (f INTEG_RAW_raw_sid)).map (fun v => v.1)) != some (f INTEG_RAW_raw_sid))
  else if off = 0xD114 ∨ off = 0xD118 ∨ off = 0xD11C then s.rd INTEG_FLIP_SEL_flip_armed == 1
  else if off = 0x12010 then
    let in_ (n : Nat) : Bool := 10 ≤ n && n ≤ 1000
    !(in_ (f CORE_WDOG_ctl_wdog_ms) && in_ (f CORE_WDOG_grd_wdog_ms))
  else if off = 0x12020 then v % 8 != 0
  else if off = 0x12028 then
    v < 909696 && (s.rd CORE_DUMP_HOST_LO_dump_addr != 0 || s.rd CORE_DUMP_HOST_HI_dump_addr != 0)
  else false

/-- A value that a field's table does not list: the field is left unchanged, with bad_write (R14). -/
def fieldBad (fi : Fld × Nat) (w : RegWord) : Bool :=
  let v := fieldOf w fi.1
  if fi.1 = GLB_WIN_SEL_win_struct then (winView v).isNone
  else if fi.1 = PWR_VIN_WARN_vin_warn_mv then v < 9000 || 60000 < v
  else if fi.1 = SLOT_CFG_det_debounce_ms then v == 0
  else if fi.1 = SLOT_CFG_eject_ms then v < 10 || 1000 < v
  else if fi.1 = SLOT_CFG_ecc_warn then v == 0 || 40 < v
  else if fi.1 = THM_POLE_A_alpha then v == 0
  else if fi.1 = SRCH_Q_CFG_req_k ∨ fi.1 = SRCH_Q_CFG_res_k ∨ fi.1 = STRM_CH_CFG_req_k ∨ fi.1 = STRM_CH_CFG_cpl_k then
    v < 4 || 12 < v
  else false

/-- The RW and W1S fields of a register written, each by R14. -/
def State.wrPlain (s : State) (off : Nat) (w : RegWord) : State :=
  ((regFields off).foldl (fun s fi =>
    if fi.1.acc = .rw then (if fieldBad fi w then s.badWrite else s.wri fi.1 fi.2 (fieldOf w fi.1)) else s) s).wrW1S off w

/-- A register of configuration RAM written by the host (R601). -/
def State.cfgStored (s : State) (off : Nat) : State :=
  if cfgReg off && hasAcc off .rw then s.cfgWritten [off] else s

/-- A message whose pending bit is set goes out once its vector is no longer masked (R210). -/
def State.sendPending (s : State) (v : Nat) : State :=
  if s.bit MSIX_PBA_pending 0 v && !s.vecMasked v then (s.setBit MSIX_PBA_pending 0 v false).sendVector v else s

/-- Every pending message that may go out. -/
def State.sendAllPending (s : State) : State := (List.range 32).foldl (fun s v => s.sendPending v) s

/-- A write of a register without an operation of its own (R12 to R14, R188 to R190). W1C fields act at both levels, before
the access sets a bit of its own (R15); PIN_SMB_CAUSE releases SMB_ALERT_N with its last enabled cause (R729). -/
def State.plainWrite (s : State) (off : Nat) (w : RegWord) : State :=
  let s1 := (if off = 0x6404 then s.clearCauses w.toNat else s.wrW1C off w).noteReserved off w
  if off = 0x203C then (if s.hostOwns 2 && s.levelBad 3 w then s1.refuseWrite else s1)
  else if !s.hostOwns (off / 4096) then s1.basicWrite off w
  else if 0x6000 ≤ off ∧ off < 0x7000 then s1.irqFrom (s1.pinHostWrite off w)
  else if s1.plainRefused off w then s1.refuseWrite
  else
    let s2 := s1.alertFrom (s1.irqFrom ((s1.wrPlain off w).cfgStored off))
    if off = 0x302C then s2.holdMargin
    else if 0x20000 ≤ off ∧ off < 0x20200 ∧ off % 16 = 12 then s2.sendPending ((off - 0x20000) / 16) else s2

/-! ### Registers with operations -/

/-- The next state of an operation. -/
def nextOf (o : Out) (s : State) : State := match o with | .next t => t | _ => s

/-- The port of an instance number. -/
def portOf (i : Nat) : Port := if i = 0 then .a else .b

/-- A write of PWR_CTRL: the operation of its lowest request bit. -/
def State.writePwrCtrl (s : State) (w : RegWord) : State :=
  nextOf (if w.getLsbD 0 then execDozeReq w s else if w.getLsbD 1 then execWakeReq w s
    else if w.getLsbD 2 then execStandbyReq w s else if w.getLsbD 3 then execShutdownReq w s else execDozeReq w s) s

/-- A write of an update command register: its operation by `op`; op 0 with go is a reserved encoding (R14). -/
def State.writeOp (s : State) (off : Nat) (w : RegWord) (op go : Fld) (run : Nat → Out) : State :=
  if fieldOf w op = 0 then s.regOp off w (fun s => if fieldOf w go = 1 then s.badWrite else s) else nextOf (run (fieldOf w op)) s

/-- A write of LPM_ROOT_CFG_r. -/
def State.writeRoot (s : State) (r : Fin 4) (w : RegWord) : State :=
  if fieldOf w LPM_ROOT_CFG_defined = 0 then nextOf (execLpmRootDeleteWrite r w s) s
  else if s.rdi LPM_ROOT_CFG_defined r.val = 0 then nextOf (execLpmRootCreateWrite r w s) s
  else
    let s1 := nextOf (execLpmRootHiddenWrite r w s) s
    if fieldOf w LPM_ROOT_CFG_dflt_valid = s.rdi LPM_ROOT_CFG_dflt_valid r.val then s1
    else nextOf (execLpmDefaultRouteWrite r false w s1) s1

/-- A write of SLOT_CTRL: the operation of its lowest request bit. -/
def State.writeSlotCtrl (s : State) (p : Port) (w : RegWord) : State :=
  nextOf (if fieldOf w SLOT_CTRL_power_on = 1 then execSlotPowerOn p w s
    else if fieldOf w SLOT_CTRL_power_off = 1 then execSlotPowerOff p w s
    else if fieldOf w SLOT_CTRL_eject = 1 then execSlotEjectWrite p w s else execSlotPortResetWrite p w s) s

/-- A write of SLOT_OP_CMD: operations 1 to 6. Any other operation is a reserved encoding, which sets bad_write (R14; op 0
is one only with go, log entry 30), and a request for it records outcome 2 (R539). -/
def State.writeSlotOp (s : State) (p : Port) (w : RegWord) : State :=
  match fieldOf w SLOT_OP_CMD_op with
  | 1 => nextOf (execSlotOpReadPageRaw p w s) s
  | 2 => nextOf (execSlotOpProgramRaw p w s) s
  | 3 => nextOf (execSlotOpEraseBlock p w s) s
  | 4 => nextOf (execSlotOpReset p w s) s
  | 5 => nextOf (execSlotOpReadId p w s) s
  | 6 => nextOf (execSlotOpReadParameterPage p w s) s
  | op => s.regOp (0xF040 + 0x100 * portIdx p) w (fun s =>
      let go := fieldOf w SLOT_OP_CMD_go
      let s1 := if op = 0 ∧ go = 0 then s else s.badWrite
      if go = 0 ∨ s.rdi SLOT_OP_STATUS_busy (portIdx p) = 1 then s1
      else s1.wri SLOT_OP_STATUS_outcome (portIdx p) 2)

/-- A write of INTEG_STEEP_CTRL; a pace of 0 is refused (R629). -/
def State.writeSteep (s : State) (w : RegWord) : State :=
  s.regOp 0xD040 w (fun s =>
    if fieldOf w INTEG_STEEP_CTRL_steep_pace = 0 then s.refuseWrite
    else s.setSteep (fieldOf w INTEG_STEEP_CTRL_steep_en) (fieldOf w INTEG_STEEP_CTRL_steep_repair_en)
      (fieldOf w INTEG_STEEP_CTRL_steep_pace))

/-- The registers of the PWR, CLK, OTP, PIN and CHN blocks that have operations; none for any other offset. -/
def State.writeLow (s : State) (off : Nat) (w : RegWord) : Option State :=
  if off = 0x1004 then some (s.writePwrCtrl w)
  else if off = 0x3160 then some (nextOf (execHwClr w s) s)
  else if off = 0x4028 then some (nextOf (execOtpProgGo w s) s)
  else if off = 0x601C then some (nextOf (execPinSet w s) s)
  else if off = 0x6020 then some (nextOf (execPinClr w s) s)
  else if off = 0x6024 then some (nextOf (execPinTgl w s) s)
  else if 0x6100 ≤ off ∧ off < 0x6160 then some (nextOf (execPadCfgWrite (Fin.ofNat 24 ((off - 0x6100) / 4)) w s) s)
  else if off = 0x6210 ∨ off = 0x6230 then some (nextOf (execUartTxPush (Fin.ofNat 2 ((off - 0x6210) / 32)) w s) s)
  else if off = 0x6284 ∧ w.getLsbD 31 then some (nextOf (execI2cGo w s) s)
  else if off = 0x7050 then some (s.chnCtrl w)
  else none

/-- The registers of the SRCH, TCAM, HASH, DIX and LPM blocks that have operations. -/
def State.writeTables (s : State) (off : Nat) (w : RegWord) : Option State :=
  if off = 0x8044 then
    some (nextOf (if fieldOf w SRCH_PROF_LOAD_load = 1 then execProfLoad w s else execProfDeleteWrite w s) s)
  else if 0x8100 ≤ off ∧ off < 0x8400 ∧ (off - 0x8100) % 0x30 = 0x18 then
    let q := (off - 0x8100) / 0x30
    if fieldOf w SRCH_Q_CFG_q_en = 1 then some (nextOf (execQEnSet (Fin.ofNat 16 q) w s) s)
    else if s.qOpen q then some (nextOf (execQEnClear (Fin.ofNat 16 q) w s) s) else none
  else if off = 0x9030 then some (nextOf (execCastleGo w s) s)
  else if off = 0x91B0 then
    some (s.writeOp off w TCAM_UPD_CMD_op TCAM_UPD_CMD_go (fun op =>
      if op = 1 then execTcamUpdEntryWrite w s else if op = 2 then execTcamUpdEntryDelete w s else execTcamUpdResultWrite w s))
  else if 0x9400 ≤ off ∧ off < 0x9800 then some (s.writeBlk ((off - 0x9400) / 4) w)
  else if 0x9800 ≤ off ∧ off < 0x9C00 ∧ off % 16 = 0 then
    let t : Fin 64 := Fin.ofNat 64 ((off - 0x9800) / 16)
    some (nextOf (if fieldOf w TCAM_TBL_CFG_defined = 0 then execTcamTblDeleteWrite t w s
      else if s.tblDefined t.val then execTcamTblHiddenWrite t w s else execTcamTblCreateWrite t w s) s)
  else if off = 0xA118 then
    some (s.writeOp off w HASH_UPD_CMD_op HASH_UPD_CMD_go (fun op =>
      if op = 1 then execHashUpdInsert w s else if op = 2 then execHashUpdDelete w s else execHashUpdResult w s))
  else if 0xA400 ≤ off ∧ off < 0xA7F0 ∧ off % 16 = 0 then
    let t : Fin 63 := Fin.ofNat 63 ((off - 0xA400) / 16)
    some (nextOf (if fieldOf w HASH_TBL_CFG_defined = 0 then execHashTblDeleteWrite t w s
      else if s.tblIs t.val engExact then execHashTblHiddenWrite t w s else execHashTblCreateWrite t w s) s)
  else if off = 0xB000 then some (nextOf (execDixLimitWrite w s) s)
  else if off = 0xB028 then some (nextOf (execDixUpdWrite w s) s)
  else if off = 0xC20C then
    some (s.writeOp off w LPM_UPD_CMD_op LPM_UPD_CMD_go (fun op =>
      if op = 1 then execLpmUpdInsert w s else if op = 2 then execLpmUpdDelete w s else execLpmUpdResultChange w s))
  else if 0xC100 ≤ off ∧ off < 0xC140 ∧ off % 16 = 0 then some (s.writeRoot (Fin.ofNat 4 ((off - 0xC100) / 16)) w)
  else if 0xC100 ≤ off ∧ off < 0xC140 ∧ off % 16 = 4 then
    some (nextOf (execLpmDefaultRouteWrite (Fin.ofNat 4 ((off - 0xC100) / 16)) true w s) s)
  else none

/-- The registers of the INTEG, STRM, SLOT and DBG blocks that have operations. -/
def State.writeHigh (s : State) (off : Nat) (w : RegWord) : Option State :=
  if off = 0xD040 then some (s.writeSteep w)
  else if off = 0xD080 then some (nextOf (execScrubGo w s) s)
  else if off = 0xD0D8 then some (nextOf (execAuditGo w s) s)
  else if off = 0xD110 then some (nextOf (execFlipArm w s) s)
  else if off = 0xD204 then some (nextOf (execLogConsWrite w s) s)
  else if off = 0xD20C then some (nextOf (execSeenClr w s) s)
  else if 0xE100 ≤ off ∧ off < 0xE500 ∧ (off - 0xE100) % 0x40 = 0x18 then
    let c := (off - 0xE100) / 0x40
    if fieldOf w STRM_CH_CFG_en = 1 then some (nextOf (execStrmChEnSet (Fin.ofNat 16 c) w s) s)
    else if s.chOpen c then some (nextOf (execStrmChEnClear (Fin.ofNat 16 c) w s) s) else none
  else if 0xE100 ≤ off ∧ off < 0xE500 ∧ (off - 0xE100) % 0x40 = 0x28 then
    some (nextOf (execStrmChResumeWrite (Fin.ofNat 16 ((off - 0xE100) / 0x40)) w s) s)
  else if off = 0xF010 ∨ off = 0xF110 then some (s.writeSlotCtrl (portOf ((off - 0xF010) / 0x100)) w)
  else if off = 0xF040 ∨ off = 0xF140 then some (s.writeSlotOp (portOf ((off - 0xF040) / 0x100)) w)
  else if off = 0xF04C ∨ off = 0xF14C then
    some (nextOf (execSlotOpDataAccess (portOf ((off - 0xF04C) / 0x100)) (some w) s) s)
  else if off = 0x14004 then some (nextOf (execDbgHaltWrite w s) s)
  else none

/-! ### Any register -/

/-- A write to an unassigned offset: discarded, with bad_write and, when it is free, GLB_BAD_ADDR (R183). -/
def State.badAddr (s : State) (bar off : Nat) : State :=
  let s1 := s.badWrite
  if s1.rd GLB_BAD_ADDR_bad_valid = 1 then s1
  else ((s1.wr GLB_BAD_ADDR_bad_off off).wr GLB_BAD_ADDR_bad_bar bar).wr GLB_BAD_ADDR_bad_valid 1

/-- An offset below 0x10_0000 at which a register stands (R178); the high half of the pending-bit array holds none. -/
def regAssigned (off : Nat) : Bool := !(regFields off).isEmpty || off == 0x21004

/-- A 32-bit register write of the host, or of the chain port for a REG packet. -/
def State.writeReg (s : State) (off : Nat) (w : RegWord) : State :=
  let s := s.touchLink
  if s.discards then s
  else if !regAssigned off then s.badAddr 0 off
  else
    let s0 := s.wakeReg off
    if statClear off && off != 0x3160 then s0.mmClear off w
    else match (s0.writeLow off w).orElse (fun _ => (s0.writeTables off w).orElse (fun _ => s0.writeHigh off w)) with
      | some t => t
      | none => s0.plainWrite off w

end Sys2Proof.Machine
end

