-- ==== Sys2Proof/Machine/Doorbells.lean ====
section
/-! DEFINITION. Host writes to BAR2: the rings' RAM and the mailbox data RAM with its boot record, the doorbells of the
mailboxes and of the rings in host memory, and the lanes of the direct search window (R179, R184, R220 to R227, R236, R263,
R305, R635). -/

namespace Sys2Proof.Machine
open Reg

/-! ### Doorbells -/

/-- A doorbell as last written (R184). -/
def State.noteDoorbell (s : State) (off : Nat) (w : RegWord) : State :=
  { s with host := { s.host with doorbells := storeSetD 0 s.host.doorbells off w.toNat, inL1 := false } }

/-- bad_write for a doorbell that carries a 1 in its upper half; the count is still acted on (R220). -/
def State.noteUpper (s : State) (w : RegWord) : State := if w.toNat / 65536 = 0 then s else s.badWrite

/-- The count that a doorbell carries (R220). -/
def doorCount (w : RegWord) : Nat := w.toNat % 65536

/-- The offset of a ring's doorbell page. -/
def ringPage : Ring → Nat
  | .queue q => 0x4000 + 0x40 * q.val
  | .stream c => 0x5000 + 0x40 * c.val

/-- State 0x01 written into the slots of `n` newly accepted commands from count `c` on (R236). -/
def State.coverSlots (s : State) (i : Nat) : Nat → Nat → State
  | 0, _ => s
  | n + 1, c => (s.bar2Put (slotAt i c + 0x0B) [1]).coverSlots i n ((c + 1) % 65536)

/-- A producer doorbell of mailbox `i` with count `d`: discarded while a shutdown runs (R251), accepted within 8 of done
and of posted, else a ring fault (R236). -/
def State.postDoorbell (s : State) (i d : Nat) : State :=
  let m := mbOf i
  if s.inSequence then s.raise MBX_EVENT_doorbell_refused
  else if cntDist (s.doneCnt m) d ≤ 8 ∧ cntDist (s.posted m) d ≤ 8 then
    (s.coverSlots i (cntDist (s.posted m) d) (s.posted m)).wri MBX_MB_STATUS_posted i d
  else (s.addi MBX_MB_INFO_ring_faults i 1).raiseAt MBX_EVENT_ring_fault 0 i

/-- MAILBOX_DOORBELL. -/
def execMailboxDoorbell (m : Fin 4) (w : RegWord) (s : State) : Out :=
  let s1 := s.noteDoorbell (0x3000 + 0x10 * m.val) w
  if s.isFollower then ok s1 else ok ((s1.noteUpper w).postDoorbell m.val (doorCount w))

/-- EVENT_CONSUMER_DOORBELL: space returned in the event ring; a value that moves backwards or passes the events written is
discarded (R263). -/
def execEventConsumerDoorbell (w : RegWord) (s : State) : Out :=
  let s1 := s.noteDoorbell 0x3048 w
  if s.isFollower then ok s1
  else
    let s2 := s1.noteUpper w
    let old := s2.rd MBX_EVT_STATUS_evt_consumed
    if cntDist old (doorCount w) ≤ cntDist old (s2.rd MBX_EVT_STATUS_evt_written) then
      ok (State.drainEvents 65 (s2.wr MBX_EVT_STATUS_evt_consumed (doorCount w)))
    else ok (s2.raise MBX_EVENT_evt_ring_fault)

/-- A producer doorbell value that R222 accepts, for a ring of `n` entries. -/
def producerOk (n consumed accepted d : Nat) : Bool :=
  cntDist consumed d ≤ n && cntDist consumed accepted ≤ cntDist consumed d

/-- A producer doorbell of an open ring (R222); any doorbell of a ring is a DOZE exit trigger (R116). -/
def State.ringProduce (s : State) (r : Ring) (d : Nat) : State :=
  match r with
  | .queue q =>
    let q := q.val
    if !s.qOpen q then s
    else if producerOk (s.qReqN q) (s.rdi SRCH_Q_REQ_CNT_req_admitted q) (s.rdi SRCH_Q_REQ_CNT_req_accepted q) d then
      ((s.wri SRCH_Q_REQ_CNT_req_accepted q d).servePair q).exitDoze
    else (s.stopPair q true).exitDoze
  | .stream c =>
    let c := c.val
    if !s.chOpen c then s
    else if producerOk (s.chReqN c) (s.rdi STRM_CH_REQ_CNT_taken c) (s.rdi STRM_CH_REQ_CNT_accepted c) d then
      ((s.wri STRM_CH_REQ_CNT_accepted c d).pumpChan c).exitDoze
    else (s.haltChan c 3).exitDoze

/-- RING_PRODUCER_DOORBELL. -/
def execRingProducerDoorbell (r : Ring) (w : RegWord) (s : State) : Out :=
  let s1 := s.noteDoorbell (ringPage r) w
  if s.isFollower then ok s1 else ok ((s1.noteUpper w).ringProduce r (doorCount w))

/-- A consumer doorbell of an open ring: a value from the last one up to the count written (R227). -/
def State.ringConsume (s : State) (r : Ring) (d : Nat) : State :=
  match r with
  | .queue q =>
    let q := q.val
    let old := s.rdi SRCH_Q_RES_CNT_res_consumed q
    if !s.qOpen q then s
    else if cntDist old d ≤ cntDist old (s.rdi SRCH_Q_RES_CNT_res_written q) then
      ((s.wri SRCH_Q_RES_CNT_res_consumed q d).servePair q).exitDoze
    else (s.stopPair q false).exitDoze
  | .stream c =>
    let c := c.val
    let old := s.rdi STRM_CH_CPL_CNT_consumed c
    if !s.chOpen c then s
    else if cntDist old d ≤ cntDist old (s.rdi STRM_CH_CPL_CNT_written c) then
      (s.wri STRM_CH_CPL_CNT_consumed c d).exitDoze
    else (s.haltChan c 4).exitDoze

/-- RING_CONSUMER_DOORBELL. -/
def execRingConsumerDoorbell (r : Ring) (w : RegWord) (s : State) : Out :=
  let s1 := s.noteDoorbell (ringPage r + 8) w
  if s.isFollower then ok s1 else ok ((s1.noteUpper w).ringConsume r (doorCount w))

/-- A read-only count word of the doorbell area: a mailbox's done count, or the events written. -/
def countWord (off : Nat) : Bool := off == 0x3040 || (0x3000 ≤ off && off < 0x3040 && off % 16 == 4)

/-- DOORBELL_COUNT_WORD_WRITE (R271). -/
def execDoorbellCountWordWrite (off : Nat) (_w : RegWord) (s : State) : Out :=
  let s := s.touchLink
  if countWord off && !s.isFollower then ok s.badWrite else ok s

/-! ### RAM -/

/-- A write covers the four bytes of the boot record's req_num (R635). -/
def coversReq (off : Nat) (data : List (Option Byte)) : Bool :=
  (List.range 4).all (fun j =>
    let a := bootRec + 24 + j
    off ≤ a && ((data[a - off]?).getD none).isSome)

/-- Bytes written into BAR2 RAM by the host, the boot record served when its request number is written. -/
def State.ramWrite (s : State) (off : Nat) (data : List (Option Byte)) : State :=
  let s1 := s.storeBytes sidBar2 off data
  if coversReq off data then s1.bootServe else s1

/-- A dword at which a doorbell stands (R179). -/
def isDoorbell (a : Nat) : Bool :=
  a == 0x3048 || (0x3000 ≤ a && a < 0x3040 && a % 16 == 0) ||
    (0x4000 ≤ a && a < 0x6000 && a % 0x1000 < 0x400 && (a % 0x40 == 0 || a % 0x40 == 8))

/-- A write of the doorbell at `off`. -/
def State.doorbell (s : State) (off : Nat) (w : RegWord) : State :=
  if off < 0x3040 then nextOf (execMailboxDoorbell (Fin.ofNat 4 ((off - 0x3000) / 16)) w s) s
  else if off = 0x3048 then nextOf (execEventConsumerDoorbell w s) s
  else
    let k : Fin 16 := Fin.ofNat 16 (off % 0x1000 / 0x40)
    let r : Ring := if off < 0x5000 then .queue k else .stream k
    nextOf (if off % 0x40 = 0 then execRingProducerDoorbell r w s else execRingConsumerDoorbell r w s) s

/-- A little-endian register word from four bytes. -/
def wordOf (data : List (Option Byte)) : RegWord := BitVec.ofNat 32 (leNat ((data.take 4).map (·.getD 0)))

/-- The rings' RAM, the event ring and the mailbox data RAM (R179). -/
def bar2Ram (o : Nat) : Bool := o < 0x3000 || (0x10000 ≤ o && o < 0x90000)

/-- The direct search window (R305). -/
def bar2Lane (o : Nat) : Bool := 0x8000 ≤ o && o < 0x9000

/-- The bytes of a write that a RAM or a lane descriptor takes. -/
def ramBytes (off : Nat) (data : List (Option Byte)) : List (Option Byte) :=
  (List.range data.length).map (fun j =>
    if bar2Ram (off + j) || (bar2Lane (off + j) && (off + j) % 0x100 < 0x60) then (data[j]?).getD none else none)

/-- The dwords outside the RAMs and the window to which a write gives a byte. -/
def strayDwords (off : Nat) (data : List (Option Byte)) : List Nat :=
  ((List.range ((off % 4 + data.length + 3) / 4)).map (fun k => off / 4 * 4 + 4 * k)).filter (fun a =>
    !bar2Ram a && !bar2Lane a && (List.range 4).any (fun j => off ≤ a + j && ((data[a + j - off]?).getD none).isSome))

/-- The register word of a write that has the form of a doorbell write: 32 bits, aligned, with every byte enabled (R184). -/
def wholeWord (off : Nat) (data : List (Option Byte)) : Option RegWord :=
  if data.length == 4 && off % 4 == 0 && data.all (·.isSome) then some (wordOf data) else none

/-- The part of a write that meets the dword `a` outside the RAMs and the window: a doorbell takes `act` with a word of its
form and discards any other (R184); a count word and an unassigned dword discard it (R271, R183). -/
def State.strayWrite (s : State) (w : Option RegWord) (act : State → RegWord → State) (a : Nat) : State :=
  match isDoorbell a, w with
  | true, some w => act s w
  | true, none => if s.isFollower then s else s.badSize
  | false, _ => if s.isFollower then s else if countWord a then s.badWrite else s.badAddr 1 a

/-- A host write to BAR2 (R179, R184). -/
def State.bar2Write (s : State) (off : Nat) (data : List (Option Byte)) : State :=
  let s := s.touchLink
  (strayDwords off data).foldl (fun s a => s.strayWrite (wholeWord off data) (fun s w => s.doorbell a w) a)
    (if s.isFollower then s else s.ramWrite off (ramBytes off data))

/-- BOOT_RECORD_WRITE: a host write in the mailbox data RAM that covers the boot record's req_num (R634, R635). -/
def execBootRecordWrite (off : Nat) (data : List (Option Byte)) (s : State) : Out :=
  if 0x10000 ≤ off ∧ off + data.length ≤ 0x90000 ∧ coversReq off data ∧ ¬ s.isFollower then ok (s.touchLink.ramWrite off data)
  else ok s

end Sys2Proof.Machine
end

