-- ==== Sys2Proof/Machine/ChainPkt.lean ====
section
/-! DEFINITION. The packets of the Stavso chain: the relay of commands, register accesses and boot records, remote fetches and
the packets that every member takes (R465 to R476, R787, R789), with CHAIN.REG_ACCESS and CHAIN.BOOT. -/

namespace Sys2Proof.Machine
open Reg

/-! ### Passing packets (R465) -/

/-- The chain port takes a packet: the module serves, or runs a power sequence whose step 6 is still to come, and the present
ply ends a window of CHAIN_IN (R431). -/
def State.portLive (s : State) : Bool :=
  (s.alive || s.inSequence) && s.rd CHN_STATUS_role != 0 && s.hears .fromUp

/-- A packet for another member goes on downstream; its source drops one that nobody took. -/
def State.passOn (s : State) (p : Packet) : State :=
  if p.src = s.ownAddr then s else { s with chain := { s.chain with tx := s.chain.tx ++ [p] } }

/-- A packet enters the fabric through CHN_ING (R53). -/
def State.enterPkt (s : State) (p : Packet) : State := s.goodIn.crossFifo 8 (produceWord p.fields false p.tag)

/-- What comes on CHAIN_IN and is not acted on: a module without a role has heard CHAIN_IN (R22). -/
def State.unheeded (s : State) : State :=
  if (s.alive || s.inSequence) && !s.scanOwns && s.rd CHN_STATUS_role == 0 then { s with chain := { s.chain with heard := true } } else s

/-- A packet received on CHAIN_IN: its destination removes it and acts, and every other member passes it on. -/
def State.receive (s : State) (p : Packet) (act : State → State) : Out :=
  if !s.portLive then ok s.unheeded
  else if p.dst = s.ownAddr then ok (act ((s.enterPkt p).inc CHN_PKT_pkt_in)) else ok ((s.enterPkt p).passOn p)

/-- A packet that every member takes, and that its source removes. -/
def State.receiveAll (s : State) (p : Packet) (atSource act : State → State) : Out :=
  if !s.portLive then ok s.unheeded
  else if p.src = s.ownAddr then ok (atSource ((s.enterPkt p).inc CHN_PKT_pkt_in)) else ok ((act (s.enterPkt p)).passOn p)

/-- A packet for `member` that is to be answered, for the command of a mailbox. -/
def State.ask (s : State) (member kind : Nat) (fields : BitVec 64) (payload : List Byte) (m : Mb) : State :=
  let t := s.chain.nextTag
  let s1 := s.sendPkt { dst := member, src := s.ownAddr, kind := kind, tag := t, fields := fields, payload := payload }
  { s1 with chain := { s1.chain with nextTag := (t + 1) % 65536, awaits := s1.chain.awaits ++ [⟨t, member, m⟩] } }

/-- The mailbox that waits for the answer with a packet's tag, when its command satisfies a predicate; the wait is over. -/
def State.answered (s : State) (p : Packet) (q : Cmd → Bool) : Option (Mb × Cmd × State) :=
  match s.chain.awaits.find? (fun a => a.tag == p.tag && a.member == p.src) with
  | none => none
  | some a =>
    match (s.mbx a.mb).taken with
    | none => none
    | some c =>
      if q c then
        some (a.mb, c, { s with chain := { s.chain with awaits := s.chain.awaits.filter (fun b => b != a) } })
      else none

/-! ### CHAIN.REG_ACCESS and CHAIN.BOOT -/

/-- The checks that CHAIN.REG_ACCESS and CHAIN.BOOT share: the head's chain, and a member that can be reached. -/
def State.toMember (s : State) (m : Mb) (member : Nat) (checks : List (Option Nat)) (send : State → State) : State :=
  if s.isFollower then s.fail m stRoleFollower
  else checked m ([need (1 ≤ member && member < s.members) 0] ++ checks) s (fun s =>
    if !s.isHead then s.fail m stNotFound
    else if !s.reaches member then s.fail m stVoid
    else (send s).wait m)

/-- CHAIN.REG_ACCESS (0x0504). -/
def execChainRegAccess (m : Mb) (s : State) : Out :=
  runCmd m 0x0504 s (fun c s =>
    let n := c.u8 2
    s.toMember m (c.u8 0) [need (c.u8 1 == 1 || c.u8 1 == 2) 1, need (1 ≤ n && n ≤ 16) 2, c.notZero 3 1,
        need (c.u32 4 < 0x100000 && c.u32 4 % 4 == 0) 4] (fun s =>
      s.ask (c.u8 0) 9 (BitVec.ofNat 64 (c.u32 4 + 2 ^ 32 * c.u8 1 + 2 ^ 40 * n))
        (if c.u8 1 = 2 then c.bytes 8 (4 * n) else []) m))

/-- CHAIN.BOOT (0x0505): the record's request must be BOOT_CADDY. -/
def execChainBoot (m : Mb) (s : State) : Out :=
  runCmd m 0x0505 s (fun c s =>
    s.toMember m (c.u8 0) [c.notZero 1 3, need (c.u8 8 == 2) 4] (fun s => s.ask (c.u8 0) 0xB 0 (c.bytes 4 32) m))

/-! ### Register accesses (R466, R789) -/

/-- One access of a REG packet at the member, as a host access (R180 to R189): what it read, or the value read back. -/
def State.portAccess (s : State) (write : Bool) (off : Nat) (w : RegWord) : State × List Byte :=
  if write then
    let t := ({ s with chain := { s.chain with regPort := true } } : State).writeReg off w
    let u : State := { t with chain := { t.chain with regPort := false } }
    (u, leBytes 4 (u.viewReg off))
  else
    let t := if s.regPoison off then s.noteRegPoison off else s
    let r := t.readReg off
    (r.1, leBytes 4 r.2)

/-- The accesses of a REG packet in order. -/
def State.portAccesses (write : Bool) : Nat → Nat → List Byte → State → State × List Byte
  | 0, _, _, s => (s, [])
  | n + 1, off, data, s =>
    let r := s.portAccess write off (BitVec.ofNat 32 (leNat (padTo 4 data)))
    let t := State.portAccesses write n (off + 4) (data.drop 4) r.1
    (t.1, r.2 ++ t.2)

/-- REG_PACKET: the follower's chain port performs the accesses and returns the results (R789). -/
def execRegPacket (p : Packet) (s : State) : Out :=
  s.receive p (fun s =>
    if !s.isFollower then s
    else
      let f := p.fields.toNat
      let r := State.portAccesses (f / 2 ^ 32 % 256 == 2) (f / 2 ^ 40 % 32) (f % 2 ^ 32) p.payload s
      r.1.sendPkt { dst := p.src, src := s.ownAddr, kind := 0xA, tag := p.tag, fields := p.fields, payload := r.2 })

/-- REG_RSP_PACKET: the results complete the CHAIN.REG_ACCESS that waits for them. -/
def execRegRspPacket (p : Packet) (s : State) : Out :=
  s.receive p (fun s =>
    match s.answered p (fun c => c.opcode == 0x0504 && !c.relayed) with
    | some (m, c, t) => t.okResp m (padTo (4 * c.u8 2) p.payload)
    | none => s)

/-! ### Boot records (R474) -/

/-- The BOOT_RSP payload of a member whose chain port refuses the request: its record's bytes 32 to 63, with state 5 and
status BAD_PARAM. -/
def State.bootRefusal (s : State) : List Byte :=
  let r := s.bar2Get (bootRec + 32) 32
  r.take 4 ++ leBytes 1 5 ++ leBytes 1 stBadParam ++ r.drop 6

/-- BOOT_PACKET: the chain port writes bytes 0 to 31 of the boot record, and R635 and R636 apply. -/
def execBootPacket (p : Packet) (s : State) : Out :=
  s.receive p (fun s =>
    let answer (t : State) (payload : List Byte) : State :=
      t.sendPkt { dst := p.src, src := t.ownAddr, kind := 0xC, tag := p.tag, fields := 0, payload := payload }
    if fieldAt p.payload 4 1 = 2 then
      let t := (s.bar2Put bootRec (padTo 32 p.payload)).bootServe
      answer t (t.bar2Get (bootRec + 32) 32)
    else answer s s.bootRefusal)

/-- BOOT_RSP_PACKET: the member's boot record bytes complete the CHAIN.BOOT that waits for them. -/
def execBootRspPacket (p : Packet) (s : State) : Out :=
  s.receive p (fun s =>
    match s.answered p (fun c => c.opcode == 0x0505 && !c.relayed) with
    | some (m, _, t) => t.okResp m (padTo 32 p.payload)
    | none => s)

/-! ### Relayed commands (R267, R466, R467) -/

/-- CMD_PACKET: a relayed command is accepted at its destination. One that the member cannot run is answered at once, as its
own mailboxes would (R246, R250, R251). -/
def execCmdPacket (p : Packet) (s : State) : Out :=
  s.receive p (fun s =>
    let refuse (st : Nat) : State :=
      s.sendPkt { dst := p.src, src := s.ownAddr, kind := 2, tag := p.tag, fields := 0, payload := rspSlot p.payload st 0 [] }
    if s.fatal then refuse stVoid
    else if s.rd PWR_STATE_fw_state = 3 then refuse stWrongState
    else if s.inSequence then refuse stAborted
    else { s with chain := { s.chain with relayQ := s.chain.relayQ ++ [⟨p.src, p.tag, p.payload⟩] } })

/-- The range that a relayed command has written, put into the head's own mailbox data RAM (R466). -/
def State.putRange (s : State) (c : Cmd) (bytes : List Byte) : State :=
  match cmdRefAt c.opcode, c.range with
  | some (_, true), some r => s.refPut r 0 (bytes.take r.2)
  | _, _ => s

/-- RSP_PACKET: the response of a relayed command completes it at the head. -/
def execRspPacket (p : Packet) (s : State) : Out :=
  s.receive p (fun s =>
    match s.answered p (fun c => c.relayed) with
    | some (m, c, t) =>
      let len := min 240 (fieldAt p.payload 12 2)
      (t.putRange c (p.payload.drop 256)).done m (fieldAt p.payload 10 1) (fieldAt p.payload 14 2)
        ((p.payload.drop 16).take len)
    | none => s)

/-! ### Events (R468) -/

/-- The event record in the bytes of an EVENT packet, with the sender's address in the member byte (R259, R468). -/
def eventOf (src : Nat) (b : List Byte) : EventRec :=
  { code := fieldAt b 0 2, kind := fieldAt b 2 1, block := fieldAt b 3 1, bit := fieldAt b 4 1, member := src
    ply := fieldAt b 8 8, payload := padTo 40 (b.drop 16) }

/-- EVENT_PACKET: the head posts a follower's event to its own ring. -/
def execEventPacket (p : Packet) (s : State) : Out :=
  s.receive p (fun s => if s.isFollower then s else s.postEvent (eventOf p.src p.payload))

/-! ### Remote fetches (R469 to R473, R787) -/

/-- The request in an RFETCH packet. -/
def remoteReq (p : Packet) : RemoteReq :=
  let b := p.payload
  { member := p.src, tag := p.tag, profile := fieldAt b 8 1, fetchClass := fieldAt b 9 1, key := padTo 14 (b.drop 10)
    offset := fieldAt b 24 4, len := fieldAt b 28 4, userTag := fieldAt b 0 8 }

/-- RFETCH_PACKET: at most 8 remote fetches are served and 64 wait; one more is answered BUSY at once (R470). One of length 0
is BAD_PARAM (R523, R536), one whose profile this member has not defined with a GUARD lookup DENIED (R787), and none is
served in the fatal state (R644) or in a sequence (R126). A request is activity in DOZE (R116). -/
def execRfetchPacket (p : Packet) (s : State) : Out :=
  s.receive p (fun s =>
    let r := remoteReq p
    let s := s.exitDoze
    if s.inSequence then s.sendRdone p.src p.tag r.userTag stAborted
    else if s.fatal then s.sendRdone p.src p.tag r.userTag stVoid
    else if r.len = 0 then s.sendRdone p.src p.tag r.userTag stBadParam
    else if !s.streamProfile r.profile then s.sendRdone p.src p.tag r.userTag stDenied
    else if 8 ≤ s.remoteBusy && 64 ≤ s.strm.remoteQ.length then s.sendRdone p.src p.tag r.userTag stBusy
    else (({ s with strm := { s.strm with remoteQ := s.strm.remoteQ ++ [r] } } : State).inc CHN_RFETCH_rf_served).nextRemote)

/-- The fetch that a packet tag of member `src` stands for, while its owner serves it. -/
def State.remoteOf (s : State) (p : Packet) : Option Fetch :=
  s.strm.fetches.find? (fun f => f.id % 65536 == p.tag && f.stage == .remote p.src && f.outcome.isNone)

/-- RDATA_PACKET: the head writes the data to host memory (R36, R469), under its own stream cap and its channel's deg_rate
(R171, R572), once it may issue requests (R207). Data of a fetch that is over is discarded (R473). -/
def execRdataPacket (p : Packet) (s : State) : Out :=
  s.receive p (fun s =>
    match s.remoteOf p with
    | none => s
    | some f => s.holdData f.id p.fields.toNat p.payload none)

/-- RDONE_PACKET: the outcome completes the fetch after its data (R36); BUSY has it sent again (R473). -/
def execRdonePacket (p : Packet) (s : State) : Out :=
  s.receive p (fun s =>
    match s.remoteOf p with
    | none => s
    | some f =>
      let st := fieldAt p.payload 8 1
      if st = stBusy then s.updFetch f.id (fun g => { g with stage := .retry p.src })
      else s.holdData f.id 0 [] (some st))

/-- RFETCH_RESEND: 10 µs after a BUSY the same RFETCH goes out again (R473). -/
def execRfetchResend (id : Nat) (s : State) : Out :=
  match s.fetch id with
  | none => ok s
  | some f =>
    match f.stage with
    | .retry m => ok (s.sendRfetch f m)
    | _ => ok s

/-! ### Packets for every member (R443, R476) -/

/-- CHAIN_UP_PACKET: a follower's enumeration is over, and it holds the map and the member count (R443 step 5). It has come
back to the head that sent it. -/
def execChainUpPacket (p : Packet) (s : State) : Out :=
  s.receiveAll p
    (fun s => if s.chain.enum.isSome then { s with chain := { s.chain with upBack := true } } else s)
    (fun s =>
      if !s.isFollower then s
      else
        let t : State := { s with chain := { s.chain with upLate := false } }
        ((t.wr CHN_STATUS_state 2).wr CHN_STATUS_members (fieldAt p.payload 0 1)).wr CHN_GROUP_MAP_group_map
          (fieldAt p.payload 1 4))

/-- GROUPS_PACKET: a new group map, with the chain ply on which it takes effect (R476). -/
def execGroupsPacket (p : Packet) (s : State) : Out :=
  s.receiveAll p id (fun s =>
    if !s.isFollower then s
    else { s with chain := { s.chain with groupsPend := s.chain.groupsPend ++ [(fieldAt p.payload 0 4, fieldAt p.payload 4 8)] } })

end Sys2Proof.Machine
end

