-- ==== Sys2Proof/Machine/Life.lean ====
section
/-! DEFINITION. START, the steps of the shutdown sequence, and the loss of power (R101 to R111, R122, R123, R126 to R137, R143,
R152, R651, R652). -/

namespace Sys2Proof.Machine
open Reg

/-! ### What a loss of power leaves (R120, R136) -/

/-- The cells of the caddy and of the OTP array, which need no power. -/
def keepNv (m : Memory) : Memory :=
  m.filter (fun e => e.1 / (4 * regionSize) == sidCaddy || e.1 / (4 * regionSize) == sidOtp)

/-- The journal as START finds it: what follows the last COMMIT is dropped (R130, R659). -/
def Journal.cut (j : Journal) : Journal :=
  { j with
    head := if j.commitUsed = 0 then j.tail else j.commitHead, used := j.commitUsed
    seq := if j.commitNo = 0 then 0 else j.commitSeq + 1, pending := 0, crc := 0xFFFFFFFF, ckpt := none }

/-- Wake entry `k` as STANDBY keeps it in the AON island, with the debounce time of its pad (R714, R715). The pad shows the level
that it had as an input without a glitch filter, and a free level otherwise (log entry 15); the debounce has yet to pass on a wake level
that stands at the entry. -/
def State.keepEntry (s t : State) (k : Nat) : State :=
  let n := s.rdi PIN_WAKE_pad k
  let t1 := (((t.wri PIN_WAKE_pad k n).wri PIN_WAKE_level k (s.rdi PIN_WAKE_level k)).wri PIN_WAKE_pull k
    (s.rdi PIN_WAKE_pull k)).wri PIN_WAKE_en k (s.rdi PIN_WAKE_en k)
  if s.rdi PIN_WAKE_en k = 0 then t1
  else
    let l := if s.rdi PIN_PAD_CFG_mode n = 0 then s.boardLevel n else (Config.padLevel s.free).getLsbD n
    let d := if s.rdi PIN_PAD_CFG_debounce_ms n = 0 then l else s.rdi PIN_WAKE_level k == 0
    ({ t1 with pins := { t1.pins with ext := padSet t1.pins.ext n l, filt := padSet t1.pins.filt n l
                                      deb := padSet t1.pins.deb n d } } : State).wri PIN_PAD_CFG_debounce_ms n
      (s.rdi PIN_PAD_CFG_debounce_ms n)

/-- The wake entries, which STANDBY keeps (R714, R715). -/
def State.keepWake (s t : State) : State := ((List.range 8).foldl s.keepEntry t).nextFree

/-- The module without its rails, in state `p`: the caddy, the OTP array, the supervisor, and the levels that the board
drives are all that is left. No pad is driven in OFF (R103). -/
def State.dark (s : State) (p : Phase) : State :=
  let r := State.reset
  let t : State := { r with
    pending := s.pending
    mem := keepNv s.mem
    host := { r.host with perstHigh := s.host.perstHigh }
    eupex := { r.eupex with romVersion := s.eupex.romVersion }
    pwr := { r.pwr with armed := s.pwr.armed, wakeEn := s.pwr.wakeEn, wakeNAssert := s.pwr.wakeNAssert, timerS := s.pwr.timerS
                        wakeLatched := if p = .off then 0 else s.pwr.wakeLatched }
    jrnl := s.jrnl.cut
    pins := { r.pins with ext := s.pins.ext }
    free := s.free }
  t.setPhase p

/-- VIN_CUT: below 5.5 V the converter stops at once, and a sequence that runs is cut (R92, R136). -/
def execVinCut (s : State) : Out := if s.phase = .off then ok s else ok (s.dark .off)

/-- SUPERVISOR_ARM: VIN has fallen below 4.0 V: the converter is stopped, and the supervisor arms (R92, R102). -/
def execSupervisorArm (s : State) : Out :=
  let t := if s.phase = .off then s else s.dark .off
  ok { t with pwr := { t.pwr with armed := true } }

/-- The module enters OFF with the supervisor armed. -/
def State.darkArmed (s : State) : State :=
  let d := s.dark .off
  { d with pwr := { d.pwr with armed := true } }

/-- VIN_FALL: below 8.2 V for 20 µs. During START the module abandons it, lets the rails fall and enters OFF, armed (R111); in
RUN or DOZE it is a shutdown trigger (R125); during a sequence it is recorded (R145). -/
def execVinFall (s : State) : Out := if s.phase = .start then ok s.darkArmed else ok (s.trigger .vinFall)

/-- STANDBY_VIN_LOW: below 8.2 V for 20 µs in STANDBY: OFF, with the supervisor armed (R124). -/
def execStandbyVinLow (s : State) : Out := if s.phase = .standby then ok s.darkArmed else ok s

/-! ### START (R102, R104 to R108) -/

/-- PWR_LAST_CAUSE, PWR_SHDN_TIME, ΔT_3 and ΔT_4 loaded from a shutdown record, which is then consumed (R143, R152, R652).
DEDUCED (log entry 141): a cut before step 3 leaves no record, so that cause reads NONE, and one after step 4 a record marked
complete, so that its own cause is read. -/
def State.loadShutdown (s : State) : State :=
  match s.shutdownRec with
  | none => s
  | some b =>
    let cut := recNat b 4 1 == 1
    let s1 := (((((s.wr PWR_LAST_CAUSE_cause (if cut then 7 else recNat b 5 1)).wr PWR_LAST_CAUSE_step_reached
      (recNat b 6 1)).wr PWR_LAST_CAUSE_journal_ok (recNat b 7 1 % 2)).wr PWR_LAST_CAUSE_save_action
      (recNat b 7 1 / 2)).wr PWR_LAST_CAUSE_also_seen (recNat b 8 1)).wr PWR_SHDN_TIME_shdn_us (if cut then 0 else recNat b 12 4)
    let dt (o : Nat) : Int := (BitVec.ofNat 16 (recNat b o 2)).toInt * 2 ^ 28
    let s2 : State := { s1 with heat := { s1.heat with dT := [0, 0, dt 16, dt 18] } }
    let gone := padTo 60 (b.take 4 ++ leBytes 1 0 ++ (b.take 60).drop 5)
    s2.putPoles.storeBytes sidCaddy cadShutdown ((gone ++ leBytes 4 (crc32 gone)).map some)

/-- START from step 1 to core release, with the lengths that it measured of itself. The levels at the pads, which were inert, are told
by no row: they are free (log entry 15). -/
def State.startUp (s : State) (st : StartInput) : State :=
  let s1 := (s.dark .run).otpLoad
  let code := s1.rd CLK_MARGIN_LIMIT_margin_code_start
  let s2 := ((s1.wr CLK_MARGIN_STATUS_margin_code code).wr CLK_MARGIN_STATUS_rail_mv (620 + 5 * code)).loadShutdown
  let s3 := ((s2.wr PWR_START_TIME_start_us st.startUs).wr PWR_START_TIME_fill_us st.fillUs).wr PWR_WAKE_CAUSE_wake_src
    (if s.phase = .start then s.pwr.wakeLatched else 0)
  let s4 : State := { s3 with
    pwr := { State.reset.pwr with armed := false }
    host := { s3.host with training := s.host.perstHigh, wakeN := s.host.wakeN && !s.host.perstHigh }
    cores := { s3.cores with caddyBoot := s3.rd CORE_STATUS_boot_src == 0 }
    -- the TAP's IDCODE holds the die revision that the OTP gives (R771)
    pins := { s3.pins with ext := (Config.padLevel s3.free).toNat, tapCapture := s3.idcode } }
  s4.padLoad (List.range 24)

/-- START_CONDITION: VIN has stayed above 8.8 V for 10 ms with the supervisor armed, or a wake source has fired in STANDBY:
the module runs START to its end (R102, R121). -/
def execStartCondition (st : StartInput) (s : State) : Out :=
  if (s.phase = .off ∧ s.pwr.armed = true) ∨ s.phase = .start then ok (s.startUp st) else ok s

/-! ### The shutdown record (R651) -/

/-- The shutdown record written at the present step; CADDY's claim does not hold it up (R652). DESIGN CHOICE (log entry 186): each
rewrite takes the ΔT_3 and ΔT_4 then present. -/
def State.putShutdown (s : State) (recState us : Nat) : State :=
  s.cadPut cadShutdown (shutdownBytes recState (causeCode s.pwr.cause) (s.rd PWR_STATE_shdn_step) (b2n s.pwr.journalOk)
    s.pwr.saveAction s.pwr.alsoSeen us (sixteenths (s.heat.dT.getD 2 0)) (sixteenths (s.heat.dT.getD 3 0)) s.pwr.triggerPly)

/-! ### Step 2 (R128, R129) -/

/-- A mailbox whose command writes a save region. -/
def State.writesSave (s : State) (m : Mb) : Bool :=
  (List.range 2).any (fun p => (s.port p).saves.any (fun r => r.mb == m && r.job == .write))

/-- The running command of a mailbox completes ABORTED; the page programs of a save write go on to step 4 (R131). -/
def State.abortCmd (s : State) (m : Mb) : State := if s.writesSave m then s.fail m stAborted else s.stopCmd m stAborted

/-- Every pending mailbox command completes ABORTED (R129, R251). -/
def State.abortAll (s : State) : State :=
  let s1 := hostMbs.foldl (fun s m => State.flushAccepted stAborted m 8 (s.abortCmd m)) s
  (s1.abortCmd .relay).completeRelayed stAborted

/-- Fetches still unfinished are stopped, and their completion entries are written while the link is up; requests of other
members that wait are answered first, so that none of them starts (R129, R536). -/
def State.abortFetches (s : State) : State :=
  let s1 := s.answerRemotes stAborted
  let s2 := (s1.strm.fetches.map (·.id)).foldl (fun s id => s.endFetch id stAborted) s1
  let entry (s : State) (c : Nat) : State :=
    match s.headFetch c with
    | some f => if f.stage = .ended ∧ s.cplRoom c ∧ s.dmaOk then s.writeCompletion c f else s
    | none => s
  (List.range 16).foldl (fun s c => (List.range 4).foldl (fun s _ => entry s c) s) s2

/-- SHUTDOWN_STEP2_END: with every admitted search delivered, what is still pending is aborted, and step 3 begins with the
shutdown record. A stopped command that is not over holds step 2. -/
def execShutdownStep2End (s : State) : Out :=
  let n := s.rd PWR_STATE_shdn_step
  if !s.inSequence || (n != 1 && n != 2) || !s.inFlightEmpty then ok s
  else
    let t := s.abortAll.abortFetches
    if t.stopsRun then ok (t.wr PWR_STATE_shdn_step 2) else ok ((t.wr PWR_STATE_shdn_step 3).putShutdown 1 0)

/-- The module runs step `n` of the sequence. -/
def State.atStep (s : State) (n : Nat) : Bool := s.inSequence && s.rd PWR_STATE_shdn_step == n

/-! ### Steps 3 to 6 (R98, R130 to R133) -/

/-- SHUTDOWN_STEP3_END: the journal commit has completed, or is abandoned at 2.0 ms; with CADDY claimed none is made. -/
def execShutdownStep3End (committed : Bool) (s : State) : Out :=
  if !s.atStep 3 then ok s
  else
    let on := s.rd CADDY_STATUS_jrnl_en == 1
    let s1 := if on && s.claimed 19 then s.conflict 19 2 1 else s
    let s2 := if committed then s1.jrnlCommit else s1
    let done := on && committed && !s.claimed 19 && s2.rd CADDY_STATUS_jrnl_full == 0
    ok (({ s2 with pwr := { s2.pwr with journalOk := done } } : State).wr PWR_STATE_shdn_step 4)

/-- The pending save writes of slot `p`: one whose final page program was issued before the trigger is committed, and every
other is discarded (R131). -/
def State.settleSaves (s : State) (p : Nat) : State :=
  (s.port p).saves.foldl (fun s r =>
    if r.job != .write then s
    else if r.issued then s.saveCommitted p r
    else
      ({ s with pwr := { s.pwr with saveAction := s.pwr.saveAction ||| 2 } } : State).endSave p r.mb stAborted 0 []) s

/-- SHUTDOWN_STEP4_END: the save commits are settled, and the record is marked complete (R132). -/
def execShutdownStep4End (s : State) : Out :=
  if !s.atStep 4 then ok s
  else ok ((((s.settleSaves 0).settleSaves 1).putShutdown 2 0).wr PWR_STATE_shdn_step 5)

/-- Slot `p` switched off for good: VCCQ, then VCC 100 µs later (R98). -/
def State.slotDead (s : State) (p : Nat) : State :=
  (s.slotOff p).vccOpen p

/-- SHUTDOWN_STEP5_END: both slots are without power. -/
def execShutdownStep5End (s : State) : Out :=
  if !s.atStep 5 then ok s else ok (((s.slotDead 0).slotDead 1).wr PWR_STATE_shdn_step 6)

/-- SHUTDOWN_STEP6_END: the length of the sequence goes into the record, every output is released, and the module enters OFF,
or STANDBY after a standby entry that met no trigger; a wake source latched meanwhile begins START at once (R119, R123). In
OFF the supervisor arms by the cause (R133). -/
def execShutdownStep6End (us : Nat) (s : State) : Out :=
  if !s.atStep 6 then ok s
  else
    let t := s.putShutdown 2 us
    if s.phase = .standbyEntry then
      let d := t.keepWake (t.dark .standby)
      if d.pwr.wakeLatched = 0 then ok d
      else ok (({ d with host := { d.host with wakeN := d.pwr.wakeNAssert } } : State).setPhase .start)
    else
      let arm := s.pwr.cause == .vinFall || s.pwr.cause == .rail || s.pwr.cause == .cmdRestart
      let d := t.dark .off
      ok { d with pwr := { d.pwr with armed := d.pwr.armed || arm } }

end Sys2Proof.Machine
end

