-- ==== Sys2Proof/Machine/CfgSpace.lean ====
section
/-! DEFINITION. Configuration space as a read shows it: the header and the capabilities of the features that the manual gives
the endpoint (R172 to R177, R202). -/

namespace Sys2Proof.Machine
open Reg

/-- A member put into a list of members, or taken out of it. -/
def setIn {α : Type} [DecidableEq α] (l : List α) (x : α) (b : Bool) : List α :=
  if b then (if l.contains x then l else l ++ [x]) else l.filter (· != x)

/-- The bits of the uncorrectable and of the correctable AER registers, as the base specification numbers them. -/
def aerUncorr : List (AerError × Nat) :=
  [(.dlpError, 4), (.poisonedTlp, 12), (.flowControl, 13), (.cplTimeout, 14), (.completerAbort, 15), (.unexpectedCpl, 16),
   (.receiverOverflow, 17), (.malformedTlp, 18), (.unsupported, 20), (.internal, 22)]
def aerCorr : List (AerError × Nat) :=
  [(.receiverError, 0), (.badTlp, 6), (.badDllp, 7), (.replayRollover, 8), (.replayTimeout, 12), (.advisory, 13)]

/-- The bits of the errors of a table, and of those of them that stand in a list. -/
def aerBits (t : List (AerError × Nat)) (l : List AerError) : Nat :=
  t.foldl (fun n x => if l.contains x.1 then n + 2 ^ x.2 else n) 0

/-- Where the capabilities stand: free places that do not overlap (log entry 121). -/
def capPm : Nat := 0x40 + 4 * (Config.capPlace 0 % 4)
def capMsix : Nat := 0x58 + 4 * (Config.capPlace 1 % 4)
def capPcie : Nat := 0x70 + 4 * (Config.capPlace 2 % 22)
def capDsn : Nat := 0x100
def capAer : Nat := 0x10C + 4 * (Config.capPlace 3 % 128)
def capSec : Nat := 0x400 + 4 * (Config.capPlace 4 % 64)
def capPhy : Nat := 0x600 + 4 * (Config.capPlace 5 % 64)
def capMargin : Nat := 0x800 + 4 * (Config.capPlace 6 % 64)
def capDlf : Nat := 0xA00 + 4 * (Config.capPlace 7 % 64)

/-- The bits of a dword of configuration space that the manual gives, and their values; the other bits are free. -/
structure CfgBits where
  mask : Nat
  val : Nat
  deriving DecidableEq, Repr

/-- A field of `n` bits from bit `lo` on, with its value, beside others. -/
def CfgBits.field (b : CfgBits) (lo n v : Nat) : CfgBits :=
  { mask := b.mask + (2 ^ n - 1) * 2 ^ lo, val := b.val + v % 2 ^ n * 2 ^ lo }

/-- No bit given, and a whole dword. -/
def CfgBits.none : CfgBits := { mask := 0, val := 0 }
def CfgBits.whole (v : Nat) : CfgBits := CfgBits.none.field 0 32 v

/-- The header (R172 to R174). -/
def State.cfgHeader (s : State) (a : Nat) : CfgBits :=
  let c := s.host.cfg
  if a = 0x00 then .whole (fieldAt s.identity 16 2 + 0x7484 * 2 ^ 16)
  else if a = 0x04 then (((CfgBits.none.field 0 1 0).field 1 1 (b2n c.memEnable)).field 2 1 (b2n c.busMaster)).field 20 1 1
  else if a = 0x08 then .whole (s.rd GLB_ID_die_rev + 0x120000 * 2 ^ 8)
  else if a = 0x0C then CfgBits.none.field 16 8 0
  else if a = 0x10 then .whole (c.bar0 % 2 ^ 32 + 4)
  else if a = 0x14 then .whole (c.bar0 / 2 ^ 32)
  else if a = 0x18 then .whole (c.bar2 % 2 ^ 32 + 4)
  else if a = 0x1C then .whole (c.bar2 / 2 ^ 32)
  else if a = 0x20 ∨ a = 0x24 ∨ a = 0x30 then .whole 0
  else if a = 0x2C then .whole (leNat ((padTo 40 s.settings).take 4))
  else if a = 0x34 then CfgBits.none.field 0 8 capPm
  else if a = 0x3C then CfgBits.none.field 8 8 0
  else .none

/-- The power management and MSI-X capabilities (R172, R178). -/
def State.cfgPmMsix (s : State) (a : Nat) : CfgBits :=
  let c := s.host.cfg
  if a = capPm then (((CfgBits.none.field 0 8 1).field 8 8 capMsix).field 25 2 0).field 27 5 0
  else if a = capPm + 4 then (CfgBits.none.field 0 2 (if c.d3hot then 3 else 0)).field 3 1 0
  else if a = capMsix then
    ((((CfgBits.none.field 0 8 0x11).field 8 8 capPcie).field 16 11 31).field 30 1 (b2n c.msixFuncMask)).field 31 1
      (b2n c.msixEnable)
  else if a = capMsix + 4 then .whole 0x20000
  else if a = capMsix + 8 then .whole 0x21000
  else .none

/-- The PCI Express capability (R172, R175 to R177). -/
def State.cfgPcie (s : State) (a : Nat) : CfgBits :=
  let c := s.host.cfg
  if a = capPcie then ((((CfgBits.none.field 0 8 0x10).field 8 8 0).field 16 4 2).field 20 4 0).field 24 1 0
  else if a = capPcie + 0x04 then (((CfgBits.none.field 0 3 2).field 3 2 0).field 5 1 1).field 28 1 1
  else if a = capPcie + 0x08 then
    ((((CfgBits.none.field 0 1 (b2n (c.errEnable.contains .correctable))).field 1 1
      (b2n (c.errEnable.contains .nonFatal))).field 2 1 (b2n (c.errEnable.contains .fatal))).field 5 3
      c.maxPayload.toNat).field 12 3 c.maxReadReq.toNat
  else if a = capPcie + 0x0C then
    (((((CfgBits.none.field 0 4 4).field 4 6 4).field 10 2 2).field 15 3 2).field 18 1 1).field 19 3 0
  else if a = capPcie + 0x10 then
    (((CfgBits.none.field 1 1 (b2n c.aspmL1)).field 8 1 (b2n c.clockPm)).field 16 4 (s.rd GLB_LINK_speed)).field 20 6
      (s.rd GLB_LINK_width)
  else if a = capPcie + 0x24 then
    (((((CfgBits.none.field 0 4 3).field 4 1 1).field 5 11 0).field 16 1 1).field 17 3 0).field 21 11 0
  else if a = capPcie + 0x28 then
    (CfgBits.none.field 0 4 c.cplTimeoutValue.toNat).field 4 1 (b2n c.cplTimeoutDisable)
  else if a = capPcie + 0x2C then (CfgBits.none.field 1 7 0xF).field 8 24 0
  else .none

/-- The margining status of a lane as a read shows it (R172): the answer to a command repeats its receiver and its type, and the
answer to the report of the receiver's margining features says that voltage margining is not supported. What else it carries is
free. -/
def marginStatus (w : Nat) : CfgBits :=
  let b := (CfgBits.none.field 0 16 w).field 16 7 w
  if bitsOf w 3 3 = 7 then b.field 24 8 (w / 2 ^ 8)
  else if bitsOf w 0 6 = 6 + 8 ∧ bitsOf w 8 8 = 0x88 then b.field 24 1 0
  else b

/-- The header of an extended capability: its id, and where the next one stands. -/
def extCap (id next : Nat) : CfgBits := (CfgBits.none.field 0 16 id).field 20 12 next

/-- The capabilities that 16.0 GT/s brings with it: Secondary PCI Express, Physical Layer 16.0 GT/s, margining at the receiver and
Data Link Feature (R172). -/
def State.cfgFast (s : State) (a : Nat) : CfgBits :=
  if a = capSec then extCap 0x19 capPhy
  else if a = capPhy then extCap 0x26 capMargin
  else if a = capMargin then extCap 0x27 capDlf
  else if capMargin + 8 ≤ a ∧ a < capMargin + 24 ∧ (a - capMargin) % 4 = 0 then
    marginStatus (s.host.cfg.margin.toList.getD ((a - capMargin) / 4 - 2) 0).toNat
  else if a = capDlf then extCap 0x25 0
  else .none

/-- The Device Serial Number and AER capabilities (R172, R202). -/
def State.cfgExt (s : State) (a : Nat) : CfgBits :=
  let h := s.host
  let reg (t : List (AerError × Nat)) (l : List AerError) : CfgBits := .whole (aerBits t l)
  if a = capDsn then extCap 0x03 capAer
  else if a = capDsn + 4 then .whole (s.moduleSerial % 2 ^ 32)
  else if a = capDsn + 8 then .whole (s.moduleSerial / 2 ^ 32)
  else if a = capAer then extCap 0x01 capSec
  else if a = capAer + 0x04 then reg aerUncorr h.aer
  else if a = capAer + 0x08 then reg aerUncorr h.aerMask
  else if a = capAer + 0x0C then reg aerUncorr h.aerFatal
  else if a = capAer + 0x10 then reg aerCorr h.aer
  else if a = capAer + 0x14 then reg aerCorr h.aerMask
  else if a = capAer + 0x18 then CfgBits.none.field 5 27 0
  else .none

/-- What the manual gives of the dword at an offset. -/
def State.cfgBits (s : State) (a : Nat) : CfgBits :=
  if a < 0x40 then s.cfgHeader a
  else if a < capPcie then s.cfgPmMsix a
  else if a < 0x100 then s.cfgPcie a
  else if a < 0x400 then s.cfgExt a
  else s.cfgFast a

/-- The dword of configuration space at an offset. Every bit that the manual does not give is free (log entry 14). -/
def State.cfgDword (s : State) (a : Nat) : Nat :=
  let b := s.cfgBits a
  (Config.configWord s.free).toNat &&& (2 ^ 32 - 1 - b.mask) ||| b.val

end Sys2Proof.Machine
end

