-- ==== Sys2Proof/Machine/Link.lean ====
section
/-! DEFINITION. The endpoint: host reads and writes by BAR, poisoned writes, configuration requests, interrupts, the module's
DMA reads, and host-link resets (R172 to R186, R200 to R214, R223). -/

namespace Sys2Proof.Machine
open Reg

/-! ### Host reads -/

/-- A 4- or 8-byte access aligned to its size with every byte enabled (R180). DESIGN CHOICE (log entry 188): 8 bytes at 4 modulo 8 is
none, as an access with partial enables is none. -/
def regForm (off len : Nat) (full : Bool) : Bool := full && ((len == 4 && off % 4 == 0) || (len == 8 && off % 8 == 0))

/-- The dwords that a register read covers, without side effects (R182). -/
def State.peekRegs (s : State) (off : Nat) : Nat → List Byte
  | 0 => []
  | n + 1 => leBytes 4 (s.viewReg off) ++ s.peekRegs (off + 4) n

/-- The registers that a read covers, with their side effects, the lower address first (R180). -/
def State.readRegs : Nat → Nat → State → State × List Byte
  | 0, _, s => (s, [])
  | n + 1, off, s =>
    let r := s.readReg off
    let t := State.readRegs n (off + 4) r.1
    (t.1, leBytes 4 r.2 ++ t.2)

/-- A host read of BAR0 registers: with side effects in the forms of R180, and without in every other (R182). A read longer
than 8 bytes completes with Completer Abort. -/
def State.regRead (s : State) (off len : Nat) (full : Bool) : State :=
  if 8 < len then s.abortRead
  else
    let a := off / 4 * 4
    let n := (off % 4 + len + 3) / 4
    let offs := (List.range n).map (fun k => a + 4 * k)
    let ep := offs.any s.regPoison
    let s1 := offs.foldl (fun s o => if s.regPoison o then s.noteRegPoison o else s) s
    let s2 := if ep then s1.poisonSent else s1
    if regForm off len full then
      let r := State.readRegs n a s2
      r.1.reply r.2 ep .success
    else s2.reply (s2.peekRegs a n) ep .success

/-- A byte of BAR2 as a read shows it (R179, R183). -/
def State.bar2Byte (s : State) (o : Nat) : Byte :=
  if o < 0x6000 ∨ (0x8000 ≤ o ∧ o < 0x9000) then s.ctrlByte o
  else if 0x10000 ≤ o ∧ o < 0x90000 then memByte s.mem (dataBase sidBar2 0 + o)
  else 0

/-- A host read of BAR2 (R184, R201, R306): a read of a lane's result is a window search; a follower answers the window with
zeros (R191). -/
def State.bar2Read (s : State) (off len : Nat) : State :=
  let lane : Bool := 0x8000 ≤ off && off < 0x9000
  if lane && s.isFollower then s.reply (List.replicate len 0) false .success
  else if lane && off % 0x100 == 0x80 && 8 ≤ len && len ≤ 64 then
    nextOf (execWindowSearch (Fin.ofNat 16 ((off - 0x8000) / 0x100)) len s) s
  else
    let ep := len != 0 && s.rangePoison sidBar2 off len
    let s1 := s.reportRange sidBar2 off len 2
    (if ep then s1.poisonSent else s1).reply ((List.range len).map (fun k => s.bar2Byte (off + k))) ep .success

/-- RC_READ: a host read of a BAR, with every byte enabled or not. -/
def execRcRead (bar : Bar) (off len : Nat) (full : Bool) (s : State) : Out :=
  let s := s.touchLink
  match bar with
  | .bar0 =>
    if off < 0x100000 then ok (s.regRead off len full)
    else if off < 0x200000 then ok (s.winRead ((off - 0x100000) / 0x20000) (winOff off) (if full then len else 0))
    else ok (s.reply (List.replicate len 0) false .success)
  | .bar2 => ok (s.bar2Read off len)

/-! ### Host writes -/

/-- The first dword to which a write of BAR0 registers gives a byte and at which no register stands. -/
def strayReg (off : Nat) (data : List (Option Byte)) : Option Nat :=
  ((List.range data.length).find? (fun j => (data.getD j none).isSome && !regAssigned ((off + j) / 4 * 4))).map
    (fun j => (off + j) / 4 * 4)

/-- A host write of BAR0 registers (R180, R181). One of a wrong form is discarded, and recorded when it meets an unassigned
offset (R183). -/
def State.regsWrite (s : State) (off : Nat) (data : List (Option Byte)) : State :=
  if s.touchLink.discards then s.touchLink
  else if !regForm off data.length (data.all (·.isSome)) then
    match strayReg off data with
    | some a => s.touchLink.badSize.badAddr 0 a
    | none => s.touchLink.badSize
  else if data.length = 8 then (s.writeReg off (wordOf data)).writeReg (off + 4) (wordOf (data.drop 4))
  else s.writeReg off (wordOf data)

/-- A host write of BAR0 (R178, R183). -/
def State.bar0Write (s : State) (off : Nat) (data : List (Option Byte)) (ep : Bool) : State :=
  if off < 0x100000 then s.regsWrite off data
  else if off < 0x200000 then s.winWrite ((off - 0x100000) / 0x20000) (winOff off) data ep
  else
    let s := s.touchLink
    if s.isFollower then s else s.badAddr 0 (off % 0x400000)

/-- REGISTER_WRITE: a host write of a BAR. -/
def execRegisterWrite (bar : Bar) (off : Nat) (data : List (Option Byte)) (s : State) : Out :=
  match bar with
  | .bar0 => ok (s.bar0Write off data false)
  | .bar2 => ok (s.bar2Write off data)

/-- Poison stored in every aligned word of BAR2 RAM that a write touches; the bytes not written keep their data (R203). -/
def State.ramPoison (s : State) (off : Nat) (data : List (Option Byte)) : State :=
  let lo := off / 8
  (List.range ((off + data.length + 7) / 8 - lo)).foldl (fun s k =>
    let wi := lo + k
    let at_ (j : Nat) : Option Byte := if 8 * wi + j < off then none else (data[8 * wi + j - off]?).getD none
    if (List.range 8).all (fun j => (at_ j).isNone) then s
    else
      let old := memBytes s.mem (dataBase sidBar2 0 + 8 * wi) 8
      s.storePoison sidBar2 wi ((List.range 8).map (fun j => (at_ j).getD (old.getD j 0)))) s

/-- A poisoned write of registers: their fields take the data, and a word of configuration RAM that it writes holds poison
(R203, R594, R601). -/
def State.regsPoison (s : State) (off : Nat) (data : List (Option Byte)) : State :=
  let t := ({ s with integ := { s.integ with epWrite := true } } : State).regsWrite off data
  { t with integ := { t.integ with epWrite := false } }

/-- EP_WRITE_RECEIVED: a host write with EP set. Memory takes poison; a doorbell keeps the value as last written and is not
acted on; a boot record is stored and not acted on (R203, R184). -/
def execEpWriteReceived (bar : Bar) (off : Nat) (data : List (Option Byte)) (s : State) : Out :=
  let s0 := s.touchLink
  let s1 := (s0.aerAdvisory .poisonedTlp).inc GLB_ERR_CNT_ep_rx
  match bar with
  | .bar0 =>
    ok ((if s1.isFollower then s1
      else if off < 0x100000 then s1.regsPoison off data else s1.bar0Write off data true).raise GLB_STATUS_ep_received)
  | .bar2 =>
    ok (((strayDwords off data).foldl (fun s a => s.strayWrite (wholeWord off data) (fun s w => s.noteDoorbell a w) a)
      (if s1.isFollower then s1 else s1.ramPoison off (ramBytes off data))).raise GLB_STATUS_ep_received)

/-! ### Requests that the endpoint does not serve -/

/-- UNSUPPORTED_REQUEST (R202): a non-posted one is completed with Unsupported Request, which ur_sent counts. An error of the
link's layers is signalled (log entry 120). -/
def execUnsupportedRequest (u : Unserved) (s : State) : Out :=
  let s := s.touchLink
  match u with
  | .request true => ok (s.aer .unsupported)
  | .request false => ok (((s.aerAdvisory .unsupported).inc GLB_CPL_CNT_ur_sent).reply [] false .unsupported)
  | .receiverError => ok (s.aer .receiverError)
  | .badTlp => ok (s.aer .badTlp)
  | .badDllp => ok (s.aer .badDllp)
  | .replayRollover => ok (s.aer .replayRollover)
  | .replayTimeout => ok (s.aer .replayTimeout)
  | .dlpError => ok (s.aer .dlpError)
  | .flowControl => ok (s.aer .flowControl)
  | .receiverOverflow => ok (s.aer .receiverOverflow)
  | .malformedTlp => ok (s.aer .malformedTlp)

/-! ### Interrupts -/

/-- MSIX_UNMASK: the mask of a vector, or of the function, is cleared, and what is pending goes out (R210). The mask of a
vector is written in BAR0, and a follower discards that write (R26, R191). -/
def execMsixUnmask (vec : Option (Fin 32)) (s : State) : Out :=
  let s := s.touchLink
  match vec with
  | some v => if s.isFollower then ok s else ok ((s.wri MSIX_TBL_CTRL_mask v.val 0).sendPending v.val)
  | none =>
    ok ({ s with host := { s.host with cfg := { s.host.cfg with msixFuncMask := false } } } : State).sendAllPending

/-- MSIX_HOLDOFF_EXPIRY: one message covers the events of the holdoff (R209). -/
def execMsixHoldoffExpiry (vec : Fin 32) (s : State) : Out :=
  let v := vec.val
  if s.host.holdoff.contains v then
    let s1 : State := { s with host := { s.host with
      holdoff := s.host.holdoff.filter (· != v), heldMsg := s.host.heldMsg.filter (· != v) } }
    if s.host.heldMsg.contains v then ok (s1.sendVector v) else ok s1
  else ok s

/-! ### DMA reads -/

/-- The shadow image of a running audit has come (R622). -/
def State.auditShadow (s : State) (data : List Byte) (poison : Bool) : State :=
  match s.integ.audit with
  | none => s
  | some a => { s with integ := { s.integ with audit := some { a with shadow := some data, poison := poison } } }

/-- A part of a DMA read put among the others by its offset. -/
def insertPart (p : Nat × List Byte) : List (Nat × List Byte) → List (Nat × List Byte)
  | [] => [p]
  | q :: qs => if p.1 < q.1 then p :: q :: qs else q :: insertPart p qs

/-- The data of a DMA read; what has not come is zero. -/
def DmaJob.data (j : DmaJob) : List Byte := padTo j.len (j.parts.foldl (fun d p => padTo p.1 d ++ p.2) [])

/-- The words of a DMA read delivered to their consumer. -/
def State.deliverRead (s : State) (j : DmaJob) : State :=
  match j.use with
  | .queueEntry q => s.pairEntry q j.data j.poison
  | .streamEntry c => s.chanEntry c j.data j.poison
  | .auditShadow => s.auditShadow j.data j.poison
  | .bootImage => s.bootImage j.data j.poison
  | .saveImage m => s.saveImage m j.data j.poison
  | .dropped => s

/-- An outstanding DMA read leaves. -/
def State.dropRead (s : State) (tag : Nat) : State :=
  { s with host := { s.host with reads := s.host.reads.filter (fun r => r.tag != tag) } }

/-- The data of one request has come, or is taken as zero with poison: its job goes to its consumer when nothing of it is
missing any more, and the next requests are issued. -/
def State.takePart (s : State) (r : DmaRead) (data : List Byte) (poison : Bool) : State :=
  let s1 := s.dropRead r.tag
  match s1.host.jobs.find? (fun j => j.id == r.job) with
  | none => s1
  | some j =>
    let k : DmaJob := { j with parts := insertPart (r.off, padTo r.len data) j.parts, poison := j.poison || poison }
    if k.issued = k.len ∧ ¬ s1.host.reads.any (fun x => x.job == k.id) then
      State.issueReads 64 (({ s1 with host := { s1.host with
        jobs := s1.host.jobs.filter (fun x => x.id != k.id) } } : State).deliverRead k)
    else
      State.issueReads 64 { s1 with host := { s1.host with jobs := s1.host.jobs.map (fun x => if x.id = k.id then k else x) } }

/-- DMA_COMPLETION: the completion of a read request; one that matches no outstanding read is an Unexpected Completion (R202,
R204). -/
def execDmaCompletion (tag : Nat) (data : List Byte) (ep : Bool) (s : State) : Out :=
  let s := s.touchLink
  match s.host.reads.find? (fun r => r.tag == tag) with
  | none => ok (s.aerAdvisory .unexpectedCpl)
  | some r => ok ((if ep then (s.aerAdvisory .poisonedTlp).inc GLB_ERR_CNT_ep_rx else s).takePart r data ep)

/-- DMA_CPL_TIMEOUT: the words are delivered with zero data and poison (R204); none while the timeout is disabled (R177). -/
def execDmaCplTimeout (tag : Nat) (s : State) : Out :=
  match s.host.reads.find? (fun r => r.tag == tag) with
  | none => ok s
  | some r =>
    if s.host.cfg.cplTimeoutDisable then ok s
    else ok ((((s.inc GLB_CPL_CNT_cpl_timeouts).raise GLB_STATUS_cpl_timeout).aer .cplTimeout).takePart r [] true)

/-- RING_ENTRY_RETRY (R223). -/
def execRingEntryRetry (r : Ring) (s : State) : Out :=
  match r with
  | .queue q => ok (s.retryPair q.val)
  | .stream c => ok (s.retryChan c.val)

/-! ### Configuration space -/

/-- DMA reads and rings go on once the module may issue requests again. -/
def State.pumpRings (s : State) : State :=
  (List.range 16).foldl (fun s c => s.pumpChan c)
    ((List.range 16).foldl (fun s q => if s.qOpen q then s.servePair q else s) (State.issueReads 64 s))

/-- A configuration write. -/
def State.cfgWrite (s : State) (r : CfgReq) : State :=
  let set (c : ConfigSpace) : State := { s with host := { s.host with cfg := c } }
  let c := s.host.cfg
  match r with
  | .read _ => s
  | .command m b => ((set { c with memEnable := m, busMaster := b }).sendAllPending).pumpRings
  | .linkControl a p => set { c with aspmL1 := a, clockPm := p }
  | .deviceControl p r => set { c with maxPayload := p, maxReadReq := r }
  | .deviceControl2 t d => set { c with cplTimeoutValue := t, cplTimeoutDisable := d }
  | .msixControl e m => (set { c with msixEnable := e, msixFuncMask := m }).sendAllPending
  | .base .bar0 a => set { c with bar0 := a.toNat / 0x400000 * 0x400000 }
  | .base .bar2 a => set { c with bar2 := a.toNat / 0x100000 * 0x100000 }
  | .aerClear e => { s with host := { s.host with aer := s.host.aer.filter (· != e) } }
  | .aerMask e b => { s with host := { s.host with aerMask := setIn s.host.aerMask e b } }
  | .aerSeverity e b =>
    if aerUncorr.any (fun x => x.1 == e) then { s with host := { s.host with aerFatal := setIn s.host.aerFatal e b } } else s
  | .errorReporting l => set { c with errEnable := l }
  | .laneMargin l w => set { c with margin := c.margin.set l w }

/-- CONFIGURATION_REQUEST: a read returns its dword; a write takes effect and is completed (R172 to R177, R202). -/
def execConfigurationRequest (r : CfgReq) (s : State) : Out :=
  let s := s.touchLink
  match r with
  | .read off =>
    ok ((s.reply (leBytes 4 (s.cfgDword (off.toNat / 4 * 4))) false .success).nextFree)
  | r => ok ((s.cfgWrite r).reply [] false .success)

/-! ### Resets of the link (R205, R206, R796) -/

/-- Queue pairs stop: an open pair admits nothing more, drops its staged descriptors and its results (R205). -/
def State.stopQueues (s : State) : State :=
  (List.range 16).foldl (fun s q =>
    if s.qOpen q then
      (((s.setBit SRCH_STATUS_q_stopped 0 q true).setPair q
        { s.pair q with staged := [], reading := none, retries := 0, held := [], gone := true }).noteFull q).settleClose q
    else s) s

/-- Stream channels halt with reason 6. Their fetches stop without a completion entry, and the data of reads already issued is
dropped (R205). -/
def State.stopStreams (s : State) : State :=
  (List.range 16).foldl (fun s c =>
    if s.chOpen c then
      let ids := (s.strm.fetches.filter (fun f => f.ofChan c)).map (·.id)
      let s1 := ids.foldl (fun s id =>
        ((List.range 2).foldl (fun s p => s.dropData p (fun u => u == .fetch id)) s).dropWalkers (fun w => w == .fetch id)) s
      let s2 : State := { s1 with strm := { s1.strm with fetches := s1.strm.fetches.filter (fun f => !f.ofChan c) } }
      (((s2.haltChan c 6).wri STRM_CH_STATUS_halt_reason c 6).noteChan c).settleChan c
    else s) s

/-- The ring reads of queue pairs and stream channels are dropped. -/
def State.dropRingReads (s : State) : State :=
  s.dropJobs (fun u => match u with
    | .queueEntry _ => true
    | .streamEntry _ => true
    | _ => false)

/-- A read that the reset abandons, delivered to a consumer that still waits for it: what has not come is zero, with poison,
counted nowhere (R796). -/
def State.abandonRead (s : State) (j : DmaJob) : State :=
  match j.use with
  | .queueEntry _ => s
  | .streamEntry _ => s
  | .auditShadow => s.auditShadow j.data true
  | .bootImage => s.bootRefused stWrongState 0
  | .saveImage m => s.saveImage m j.data true
  | .dropped => s

/-- The registers of a range of BAR0 back at their reset values. -/
def State.resetRegs (s : State) (lo hi : Nat) : State := { s with regs := storeDelRange s.regs (32 * lo) (32 * hi) }

/-- What R205 resets: configuration space, the MSI-X table and the pending bits, the vector map, the windows and
GLB_STATUS_EN, the doorbells, and the registered dump buffer; every DMA write not yet sent is discarded (R206). -/
def State.resetLinkState (s : State) : State :=
  let s1 : State := { s with host := { s.host with
    cfg := ConfigSpace.reset, tx := [], jobs := [], reads := [], holdoff := [], heldMsg := [], doorbells := [], inL1 := false } }
  ((((s1.resetRegs 0x1C 0x20).resetRegs 0x40 0xC8).resetRegs 0x100 0x140).resetRegs 0x12020 0x1202C).resetRegs 0x20000 0x21008

/-- Window reads in progress have their results discarded (R205). -/
def State.dropWindow (s : State) : State :=
  ({ s with srch := { s.srch with
      window := []
      inFlight := s.srch.inFlight.map (fun f => match f.src with
        | .window l _ => { f with src := .window l 0 }
        | _ => f) } } : State).noteWindow

/-- The link state that a kind of reset leaves: the data link layer goes down with PERST_N, a Hot Reset and DL_Down, and the
link trains again while PERST_N stays deasserted. -/
def State.linkAfter (s : State) (k : LinkReset) : State :=
  match k with
  | .perst => { s.wr GLB_LINK_link_up 0 with host := { s.host with perstHigh := false, training := false } }
  | .hotReset => s.wr GLB_LINK_link_up 0
  | .dlDown => (s.wr GLB_LINK_link_up 0).inc GLB_LINK_CNT_link_down_count
  | .flr => s
  | .d3hotToD0 => s

/-- HOST_LINK_RESET. -/
def execHostLinkReset (k : LinkReset) (s : State) : Out :=
  let s1 := s.resetLinkState.dropWindow
  let s2 := (s1.stopQueues).stopStreams
  let s3 := s.host.jobs.foldl State.abandonRead s2
  ok (((s3.linkAfter k).inc GLB_RESET_CNT_host_link_resets).raise GLB_STATUS_host_reset)

/-- D3HOT_ENTRY: what was issued is sent first, then the completion of the configuration write; the queue pairs and the stream
channels stop (R207). -/
def execD3hotEntry (s : State) : Out :=
  let s1 : State := { s with host := { s.host with tx := [], cfg := { s.host.cfg with d3hot := true }, inL1 := false } }
  if s.host.cfg.d3hot then ok (s.reply [] false .success)
  else ok (((s1.dropRingReads.stopQueues).stopStreams).reply [] false .success)

/-! ### The link comes up -/

/-- PERST_N_DEASSERT: training begins once START has completed (R41). WAKE_N is released once the START that follows the wake
source has completed, and not in the sequence that comes before it (R122). -/
def execPerstNDeassert (s : State) : Out :=
  ok { s with host := { s.host with perstHigh := true, training := s.host.training || s.alive || s.inSequence
                                    wakeN := s.host.wakeN && !s.alive } }

/-- The codes of a trained width and speed in GLB_LINK (R172). -/
def linkWidthOk (w : Nat) : Bool := w == 1 || w == 2 || w == 4
def linkSpeedOk (v : Nat) : Bool := 1 ≤ v && v ≤ 4

/-- LINK_UP: the data link layer comes up with a width and a speed; a link that was up has retrained. A follower whose wait for
CHAIN_UP is over returns to the head role now (R447). -/
def execLinkUp (width speed : Nat) (reversed : Bool) (s : State) : Out :=
  if s.host.training && linkWidthOk width && linkSpeedOk speed then
    let s1 := if s.rd GLB_LINK_link_up = 1 then s.inc GLB_LINK_CNT_retrain_count else s
    let s2 := (((s1.wr GLB_LINK_width width).wr GLB_LINK_speed speed).wr GLB_LINK_lanes_reversed (b2n reversed)).wr
      GLB_LINK_link_up 1
    if s2.chain.upLate && s2.isFollower && s2.rd CHN_STATUS_state == 1 then ok s2.backToHead else ok s2
  else ok s

/-- ASPM_L1_REQUEST: after 16 µs with nothing to send, nothing outstanding and no MSI-X message pending, masked or in its
holdoff, the link enters L1 (R176). A doorbell is acted on within its own step. -/
def execAspmL1Request (s : State) : Out :=
  if s.host.cfg.aspmL1 && s.rd GLB_LINK_link_up == 1 && s.host.tx.isEmpty && s.host.reads.isEmpty && s.host.heldMsg.isEmpty &&
      s.rd MSIX_PBA_pending == 0 then
    ok { s with host := { s.host with inL1 := true } }
  else ok s

end Sys2Proof.Machine
end

