-- ==== Sys2Proof/Machine/Take.lean ====
section
/-! DEFINITION. The taking of a command: the copy of its slot, the checks of its header, its relay to another member, and what
becomes of accepted commands while no command can be taken (R233, R239 to R250, R253, R266, R267, R597). -/

namespace Sys2Proof.Machine
open Reg

/-! ### The copy (R229, R233) -/

/-- The command in a slot of 256 bytes; the copy holds the first param_len parameter bytes. -/
def slotCmd (b : List Byte) : Cmd :=
  { opcode := fieldAt b 0 2, flags := fieldAt b 2 1, target := fieldAt b 3 1, tag := fieldAt b 4 2, timeoutMs := fieldAt b 8 2
    params := (b.drop 16).take (min 240 (fieldAt b 6 2)), stage := .fresh, relayed := false }

/-- The second check of R239: flags, target and param_len. Every timeout_ms is allowed (R229). -/
def headerOk (b : List Byte) : Bool :=
  fieldAt b 2 1 < 2 && (fieldAt b 3 1 < 0x20 || fieldAt b 3 1 == 0xFF) && fieldAt b 6 2 ≤ 240

/-- The opcode check of R239: the detail of BAD_OPCODE, if it fails (R238). -/
def opcodeFail (m : Mb) (op : Nat) : Option Nat :=
  if !opcodes.contains op then some 0 else if accepts m op then none else some 1

/-- The command is for this module (R267). A relayed command is at its destination. -/
def State.forMe (s : State) (m : Mb) (c : Cmd) : Bool :=
  m == .relay || c.target == 0xFF || (s.isHead && c.target == s.ownAddr)

/-! ### Which command is taken (R240, R253) -/

/-- A claim that waits names a block that the command writes; a warm start writes the blocks of the tables that it restores
(R253). -/
def State.claimAhead (s : State) (c : Cmd) : Bool :=
  let warm := if c.opcode = 0x1105 then s.warmBlocks c else []
  (s.waiters 0x0104).any (fun n => match (s.mbx n).taken with
    | some k => (s.cmdWrites c ++ warm).any (bitOf (k.u32 0))
    | none => false)

/-- The slot image of the next command of a mailbox. -/
def State.nextSlot (s : State) (m : Mb) : List Byte :=
  match m with
  | .relay => match s.chain.relayQ with
    | r :: _ => padTo 256 r.slot
    | [] => []
  | m => s.bar2Get (slotAt (mbIdx m) (s.doneCnt m)) 256

/-- An idle mailbox has an ACCEPTED command. -/
def State.hasNext (s : State) (m : Mb) : Bool :=
  (s.mbx m).taken.isNone && (match m with
    | .relay => !s.chain.relayQ.isEmpty
    | m => s.doneCnt m != s.posted m)

/-- The rebuild that follows a release of LPM runs, and a command writes LPM (R427). -/
def State.rebuildAhead (s : State) (c : Cmd) : Bool :=
  s.rd LPM_STATUS_rebuild == 1 && (s.cmdWrites c ++ (if c.opcode = 0x1105 then s.warmBlocks c else [])).contains 12

/-- Nothing keeps the next command of a mailbox from being taken: no waiting claim names its blocks, no rebuild of LPM comes before
it, and neither it nor this member waits for CHAIN_UP. -/
def State.canTake (s : State) (m : Mb) : Bool :=
  let c := slotCmd (s.nextSlot m)
  s.hasNext m && !(s.forMe m c && (s.claimAhead c || s.rebuildAhead c)) &&
    !(!s.forMe m c && s.isHead && s.chain.enum.isSome) && !(m == .relay && s.rd CHN_STATUS_state == 1)

/-- The mailboxes in the order of R240: URGENT, then the others in rotation. -/
def State.takeOrder (s : State) : List Mb :=
  .urgent :: (List.range 3).map (fun k => mbOf (1 + (s.eupex.nextMb + 2 + k) % 3))

/-- The module takes the next command of mailbox `m` before that of any other; the chain port's stands apart. -/
def State.takesNext (s : State) (m : Mb) : Bool :=
  s.canTake m && (m == .relay || s.takeOrder.find? s.canTake == some m)

/-- The control core runs firmware that takes commands. -/
def State.serving (s : State) : Bool :=
  s.alive && s.rd PWR_STATE_fw_state == 2 && s.rd DBG_HALT_ctl_halt == 0 && !s.cores.ctlDead

/-! ### Taking -/

/-- The rotation goes on behind a mailbox. -/
def State.rotate (s : State) (m : Mb) : State :=
  match m with
  | .urgent | .relay => s
  | m => { s with eupex := { s.eupex with nextMb := 1 + mbIdx m % 3 } }

/-- The next command is TAKEN: state 0x02 in its slot and its opcode in cur_opcode; a relayed one leaves the chain port's queue,
and its data RAM range is written (R466). -/
def State.mark (s : State) (m : Mb) (c : Cmd) : State :=
  let t := s.setMbx m { s.mbx m with taken := some c }
  match m with
  | .relay =>
    match t.chain.relayQ with
    | r :: rs =>
      let u : State := { t with chain := { t.chain with relayQ := rs, relayCur := some r } }
      match c.range with
      | some g => u.refPut g 0 ((r.slot.drop 256).take g.2)
      | none => u
    | [] => t
  | m =>
    ((t.bar2Put (slotAt (mbIdx m) (s.doneCnt m) + 0x0B) [2]).wri MBX_MB_INFO_cur_opcode (mbIdx m) c.opcode).rotate m

/-- Words that the control core reads from BAR2 RAM, reported where they fail (R593). -/
def State.noteRange (s : State) (off len : Nat) : State :=
  s.reportRange sidBar2 off len 3

/-- A range whose words carry poison. -/
def State.badRange (s : State) (off len : Nat) : Bool := len != 0 && s.rangePoison sidBar2 off len

/-- The command is relayed (R267, R467): NOT_FOUND when no member holds its target, BAD_PARAM for a range above 64 KiB, VOID
when the member is cut off, else a CMD packet. -/
def State.relay (s : State) (m : Mb) (c : Cmd) (slot : List Byte) : State :=
  if !s.isHead || s.members ≤ c.target then s.fail m stNotFound
  else if 65536 < (c.range.getD (0, 0)).2 then s.badParam m (((cmdRefAt c.opcode).map (·.1)).getD 0)
  else if !s.reaches c.target then s.fail m stVoid
  else
    let t := s.setMbx m { s.mbx m with taken := some { c with stage := .waiting, relayed := true } }
    t.ask c.target 1 0 (slot ++ (c.range.map s.refBytes).getD []) m

/-- A taken command that passes its checks runs here, or is relayed. A command that needs a gated block ends DOZE (R116). -/
def State.start (s : State) (m : Mb) (c : Cmd) (slot : List Byte) : State :=
  if !s.forMe m c then s.relay m c slot
  else if needsGated c.opcode then s.exitDoze else s

/-- A command is taken and checked in the order of R239. A copy or a range with poison completes POISONED (R597). -/
def State.take (s : State) (m : Mb) : State :=
  let b := s.nextSlot m
  let c := slotCmd b
  let at_ := slotAt (mbIdx m) (s.doneCnt m)
  let len := 16 + c.params.length
  let s1 := if m == .relay then s else s.noteRange at_ len
  let t := s1.mark m c
  if m != .relay && s.badRange at_ len then t.fail m stPoisoned
  else match opcodeFail m c.opcode with
    | some d => t.done m stBadOpcode d []
    | none =>
      if !headerOk b then t.badParam m 0xFFFF
      else
        let r := c.range.getD (0, 0)
        if t.badRange (dataRam + r.1) r.2 then (t.noteRange (dataRam + r.1) r.2).fail m stPoisoned
        else t.start m c b

/-- MAILBOX_TAKE: the module takes the next command of an idle mailbox (R240). At a follower, in the fatal state and with a
failed boot accepted commands complete instead (R266, R250, R246); while firmware is not ready they wait (R245). -/
def execMailboxTake (m : Mb) (s : State) : Out :=
  if m != .relay && s.isFollower then ok (State.settleFollower 8 m s).fillFollower
  else if s.fatal then ok (if m == .relay then s.completeRelayed stVoid else State.flushAccepted stVoid m 8 s)
  else if s.rd PWR_STATE_fw_state = 3 then
    ok (if m == .relay then s.completeRelayed stWrongState else State.flushAccepted stWrongState m 8 s)
  else if s.serving && s.takesNext m then ok (s.take m) else ok s

end Sys2Proof.Machine
end

