-- ==== Sys2Proof/Machine/Dispatch.lean ====
section
/-! DEFINITION. The dispatch: one arm per command or event of the table, each one direct call of its meaning. -/

namespace Sys2Proof.Machine

def exec (i : Instr) (s : State) : Host.Outcome State Fault Refusal :=
  match i with
  | .pwrMarginQuery m => Sys2Proof.Machine.execPwrMarginQuery m s
  | .pwrMarginSet m => Sys2Proof.Machine.execPwrMarginSet m s
  | .pwrStateQuery m => Sys2Proof.Machine.execPwrStateQuery m s
  | .pwrDoze m => Sys2Proof.Machine.execPwrDoze m s
  | .pwrWake m => Sys2Proof.Machine.execPwrWake m s
  | .pwrStandby m => Sys2Proof.Machine.execPwrStandby m s
  | .pwrShutdown m => Sys2Proof.Machine.execPwrShutdown m s
  | .pwrVinWarnSet m => Sys2Proof.Machine.execPwrVinWarnSet m s
  | .thmQuery m => Sys2Proof.Machine.execThmQuery m s
  | .thmLimitsSet m => Sys2Proof.Machine.execThmLimitsSet m s
  | .thmLevelsSet m => Sys2Proof.Machine.execThmLevelsSet m s
  | .thmModelQuery m => Sys2Proof.Machine.execThmModelQuery m s
  | .sysIdentify m => Sys2Proof.Machine.execSysIdentify m s
  | .sysStateQuery m => Sys2Proof.Machine.execSysStateQuery m s
  | .sysReset m => Sys2Proof.Machine.execSysReset m s
  | .sysExpertClaim m => Sys2Proof.Machine.execSysExpertClaim m s
  | .sysExpertRelease m => Sys2Proof.Machine.execSysExpertRelease m s
  | .sysAbort m => Sys2Proof.Machine.execSysAbort m s
  | .sysNop m => Sys2Proof.Machine.execSysNop m s
  | .sysEventConfig m => Sys2Proof.Machine.execSysEventConfig m s
  | .profileSet m => Sys2Proof.Machine.execProfileSet m s
  | .profileGet m => Sys2Proof.Machine.execProfileGet m s
  | .profileDelete m => Sys2Proof.Machine.execProfileDelete m s
  | .profileQueueOpen m => Sys2Proof.Machine.execProfileQueueOpen m s
  | .profileQueueClose m => Sys2Proof.Machine.execProfileQueueClose m s
  | .profileWindowSet m => Sys2Proof.Machine.execProfileWindowSet m s
  | .tableCreate m => Sys2Proof.Machine.execTableCreate m s
  | .tableDelete m => Sys2Proof.Machine.execTableDelete m s
  | .tableGrow m => Sys2Proof.Machine.execTableGrow m s
  | .tableShrink m => Sys2Proof.Machine.execTableShrink m s
  | .tableQuery m => Sys2Proof.Machine.execTableQuery m s
  | .tableCastle m => Sys2Proof.Machine.execTableCastle m s
  | .tableBlockPower m => Sys2Proof.Machine.execTableBlockPower m s
  | .tableImageLoad m => Sys2Proof.Machine.execTableImageLoad m s
  | .tableImageSave m => Sys2Proof.Machine.execTableImageSave m s
  | .tablePublish m => Sys2Proof.Machine.execTablePublish m s
  | .tableClear m => Sys2Proof.Machine.execTableClear m s
  | .tableDixLimit m => Sys2Proof.Machine.execTableDixLimit m s
  | .entryWrite m => Sys2Proof.Machine.execEntryWrite m s
  | .entryDelete m => Sys2Proof.Machine.execEntryDelete m s
  | .entryRead m => Sys2Proof.Machine.execEntryRead m s
  | .entryResult m => Sys2Proof.Machine.execEntryResult m s
  | .learnConfig m => Sys2Proof.Machine.execLearnConfig m s
  | .learnQuery m => Sys2Proof.Machine.execLearnQuery m s
  | .learnWalk m => Sys2Proof.Machine.execLearnWalk m s
  | .learnFlush m => Sys2Proof.Machine.execLearnFlush m s
  | .chainEnumerate m => Sys2Proof.Machine.execChainEnumerate m s
  | .chainQuery m => Sys2Proof.Machine.execChainQuery m s
  | .chainGroups m => Sys2Proof.Machine.execChainGroups m s
  | .chainRegAccess m => Sys2Proof.Machine.execChainRegAccess m s
  | .chainBoot m => Sys2Proof.Machine.execChainBoot m s
  | .slotQuery m => Sys2Proof.Machine.execSlotQuery m s
  | .slotMount m => Sys2Proof.Machine.execSlotMount m s
  | .slotUnmount m => Sys2Proof.Machine.execSlotUnmount m s
  | .slotEject m => Sys2Proof.Machine.execSlotEject m s
  | .slotPortReset m => Sys2Proof.Machine.execSlotPortReset m s
  | .slotSaveQuery m => Sys2Proof.Machine.execSlotSaveQuery m s
  | .slotSaveRead m => Sys2Proof.Machine.execSlotSaveRead m s
  | .slotSaveWrite m => Sys2Proof.Machine.execSlotSaveWrite m s
  | .slotPageRead m => Sys2Proof.Machine.execSlotPageRead m s
  | .slotPageProgram m => Sys2Proof.Machine.execSlotPageProgram m s
  | .slotBlockErase m => Sys2Proof.Machine.execSlotBlockErase m s
  | .streamOpen m => Sys2Proof.Machine.execStreamOpen m s
  | .streamClose m => Sys2Proof.Machine.execStreamClose m s
  | .streamResume m => Sys2Proof.Machine.execStreamResume m s
  | .streamQuery m => Sys2Proof.Machine.execStreamQuery m s
  | .guardQuery m => Sys2Proof.Machine.execGuardQuery m s
  | .guardRulesLoad m => Sys2Proof.Machine.execGuardRulesLoad m s
  | .guardSlotInfo m => Sys2Proof.Machine.execGuardSlotInfo m s
  | .guardReauth m => Sys2Proof.Machine.execGuardReauth m s
  | .guardKeyQuery m => Sys2Proof.Machine.execGuardKeyQuery m s
  | .guardConfig m => Sys2Proof.Machine.execGuardConfig m s
  | .guardTagXfer m => Sys2Proof.Machine.execGuardTagXfer m s
  | .integQuery m => Sys2Proof.Machine.execIntegQuery m s
  | .integSteep m => Sys2Proof.Machine.execIntegSteep m s
  | .integScrub m => Sys2Proof.Machine.execIntegScrub m s
  | .integAudit m => Sys2Proof.Machine.execIntegAudit m s
  | .integInject m => Sys2Proof.Machine.execIntegInject m s
  | .integLogRead m => Sys2Proof.Machine.execIntegLogRead m s
  | .fwQuery m => Sys2Proof.Machine.execFwQuery m s
  | .fwStore m => Sys2Proof.Machine.execFwStore m s
  | .fwActivate m => Sys2Proof.Machine.execFwActivate m s
  | .caddyQuery m => Sys2Proof.Machine.execCaddyQuery m s
  | .caddyJournalConfig m => Sys2Proof.Machine.execCaddyJournalConfig m s
  | .caddyJournalCommit m => Sys2Proof.Machine.execCaddyJournalCommit m s
  | .caddyJournalClear m => Sys2Proof.Machine.execCaddyJournalClear m s
  | .caddyWarmStart m => Sys2Proof.Machine.execCaddyWarmStart m s
  | .caddyScratchRead m => Sys2Proof.Machine.execCaddyScratchRead m s
  | .caddyScratchWrite m => Sys2Proof.Machine.execCaddyScratchWrite m s
  | .dumpConfig m => Sys2Proof.Machine.execDumpConfig m s
  | .dumpQuery m => Sys2Proof.Machine.execDumpQuery m s
  | .dumpTake m => Sys2Proof.Machine.execDumpTake m s
  | .dumpClear m => Sys2Proof.Machine.execDumpClear m s
  | .otpQuery m => Sys2Proof.Machine.execOtpQuery m s
  | .otpSettingsWrite m => Sys2Proof.Machine.execOtpSettingsWrite m s
  | .otpSecurityWrite m => Sys2Proof.Machine.execOtpSecurityWrite m s
  | .otpLockDebug m => Sys2Proof.Machine.execOtpLockDebug m s
  | .otpSvRaise m => Sys2Proof.Machine.execOtpSvRaise m s
  | .pinPadConfig m => Sys2Proof.Machine.execPinPadConfig m s
  | .pinQuery m => Sys2Proof.Machine.execPinQuery m s
  | .pinGpioWrite m => Sys2Proof.Machine.execPinGpioWrite m s
  | .pinIrqConfig m => Sys2Proof.Machine.execPinIrqConfig m s
  | .pinWakeConfig m => Sys2Proof.Machine.execPinWakeConfig m s
  | .pinSmbConfig m => Sys2Proof.Machine.execPinSmbConfig m s
  | .pinPeriphSet m => Sys2Proof.Machine.execPinPeriphSet m s
  | .pinUartXfer m => Sys2Proof.Machine.execPinUartXfer m s
  | .pinI2cXfer m => Sys2Proof.Machine.execPinI2cXfer m s
  | .dozeReq w => Sys2Proof.Machine.execDozeReq w s
  | .wakeReq w => Sys2Proof.Machine.execWakeReq w s
  | .standbyReq w => Sys2Proof.Machine.execStandbyReq w s
  | .shutdownReq w => Sys2Proof.Machine.execShutdownReq w s
  | .mmClear off w => Sys2Proof.Machine.execMmClear off w s
  | .hwClr w => Sys2Proof.Machine.execHwClr w s
  | .plyLoRead => Sys2Proof.Machine.execPlyLoRead s
  | .rcRead bar off len full => Sys2Proof.Machine.execRcRead bar off len full s
  | .registerWrite bar off data => Sys2Proof.Machine.execRegisterWrite bar off data s
  | .profLoad w => Sys2Proof.Machine.execProfLoad w s
  | .profDeleteWrite w => Sys2Proof.Machine.execProfDeleteWrite w s
  | .qEnSet q w => Sys2Proof.Machine.execQEnSet q w s
  | .qEnClear q w => Sys2Proof.Machine.execQEnClear q w s
  | .castleGo w => Sys2Proof.Machine.execCastleGo w s
  | .tcamUpdEntryWrite w => Sys2Proof.Machine.execTcamUpdEntryWrite w s
  | .tcamUpdEntryDelete w => Sys2Proof.Machine.execTcamUpdEntryDelete w s
  | .tcamUpdResultWrite w => Sys2Proof.Machine.execTcamUpdResultWrite w s
  | .blkOwnedSet b w => Sys2Proof.Machine.execBlkOwnedSet b w s
  | .blkOwnedClear b w => Sys2Proof.Machine.execBlkOwnedClear b w s
  | .gateReq b w => Sys2Proof.Machine.execGateReq b w s
  | .ungateReq b w => Sys2Proof.Machine.execUngateReq b w s
  | .tcamTblCreateWrite t w => Sys2Proof.Machine.execTcamTblCreateWrite t w s
  | .tcamTblDeleteWrite t w => Sys2Proof.Machine.execTcamTblDeleteWrite t w s
  | .tcamTblHiddenWrite t w => Sys2Proof.Machine.execTcamTblHiddenWrite t w s
  | .hashUpdInsert w => Sys2Proof.Machine.execHashUpdInsert w s
  | .hashUpdDelete w => Sys2Proof.Machine.execHashUpdDelete w s
  | .hashUpdResult w => Sys2Proof.Machine.execHashUpdResult w s
  | .hashTblCreateWrite t w => Sys2Proof.Machine.execHashTblCreateWrite t w s
  | .hashTblDeleteWrite t w => Sys2Proof.Machine.execHashTblDeleteWrite t w s
  | .hashTblHiddenWrite t w => Sys2Proof.Machine.execHashTblHiddenWrite t w s
  | .dixUpdWrite w => Sys2Proof.Machine.execDixUpdWrite w s
  | .dixLimitWrite w => Sys2Proof.Machine.execDixLimitWrite w s
  | .lpmUpdInsert w => Sys2Proof.Machine.execLpmUpdInsert w s
  | .lpmUpdDelete w => Sys2Proof.Machine.execLpmUpdDelete w s
  | .lpmUpdResultChange w => Sys2Proof.Machine.execLpmUpdResultChange w s
  | .lpmRootCreateWrite r w => Sys2Proof.Machine.execLpmRootCreateWrite r w s
  | .lpmRootDeleteWrite r w => Sys2Proof.Machine.execLpmRootDeleteWrite r w s
  | .lpmRootHiddenWrite r w => Sys2Proof.Machine.execLpmRootHiddenWrite r w s
  | .lpmDefaultRouteWrite r result w => Sys2Proof.Machine.execLpmDefaultRouteWrite r result w s
  | .chnEnumerateWrite w => Sys2Proof.Machine.execChnEnumerateWrite w s
  | .chnGroupsWrite w => Sys2Proof.Machine.execChnGroupsWrite w s
  | .slotPowerOn p w => Sys2Proof.Machine.execSlotPowerOn p w s
  | .slotPowerOff p w => Sys2Proof.Machine.execSlotPowerOff p w s
  | .slotEjectWrite p w => Sys2Proof.Machine.execSlotEjectWrite p w s
  | .slotPortResetWrite p w => Sys2Proof.Machine.execSlotPortResetWrite p w s
  | .slotOpReadPageRaw p w => Sys2Proof.Machine.execSlotOpReadPageRaw p w s
  | .slotOpProgramRaw p w => Sys2Proof.Machine.execSlotOpProgramRaw p w s
  | .slotOpEraseBlock p w => Sys2Proof.Machine.execSlotOpEraseBlock p w s
  | .slotOpReset p w => Sys2Proof.Machine.execSlotOpReset p w s
  | .slotOpReadId p w => Sys2Proof.Machine.execSlotOpReadId p w s
  | .slotOpReadParameterPage p w => Sys2Proof.Machine.execSlotOpReadParameterPage p w s
  | .slotOpDataAccess p w => Sys2Proof.Machine.execSlotOpDataAccess p w s
  | .strmChEnSet c w => Sys2Proof.Machine.execStrmChEnSet c w s
  | .strmChEnClear c w => Sys2Proof.Machine.execStrmChEnClear c w s
  | .strmChResumeWrite c w => Sys2Proof.Machine.execStrmChResumeWrite c w s
  | .scrubGo w => Sys2Proof.Machine.execScrubGo w s
  | .auditGo w => Sys2Proof.Machine.execAuditGo w s
  | .flipArm w => Sys2Proof.Machine.execFlipArm w s
  | .logConsWrite w => Sys2Proof.Machine.execLogConsWrite w s
  | .seenClr w => Sys2Proof.Machine.execSeenClr w s
  | .dbgHaltWrite w => Sys2Proof.Machine.execDbgHaltWrite w s
  | .otpProgGo w => Sys2Proof.Machine.execOtpProgGo w s
  | .pinSet w => Sys2Proof.Machine.execPinSet w s
  | .pinClr w => Sys2Proof.Machine.execPinClr w s
  | .pinTgl w => Sys2Proof.Machine.execPinTgl w s
  | .padCfgWrite n w => Sys2Proof.Machine.execPadCfgWrite n w s
  | .uartTxPush u w => Sys2Proof.Machine.execUartTxPush u w s
  | .uartRxPop u => Sys2Proof.Machine.execUartRxPop u s
  | .i2cGo w => Sys2Proof.Machine.execI2cGo w s
  | .windowRead n off len => Sys2Proof.Machine.execWindowRead n off len s
  | .windowWrite n off data => Sys2Proof.Machine.execWindowWrite n off data s
  | .windowSearch lane len => Sys2Proof.Machine.execWindowSearch lane len s
  | .mailboxDoorbell m w => Sys2Proof.Machine.execMailboxDoorbell m w s
  | .eventConsumerDoorbell w => Sys2Proof.Machine.execEventConsumerDoorbell w s
  | .ringProducerDoorbell ring w => Sys2Proof.Machine.execRingProducerDoorbell ring w s
  | .ringConsumerDoorbell ring w => Sys2Proof.Machine.execRingConsumerDoorbell ring w s
  | .doorbellCountWordWrite off w => Sys2Proof.Machine.execDoorbellCountWordWrite off w s
  | .bootRecordWrite off data => Sys2Proof.Machine.execBootRecordWrite off data s
  | .epWriteReceived bar off data => Sys2Proof.Machine.execEpWriteReceived bar off data s
  | .d3hotEntry => Sys2Proof.Machine.execD3hotEntry s
  | .msixUnmask vec => Sys2Proof.Machine.execMsixUnmask vec s
  | .msixHoldoffExpiry vec => Sys2Proof.Machine.execMsixHoldoffExpiry vec s
  | .hostLinkReset kind => Sys2Proof.Machine.execHostLinkReset kind s
  | .perstNDeassert => Sys2Proof.Machine.execPerstNDeassert s
  | .linkUp width speed reversed => Sys2Proof.Machine.execLinkUp width speed reversed s
  | .aspmL1Request => Sys2Proof.Machine.execAspmL1Request s
  | .dmaCompletion tag data ep => Sys2Proof.Machine.execDmaCompletion tag data ep s
  | .dmaCplTimeout tag => Sys2Proof.Machine.execDmaCplTimeout tag s
  | .ringEntryRetry ring => Sys2Proof.Machine.execRingEntryRetry ring s
  | .searchAdmission => Sys2Proof.Machine.execSearchAdmission s
  | .searchFabricCompletion tag => Sys2Proof.Machine.execSearchFabricCompletion tag s
  | .lateDiscard tag => Sys2Proof.Machine.execLateDiscard tag s
  | .searchDelivery => Sys2Proof.Machine.execSearchDelivery s
  | .fabricWordTransfer mv => Sys2Proof.Machine.execFabricWordTransfer mv s
  | .fifoStall n => Sys2Proof.Machine.execFifoStall n s
  | .canaryLaunch => Sys2Proof.Machine.execCanaryLaunch s
  | .canaryMeasurement taps => Sys2Proof.Machine.execCanaryMeasurement taps s
  | .canaryMiss => Sys2Proof.Machine.execCanaryMiss s
  | .marginQualifyTimeout => Sys2Proof.Machine.execMarginQualifyTimeout s
  | .strobeLost => Sys2Proof.Machine.execStrobeLost s
  | .followerStrobeTimeout => Sys2Proof.Machine.execFollowerStrobeTimeout s
  | .supervisorArm => Sys2Proof.Machine.execSupervisorArm s
  | .startCondition st => Sys2Proof.Machine.execStartCondition st s
  | .vinFall => Sys2Proof.Machine.execVinFall s
  | .shutdownStep2End => Sys2Proof.Machine.execShutdownStep2End s
  | .shutdownStep3End committed => Sys2Proof.Machine.execShutdownStep3End committed s
  | .shutdownStep4End => Sys2Proof.Machine.execShutdownStep4End s
  | .shutdownStep5End => Sys2Proof.Machine.execShutdownStep5End s
  | .shutdownStep6End us => Sys2Proof.Machine.execShutdownStep6End us s
  | .vinCut => Sys2Proof.Machine.execVinCut s
  | .slotPowerFault p => Sys2Proof.Machine.execSlotPowerFault p s
  | .railFault rail => Sys2Proof.Machine.execRailFault rail s
  | .dozeGate => Sys2Proof.Machine.execDozeGate s
  | .dozeUngateDone => Sys2Proof.Machine.execDozeUngateDone s
  | .wakeSource src => Sys2Proof.Machine.execWakeSource src s
  | .standbyTimer => Sys2Proof.Machine.execStandbyTimer s
  | .standbyVinLow => Sys2Proof.Machine.execStandbyVinLow s
  | .powerSample ps => Sys2Proof.Machine.execPowerSample ps s
  | .ntcSample raw conv => Sys2Proof.Machine.execNtcSample raw conv s
  | .graceExpiry => Sys2Proof.Machine.execGraceExpiry s
  | .levelHoldExpiry => Sys2Proof.Machine.execLevelHoldExpiry s
  | .modelStale => Sys2Proof.Machine.execModelStale s
  | .sensorFaultClear => Sys2Proof.Machine.execSensorFaultClear s
  | .mailboxTake m => Sys2Proof.Machine.execMailboxTake m s
  | .commandTimeout m => Sys2Proof.Machine.execCommandTimeout m s
  | .claimTakeEffect => Sys2Proof.Machine.execClaimTakeEffect s
  | .fwReady => Sys2Proof.Machine.execFwReady s
  | .controlCoreReset => Sys2Proof.Machine.execControlCoreReset s
  | .guardCoreReset => Sys2Proof.Machine.execGuardCoreReset s
  | .guardCoreStart => Sys2Proof.Machine.execGuardCoreStart s
  | .coreTrap c f => Sys2Proof.Machine.execCoreTrap c f s
  | .watchdogExpiry c f => Sys2Proof.Machine.execWatchdogExpiry c f s
  | .dumpWritten => Sys2Proof.Machine.execDumpWritten s
  | .bootImageVerified => Sys2Proof.Machine.execBootImageVerified s
  | .journalCommitTimer => Sys2Proof.Machine.execJournalCommitTimer s
  | .checkpointEnd => Sys2Proof.Machine.execCheckpointEnd s
  | .updateCommit => Sys2Proof.Machine.execUpdateCommit s
  | .castlingCommit => Sys2Proof.Machine.execCastlingCommit s
  | .guardCastlingCommit => Sys2Proof.Machine.execGuardCastlingCommit s
  | .blockUngateDone b => Sys2Proof.Machine.execBlockUngateDone b s
  | .blockInvalidateDone b => Sys2Proof.Machine.execBlockInvalidateDone b s
  | .sweepDone t => Sys2Proof.Machine.execSweepDone t s
  | .overlayDisarm => Sys2Proof.Machine.execOverlayDisarm s
  | .lpmRebuildDone => Sys2Proof.Machine.execLpmRebuildDone s
  | .walkEnd k => Sys2Proof.Machine.execWalkEnd k s
  | .agerPass => Sys2Proof.Machine.execAgerPass s
  | .headRoleTake => Sys2Proof.Machine.execHeadRoleTake s
  | .trainEnd => Sys2Proof.Machine.execTrainEnd s
  | .tokenFrame count stamp serial seq => Sys2Proof.Machine.execTokenFrame count stamp serial seq s
  | .tokenTimeout => Sys2Proof.Machine.execTokenTimeout s
  | .chainUpTimeout => Sys2Proof.Machine.execChainUpTimeout s
  | .searchFrame profile key fetchClass => Sys2Proof.Machine.execSearchFrame profile key fetchClass s
  | .answerFrame a => Sys2Proof.Machine.execAnswerFrame a s
  | .statusFrame r => Sys2Proof.Machine.execStatusFrame r s
  | .cmdPacket p => Sys2Proof.Machine.execCmdPacket p s
  | .rspPacket p => Sys2Proof.Machine.execRspPacket p s
  | .eventPacket p => Sys2Proof.Machine.execEventPacket p s
  | .rfetchPacket p => Sys2Proof.Machine.execRfetchPacket p s
  | .rdataPacket p => Sys2Proof.Machine.execRdataPacket p s
  | .rdonePacket p => Sys2Proof.Machine.execRdonePacket p s
  | .rfetchResend id => Sys2Proof.Machine.execRfetchResend id s
  | .chainUpPacket p => Sys2Proof.Machine.execChainUpPacket p s
  | .groupsPacket p => Sys2Proof.Machine.execGroupsPacket p s
  | .groupsCommit => Sys2Proof.Machine.execGroupsCommit s
  | .regPacket p => Sys2Proof.Machine.execRegPacket p s
  | .regRspPacket p => Sys2Proof.Machine.execRegRspPacket p s
  | .bootPacket p => Sys2Proof.Machine.execBootPacket p s
  | .bootRspPacket p => Sys2Proof.Machine.execBootRspPacket p s
  | .enumerationCommit => Sys2Proof.Machine.execEnumerationCommit s
  | .slotInsertion p => Sys2Proof.Machine.execSlotInsertion p s
  | .slotRemoval p => Sys2Proof.Machine.execSlotRemoval p s
  | .slotVccDelayedOff p => Sys2Proof.Machine.execSlotVccDelayedOff p s
  | .ejectPulseEnd p => Sys2Proof.Machine.execEjectPulseEnd p s
  | .unmountDrainEnd p => Sys2Proof.Machine.execUnmountDrainEnd p s
  | .dieOperationComplete p die r => Sys2Proof.Machine.execDieOperationComplete p die r s
  | .pageDataReceived p die page => Sys2Proof.Machine.execPageDataReceived p die page s
  | .sectorDecrypted id => Sys2Proof.Machine.execSectorDecrypted id s
  | .fetchCompletion c => Sys2Proof.Machine.execFetchCompletion c s
  | .streamRequestTake c => Sys2Proof.Machine.execStreamRequestTake c s
  | .extentKeyLoaded id => Sys2Proof.Machine.execExtentKeyLoaded id s
  | .fetchTimeout id => Sys2Proof.Machine.execFetchTimeout id s
  | .saveCommit p m => Sys2Proof.Machine.execSaveCommit p m s
  | .tagTransaction p frame => Sys2Proof.Machine.execTagTransaction p frame s
  | .tagResultPoll p => Sys2Proof.Machine.execTagResultPoll p s
  | .reauthDue p => Sys2Proof.Machine.execReauthDue p s
  | .keySlotZeroise k => Sys2Proof.Machine.execKeySlotZeroise k s
  | .steepRead => Sys2Proof.Machine.execSteepRead s
  | .scrubDone => Sys2Proof.Machine.execScrubDone s
  | .auditDone => Sys2Proof.Machine.execAuditDone s
  | .otpWordProgrammed readback => Sys2Proof.Machine.execOtpWordProgrammed readback s
  | .glitchFilterPass n level => Sys2Proof.Machine.execGlitchFilterPass n level s
  | .debounceExpiry n => Sys2Proof.Machine.execDebounceExpiry n s
  | .uartFrameReceived u b framing parity brk => Sys2Proof.Machine.execUartFrameReceived u b framing parity brk s
  | .uartFrameSent u => Sys2Proof.Machine.execUartFrameSent u s
  | .uartDeTailEnd u => Sys2Proof.Machine.execUartDeTailEnd u s
  | .i2cTransferEnd outcome written data => Sys2Proof.Machine.execI2cTransferEnd outcome written data s
  | .pwmPeriodBoundary k => Sys2Proof.Machine.execPwmPeriodBoundary k s
  | .pwmKill => Sys2Proof.Machine.execPwmKill s
  | .timerCount => Sys2Proof.Machine.execTimerCount s
  | .timerCapture k rising => Sys2Proof.Machine.execTimerCapture k rising s
  | .fanTachEdge k gap => Sys2Proof.Machine.execFanTachEdge k gap s
  | .fanStall k => Sys2Proof.Machine.execFanStall k s
  | .uinEdge k rising => Sys2Proof.Machine.execUinEdge k rising s
  | .smbStatusRead => Sys2Proof.Machine.execSmbStatusRead s
  | .smbTEstRead => Sys2Proof.Machine.execSmbTEstRead s
  | .smbTNtcRead => Sys2Proof.Machine.execSmbTNtcRead s
  | .smbVinRead => Sys2Proof.Machine.execSmbVinRead s
  | .smbPinRead => Sys2Proof.Machine.execSmbPinRead s
  | .smbSustainRead => Sys2Proof.Machine.execSmbSustainRead s
  | .smbCauseRead => Sys2Proof.Machine.execSmbCauseRead s
  | .smbCauseClear mask pec => Sys2Proof.Machine.execSmbCauseClear mask pec s
  | .smbSerialRead => Sys2Proof.Machine.execSmbSerialRead s
  | .smbRegptrWrite off pec => Sys2Proof.Machine.execSmbRegptrWrite off pec s
  | .smbRegRead => Sys2Proof.Machine.execSmbRegRead s
  | .smbAlertResponse => Sys2Proof.Machine.execSmbAlertResponse s
  | .smbTimeout => Sys2Proof.Machine.execSmbTimeout s
  | .tapExtest cells levels => Sys2Proof.Machine.execTapExtest cells levels s
  | .tapIdcode levels => Sys2Proof.Machine.execTapIdcode levels s
  | .tapSamplePreload cells levels => Sys2Proof.Machine.execTapSamplePreload cells levels s
  | .tapClamp levels => Sys2Proof.Machine.execTapClamp levels s
  | .tapHighz levels => Sys2Proof.Machine.execTapHighz levels s
  | .tapBypass levels => Sys2Proof.Machine.execTapBypass levels s
  | .slotPowerGood p => Sys2Proof.Machine.execSlotPowerGood p s
  | .trainFrame side phase => Sys2Proof.Machine.execTrainFrame side phase s
  | .frameError f => Sys2Proof.Machine.execFrameError f s
  | .islandLost isl => Sys2Proof.Machine.execIslandLost isl s
  | .configurationRequest r => Sys2Proof.Machine.execConfigurationRequest r s
  | .unsupportedRequest u => Sys2Proof.Machine.execUnsupportedRequest u s
  | .tapReset levels => Sys2Proof.Machine.execTapReset levels s

end Sys2Proof.Machine
end

