-- ==== Sys2Proof/Safety.lean ====
section
/-! DEFINITION. What the claims are about: a command that completes, the conditions under which a mailbox command and a
register write run their own effect, and the invariant that every step keeps. -/

namespace Sys2Proof.Machine
open Reg

/-- Command `i` run in state `s` answers the next state `t`. (Every command answers a state whose memory and register
file are in canonical form; `State.settled` puts them so and changes no value that a read gives.) -/
abbrev Completes (i : Instr) (s t : State) : Prop := exec i s = .next t.settled

/-- Mailbox `m` has taken command `c` with opcode `op`, has not begun it, and no block that it writes is claimed by the
host (R255). -/
abbrev Ready (s : State) (m : Mb) (op : Nat) (c : Cmd) : Prop := s.takenCmd m op = some c ∧ s.heldBlock c = none

/-- A register write of `w` at offset `off` arrives in a state `s` that does not discard it (R26), with `u` the state
after its W1C fields have acted and then a 1 in a reserved bit has been noted (R12, R15), and the host owns the register's block
(R188, R190). -/
abbrev Landed (s : State) (off : Nat) (w : RegWord) (u : State) : Prop :=
  s.discards = false ∧ s.hostOwns (off / 4096) = true ∧ u = ((s.arrive off).wrW1C off w).noteReserved off w

/-- A register write of `w` at offset `off` arrives in a state `s` that does not discard it, and the host does not own
the register's block: only its W1C fields act (R189); `u` is the state after them. -/
abbrev Basic (s : State) (off : Nat) (w : RegWord) (u : State) : Prop :=
  s.discards = false ∧ s.hostOwns (off / 4096) = false ∧ u = ((s.arrive off).wrW1C off w).noteReserved off w

/-- Every mailbox command with its opcode (the opcode table of the mailbox chapter). -/
def mailboxCommands : List (Nat × (Mb → Instr)) :=
  [(0x0101, Instr.sysIdentify), (0x0102, Instr.sysStateQuery), (0x0103, Instr.sysReset), (0x0104, Instr.sysExpertClaim),
   (0x0105, Instr.sysExpertRelease), (0x0106, Instr.sysAbort), (0x0107, Instr.sysNop), (0x0108, Instr.sysEventConfig),
   (0x0201, Instr.pwrStateQuery), (0x0202, Instr.pwrDoze), (0x0203, Instr.pwrWake), (0x0204, Instr.pwrStandby),
   (0x0205, Instr.pwrShutdown), (0x0206, Instr.pwrVinWarnSet), (0x0220, Instr.pwrMarginQuery), (0x0221, Instr.pwrMarginSet),
   (0x0301, Instr.thmQuery), (0x0302, Instr.thmLimitsSet), (0x0303, Instr.thmLevelsSet), (0x0304, Instr.thmModelQuery),
   (0x0401, Instr.otpQuery), (0x0402, Instr.otpSettingsWrite), (0x0403, Instr.otpSecurityWrite), (0x0404, Instr.otpLockDebug),
   (0x0405, Instr.otpSvRaise), (0x0501, Instr.chainEnumerate), (0x0502, Instr.chainQuery), (0x0503, Instr.chainGroups),
   (0x0504, Instr.chainRegAccess), (0x0505, Instr.chainBoot), (0x0601, Instr.tableCreate), (0x0602, Instr.tableDelete),
   (0x0603, Instr.tableGrow), (0x0604, Instr.tableShrink), (0x0605, Instr.tableQuery), (0x0606, Instr.tableCastle)] ++
  [(0x0607, Instr.tableBlockPower), (0x0608, Instr.tableImageLoad), (0x0609, Instr.tableImageSave),
   (0x060A, Instr.tablePublish),
   (0x060B, Instr.tableClear), (0x060C, Instr.tableDixLimit), (0x0701, Instr.entryWrite), (0x0702, Instr.entryDelete),
   (0x0703, Instr.entryRead), (0x0704, Instr.entryResult), (0x0801, Instr.profileSet), (0x0802, Instr.profileGet),
   (0x0803, Instr.profileDelete), (0x0810, Instr.profileQueueOpen), (0x0811, Instr.profileQueueClose),
   (0x0812, Instr.profileWindowSet), (0x0901, Instr.learnConfig), (0x0902, Instr.learnQuery), (0x0903, Instr.learnWalk),
   (0x0904, Instr.learnFlush), (0x0A01, Instr.slotQuery), (0x0A02, Instr.slotMount), (0x0A03, Instr.slotUnmount),
   (0x0A04, Instr.slotEject), (0x0A05, Instr.slotPortReset), (0x0A10, Instr.slotSaveQuery), (0x0A11, Instr.slotSaveRead),
   (0x0A12, Instr.slotSaveWrite), (0x0A20, Instr.slotPageRead), (0x0A21, Instr.slotPageProgram),
   (0x0A22, Instr.slotBlockErase),
   (0x0B01, Instr.streamOpen), (0x0B02, Instr.streamClose), (0x0B03, Instr.streamResume), (0x0B04, Instr.streamQuery),
   (0x0C01, Instr.guardQuery)] ++
  [(0x0C02, Instr.guardRulesLoad), (0x0C03, Instr.guardSlotInfo), (0x0C04, Instr.guardReauth), (0x0C05, Instr.guardKeyQuery),
   (0x0C06, Instr.guardConfig), (0x0C07, Instr.guardTagXfer), (0x0D01, Instr.integQuery), (0x0D02, Instr.integSteep),
   (0x0D03, Instr.integScrub), (0x0D04, Instr.integAudit), (0x0D05, Instr.integInject), (0x0D06, Instr.integLogRead),
   (0x0E01, Instr.pinPadConfig), (0x0E02, Instr.pinQuery), (0x0E03, Instr.pinGpioWrite), (0x0E04, Instr.pinIrqConfig),
   (0x0E05, Instr.pinWakeConfig), (0x0E06, Instr.pinSmbConfig), (0x0E07, Instr.pinPeriphSet), (0x0E08, Instr.pinUartXfer),
   (0x0E09, Instr.pinI2cXfer), (0x0F01, Instr.dumpConfig), (0x0F02, Instr.dumpQuery), (0x0F03, Instr.dumpTake),
   (0x0F04, Instr.dumpClear), (0x1001, Instr.fwQuery), (0x1002, Instr.fwStore), (0x1003, Instr.fwActivate),
   (0x1101, Instr.caddyQuery),
   (0x1102, Instr.caddyJournalConfig), (0x1103, Instr.caddyJournalCommit), (0x1104, Instr.caddyJournalClear),
   (0x1105, Instr.caddyWarmStart), (0x1106, Instr.caddyScratchRead), (0x1107, Instr.caddyScratchWrite)]

/-- The register writes that have an operation of their own, each with its BAR0 offset. -/
def controlWrites : List (Nat × (RegWord → Instr)) :=
  [(0x1004, Instr.dozeReq), (0x1004, Instr.wakeReq), (0x1004, Instr.standbyReq), (0x1004, Instr.shutdownReq),
   (0x4028, Instr.otpProgGo),
   (0x601C, Instr.pinSet), (0x6020, Instr.pinClr), (0x6024, Instr.pinTgl), (0x7050, Instr.chnEnumerateWrite),
   (0x7050, Instr.chnGroupsWrite),
   (0x8044, Instr.profLoad), (0x8044, Instr.profDeleteWrite), (0x9030, Instr.castleGo), (0xB028, Instr.dixUpdWrite),
   (0xB000, Instr.dixLimitWrite),
   (0xD080, Instr.scrubGo), (0xD0D8, Instr.auditGo), (0xD110, Instr.flipArm),
   (0x14004, Instr.dbgHaltWrite)] ++
  (List.finRange 16).flatMap (fun q => [(qCfgOff q.val, Instr.qEnSet q), (qCfgOff q.val, Instr.qEnClear q),
    (0xE118 + 0x40 * q.val, Instr.strmChEnSet q), (0xE118 + 0x40 * q.val, Instr.strmChEnClear q),
    (0xE128 + 0x40 * q.val, Instr.strmChResumeWrite q)]) ++
  (List.finRange 256).flatMap (fun b => [(blkOff b.val, Instr.blkOwnedSet b), (blkOff b.val, Instr.blkOwnedClear b),
    (blkOff b.val, Instr.gateReq b), (blkOff b.val, Instr.ungateReq b)]) ++
  (List.finRange 64).flatMap (fun t => [(tcamTblOff t.val, Instr.tcamTblCreateWrite t),
  (tcamTblOff t.val, Instr.tcamTblDeleteWrite t),
    (tcamTblOff t.val, Instr.tcamTblHiddenWrite t)]) ++
  (List.finRange 63).flatMap (fun t => [(hashTblOff t.val, Instr.hashTblCreateWrite t),
  (hashTblOff t.val, Instr.hashTblDeleteWrite t),
    (hashTblOff t.val, Instr.hashTblHiddenWrite t)]) ++
  (List.finRange 4).flatMap (fun r => [(lpmRootOff r.val, Instr.lpmRootCreateWrite r),
  (lpmRootOff r.val, Instr.lpmRootDeleteWrite r),
    (lpmRootOff r.val, Instr.lpmRootHiddenWrite r), (lpmRootOff r.val, Instr.lpmDefaultRouteWrite r false),
    (lpmRootOff r.val + 4, Instr.lpmDefaultRouteWrite r true)]) ++
  [Port.a, Port.b].flatMap (fun p => [(0xF010 + 0x100 * portIdx p, Instr.slotPowerOn p),
   (0xF010 + 0x100 * portIdx p, Instr.slotPowerOff p),
    (0xF010 + 0x100 * portIdx p, Instr.slotEjectWrite p), (0xF010 + 0x100 * portIdx p, Instr.slotPortResetWrite p),
    (0xF040 + 0x100 * portIdx p, Instr.slotOpReadPageRaw p), (0xF040 + 0x100 * portIdx p, Instr.slotOpProgramRaw p),
    (0xF040 + 0x100 * portIdx p, Instr.slotOpEraseBlock p), (0xF040 + 0x100 * portIdx p, Instr.slotOpReset p),
    (0xF040 + 0x100 * portIdx p, Instr.slotOpReadId p), (0xF040 + 0x100 * portIdx p, Instr.slotOpReadParameterPage p)]) ++
  (List.finRange 24).map (fun n => (0x6100 + 4 * n.val, Instr.padCfgWrite n)) ++
  (List.finRange 2).map (fun k => (0x6210 + 0x20 * k.val, Instr.uartTxPush k))

/-- The writes of the three update command registers, each with its BAR0 offset, its op field and the value of op that makes
it. -/
def updateWrites : List (Nat × Fld × Nat × (RegWord → Instr)) :=
  [(0x91B0, TCAM_UPD_CMD_op, 1, Instr.tcamUpdEntryWrite), (0x91B0, TCAM_UPD_CMD_op, 2, Instr.tcamUpdEntryDelete),
   (0x91B0, TCAM_UPD_CMD_op, 3, Instr.tcamUpdResultWrite), (0xA118, HASH_UPD_CMD_op, 1, Instr.hashUpdInsert),
   (0xA118, HASH_UPD_CMD_op, 2, Instr.hashUpdDelete), (0xA118, HASH_UPD_CMD_op, 3, Instr.hashUpdResult),
   (0xC20C, LPM_UPD_CMD_op, 1, Instr.lpmUpdInsert), (0xC20C, LPM_UPD_CMD_op, 2, Instr.lpmUpdDelete),
   (0xC20C, LPM_UPD_CMD_op, 3, Instr.lpmUpdResultChange)]

/-! ### What a command leaves as it was -/

/-- Every register field of the blocks that `pages` does not name holds the same value in `t` as in `s`. A field's key is
its bit address in BAR0, and a page is 4 KiB. -/
abbrev RegsKept (s t : State) (pages : List Nat) : Prop :=
  ∀ k, pages.contains (k / 131072) = false → storeGetD 0 t.regs k = storeGetD 0 s.regs k

/-- The blocks whose registers a discarded write at offset `off` may change: GLB, the MSI-X pending bits and the register's
own block, and PWR where the access ends DOZE (R116). -/
def basicPages (s : State) (off : Nat) : List Nat :=
  [0, 0x21, off / 4096] ++ (if gatedBlock (off / 4096) = true ∧ s.phase = .doze then [1] else [])

/-- Every byte of the memories outside bytes `lo` to `hi` of BAR2 RAM, and outside their check bytes, reads the same in `t`
as in `s`. -/
abbrev MemKept (s t : State) (lo hi : Nat) : Prop :=
  ∀ a, ¬(dataBase sidBar2 0 + lo ≤ a ∧ a < dataBase sidBar2 0 + hi) →
    ¬(checkBase sidBar2 0 + lo / 8 ≤ a ∧ a < checkBase sidBar2 0 + hi / 8) → memByte t.mem a = memByte s.mem a

/-- The parts of the state beside the registers, the memories and the queue. -/
inductive Part
  | host | eupex | clk | pwr | heat | integ | chain | srch | tbl | learn | jrnl | cores | slots | strm | guard | settings
  | otp | pins | free
  deriving DecidableEq, Repr

/-- The part `p` of the state is the same in `t` as in `s`. -/
def PartKept (s t : State) (p : Part) : Prop :=
  match p with
  | .host => t.host = s.host
  | .eupex => t.eupex = s.eupex
  | .clk => t.clk = s.clk
  | .pwr => t.pwr = s.pwr
  | .heat => t.heat = s.heat
  | .integ => t.integ = s.integ
  | .chain => t.chain = s.chain
  | .srch => t.srch = s.srch
  | .tbl => t.tbl = s.tbl
  | .learn => t.learn = s.learn
  | .jrnl => t.jrnl = s.jrnl
  | .cores => t.cores = s.cores
  | .slots => t.slots = s.slots
  | .strm => t.strm = s.strm
  | .guard => t.guard = s.guard
  | .settings => t.settings = s.settings
  | .otp => t.otp = s.otp
  | .pins => t.pins = s.pins
  | .free => t.free = s.free

/-- From `s` to `t` only the parts of `parts`, the registers of the blocks that `pages` admits and bytes `lo` to `hi` of BAR2
RAM with their check bytes may differ. -/
structure Frame (parts : List Part) (pages : Nat → Bool) (lo hi : Nat) (s t : State) : Prop where
  parts : ∀ p, parts.contains p = false → PartKept s t p
  regs : ∀ k, pages (k / 131072) = false → storeGetD 0 t.regs k = storeGetD 0 s.regs k
  mem : MemKept s t lo hi

/-- The blocks that an event may reach through its record and its interrupt: the mailbox block, the chain port and the
integrity block, the SMBus causes, and the MSI-X pending bits. -/
def eventPages : List Nat := [5, 6, 7, 0x0D, 0x21]

/-- The parts that an event may reach through its record and its interrupt: the host link's queue, the events that wait for
room, a follower's packets to its head, the seen list, and SMBALERT. -/
def eventParts : List Part := [.host, .eupex, .chain, .integ, .pins]

/-- From `s` to `t` only part `p`, the registers of block `n` and what an event reaches may differ: the event's bit, its
interrupt, its alert, and its record in the event ring or in a follower's packet. -/
abbrev BlockFrame (p : Part) (n : Nat) (s t : State) : Prop :=
  Frame (p :: eventParts) (n :: eventPages).contains 0x2000 0x3000 s t

/-- Every word of every structure but the caddy's and BAR2's RAM that `own` does not name reads the same in `t` as in `s`, data
and parity, in every copy. -/
abbrev WordsKept (s t : State) (own : Nat → Nat → Bool) : Prop :=
  ∀ sid wi, sid ≠ sidCaddy → sid ≠ sidBar2 → wi < 2 ^ 24 → own sid wi = false → readWord t.mem sid wi = readWord s.mem sid wi

/-- Bit `k` of a string of bytes. -/
def listBit (l : List Byte) (k : Nat) : Bool := (l.getD (k / 8) 0).getLsbD (k % 8)

/-- Position `f` of ternary table `t` holds an entry that matches a key (R322): it is an entry position of a block that
serves lookups of the table, every one of its array slots has valid set and passes parity, and every compared bit of its
value is the key's. -/
abbrev TcamMatches (s : State) (t : Nat) (key : List Byte) (f : Nat) : Prop :=
  f < 1048576 ∧ f % s.tblW t = 0 ∧ s.servesBlk t (f / 4096) = true ∧
    (∀ k < s.tblW t, slotValid (s.slot (f + k)) = true ∧ slotBad (s.slot (f + k)) = false) ∧
    ∀ k < 80 * s.tblW t, listBit (s.entryMask f (s.tblW t)) k = true →
      listBit (s.entryValue f (s.tblW t)) k = listBit key k

/-- The invariant of the model: the memories and the register file are in canonical form. -/
abbrev State.Inv (s : State) : Prop := s.mem.wf ∧ storeWf 0 s.regs

/-- A state from which the machine goes on. -/
abbrev Safe (s : State) : Prop := ∃ t, step s = .next t

end Sys2Proof.Machine
end

