-- ==== Sys2Proof/WellFormed.lean ====
section
/-! DEFINITION. When a command or event is well formed: its operands are ones that the host, the board or the module itself
can supply. The meanings are total all the same. -/

namespace Sys2Proof

/-- The bytes of a memory BAR (R174). -/
def Bar.size : Bar → Nat
  | .bar0 => 4 * 1024 * 1024
  | .bar2 => 1024 * 1024

/-- An access of `len` bytes at `off` lies inside a memory BAR (R174). -/
def accessOk (bar : Bar) (off len : Nat) : Bool := 1 ≤ len && len ≤ 4096 && off + len ≤ bar.size

/-- A register offset of BAR0: dword aligned, below the windows (R178, R180). -/
def regOffOk (off : Nat) : Bool := off % 4 == 0 && off < 0x100000

/-- The kind codes of the packet rows (the table under R465). -/
def kindCmd : Nat := 1
def kindRsp : Nat := 2
def kindEvent : Nat := 3
def kindRfetch : Nat := 4
def kindRdata : Nat := 5
def kindRdone : Nat := 6
def kindChainUp : Nat := 7
def kindGroups : Nat := 8
def kindReg : Nat := 9
def kindRegRsp : Nat := 0xA
def kindBoot : Nat := 0xB
def kindBootRsp : Nat := 0xC

/-- A packet of kind `kind` whose fields fit a PKT_HEAD frame and whose payload fits its PKT_DATA frames (R441). -/
def Packet.wf (kind : Nat) (p : Packet) : Bool :=
  p.dst < 32 && p.src < 32 && p.kind == kind && p.tag < 65536 && p.payload.length ≤ 4095 * 15

/-- A whole page with its spare bytes as a die returns it (R501). -/
def pageLength : Nat := 17632

/-- The well-formedness of a command or event. -/
def Instr.wf : Instr → Bool
  | .mmClear off _ => regOffOk off
  | .rcRead bar off len _ => accessOk bar off len
  | .registerWrite bar off data => accessOk bar off data.length
  | .windowRead _ off len => 1 ≤ len && off + len ≤ 0x20000
  | .windowWrite _ off data => 1 ≤ data.length && off + data.length ≤ 0x20000
  | .windowSearch _ len => 1 ≤ len && len ≤ 128
  | .doorbellCountWordWrite off _ => 0x3000 ≤ off && off < 0x6000
  | .bootRecordWrite off data => 0x10000 ≤ off && 1 ≤ data.length && off + data.length ≤ 0x90000
  | .epWriteReceived bar off data => accessOk bar off data.length
  | .linkUp width speed _ => (width == 1 || width == 2 || width == 4) && 1 ≤ speed && speed ≤ 4
  | .dmaCompletion tag data _ => tag < 256 && data.length ≤ 4 * 1024 * 1024
  | .dmaCplTimeout tag => tag < 256
  | .startCondition st => st.fillUs ≤ st.startUs
  | .powerSample ps => ps.vinMv < 65536 && ps.iinMa < 65536
  | .ntcSample _ conv => -32768 ≤ conv && conv < 32768
  | .coreTrap _ f => f.regs.length == 10
  | .watchdogExpiry _ f => f.regs.length == 10
  | .answerFrame a => a.others.all (fun n => n < 4) && a.member < 32
  | .cmdPacket p => p.wf kindCmd
  | .rspPacket p => p.wf kindRsp
  | .eventPacket p => p.wf kindEvent
  | .rfetchPacket p => p.wf kindRfetch
  | .rdataPacket p => p.wf kindRdata
  | .rdonePacket p => p.wf kindRdone
  | .chainUpPacket p => p.wf kindChainUp
  | .groupsPacket p => p.wf kindGroups
  | .regPacket p => p.wf kindReg
  | .regRspPacket p => p.wf kindRegRsp
  | .bootPacket p => p.wf kindBoot
  | .bootRspPacket p => p.wf kindBootRsp
  | .pageDataReceived _ _ page => page.length == pageLength
  | .tagTransaction _ frame => frame.length ≤ 3 + 65535 + 4
  | .i2cTransferEnd _ written data => written ≤ 64 && data.length ≤ 64
  | .pwrMarginQuery .. | .pwrMarginSet .. | .pwrStateQuery .. | .pwrDoze .. | .pwrWake .. | .pwrStandby ..
  | .pwrShutdown .. | .pwrVinWarnSet .. | .thmQuery .. | .thmLimitsSet .. | .thmLevelsSet ..
  | .thmModelQuery .. | .sysIdentify .. | .sysStateQuery .. | .sysReset .. | .sysExpertClaim ..
  | .sysExpertRelease .. | .sysAbort .. | .sysNop .. | .sysEventConfig .. | .profileSet .. | .profileGet ..
  | .profileDelete .. | .profileQueueOpen .. | .profileQueueClose .. | .profileWindowSet .. | .tableCreate ..
  | .tableDelete .. | .tableGrow .. | .tableShrink .. | .tableQuery .. | .tableCastle .. | .tableBlockPower ..
  | .tableImageLoad .. | .tableImageSave .. | .tablePublish .. | .tableClear .. | .tableDixLimit ..
  | .entryWrite .. | .entryDelete .. | .entryRead .. | .entryResult .. | .learnConfig .. | .learnQuery ..
  | .learnWalk .. | .learnFlush .. | .chainEnumerate .. | .chainQuery .. | .chainGroups .. | .chainRegAccess ..
  | .chainBoot .. | .slotQuery .. | .slotMount .. | .slotUnmount .. | .slotEject .. | .slotPortReset ..
  | .slotSaveQuery .. | .slotSaveRead .. | .slotSaveWrite .. | .slotPageRead .. | .slotPageProgram ..
  | .slotBlockErase .. | .streamOpen .. | .streamClose .. | .streamResume .. | .streamQuery .. | .guardQuery ..
  | .guardRulesLoad .. | .guardSlotInfo .. | .guardReauth .. | .guardKeyQuery .. | .guardConfig ..
  | .guardTagXfer .. | .integQuery .. | .integSteep .. | .integScrub .. | .integAudit .. | .integInject ..
  | .integLogRead .. | .fwQuery .. | .fwStore .. | .fwActivate .. | .caddyQuery .. | .caddyJournalConfig ..
  | .caddyJournalCommit .. | .caddyJournalClear .. | .caddyWarmStart .. | .caddyScratchRead ..
  | .caddyScratchWrite .. | .dumpConfig .. | .dumpQuery .. | .dumpTake .. | .dumpClear .. | .otpQuery ..
  | .otpSettingsWrite .. | .otpSecurityWrite .. | .otpLockDebug .. | .otpSvRaise .. | .pinPadConfig ..
  | .pinQuery .. | .pinGpioWrite .. | .pinIrqConfig .. | .pinWakeConfig .. | .pinSmbConfig ..
  | .pinPeriphSet .. | .pinUartXfer .. | .pinI2cXfer .. | .dozeReq .. | .wakeReq .. | .standbyReq ..
  | .shutdownReq .. | .hwClr .. | .plyLoRead .. | .profLoad .. | .profDeleteWrite .. | .qEnSet ..
  | .qEnClear .. | .castleGo .. | .tcamUpdEntryWrite .. | .tcamUpdEntryDelete .. | .tcamUpdResultWrite ..
  | .blkOwnedSet .. | .blkOwnedClear .. | .gateReq .. | .ungateReq .. | .tcamTblCreateWrite ..
  | .tcamTblDeleteWrite .. | .tcamTblHiddenWrite .. | .hashUpdInsert .. | .hashUpdDelete .. | .hashUpdResult ..
  | .hashTblCreateWrite .. | .hashTblDeleteWrite .. | .hashTblHiddenWrite .. | .dixUpdWrite ..
  | .dixLimitWrite .. | .lpmUpdInsert .. | .lpmUpdDelete .. | .lpmUpdResultChange .. | .lpmRootCreateWrite ..
  | .lpmRootDeleteWrite .. | .lpmRootHiddenWrite .. | .lpmDefaultRouteWrite .. | .chnEnumerateWrite ..
  | .chnGroupsWrite .. | .slotPowerOn .. | .slotPowerOff .. | .slotEjectWrite .. | .slotPortResetWrite ..
  | .slotOpReadPageRaw .. | .slotOpProgramRaw .. | .slotOpEraseBlock .. | .slotOpReset .. | .slotOpReadId ..
  | .slotOpReadParameterPage .. | .slotOpDataAccess .. | .strmChEnSet .. | .strmChEnClear ..
  | .strmChResumeWrite .. | .scrubGo .. | .auditGo .. | .flipArm .. | .logConsWrite .. | .seenClr ..
  | .dbgHaltWrite .. | .otpProgGo .. | .pinSet .. | .pinClr .. | .pinTgl .. | .padCfgWrite .. | .uartTxPush ..
  | .uartRxPop .. | .i2cGo .. | .mailboxDoorbell .. | .eventConsumerDoorbell .. | .ringProducerDoorbell ..
  | .ringConsumerDoorbell .. | .d3hotEntry .. | .msixUnmask .. | .msixHoldoffExpiry .. | .hostLinkReset ..
  | .perstNDeassert .. | .aspmL1Request .. | .ringEntryRetry .. | .searchAdmission ..
  | .searchFabricCompletion .. | .lateDiscard .. | .searchDelivery .. | .fabricWordTransfer .. | .fifoStall ..
  | .canaryLaunch .. | .canaryMeasurement .. | .canaryMiss .. | .marginQualifyTimeout .. | .strobeLost ..
  | .followerStrobeTimeout .. | .supervisorArm .. | .vinFall .. | .shutdownStep2End .. | .shutdownStep3End ..
  | .shutdownStep4End .. | .shutdownStep5End .. | .shutdownStep6End .. | .vinCut .. | .slotPowerFault ..
  | .railFault .. | .dozeGate .. | .dozeUngateDone .. | .wakeSource .. | .standbyTimer .. | .standbyVinLow ..
  | .graceExpiry .. | .levelHoldExpiry .. | .modelStale .. | .sensorFaultClear .. | .mailboxTake ..
  | .commandTimeout .. | .claimTakeEffect .. | .fwReady .. | .controlCoreReset .. | .guardCoreReset ..
  | .guardCoreStart .. | .dumpWritten .. | .bootImageVerified .. | .journalCommitTimer .. | .checkpointEnd ..
  | .updateCommit .. | .castlingCommit .. | .guardCastlingCommit .. | .blockUngateDone ..
  | .blockInvalidateDone .. | .sweepDone .. | .overlayDisarm .. | .lpmRebuildDone .. | .walkEnd ..
  | .agerPass .. | .headRoleTake .. | .trainEnd .. | .tokenFrame .. | .tokenTimeout .. | .chainUpTimeout ..
  | .searchFrame .. | .statusFrame .. | .rfetchResend .. | .groupsCommit .. | .enumerationCommit ..
  | .slotInsertion .. | .slotRemoval .. | .slotVccDelayedOff .. | .ejectPulseEnd .. | .unmountDrainEnd ..
  | .dieOperationComplete .. | .sectorDecrypted .. | .fetchCompletion .. | .streamRequestTake ..
  | .extentKeyLoaded .. | .fetchTimeout .. | .saveCommit .. | .tagResultPoll .. | .reauthDue ..
  | .keySlotZeroise .. | .steepRead .. | .scrubDone .. | .auditDone .. | .otpWordProgrammed ..
  | .glitchFilterPass .. | .debounceExpiry .. | .uartFrameReceived .. | .uartFrameSent .. | .uartDeTailEnd ..
  | .pwmPeriodBoundary .. | .pwmKill .. | .timerCount .. | .timerCapture .. | .fanTachEdge .. | .fanStall ..
  | .uinEdge .. | .smbStatusRead .. | .smbTEstRead .. | .smbTNtcRead .. | .smbVinRead .. | .smbPinRead ..
  | .smbSustainRead .. | .smbCauseRead .. | .smbCauseClear .. | .smbSerialRead .. | .smbRegptrWrite ..
  | .smbRegRead .. | .smbAlertResponse .. | .smbTimeout .. | .tapExtest .. | .tapIdcode ..
  | .tapSamplePreload .. | .tapClamp .. | .tapHighz .. | .tapBypass .. | .slotPowerGood .. | .trainFrame ..
  | .frameError .. | .islandLost .. | .configurationRequest .. | .unsupportedRequest .. | .tapReset .. => true

end Sys2Proof
end

