-- ==== Sys2Proof/Certificates/Slice0/Obligations.lean ====
section
/-! DEFINITION. The statements for the provers. -/

open Sys2Proof Sys2Proof.Machine Sys2Proof.Machine.Reg

/-! ### Mailbox commands: where each completes, and what it leaves

`Ready s m op c` says that mailbox m has taken the command c and that no block it writes is claimed; the parameter ranges are
those that the command's section gives. A command that waits for an event has begun: the event's own statement says what
completes it. -/

/-- The power, clock-margin and heat commands (R61, R83, R94, R113, R116, R119, R121, R139, R143, R149, R167, R169, R170). -/
def Obligations.PowerHeatCommandsComplete : Prop :=
  ∀ (m : Mb) (s : State) (c : Cmd),
    (Ready s m 0x0220 c → Completes (.pwrMarginQuery m) s (s.okResp m s.marginResp)) ∧
    (Ready s m 0x0221 c → 102 ≤ c.u16 0 → c.u16 0 ≤ 254 → 4 ≤ c.u16 2 → c.u16 2 ≤ 64 → 26 ≤ c.u16 4 →
      c.u16 4 + c.u16 2 + 1 ≤ c.u16 0 → c.u8 6 ≤ 56 → c.notZero 7 1 = none →
      Completes (.pwrMarginSet m) s (((((s.wr CLK_MARGIN_CTRL_canary_target (c.u16 0)).wr CLK_MARGIN_CTRL_canary_hyst
        (c.u16 2)).wr CLK_MARGIN_CTRL_canary_floor (c.u16 4)).wr CLK_MARGIN_LIMIT_margin_code_min (c.u8 6)).holdMargin.okResp
        m (c.bytes 0 8))) ∧
    (Ready s m 0x0201 c → Completes (.pwrStateQuery m) s (s.okResp m s.pwrStateResp)) ∧
    (Ready s m 0x0202 c → s.dozeRefusal = none → Completes (.pwrDoze m) s (s.acceptDoze.wait m)) ∧
    (Ready s m 0x0203 c → s.phase = .run → Completes (.pwrWake m) s (s.okResp m [])) ∧
    (Ready s m 0x0203 c → s.phase ≠ .run → Completes (.pwrWake m) s (s.exitDoze.wait m)) ∧
    (Ready s m 0x0204 c → (c.u8 4 % 2 = 1 → 1 ≤ c.u32 0 ∧ c.u32 0 ≤ 4194303) → 1 ≤ c.u8 4 → c.u8 4 < 32 → c.u8 5 ≤ 1 →
      c.notZero 6 2 = none → s.alive = true → ∀ t, t = s.okResp m [] →
      Completes (.pwrStandby m) s (({ t with
        pwr := { t.pwr with wakeEn := c.u8 4, wakeNAssert := c.u8 5 == 1, timerS := c.u32 0 } } :
        State).beginSequence .standby true)) ∧
    (Ready s m 0x0205 c → c.u8 0 = 0 → c.notZero 1 3 = none → (s.inSequence && !s.atTrigger) = false →
      Completes (.pwrShutdown m) s ((s.okResp m []).trigger .cmd)) ∧
    (Ready s m 0x0205 c → c.u8 0 = 1 → c.notZero 1 3 = none → (s.inSequence && !s.atTrigger) = false →
      Completes (.pwrShutdown m) s ((s.okResp m []).trigger .cmdRestart)) ∧
    (Ready s m 0x0206 c → 9000 ≤ c.u16 0 → c.u16 0 ≤ 60000 → c.u8 2 ≤ 1 → c.notZero 3 1 = none →
      Completes (.pwrVinWarnSet m) s (((s.wr PWR_VIN_WARN_vin_warn_mv (c.u16 0)).wr PWR_VIN_WARN_vin_warn_en
        (c.u8 2)).okResp m [])) ∧
    (Ready s m 0x0301 c → Completes (.thmQuery m) s (s.okResp m s.thmResp)) ∧
    (Ready s m 0x0302 c → 60 ≤ c.u8 0 → c.u8 0 + 6 ≤ c.u8 1 → 105 ≤ c.u8 1 → c.u8 1 ≤ 118 → 1 ≤ c.u8 2 → c.u8 2 ≤ 15 →
      1 ≤ c.u8 3 → c.u8 3 ≤ 15 → 1 ≤ c.u16 4 → c.u16 4 ≤ 10000 → 1 ≤ c.u8 6 → c.notZero 7 1 = none →
      Completes (.thmLimitsSet m) s (((((((s.wr THM_LIMITS_warn_c (c.u8 0)).wr THM_LIMITS_crit_c (c.u8 1)).wr
        THM_LIMITS_hyst_c (c.u8 2)).wr THM_LIMITS_step_c (c.u8 3)).wr THM_LIMITS_hold_ms (c.u8 6)).wr THM_GRACE_grace_ms
        (c.u16 4)).okResp m [])) ∧
    (Ready s m 0x0303 c →
      (∀ n < 3, 1 ≤ c.u16 (6 * n) ∧ c.u16 (6 * n) ≤ 400 ∧ 1 ≤ c.u16 (6 * n + 2) ∧ c.u16 (6 * n + 2) ≤ 1023 ∧
        1 ≤ c.u8 (6 * n + 4) ∧ c.u8 (6 * n + 4) ≤ 100 ∧ c.notZero (6 * n + 5) 1 = none) →
      (∀ n < 2, c.u16 (6 * (n + 1)) ≤ c.u16 (6 * n) ∧ c.u16 (6 * (n + 1) + 2) ≤ c.u16 (6 * n + 2) ∧
        c.u8 (6 * (n + 1) + 4) ≤ c.u8 (6 * n + 4)) →
      s.rdi THM_LEVEL_adm_cap 3 ≤ c.u16 12 → s.rdi THM_LEVEL_strm_cap 3 ≤ c.u16 14 →
      s.rdi THM_LEVEL_media_pct 3 ≤ c.u8 16 →
      Completes (.thmLevelsSet m) s (((List.range 3).foldl (fun s n => ((s.wri THM_LEVEL_adm_cap n (c.u16 (6 * n))).wri
        THM_LEVEL_strm_cap n (c.u16 (6 * n + 2))).wri THM_LEVEL_media_pct n (c.u8 (6 * n + 4))) s).okResp m [])) ∧
    (Ready s m 0x0304 c → Completes (.thmModelQuery m) s
      (s.okResp m ((List.range 4).flatMap (fun k =>
          leBytes 2 (s.rdi THM_POLE_R_r k) ++ leBytes 3 (s.rdi THM_POLE_A_alpha k) ++ leBytes 1 0 ++
            leBytes 2 (s.rdi THM_POLE_DT_dt k)) ++
        leBytes 2 (s.rd THM_MODEL_CTRL_k_eff) ++ leBytes 2 (s.rd THM_MODEL_CTRL_p_other_cw) ++
        leBytes 2 (s.rd THM_NTC_CAL_ntc_r25) ++ leBytes 2 (s.rd THM_NTC_CAL_ntc_beta))))

/-- The SYS commands (R4, R237, R252, R257, R260, R269, R270, R272).
An EXPERT_CLAIM that names GLB answers DENIED (log entry 180). -/
def Obligations.SysCommandsComplete : Prop :=
  ∀ (m : Mb) (s : State) (c : Cmd),
    (Ready s m 0x0101 c → Completes (.sysIdentify m) s (s.okResp m s.identifyResp)) ∧
    (Ready s m 0x0102 c → Completes (.sysStateQuery m) s (s.okResp m s.stateResp)) ∧
    (Ready s m 0x0103 c → c.u8 0 = 1 → c.notZero 1 3 = none → s.inSequence = false →
      Completes (.sysReset m) s (s.okResp m []).plannedRestart) ∧
    (Ready s m 0x0103 c → c.u8 0 = 2 → c.notZero 1 3 = none → s.inSequence = false →
      Completes (.sysReset m) s ((s.okResp m []).restartGuard stAborted)) ∧
    (Ready s m 0x0104 c → c.u32 0 ≠ 0 → c.u32 0 < 2 ^ 21 → s.claimDenied (c.u32 0) = none →
      s.claimBusy m (c.u32 0) = false → ∀ t, t = s.setClaims (s.rd GLB_CLAIM_claimed ||| c.u32 0) →
      Completes (.sysExpertClaim m) s (t.okResp m t.claimResp)) ∧
    (Ready s m 0x0104 c → c.u32 0 ≠ 0 → c.u32 0 < 2 ^ 21 → s.claimDenied (c.u32 0) = none →
      s.claimBusy m (c.u32 0) = true → Completes (.sysExpertClaim m) s (s.wait m)) ∧
    (∀ b, Ready s m 0x0104 c → c.u32 0 ≠ 0 → c.u32 0 < 2 ^ 21 → s.claimDenied (c.u32 0) = some b →
      Completes (.sysExpertClaim m) s (s.done m stDenied b [])) ∧
    (Ready s m 0x0104 c → c.u32 0 % 2 = 1 → c.u32 0 < 2 ^ 21 →
      Completes (.sysExpertClaim m) s (s.done m stDenied 0 [])) ∧
    (Ready s m 0x0105 c → c.u32 0 ≠ 0 → c.u32 0 % 2 = 0 → c.u32 0 < 2 ^ 21 → ∀ t, t = s.releaseClaims (c.u32 0) →
      Completes (.sysExpertRelease m) s (t.okResp m t.claimResp)) ∧
    (Ready s m 0x0106 c → 1 ≤ c.u8 0 → c.u8 0 ≤ 3 → c.notZero 1 1 = none → s.cmdState (mbOf (c.u8 0)) (c.u16 2) = 1 →
      Completes (.sysAbort m) s ((State.settleMarked 8 (mbOf (c.u8 0)) (s.setMbx (mbOf (c.u8 0))
        { s.mbx (mbOf (c.u8 0)) with marked := (s.mbx (mbOf (c.u8 0))).marked ++ [c.u16 2] })).okResp m [1])) ∧
    (Ready s m 0x0106 c → 1 ≤ c.u8 0 → c.u8 0 ≤ 3 → c.notZero 1 1 = none → s.cmdState (mbOf (c.u8 0)) (c.u16 2) = 2 →
      ∀ t, t = s.stopCmd (mbOf (c.u8 0)) stAborted →
      Completes (.sysAbort m) s (if (t.mbx (mbOf (c.u8 0))).taken.isSome = true then t.wait m else t.okResp m [2])) ∧
    (Ready s m 0x0107 c → Completes (.sysNop m) s (s.okResp m c.params)) ∧
    (Ready s m 0x0108 c → c.u8 0 < 2 → c.u8 1 < 2 → c.u16 2 < 1024 →
      Completes (.sysEventConfig m) s ((s.irqFrom (((s.wr MBX_CFG_evt_irq (c.u8 0)).wr MBX_CFG_reg_events (c.u8 1)).wr
        MBX_CFG_mbx_event_en (c.u16 2))).okResp m []))

/-- The PROFILE commands (R276, R282, R298, R309, R312, R313).
QUEUE_OPEN before any profile is defined answers BAD_PARAM (log entry 184). -/
def Obligations.ProfileCommandsComplete : Prop :=
  ∀ (m : Mb) (s : State) (c : Cmd),
    (Ready s m 0x0801 c → profileBad (c.bytes 0 96) = none → ∀ t, t = s.commitProfile (c.u8 0) (c.bytes 0 96) →
      Completes (.profileSet m) s (t.okResp m t.plyBytes)) ∧
    (Ready s m 0x0802 c → c.u8 0 < 32 → s.profDefined (c.u8 0) = true →
      Completes (.profileGet m) s (s.okResp m (s.profBytes (c.u8 0) ++ leBytes 1 1 ++ leBytes 7 0 ++
        leBytes 8 (storeGetD 0 s.tbl.profPly (c.u8 0))))) ∧
    (Ready s m 0x0802 c → c.u8 0 < 32 → s.profDefined (c.u8 0) = false →
      Completes (.profileGet m) s (s.okResp m (List.replicate 96 0 ++ leBytes 1 0 ++ leBytes 7 0 ++
        leBytes 8 (storeGetD 0 s.tbl.profPly (c.u8 0))))) ∧
    (Ready s m 0x0803 c → c.u8 0 < 32 → s.profDefined (c.u8 0) = true →
      Completes (.profileDelete m) s ((s.deleteProfile (c.u8 0)).okResp m [])) ∧
    (Ready s m 0x0810 c → c.u8 0 < 16 → 4 ≤ c.u8 1 → c.u8 1 ≤ 12 → 4 ≤ c.u8 2 → c.u8 2 ≤ 12 → c.u8 3 < 8 →
      (List.range 32).any s.profDefined = true → c.u64 8 % 4096 = 0 → c.u64 16 % 4096 = 0 →
      (4 ≤ c.u8 3 → c.u64 24 % 8 = 0) → s.qOpen (c.u8 0) = false → ∀ t u,
      t = (((((((s.wri SRCH_Q_CFG_req_k (c.u8 0) (c.u8 1)).wri SRCH_Q_CFG_res_k (c.u8 0) (c.u8 2)).wri SRCH_Q_CFG_req_128
        (c.u8 0) (c.u8 3)).wri SRCH_Q_CFG_res_full (c.u8 0) (c.u8 3 / 2)).wri SRCH_Q_CFG_wb_en (c.u8 0) (c.u8 3 / 4)).wri
        SRCH_Q_PMASK_pmask (c.u8 0) (c.u32 4)).wr64 SRCH_Q_REQ_LO_req_base_lo SRCH_Q_REQ_HI_req_base_hi (c.u8 0)
        (c.u64 8)).wr64 SRCH_Q_RES_LO_res_base_lo SRCH_Q_RES_HI_res_base_hi (c.u8 0) (c.u64 16) →
      u = (if 4 ≤ c.u8 3 then t.wr64 SRCH_Q_WB_LO_wb_lo SRCH_Q_WB_HI_wb_hi (c.u8 0) (c.u64 24) else t) →
      Completes (.profileQueueOpen m) s (((u.cfgWritten (qRegs (c.u8 0) (decide (4 ≤ c.u8 3)))).openPair (c.u8 0)).okResp m [])) ∧
    (Ready s m 0x0811 c → c.u8 0 < 16 → c.notZero 1 3 = none → s.qOpen (c.u8 0) = true → (s.pair (c.u8 0)).closing = false →
      Completes (.profileQueueClose m) s ((s.wait m).closePair (c.u8 0) (some m))) ∧
    (Ready s m 0x0812 c → c.notZero 2 2 = none →
      Completes (.profileWindowSet m) s (((s.wr SRCH_WIN_CFG_lane_en (c.u16 0)).wr SRCH_WIN_PMASK_win_pmask
        (c.u32 4)).okResp m []))

/-- The TABLE commands (R324, R343 to R347, R354 to R361, R384): an update that commits on a ply is submitted to the update
port, and its mailbox waits for UPDATE_COMMIT.
Choices of the model in it: an image's records without a position go to the lowest free ones (log entry 122), and TABLE.CASTLE
is accepted behind a pending guard castling (123). -/
def Obligations.TableCommandsComplete : Prop :=
  ∀ (m : Mb) (s : State) (c : Cmd),
    (Ready s m 0x0601 c → c.u8 0 < 63 → c.u8 1 = 1 → c.u8 2 < 2 → c.u8 3 ≤ 1 ∨ c.u8 3 = 0xFF → c.u8 4 ≤ 3 →
      c.notZero 5 1 = none → c.u16 6 ≤ 248 → s.tblDefined (c.u8 0) = false → s.sweeping (c.u8 0) = false →
      ∀ bs, bs = s.pickBlocks (c.u16 6) → c.u16 6 ≤ bs.length → s.blocksAnswer bs = none →
      Completes (.tableCreate m) s
        ((s.ungateAll bs).submit m (.tcamCreate (c.u8 0) (c.u8 2) (bindOf (c.u8 3)) (c.u8 4) (sortNat bs)))) ∧
    (Ready s m 0x0601 c → c.u8 0 < 63 → c.u8 1 = 1 → c.u8 2 = 2 ∨ c.u8 2 = 3 → c.u8 3 ≤ 1 ∨ c.u8 3 = 0xFF → c.u8 4 ≤ 3 →
      c.notZero 5 1 = none → s.tblDefined (c.u8 0) = false → s.sweeping (c.u8 0) = false →
      ∀ bs, bs = bitmapList (c.bytes 8 32) 256 → bs.all (· < 248) = true → s.blocksAnswer bs = none →
      Completes (.tableCreate m) s
        ((s.ungateAll bs).submit m (.tcamCreate (c.u8 0) (c.u8 2 % 2) (bindOf (c.u8 3)) (c.u8 4) (sortNat bs)))) ∧
    (Ready s m 0x0601 c → c.u8 0 < 63 → c.u8 1 = 2 → c.u8 2 < 2 → c.u8 3 ≤ 1 ∨ c.u8 3 = 0xFF → 1 ≤ c.u8 4 → c.u8 4 < 8 →
      c.u8 5 < 4 → c.u8 5 % 2 = 0 ∨ c.u8 3 ≤ 1 → c.notZero 6 2 = none → 1 ≤ c.u32 8 → c.u32 8 ≤ 2113536 →
      c.notZero 12 28 = none → s.tblDefined (c.u8 0) = false → s.sweeping (c.u8 0) = false →
      Completes (.tableCreate m) s
        (s.submit m (.exactCreate (c.u8 0) (c.u8 2) (bindOf (c.u8 3)) (c.u8 4) (c.u8 5) (c.u32 8)))) ∧
    (Ready s m 0x0601 c → c.u8 0 < 63 → c.u8 1 = 4 → c.u8 2 < 2 → c.u8 3 ≤ 1 ∨ c.u8 3 = 0xFF → 1 ≤ c.u32 4 →
      c.u32 4 ≤ 524288 → c.notZero 8 32 = none → s.tblDefined (c.u8 0) = false → s.sweeping (c.u8 0) = false →
      s.freeRoot.isSome = true →
      Completes (.tableCreate m) s (s.submit m (.lpmCreate (c.u8 0) (c.u8 2) (bindOf (c.u8 3)) (c.u32 4) none))) ∧
    (Ready s m 0x0602 c → c.u8 0 < 63 → c.notZero 1 3 = none → s.tblDefined (c.u8 0) = true → s.castling (c.u8 0) = false →
      Completes (.tableDelete m) s (s.submit m (.delTable (c.u8 0)))) ∧
    (Ready s m 0x0603 c → c.u8 0 < 63 → c.notZero 1 7 = none → ∀ bs, bs = bitmapList (c.bytes 8 32) 256 →
      bs.all (· < 248) = true → s.tblIs (c.u8 0) engTcam = true → s.tblOrphaned (c.u8 0) = false →
      s.blocksAnswer bs = none → Completes (.tableGrow m) s ((s.ungateAll bs).submit m (.grow (c.u8 0) bs))) ∧
    (Ready s m 0x0604 c → c.u8 0 < 63 → c.notZero 1 7 = none → ∀ bs, bs = bitmapList (c.bytes 8 32) 256 →
      bs.all (· < 248) = true → s.tblIs (c.u8 0) engTcam = true →
      s.castling (c.u8 0) = true ∨
        (bs.all (s.ownsBlk (c.u8 0)) = true ∧ bs.all (fun b => (s.blkValid b).isEmpty) = true) → Completes (.tableShrink m) s (s.submit m (.shrink (c.u8 0) bs))) ∧
    (Ready s m 0x0605 c → c.u8 0 ≤ 63 → Completes (.tableQuery m) s (s.okResp m (s.tableQuery (c.u8 0)))) ∧
    (Ready s m 0x0606 c → c.u8 0 < 63 → c.u8 1 < 63 → c.u8 1 ≠ c.u8 0 → c.notZero 2 6 = none → s.plyOk (c.u64 8) = true →
      s.tblDefined (c.u8 0) = true → s.tblDefined (c.u8 1) = true → s.castleOk (c.u8 0) (c.u8 1) = true →
      s.tblOrphaned (c.u8 0) = false → s.tblOrphaned (c.u8 1) = false → s.tbl.castle = none →
      Completes (.tableCastle m) s ((s.setCastle (some
        { a := c.u8 0, b := c.u8 1, atPly := c.u64 8, mb := some m, behind := s.tbl.guardCastle })).wait m)) ∧
    (Ready s m 0x0607 c → c.u8 0 = 1 → c.notZero 1 7 = none → (bitmapList (c.bytes 8 32) 256).all (· < 248) = true →
      Completes (.tableBlockPower m) s ((s.ungateAll (bitmapList (c.bytes 8 32) 256)).awaitUngate m
        ((bitmapList (c.bytes 8 32) 256).filter (fun b => s.blk b == blkGated)))) ∧
    (Ready s m 0x0607 c → c.u8 0 = 2 → c.notZero 1 7 = none → ∀ bs, bs = bitmapList (c.bytes 8 32) 256 →
      bs.all (· < 248) = true →
      bs.all (fun b => !(s.blk b == blkOwned || s.blk b == blkChanging || s.reserved.contains b)) = true →
      Completes (.tableBlockPower m) s ((bs.foldl (fun s b => if s.blk b = blkFree then s.gate b else s) s).okResp m [])) ∧
    (Ready s m 0x0608 c → c.u8 0 = dixTable → c.notZero 1 3 = none → c.refCheck 4 = none → s.refPoison (c.ref 4) = false →
      ∀ recs, imageParse 3 0 (s.refBytes (c.ref 4)) = some recs → recs.all (fun r => recNat r 2 6 == 0) = true →
      Completes (.tableImageLoad m) s (s.submit m (.dixImage recs 0))) ∧
    (Ready s m 0x0608 c → c.u8 0 < 63 → c.notZero 1 3 = none → c.refCheck 4 = none → s.imgEngine (c.u8 0) = 2 →
      s.tblOrphaned (c.u8 0) = false → s.refPoison (c.ref 4) = false →
      ∀ recs, imageParse 2 0 (s.refBytes (c.ref 4)) = some recs →
      recs.all (fun r => s.typeOk (c.u8 0) (recNat r 24 1) && recNat r 25 1 < 2 && recNat r 26 6 == 0) = true →
      Completes (.tableImageLoad m) s (s.submit m (.exactImage (c.u8 0) recs 0))) ∧
    (Ready s m 0x0608 c → c.u8 0 < 63 → c.notZero 1 3 = none → c.refCheck 4 = none → s.imgEngine (c.u8 0) = 1 →
      s.tblOrphaned (c.u8 0) = false → s.refPoison (c.ref 4) = false →
      ∀ recs, imageParse 1 (s.rdi TCAM_TBL_CFG_width_code (c.u8 0)) (s.refBytes (c.ref 4)) = some recs →
      s.tcamImageStatus (c.u8 0) recs = none →
      Completes (.tableImageLoad m) s (s.submit m (.tcamImage (c.u8 0) (s.placedImage (c.u8 0) recs) []))) ∧
    (Ready s m 0x0608 c → c.u8 0 < 63 → c.notZero 1 3 = none → c.refCheck 4 = none → s.imgEngine (c.u8 0) = 4 →
      s.tblOrphaned (c.u8 0) = false → s.refPoison (c.ref 4) = false → s.sweeping (c.u8 0) = false →
      ∀ recs, imageParse 4 0 (s.refBytes (c.ref 4)) = some recs →
      recs.all (fun r => prefixOk (recPfx r) (recLen r) && recNat r 13 3 == 0) = true →
      Completes (.tableImageLoad m) s (s.submit m (.lpmImage (c.u8 0) recs 0))) ∧
    (Ready s m 0x0609 c → c.u8 0 < 63 ∨ c.u8 0 = dixTable → c.notZero 1 3 = none → c.refCheck 4 = none →
      16 ≤ (c.ref 4).2 → ∀ e w wc, e = s.imgEngine (c.u8 0) → e ≠ 0 → w = (if e = 1 then s.tblW (c.u8 0) else 1) →
      wc = (if e = 1 then s.rdi TCAM_TBL_CFG_width_code (c.u8 0) else 0) → (e = 1 → c.u32 12 % w = 0) →
      ∀ all n recs srcs, all = s.imageEntries (c.u8 0) (c.u32 12) → n = ((c.ref 4).2 - 16) / recSize e w →
      recs = (all.take n).map (·.2) → srcs = s.imageSrc (c.u8 0) (recSize e w) 16 (all.take n) →
      Completes (.tableImageSave m) s (((s.storeMixed sidBar2 (dataRam + (c.ref 4).1) (imageHeader wc e recs ++ recs.flatten)
        (s.srcBad srcs)).reportSrc (c.u8 0) srcs).okResp m (leBytes 4 recs.length ++ leBytes 4 (match (all.drop n).head? with | some x => x.1 | none => 0xFFFFFFFF)))) ∧
    (Ready s m 0x060A c → c.u8 0 < 63 → c.u8 1 ≤ 1 → c.notZero 2 2 = none → s.tblDefined (c.u8 0) = true →
      s.castling (c.u8 0) = false → Completes (.tablePublish m) s (s.submit m (.hide (c.u8 0) (c.u8 1)))) ∧
    (Ready s m 0x060B c → c.u8 0 < 63 → c.notZero 1 3 = none → s.tblDefined (c.u8 0) = true →
      s.castling (c.u8 0) = false → s.sweeping (c.u8 0) = false →
      Completes (.tableClear m) s (s.submit m (.clear (c.u8 0)))) ∧
    (Ready s m 0x060C c → c.u32 0 ≤ 65536 → Completes (.tableDixLimit m) s (s.submit m (.dixLimit (c.u32 0))))

/-- The ENTRY and LEARN commands (R321, R334 to R336, R374, R376, R385, R386, R391, R396, R416, R417): in each engine an
entry command submits its update, and ENTRY.READ answers with the entry. -/
def Obligations.EntryLearnCommandsComplete : Prop :=
  ∀ (m : Mb) (s : State) (c : Cmd),
    (Ready s m 0x0701 c → c.u8 0 < 63 → s.imgEngine (c.u8 0) = 1 → c.params.length = 24 + 20 * s.tblW (c.u8 0) →
      c.u8 1 < 8 → (bitOf (c.u8 1) 0 && bitOf (c.u8 1) 1) = false → c.notZero 2 2 = none →
      bitOf (c.u8 1) 0 = true ∨ s.castling (c.u8 0) = true ∨ s.inTable (c.u8 0) (c.u32 4) = true → c.notZero 10 6 = none →
      s.tblOrphaned (c.u8 0) = false →
      Completes (.entryWrite m) s (s.submit m (.tcamWrite (c.u8 0) (if bitOf (c.u8 1) 0 then none else some (c.u32 4))
        (c.u16 8) (c.u64 16) (c.bytes 24 (10 * s.tblW (c.u8 0)))
        (c.bytes (24 + 10 * s.tblW (c.u8 0)) (10 * s.tblW (c.u8 0))) (bitOf (c.u8 1) 1) (bitOf (c.u8 1) 2)))) ∧
    (Ready s m 0x0701 c → c.u8 0 < 63 → s.imgEngine (c.u8 0) = 2 → c.u8 1 < 16 → bitOf (c.u8 1) 0 = false →
      (bitOf (c.u8 1) 1 && bitOf (c.u8 1) 2) = false → firstFail (exactChecks c 32) = none →
      s.typeOk (c.u8 0) (c.u8 4) = true → s.tblOrphaned (c.u8 0) = false →
      Completes (.entryWrite m) s (s.submit m (.exactWrite (c.u8 0) (c.u8 4) (c.bytes 8 16) (c.u64 24)
        (bitOf (c.u8 1) 3) (bitOf (c.u8 1) 1) (bitOf (c.u8 1) 2)))) ∧
    (Ready s m 0x0701 c → c.u8 0 = dixTable → c.params.length = 16 → c.notZero 1 3 = none → c.notZero 6 2 = none →
      Completes (.entryWrite m) s (s.submit m (.dixWrite (c.u16 4) (c.u64 8)))) ∧
    (Ready s m 0x0701 c → c.u8 0 < 63 → s.imgEngine (c.u8 0) = 4 → c.u8 1 < 8 → bitOf (c.u8 1) 0 = false →
      (bitOf (c.u8 1) 1 && bitOf (c.u8 1) 2) = false → firstFail (lpmChecks c 24) = none → c.notZero 20 4 = none →
      s.lpmBusy (c.u8 0) = none → s.tblOrphaned (c.u8 0) = false →
      Completes (.entryWrite m) s (s.submit m (.lpmInsert (c.u8 0) (c.u64 8) (c.u8 4) (c.u32 16) (bitOf (c.u8 1) 1)
        (bitOf (c.u8 1) 2)))) ∧
    (Ready s m 0x0702 c → c.u8 0 < 63 → s.imgEngine (c.u8 0) = 1 → c.notZero 1 3 = none →
      s.castling (c.u8 0) = true ∨ s.inTable (c.u8 0) (c.u32 4) = true →
      Completes (.entryDelete m) s (s.submit m (.tcamDelete (c.u8 0) (c.u32 4)))) ∧
    (Ready s m 0x0702 c → c.u8 0 < 63 → s.imgEngine (c.u8 0) = 2 → c.notZero 1 1 = none →
      firstFail (exactChecks c 24) = none → s.typeOk (c.u8 0) (c.u8 4) = true →
      Completes (.entryDelete m) s (s.submit m (.exactDelete (c.u8 0) (c.u8 4) (c.bytes 8 16)))) ∧
    (Ready s m 0x0702 c → c.u8 0 = dixTable → c.params.length = 8 → c.notZero 1 3 = none → c.notZero 6 2 = none →
      Completes (.entryDelete m) s (s.submit m (.dixWrite (c.u16 4) 0))) ∧
    (Ready s m 0x0702 c → c.u8 0 < 63 → s.imgEngine (c.u8 0) = 4 → c.notZero 1 1 = none →
      firstFail (lpmChecks c 16) = none → s.lpmBusy (c.u8 0) = none →
      Completes (.entryDelete m) s (s.submit m (.lpmDelete (c.u8 0) (c.u64 8) (c.u8 4)))) ∧
    (Ready s m 0x0703 c → c.u8 0 ≤ 63 → s.imgEngine (c.u8 0) = 1 → c.notZero 1 3 = none →
      s.inTable (c.u8 0) (c.u32 4) = true → Completes (.entryRead m) s (s.readTcam m (c.u8 0) (c.u32 4))) ∧
    (Ready s m 0x0703 c → c.u8 0 ≤ 63 → s.imgEngine (c.u8 0) = 2 → c.notZero 1 1 = none →
      firstFail (exactChecks c 24) = none → s.typeOk (c.u8 0) (c.u8 4) = true →
      ∀ p u, s.exactFind (c.u8 0) (2 ^ (c.u8 4 - 1)) (c.bytes 8 16) = some p → u = s.unitBytesOf p →
      (readWord s.mem p.sid (4 * p.unit + 2)).poison = false →
      Completes (.entryRead m) s ((s.reportSrc (c.u8 0) (placeSrc p)).okResp m (leBytes 1 (c.u8 0) ++
        leBytes 1 (1 + 8 * b2n (entLearned u)) ++ leBytes 2 0 ++
        leBytes 1 (entType u) ++ leBytes 3 0 ++ entKey u ++ leBytes 8 (entResult u) ++ leBytes 2 (entAge u) ++ leBytes 2 0 ++
        leBytes 4 (placeIndex p)))) ∧
    (Ready s m 0x0703 c → c.u8 0 = dixTable → c.params.length = 8 → c.notZero 1 3 = none → c.notZero 6 2 = none →
      (readWord s.mem sidDix (c.u16 4)).poison = false →
      Completes (.entryRead m) s ((s.reportSrc dixTable (dixSrc (c.u16 4))).okResp m (leBytes 1 dixTable ++ leBytes 3 0 ++
        leBytes 2 (c.u16 4) ++ leBytes 2 0 ++ (readWord s.mem sidDix (c.u16 4)).data))) ∧
    (Ready s m 0x0703 c → c.u8 0 ≤ 63 → s.imgEngine (c.u8 0) = 4 → c.notZero 1 1 = none → firstFail (lpmChecks c 16) = none →
      0 < c.u8 4 → ∀ j, s.findRec (c.u8 0) (c.u64 8) (c.u8 4) = some j →
      (readWord s.mem (sidStage (stageOf (c.u8 4))) (recBase (stageOf (c.u8 4)) + 2 * j + 1)).poison = false →
      Completes (.entryRead m) s ((s.reportSrc (c.u8 0) (lpmSrc (stageOf (c.u8 4)) j)).okResp m (leBytes 1 (c.u8 0) ++
        leBytes 1 1 ++ leBytes 2 0 ++ leBytes 1 (c.u8 4) ++ leBytes 3 0 ++ leBytes 8 (c.u64 8) ++ leBytes 4 (recResult (s.recBytes (stageOf (c.u8 4)) j)) ++ leBytes 4 0 ++
        leBytes 4 (lpmIndex (stageOf (c.u8 4)) j)))) ∧
    (Ready s m 0x0704 c → c.u8 0 < 63 → s.imgEngine (c.u8 0) = 1 → c.notZero 1 3 = none →
      s.castling (c.u8 0) = true ∨ s.inTable (c.u8 0) (c.u32 4) = true → s.tblOrphaned (c.u8 0) = false →
      Completes (.entryResult m) s (s.submit m (.tcamResult (c.u8 0) (c.u32 4) (c.u64 8) true))) ∧
    (Ready s m 0x0704 c → c.u8 0 < 63 → s.imgEngine (c.u8 0) = 2 → c.notZero 1 1 = none →
      firstFail (exactChecks c 32) = none → s.typeOk (c.u8 0) (c.u8 4) = true → s.tblOrphaned (c.u8 0) = false →
      Completes (.entryResult m) s (s.submit m (.exactResult (c.u8 0) (c.u8 4) (c.bytes 8 16) (c.u64 24)))) ∧
    (Ready s m 0x0704 c → c.u8 0 = dixTable → c.params.length = 16 → c.notZero 1 3 = none → c.notZero 6 2 = none →
      Completes (.entryResult m) s (s.submit m (.dixWrite (c.u16 4) (c.u64 8)))) ∧
    (Ready s m 0x0704 c → c.u8 0 < 63 → s.imgEngine (c.u8 0) = 4 → c.notZero 1 1 = none → firstFail (lpmChecks c 24) = none →
      c.notZero 20 4 = none → s.lpmBusy (c.u8 0) = none → s.tblOrphaned (c.u8 0) = false →
      Completes (.entryResult m) s (s.submit m (.lpmResult (c.u8 0) (c.u64 8) (c.u8 4) (c.u32 16)))) ∧
    (Ready s m 0x0901 c → c.u8 0 < 8 → c.notZero 1 3 = none → 10 ≤ c.u16 4 → 1 ≤ c.u16 6 → c.u32 12 ≤ 16384 →
      c.u32 8 = s.rd HASH_SEED_hash_seed ∨ s.seedFree = true →
      Completes (.learnConfig m) s ((((((((s.wr HASH_LEARN_CTRL_learn_en (c.u8 0)).wr HASH_LEARN_CTRL_owner_learn_en
        (c.u8 0 / 2)).wr HASH_LEARN_CTRL_ager_en (c.u8 0 / 4)).wr HASH_AGE_CFG_age_period_ms (c.u16 4)).wr
        HASH_AGE_CFG_age_limit (c.u16 6)).wr HASH_SEED_hash_seed (c.u32 8)).wr HASH_LEARN_CTRL_ovf_thresh
        (c.u32 12)).okResp m [])) ∧
    (Ready s m 0x0902 c → ∀ l, l = s.learn →
      Completes (.learnQuery m) s (s.okResp m (padTo 64 (([l.inserts, l.present, l.fails, l.dropDelete, l.dropQueue,
        l.walksTotal, l.notFound, l.retired, s.rd HASH_AGE_PASS_passes, s.waysUsed, s.ovfUsed, l.ownerInserts].map
        (leBytes 4)).flatten ++ leBytes 1 l.walks.length)))) ∧
    (Ready s m 0x0903 c → c.u8 0 ≤ 62 → c.u8 1 ≤ 1 → c.notZero 2 2 = none → c.refCheck 4 = none → (c.ref 4).2 % 16 = 0 →
      16 ≤ (c.ref 4).2 → (c.ref 4).2 ≤ 16 * 32768 → s.tblIs (c.u8 0) engExact = true →
      s.rd HASH_LEARN_CTRL_learn_en ≠ 0 → s.rdi HASH_TBL_CFG_learn (c.u8 0) % 2 = 1 → s.tblOrphaned (c.u8 0) = false →
      s.slotState (s.tblBind (c.u8 0)) = slReady → s.refPoison (c.ref 4) = false →
      Completes (.learnWalk m) s ((({ s with learn := { s.learn with cmds := s.learn.cmds ++
        [{ mb := m, table := c.u8 0, stop := c.u8 1 == 1, keys := cutRecs 16 32768 (s.refBytes (c.ref 4)), outstanding := 0,
           inserted := 0, present := 0, notFound := 0, noRoom := 0, dropped := 0 }] } } : State).wait m).pumpWalk m)) ∧
    (Ready s m 0x0904 c → c.u8 0 ≤ 62 → 1 ≤ c.u8 1 → c.u8 1 ≤ 3 → c.notZero 2 2 = none → s.tblIs (c.u8 0) engExact = true →
      Completes (.learnFlush m) s (s.submit m (.flush (c.u8 0) (c.u8 1) 0 (((s.exactEntries (c.u8 0)).filter (fun p =>
        entLearned (s.unitBytesOf p) && (c.u8 1 == 3 || (c.u8 1 == 1 && entType (s.unitBytesOf p) == 1) ||
          (c.u8 1 == 2 && entType (s.unitBytesOf p) == 2)))).map placeIndex))))

/-- The CHAIN commands at a head (R443, R444, R474, R476, R789).
The bit places of a packet's fields in CHAIN.REG_ACCESS are the model's choice (log entry 98). -/
def Obligations.ChainCommandsComplete : Prop :=
  ∀ (m : Mb) (s : State) (c : Cmd),
    (Ready s m 0x0501 c → s.isHead = true → mapStartsOk (c.u32 0) = true → c.notZero 4 4 = none → s.chain.enum = none →
      Completes (.chainEnumerate m) s ((s.startEnum (c.u32 0) (some m)).wait m)) ∧
    (Ready s m 0x0502 c → s.isFollower = false → c.u64 0 = 0 → Completes (.chainQuery m) s (s.okResp m s.chainResp)) ∧
    (Ready s m 0x0502 c → s.isFollower = false → c.u64 0 ≠ 0 → c.refCheck 0 = none → 256 ≤ (c.ref 0).2 → ∀ t,
      t = (List.range (max 1 s.members)).foldl (fun s a => s.refPut (c.ref 0) (8 * a) (leBytes 8 (s.serialOf a))) s →
      Completes (.chainQuery m) s (t.okResp m t.chainResp)) ∧
    (Ready s m 0x0503 c → s.isHead = true → mapStartsOk (c.u32 0) = true → s.rd CHN_STATUS_state = 2 →
      mapLastOk (c.u32 0) s.members = true →
      Completes (.chainGroups m) s ((s.changeGroups (c.u32 0)).1.okResp m (leBytes 8 (s.changeGroups (c.u32 0)).2))) ∧
    (Ready s m 0x0504 c → s.isHead = true → 1 ≤ c.u8 0 → c.u8 0 < s.members → c.u8 1 = 1 ∨ c.u8 1 = 2 → 1 ≤ c.u8 2 →
      c.u8 2 ≤ 16 → c.notZero 3 1 = none → c.u32 4 < 0x100000 → c.u32 4 % 4 = 0 → s.reaches (c.u8 0) = true →
      Completes (.chainRegAccess m) s ((s.ask (c.u8 0) 9
        (BitVec.ofNat 64 (c.u32 4 + 2 ^ 32 * c.u8 1 + 2 ^ 40 * c.u8 2))
        (if c.u8 1 = 2 then c.bytes 8 (4 * c.u8 2) else []) m).wait m)) ∧
    (Ready s m 0x0505 c → s.isHead = true → 1 ≤ c.u8 0 → c.u8 0 < s.members → c.notZero 1 3 = none → c.u8 8 = 2 →
      s.reaches (c.u8 0) = true → Completes (.chainBoot m) s ((s.ask (c.u8 0) 0xB 0 (c.bytes 4 32) m).wait m))

/-- The SLOT commands (R483, R486, R487, R493, R494, R498, R516, R517, R520, R537). -/
def Obligations.SlotCommandsComplete : Prop :=
  ∀ (m : Mb) (s : State) (c : Cmd),
    (Ready s m 0x0A01 c → c.u8 0 < 2 → Completes (.slotQuery m) s (s.okResp m (s.slotResp (c.u8 0)))) ∧
    (Ready s m 0x0A02 c → s.guardRuns = true → c.u8 0 < 2 → c.u8 1 ≤ 1 →
      s.slotState (c.u8 0) = slPresent ∨ s.slotState (c.u8 0) = slFault → c.u8 1 = 0 ∨ s.rawPermit = true →
      Completes (.slotMount m) s ((((((s.updPort (c.u8 0) (fun x => { x with
        mount := some ⟨m, c.u8 1 == 1, c.u16 2, 1, [], [], []⟩, capture := [] })).wri SLOT_STATUS_mount_fail (c.u8 0) 0).setSlotState
          (c.u8 0) slMounting).vccOn (c.u8 0)).wait m))) ∧
    (Ready s m 0x0A03 c → c.u8 0 < 2 → s.slotMounted (c.u8 0) = true →
      Completes (.slotUnmount m) s ((s.wait m).beginUnmount (c.u8 0) { mb := some m, eject := false })) ∧
    (Ready s m 0x0A04 c → c.u8 0 < 2 → s.slotState (c.u8 0) ≠ slEmpty → s.slotMounted (c.u8 0) = true →
      Completes (.slotEject m) s ((s.wait m).beginUnmount (c.u8 0) { mb := some m, eject := true })) ∧
    (Ready s m 0x0A04 c → c.u8 0 < 2 → s.slotState (c.u8 0) ≠ slEmpty → s.slotMounted (c.u8 0) = false →
      Completes (.slotEject m) s ((s.wait m).beginPulse (c.u8 0) (some m) 0)) ∧
    (Ready s m 0x0A05 c → c.u8 0 < 2 → s.slotState (c.u8 0) ≠ slMounting → s.slotMounted (c.u8 0) = true →
      (s.port (c.u8 0)).portReset = none →
      Completes (.slotPortReset m) s ((s.wait m).portResetBegin (c.u8 0) (some m))) ∧
    (Ready s m 0x0A10 c → c.u8 0 < 2 → s.slotState (c.u8 0) = slReady → c.u8 1 < s.saveAreas (c.u8 0) →
      Completes (.slotSaveQuery m) s (s.beginSave m (c.u8 0) .query (c.u8 1) 0 0)) ∧
    (Ready s m 0x0A11 c → c.u8 0 < 2 → c.notZero 2 2 = none → s.slotState (c.u8 0) = slReady →
      c.u8 1 < s.saveAreas (c.u8 0) →
      Completes (.slotSaveRead m) s (s.beginSave m (c.u8 0) .read (c.u8 1) (c.u32 4) (c.u64 8))) ∧
    (Ready s m 0x0A12 c → c.u8 0 < 2 → c.notZero 2 2 = none → s.slotState (c.u8 0) = slReady →
      c.u8 1 < s.saveAreas (c.u8 0) → 1 ≤ c.u32 4 → c.u32 4 ≤ s.saveMax (c.u8 0) (c.u8 1) →
      (s.port (c.u8 0)).saves.all (fun r => !(r.job == .write && r.area == c.u8 1)) = true →
      Completes (.slotSaveWrite m) s (s.beginSave m (c.u8 0) .write (c.u8 1) (c.u32 4) (c.u64 8))) ∧
    (Ready s m 0x0A20 c → firstFail (s.pageParams c (if c.u8 2 = 1 then 128 + 16384 else pageSize)) = none →
      s.slotState (c.u8 0) ≠ slEmpty → s.slotMounted (c.u8 0) = true →
      Completes (.slotPageRead m) s (s.beginPage m (c.u8 0) (c.u8 2) (c.ref 8)
        { die := c.u8 1, row := c.u32 4, kind := .read, use := .page m, ready := false })) ∧
    (Ready s m 0x0A21 c → ∀ n b, n = (if c.u8 2 = 1 then 128 + 16384 else pageSize) →
      firstFail (s.pageParams c n) = none → s.refPoison ((c.ref 8).1, n) = false → s.slotState (c.u8 0) = slRaw →
      b = s.refBytes ((c.ref 8).1, n) →
      Completes (.slotPageProgram m) s (s.beginPage m (c.u8 0) (c.u8 2) (c.ref 8)
        { die := c.u8 1, row := c.u32 4,
          kind := .program (if c.u8 2 = 1 then encodePage (b.take 128) (b.drop 128) else b), use := .page m,
          ready := false })) ∧
    (Ready s m 0x0A22 c → c.u8 0 < 2 → s.slotState (c.u8 0) = slRaw → (s.port (c.u8 0)).dies.contains (c.u8 1) = true →
      c.notZero 2 2 = none → c.u32 4 < s.dieBlocks (c.u8 0) →
      Completes (.slotBlockErase m) s (s.beginPage m (c.u8 0) 0 (0, 0)
        { die := c.u8 1, row := c.u32 4, kind := .erase, use := .page m, ready := false }))

/-- The STREAM and GUARD commands (R521, R532, R538, R544, R547, R561, R571, R573, R579, R586).
Which part of GUARD.RULES_LOAD is kept while a guard castling is pending is the model's reading (log entry 162). -/
def Obligations.StreamGuardCommandsComplete : Prop :=
  ∀ (m : Mb) (s : State) (c : Cmd),
    (Ready s m 0x0B01 c → c.u8 0 < 16 → 4 ≤ c.u8 1 → c.u8 1 ≤ 12 → 4 ≤ c.u8 2 → c.u8 2 ≤ 12 → c.u8 3 < 32 →
      s.streamProfile (c.u8 3) = true → c.u8 4 < 2 → c.notZero 5 1 = none → 1 ≤ c.u16 6 → c.u16 6 ≤ 1023 →
      c.u64 8 % 4096 = 0 → c.u64 16 % 4096 = 0 → (c.u8 4 = 1 → c.u64 24 % 8 = 0) → 10 ≤ c.u16 32 → c.notZero 34 2 = none →
      s.chOpen (c.u8 0) = false → ∀ t u,
      t = (((((((s.wri STRM_CH_CFG_req_k (c.u8 0) (c.u8 1)).wri STRM_CH_CFG_cpl_k (c.u8 0) (c.u8 2)).wri
        STRM_CH_CFG_profile (c.u8 0) (c.u8 3)).wri STRM_CH_CFG_wb_en (c.u8 0) (c.u8 4)).wri STRM_CH_CFG_deg_rate (c.u8 0)
        (c.u16 6)).wri STRM_CH_TMO_fetch_ms (c.u8 0) (c.u16 32)).wr64 STRM_CH_REQ_LO_lo STRM_CH_REQ_HI_hi (c.u8 0)
        (c.u64 8)).wr64 STRM_CH_CPL_LO_lo STRM_CH_CPL_HI_hi (c.u8 0) (c.u64 16) →
      u = (if c.u8 4 = 1 then t.wr64 STRM_CH_WB_LO_lo STRM_CH_WB_HI_hi (c.u8 0) (c.u64 24) else t) →
      Completes (.streamOpen m) s (((u.cfgWritten (chRegs (c.u8 0) (c.u8 4 == 1))).openChan (c.u8 0)).okResp m [])) ∧
    (Ready s m 0x0B02 c → c.u8 0 < 16 → s.chOpen (c.u8 0) = true → (s.chan (c.u8 0)).closing = false →
      Completes (.streamClose m) s ((s.wait m).closeChan (c.u8 0) (some m))) ∧
    (Ready s m 0x0B03 c → c.u8 0 < 16 → s.resumable (c.u8 0) = true →
      Completes (.streamResume m) s ((s.resumeChan (c.u8 0)).okResp m
        (leBytes 1 (s.rdi STRM_CH_STATUS_halt_reason (c.u8 0))))) ∧
    (Ready s m 0x0B04 c → c.u8 0 < 16 →
      Completes (.streamQuery m) s (s.okResp m (leBytes 4 (s.rawReg (0xE128 + 0x40 * c.u8 0)) ++
        leBytes 4 (s.rawReg (0xE120 + 0x40 * c.u8 0)) ++ leBytes 4 (s.rawReg (0xE124 + 0x40 * c.u8 0)) ++
        leBytes 1 (s.rdi STRM_CH_CFG_profile (c.u8 0)) ++ leBytes 3 0))) ∧
    (Ready s m 0x0C01 c → s.guardRuns = true →
      Completes (.guardQuery m) s (s.okResp m (leBytes 4 (s.rawReg 0x10000) ++ leBytes 4 (s.rd SEC_RULES_rule_serial) ++
        leBytes 2 (s.rd SEC_RULE_INFO_rule_count) ++ leBytes 1 (s.rd SEC_RULE_INFO_last_reject) ++ leBytes 1 0 ++
        leBytes 8 s.guard.rulePly ++ leBytes 2 (s.rd SEC_CFG_reauth_s) ++ leBytes 2 0 ++ leBytes 4 s.guard.derivations ++
        leBytes 4 s.guard.authFails))) ∧
    (Ready s m 0x0C02 c → s.guardRuns = true → c.refCheck 0 = none → s.refPoison (c.ref 0) = false →
      ∀ old l t, (s.tbl.guardCastle = true → c.u32 8 + (c.ref 0).2 ≠ c.u32 12) →
      (c.u32 8 = 0 ∧ old = []) ∨
        (c.u32 8 ≠ 0 ∧ s.guard.load.map (fun l => (l.bytes, l.total)) = some (old, c.u32 12) ∧ old.length = c.u32 8) →
      c.u32 8 + (c.ref 0).2 ≤ c.u32 12 → l = { total := c.u32 12, bytes := old ++ s.refBytes (c.ref 0), mb := none } →
      (∀ u, u = ({ s with guard := { s.guard with load := some l } } : State).wr SEC_STATUS_load_open 1 →
        t = if s.tbl.guardCastle then u else u.writeRules l.bytes old.length) →
      Completes (.guardRulesLoad m) s
        (if l.bytes.length = c.u32 12 then t.endLoad m l else t.loadMore m l.bytes.length)) ∧
    (Ready s m 0x0C03 c → s.guardRuns = true → c.u8 0 < 2 →
      Completes (.guardSlotInfo m) s (s.okResp m (s.slotInfo (c.u8 0)))) ∧
    (Ready s m 0x0C04 c → s.guardRuns = true → c.u8 0 < 2 → s.slotMounted (c.u8 0) = true →
      s.rdi SEC_CTX_ctx_valid (c.u8 0) ≠ 0 → Completes (.guardReauth m) s ((s.wait m).startReauth (c.u8 0) [m])) ∧
    (Ready s m 0x0C05 c → s.guardRuns = true → c.u8 0 < 85 → 1 ≤ c.u8 1 → c.u8 1 ≤ 29 → c.u8 0 + c.u8 1 ≤ 85 →
      Completes (.guardKeyQuery m) s (s.okResp m ((List.range (c.u8 1)).flatMap (fun i =>
        leBytes 4 (s.rawReg (0x10400 + 8 * (c.u8 0 + i))) ++ leBytes 4 (s.rawReg (0x10404 + 8 * (c.u8 0 + i))))))) ∧
    (Ready s m 0x0C06 c → s.guardRuns = true → c.u8 3 < 8 → c.u16 0 ≠ 0 →
      Completes (.guardConfig m) s (((((s.wr SEC_CFG_reauth_s (c.u16 0)).wr SEC_EVENT_EN_event_en (c.u8 2)).wri
        TAG_EVENT_EN_event_en 0 (c.u8 3)).wri TAG_EVENT_EN_event_en 1 (c.u8 3)).okResp m [])) ∧
    (Ready s m 0x0C06 c → s.guardRuns = true → c.u8 3 < 8 → c.u16 0 = 0 → ∀ t,
      t = (((s.wr SEC_CFG_reauth_s 0).wr SEC_EVENT_EN_event_en (c.u8 2)).wri TAG_EVENT_EN_event_en 0 (c.u8 3)).wri
        TAG_EVENT_EN_event_en 1 (c.u8 3) →
      Completes (.guardConfig m) s (((List.range 2).foldl (fun s p => s.wri SEC_CTX_tag_state p
        (s.rdi SEC_CTX_tag_state p % 8)) t).okResp m [])) ∧
    (Ready s m 0x0C07 c → s.guardRuns = true → c.u8 0 < 2 → c.u8 1 = 1 ∨ c.u8 1 = 2 ∨ c.u8 1 = 5 → c.notZero 2 2 = none →
      (c.u8 1 = 2 → 1 ≤ c.u16 6 ∧ c.u16 6 ≤ 512) → (c.u8 1 ≠ 2 → c.notZero 4 4 = none) → c.refCheck 8 = none →
      s.rdi SLOT_STATUS_vcc_on (c.u8 0) ≠ 0 → s.slotState (c.u8 0) ≠ slMounting → (s.tag (c.u8 0)).run = none →
      (s.tag (c.u8 0)).auth = none →
      Completes (.guardTagXfer m) s (((s.setBus (c.u8 0) true).startTag (c.u8 0) (c.u8 1)
        (if c.u8 1 = 2 then c.bytes 4 4 else []) (some (m, c.ref 8))).wait m))

/-- The INTEG commands (R603, R607, R608, R616, R620, R626). -/
def Obligations.IntegCommandsComplete : Prop :=
  ∀ (m : Mb) (s : State) (c : Cmd),
    (Ready s m 0x0D01 c → Completes (.integQuery m) s (s.okResp m s.integResp)) ∧
    (Ready s m 0x0D02 c → c.u8 0 < 8 → c.notZero 1 1 = none → 1 ≤ c.u16 2 → c.u16 2 ≤ 1023 → ∀ t,
      t = s.setSteep (c.u8 0 % 2) (c.u8 0 / 2 % 2) (c.u16 2) →
      Completes (.integSteep m) s ((if bitOf (c.u8 0) 2 then t.steepRestart else t).okResp m [])) ∧
    (Ready s m 0x0D03 c → 0 < sidSize (c.u8 0) → c.u8 1 < 2 → c.notZero 2 2 = none →
      scrubCheck (c.u8 0) (c.u32 4) (c.u32 8) = none → s.integ.scrub = none →
      Completes (.integScrub m) s ((((((s.wr INTEG_SCRUB_CTRL_scrub_sid (c.u8 0)).wr INTEG_SCRUB_CTRL_scrub_repair
        (c.u8 1)).wr INTEG_SCRUB_START_start (c.u32 4)).wr INTEG_SCRUB_LEN_length (c.u32 8)).startScrub (c.u8 0) (c.u32 4)
        (c.u32 8) (c.u8 1) (some m)).wait m)) ∧
    (Ready s m 0x0D04 c → c.u8 0 < 63 ∨ c.u8 0 = dixTable → c.u8 1 < 2 → c.notZero 2 2 = none → c.u64 8 % 8 = 0 →
      c.u64 16 % 8 = 0 → c.u32 24 % 16 = 0 → s.imgEngine (c.u8 0) ≠ 0 → s.integ.audit = none →
      Completes (.integAudit m) s ((s.startAudit (c.u8 0) (c.u8 1) (c.u64 8) (c.u32 4) (c.u64 16) (c.u32 24)
        (some m)).wait m)) ∧
    (Ready s m 0x0D05 c → (sidIndex (c.u8 0)).isSome = true → c.u8 0 ≠ 0x75 → 1 ≤ c.u8 1 → c.u8 1 ≤ 3 →
      flipOk (c.u8 0) (c.u8 1) (c.u8 2) = true → c.notZero 3 1 = none → c.notZero 13 3 = none →
      s.rd INTEG_FLIP_SEL_flip_armed ≠ 1 →
      Completes (.integInject m) s ((((((((s.wr INTEG_FLIP_SEL_flip_sid (c.u8 0)).wr INTEG_FLIP_SEL_flip_copy (c.u8 1)).wr
        INTEG_FLIP_SEL_flip_word (c.u8 2)).wr INTEG_FLIP_DATA_LO_flip_data (c.u32 4)).wr INTEG_FLIP_DATA_HI_flip_data
        (c.u32 8)).wr INTEG_FLIP_CHK_flip_chk (c.u8 12)).wr INTEG_FLIP_SEL_flip_armed 1).okResp m [])) ∧
    (Ready s m 0x0D06 c → 1 ≤ c.u8 0 → c.u8 0 ≤ 7 → c.u8 1 < 4 → ∀ first n t,
      first = s.rd INTEG_LOG_STATUS_consumed → n = min (c.u8 0) ((s.rd INTEG_LOG_STATUS_written + 65536 - first) % 65536) →
      t = (if bitOf (c.u8 1) 0 then s.wr INTEG_LOG_STATUS_consumed ((first + n) % 65536) else s) →
      Completes (.integLogRead m) s ((if bitOf (c.u8 1) 1 then t.clearSeen else t).okResp m
        (leBytes 1 n ++ List.replicate 7 0 ++ (List.range n).flatMap (fun k => s.logRec (first + k)))))

/-- The FW, CADDY and DUMP commands (R633, R653, R655, R658, R660, R663, R664).
Where active_slot stands in the caddy header, which FW.ACTIVATE writes, is the model's reading (log entry 116). -/
def Obligations.CoreCaddyCommandsComplete : Prop :=
  ∀ (m : Mb) (s : State) (c : Cmd),
    (Ready s m 0x1001 c →
      Completes (.fwQuery m) s (s.okResp m (leBytes 4 s.eupex.ctlFwVersion ++ leBytes 4 s.eupex.grdFwVersion ++
        leBytes 4 s.cores.securityVersion ++ leBytes 1 (s.rd CORE_STATUS_fw_source) ++ leBytes 1 s.activeSlot ++
        leBytes 1 (s.rd CORE_STATUS_fallback) ++ leBytes 1 0 ++ (s.slotRec 0).take 16 ++ (s.slotRec 1).take 16))) ∧
    (Ready s m 0x1002 c → c.refCheck 0 = none → c.u8 16 ≤ 1 → c.notZero 17 3 = none → s.refPoison (c.ref 0) = false →
      s.rd CORE_STATUS_fw_source ≠ c.u8 16 → ∀ old l,
      (c.u32 8 = 0 ∧ old = []) ∨
        (c.u32 8 ≠ 0 ∧ s.cores.store = some { slot := c.u8 16, total := c.u32 12, bytes := old } ∧ old.length = c.u32 8) →
      c.u32 8 + (c.ref 0).2 ≤ c.u32 12 →
      l = { slot := c.u8 16, total := c.u32 12, bytes := old ++ s.refBytes (c.ref 0) } →
      Completes (.fwStore m) s (if l.bytes.length = c.u32 12 then s.endStore m l
        else ({ s with cores := { s.cores with store := some l } } : State).okResp m
          (leBytes 4 l.bytes.length ++ leBytes 1 0 ++ leBytes 3 0))) ∧
    (Ready s m 0x1003 c → c.u8 0 ≤ 1 → c.u8 1 ≤ 1 → c.notZero 2 2 = none → s.slotValid (c.u8 0) = true → ∀ t,
      t = (s.cadPut 0 (leBytes 1 (c.u8 0))).okResp m (leBytes 1 (c.u8 0)) →
      Completes (.fwActivate m) s (if c.u8 1 = 1 then t.plannedRestart else t)) ∧
    (Ready s m 0x1101 c →
      Completes (.caddyQuery m) s (s.okResp m (leBytes 1 (s.rawReg 0x13000) ++ leBytes 3 0 ++
        leBytes 2 (s.rd CADDY_JRNL_CFG_commit_ms) ++ leBytes 2 0 ++ leBytes 8 s.jrnlMask ++ leBytes 8 s.jrnl.commitSeq ++
        leBytes 4 s.jrnl.used ++ leBytes 4 s.jrnl.pending))) ∧
    (Ready s m 0x1102 c → c.u8 0 = 1 → c.notZero 1 1 = none → 10 ≤ c.u16 2 → c.u16 2 ≤ 10000 →
      s.rd CADDY_STATUS_warm_run ≠ 1 → ∀ t, t = s.wr CADDY_JRNL_CFG_commit_ms (c.u16 2) →
      Completes (.caddyJournalConfig m) s ((if s.rd CADDY_STATUS_jrnl_en = 1 ∧ s.jrnlMask = c.u64 4 then t
        else t.jrnlEnable (c.u64 4)).okResp m [])) ∧
    (Ready s m 0x1102 c → c.u8 0 = 0 → c.notZero 1 1 = none → 10 ≤ c.u16 2 → c.u16 2 ≤ 10000 →
      s.rd CADDY_STATUS_warm_run ≠ 1 → ∀ t, t = s.wr CADDY_JRNL_CFG_commit_ms (c.u16 2) →
      Completes (.caddyJournalConfig m) s ((((if s.rd CADDY_STATUS_jrnl_en = 1 then t.jrnlDisable else t).wr
        CADDY_JRNL_MASK_LO_mask (c.u64 4)).wr CADDY_JRNL_MASK_HI_mask (c.u64 4 / 2 ^ 32)).okResp m [])) ∧
    (Ready s m 0x1103 c → c.u8 0 ≤ 1 → s.jrnlOn = true → ∀ t, t = s.jrnlCommit → t.rd CADDY_STATUS_jrnl_full ≠ 1 →
      Completes (.caddyJournalCommit m) s ((if c.u8 0 = 1 ∧ t.jrnl.ckpt.isNone = true then t.jrnlCheckpoint else t).okResp m
        (leBytes 8 t.jrnl.commitSeq))) ∧
    (Ready s m 0x1104 c → Completes (.caddyJournalClear m) s (s.jrnlClear.okResp m [])) ∧
    (Ready s m 0x1105 c → s.rd CADDY_STATUS_jrnl_en ≠ 1 → s.cores.warm = none → ∀ off q l tabs bad t p seq,
      s.anchor = some (off, q) → s.jrnlReplay = some l → tabs = jrnlTablesOf l → bad = s.replayPoison off q → bad = false →
      (s.warmBlocks c).find? s.claimed = none →
      t = s.cadRead cadRing (l.foldl (fun n r => n + r.bytes.length) 0) →
      p = t.warmTables tabs bad (c.u64 0) (List.range 64) →
      seq = (l.filter (fun r => r.type == 5)).foldl (fun n r => max n r.seq) 0 →
      Completes (.caddyWarmStart m) s ((((({ p.1 with
        cores := { p.1.cores with warm := some { mb := m, status := p.2, written := 0, commitSeq := seq } } } : State).wr CADDY_STATUS_warm_run 1).noteBusy).wait
        m).warmCheck)) ∧
    (Ready s m 0x1106 c → firstFail (scratchChecks c) = none → ∀ src, src = cadScratch + c.u32 0 →
      ((c.ref 4).2 != 0 && s.rangePoison sidCaddy src (c.ref 4).2) = false →
      Completes (.caddyScratchRead m) s (((State.copyScratch (((c.ref 4).2 + 7) / 8) src (dataRam + (c.ref 4).1) (c.ref 4).2
        s).cadRead src (c.ref 4).2).okResp m (leBytes 4 (c.ref 4).2))) ∧
    (Ready s m 0x1107 c → firstFail (scratchChecks c) = none → s.refPoison (c.ref 4) = false →
      Completes (.caddyScratchWrite m) s ((s.cadPut (cadScratch + c.u32 0) (s.refBytes (c.ref 4))).okResp m
        (leBytes 4 (c.ref 4).2))) ∧
    (Ready s m 0x0F01 c → c.u64 0 % 8 = 0 → c.u64 0 = 0 ∨ 909696 ≤ c.u32 8 →
      Completes (.dumpConfig m) s (((s.wr64 CORE_DUMP_HOST_LO_dump_addr CORE_DUMP_HOST_HI_dump_addr 0 (c.u64 0)).wr
        CORE_DUMP_HOST_LEN_dump_len (c.u32 8)).okResp m [])) ∧
    (Ready s m 0x0F02 c →
      Completes (.dumpQuery m) s (s.okResp m ((if s.dumpHeld then s.cadGet cadDump 4 else [0, 0, 0, 0]) ++
        s.cadGet (cadDump + 4) 28))) ∧
    (Ready s m 0x0F03 c → s.cores.dump = none → Completes (.dumpTake m) s ((s.startDump 3 1 (some m)).wait m)) ∧
    (Ready s m 0x0F04 c → s.dumpHeld = true → s.dumpSeq = c.u64 0 →
      Completes (.dumpClear m) s ((s.cadPut cadDump [0, 0, 0, 0]).okResp m []))

/-- The OTP commands, the programming of one word through the registers, and a word's programming pulse (R680, R684, R686 to
R689, R691). -/
def Obligations.OtpCommandsComplete : Prop :=
  ∀ (m : Mb) (s : State) (c : Cmd),
    (Ready s m 0x0401 c →
      Completes (.otpQuery m) s (s.okResp m (leBytes 4 (s.rawReg 0x4000) ++ leBytes 4 (s.rawReg 0x4004) ++
        leBytes 1 (s.rd OTP_SV_fw_min_sv) ++ leBytes 1 s.keyGen ++ leBytes 2 0 ++ padTo 40 s.settings ++ leBytes 4 0))) ∧
    (Ready s m 0x0402 c → s.otp = none → c.refCheck 0 = none → 56 ≤ (c.ref 0).2 → s.refPoison (c.ref 0) = false →
      ∀ body, workbench ((s.refBytes (c.ref 0)).take 56) 1 40 = some body → settingsBody body = true → s.otpNext ≠ 4 →
      Completes (.otpSettingsWrite m) s
        (s.startOtp (.settings m s.otpNext) (otpWords (setWord s.otpNext) (settingsRecord s.otpNext body)))) ∧
    (Ready s m 0x0403 c → s.otp = none → c.refCheck 0 = none → s.refPoison (c.ref 0) = false →
      ∀ body, workbench ((s.refBytes (c.ref 0)).take 84) 2 68 = some body → recNat body 1 3 = 0 →
      s.otpBlank 0x60 64 = true →
      Completes (.otpSecurityWrite m) s (s.startOtp (.security m (c.ref 0)) (otpWords 0x60 (securityRegion body)))) ∧
    (Ready s m 0x0404 c → s.otp = none → c.u32 0 = 0x4C4F434B → s.secGood = true →
      Completes (.otpLockDebug m) s (s.startOtp (.lock m) [(0xA0, 0xFFFFFFFF)])) ∧
    (Ready s m 0x0405 c → s.otp = none → s.otpSv < c.u8 0 → c.u8 0 ≤ 64 → c.u8 0 ≤ s.cores.securityVersion →
      (∀ i < 2, s.slotVerifies i = true ∧ c.u8 0 ≤ recNat (s.slotRec i) 16 4) →
      Completes (.otpSvRaise m) s (s.startOtp (.raise m) (s.svWords (c.u8 0)))) ∧
    (∀ w u, Landed s 0x4028 w u → w.getLsbD 31 = true → u.otp = none → u.otpAllowed (u.rd OTP_PROG_ADDR_word) = true →
      Completes (.otpProgGo w) s (u.startOtp .expert [(u.rd OTP_PROG_ADDR_word, u.rd OTP_PROG_DATA_data)])) ∧
    (∀ j a data rest v, s.otp = some j → j.words = (a, data) :: rest → v.toNat &&& s.otpWord a = s.otpWord a →
      v.toNat ||| (s.otpWord a ||| data) = s.otpWord a ||| data →
      Completes (.otpWordProgrammed v) s (s.otpPulse j a data v.toNat))

/-- The PIN commands (R700, R705, R707, R709, R710, R713, R717, R718, R725, R731, R732).
That a second PIN.I2C_XFER waits behind the running transfer is the model's reading (log entry 82). -/
def Obligations.PinCommandsComplete : Prop :=
  ∀ (m : Mb) (s : State) (c : Cmd),
    (Ready s m 0x0E01 c → 1 ≤ c.u8 0 → c.u8 0 ≤ 24 → c.notZero 1 3 = none →
      firstFail ((List.range (c.u8 0)).flatMap (padEntryChecks c)) = none → ∀ t,
      t = (padEntries c).foldl (fun s e => s.wrRW (0x6100 + 4 * e.1) e.2) s →
      Completes (.pinPadConfig m) s ((s.switchPads t (((padEntries c).map (·.1)).filter (fun n =>
        t.rawReg (0x6100 + 4 * n) != s.rawReg (0x6100 + 4 * n)))).okResp m [])) ∧
    (Ready s m 0x0E02 c →
      Completes (.pinQuery m) s ((s.okResp m (leBytes 4 s.padIn ++ leBytes 4 s.padFilt ++ leBytes 4 (s.rd PIN_OUT_out) ++
        leBytes 4 (s.rd PIN_IRQ_STATUS_irq) ++ leBytes 4 (s.rd PIN_CONFLICT_LO_conflict) ++
        leBytes 4 (s.rd PIN_CONFLICT_HI_conflict) ++ leBytes 4 s.padFixed ++ leBytes 4 (s.rawReg 0x6000))).nextFree)) ∧
    (Ready s m 0x0E03 c → c.u32 0 < 2 ^ 24 → c.u32 4 < 2 ^ 24 → c.u32 0 &&& c.u32 4 = 0 → c.u32 8 < 2 ^ 24 →
      c.u32 8 &&& (c.u32 0 ||| c.u32 4) = 0 → ∀ v, v = gpioOut (s.rd PIN_OUT_out) (c.u32 0) (c.u32 4) (c.u32 8) →
      Completes (.pinGpioWrite m) s ((s.wr PIN_OUT_out v).okResp m (leBytes 4 v))) ∧
    (Ready s m 0x0E04 c → c.u32 4 < 2 ^ 16 →
      Completes (.pinIrqConfig m) s (((s.wr PIN_IRQ_CFG_LO_irq (c.u32 0)).wr PIN_IRQ_CFG_HI_irq (c.u32 4)).okResp m [])) ∧
    (Ready s m 0x0E05 c → (∀ k < 8, wakeEntryCheck c k = none) →
      Completes (.pinWakeConfig m) s (((List.range 8).foldl (fun s k => s.wrRW (0x6060 + 4 * k)
        (BitVec.ofNat 32 (c.u32 (4 * k)))) s).okResp m [])) ∧
    (Ready s m 0x0E06 c → 0x08 ≤ c.u8 0 → c.u8 0 ≤ 0x77 → c.u8 0 ≠ 0x0C → c.u8 1 < 4 → c.notZero 3 1 = none →
      Completes (.pinSmbConfig m) s ((s.pinWrite 0x6400
        (BitVec.ofNat 32 (c.u8 0 + 256 * c.u8 1 + 65536 * c.u8 2))).okResp m [])) ∧
    (Ready s m 0x0E07 c → ∀ regs, unitRegs (c.u8 0) = some regs → c.notZero 1 3 = none →
      (∀ r ∈ regs.zipIdx, pinRangeOk r.1 (BitVec.ofNat 32 (c.u32 (4 + 4 * r.2))) = true ∧
        (BitVec.ofNat 32 (c.u32 (4 + 4 * r.2))).toNat &&& (2 ^ 32 - 1 - rwMask r.1) = 0) →
      Completes (.pinPeriphSet m) s ((regs.zipIdx.foldl (fun s r =>
        s.pinWrite r.1 (BitVec.ofNat 32 (c.u32 (4 + 4 * r.2)))) s).okResp m [])) ∧
    (Ready s m 0x0E08 c → c.u8 0 = 1 ∨ c.u8 0 = 2 → c.u8 1 ≤ 1 → c.u16 2 ≤ 232 → c.notZero 4 4 = none → ∀ u k t x,
      u = c.u8 0 - 1 → s.rdi PIN_Uu_CFG_en u ≠ 0 → k = min (c.u16 2) (64 - (s.uart u).tx.length) →
      t = s.uartPush u ((c.bytes 8 (c.u16 2)).take k) false → x = t.uart u →
      Completes (.pinUartXfer m) s (if c.u8 1 = 1 ∧ (x.cur.isSome = true ∨ (!x.tx.isEmpty) = true) then
        (t.setUart u { x with waits := x.waits ++ [(m, k)] }).wait m else t.uartReply m u k)) ∧
    (Ready s m 0x0E09 c → c.u8 0 < 128 → c.u8 1 ≤ 64 → c.u8 2 ≤ 64 → c.notZero 3 1 = none → s.rd PIN_I2C_CFG_en ≠ 0 →
      ∀ r : I2cRun, r = { mb := some m, addr := c.u8 0, wr := c.bytes 4 (c.u8 1), rd := c.u8 2 } →
      (s.pins.i2c = none → Completes (.pinI2cXfer m) s ((s.i2cStart r).wait m)) ∧
      (s.pins.i2c.isSome = true → Completes (.pinI2cXfer m) s
        (({ s with pins := { s.pins with i2cNext := s.pins.i2cNext ++ [r] } } : State).wait m)))

/-! ### Register writes and other accesses of the host -/

/-- The requests of PWR_CTRL, with its key in the upper half and one request bit (R113, R116, R119, R139), the
statistics-clear fields (R189), the clearing and latching reads (R16, R56), and a plain register write.
That a clearing or latching read of its own row is a read of 4 bytes is the model's reading (log entry 117); a PWR_CTRL write
with several request bits, or with a wrong key, is refused as a whole (63) and stands in no clause here. -/
def Obligations.PowerRequestsAndAccessesComplete : Prop :=
  ∀ (s u : State) (w : RegWord) (off len : Nat) (full : Bool) (data : List (Option Byte)),
    (Landed s 0x1004 w u → w.toNat / 65536 = 0x7E51 → w.toNat % 16 = 1 → u.dozeRefusal = none → Completes (.dozeReq w) s u.acceptDoze) ∧
    (∀ st reason, Landed s 0x1004 w u → w.toNat / 65536 = 0x7E51 → w.toNat % 16 = 1 → u.dozeRefusal = some (st, reason) →
      Completes (.dozeReq w) s (u.refuseReq reason)) ∧
    (Landed s 0x1004 w u → w.toNat / 65536 = 0x7E51 → w.toNat % 16 = 2 → u.inSequence = false → Completes (.wakeReq w) s u.exitDoze) ∧
    (Landed s 0x1004 w u → w.toNat / 65536 = 0x7E51 → w.toNat % 16 = 4 → u.inSequence = false → u.alive = true →
      Completes (.standbyReq w) s (({ u with
        pwr := { u.pwr with wakeEn := u.rd PWR_WAKE_CFG_wake_en, wakeNAssert := u.rd PWR_WAKE_CFG_wake_n_assert == 1
                            timerS := u.rd PWR_STBY_TIMER_timer_s } } : State).beginSequence .standby true)) ∧
    (Landed s 0x1004 w u → w.toNat / 65536 = 0x7E51 → w.toNat % 16 = 8 → (u.inSequence && !u.atTrigger) = false →
      Completes (.shutdownReq w) s (u.trigger (if w.getLsbD 4 then .cmdRestart else .cmd))) ∧
    (statClear off = true → off ≠ 0x3160 → s.discards = false → w.getLsbD 31 = true →
      Completes (.mmClear off w) s ((s.touchLink.noteReserved off w).mmReset off)) ∧
    (s.discards = false → Completes (.hwClr w) s ((List.range 24).foldl (fun t i => if bitOf w.toNat i then
      t.wri CLK_FIFO_STATUS_high_water i (t.rdi CLK_FIFO_STATUS_occupancy i) else t)
      (s.touchLink.noteReserved 0x3160 w))) ∧
    Completes .plyLoRead s ((s.wr CLK_PLY_HI_ply_hi (s.clk.ply / 2 ^ 32)).reply (leBytes 4 s.clk.ply) false .success) ∧
    (off < 0x100000 → Completes (.rcRead .bar0 off len full) s (s.touchLink.regRead off len full)) ∧
    (0x100000 ≤ off → off < 0x200000 → Completes (.rcRead .bar0 off len full) s
      (s.touchLink.winRead ((off - 0x100000) / 0x20000) (winOff off) (if full then len else 0))) ∧
    (0x200000 ≤ off → Completes (.rcRead .bar0 off len full) s (s.touchLink.reply (List.replicate len 0) false .success)) ∧
    Completes (.rcRead .bar2 off len full) s (s.touchLink.bar2Read off len) ∧
    Completes (.registerWrite .bar0 off data) s (s.bar0Write off data false) ∧
    Completes (.registerWrite .bar2 off data) s (s.bar2Write off data)

/-- The search register writes that have an operation of their own (R314, R315). -/
def Obligations.SearchRegisterWritesComplete : Prop :=
  ∀ (s u : State) (w : RegWord) (q : Fin 16),
    (Landed s 0x8044 w u → fieldOf w SRCH_PROF_LOAD_load = 1 → fieldOf w SRCH_PROF_LOAD_delete = 0 → ∀ p d,
      p = fieldOf w SRCH_PROF_LOAD_prof_id → d = leBytes 1 p ++ (u.regBytes SRCH_PROF_STAGE_stage 24).drop 1 →
      profileBad d = none → Completes (.profLoad w) s (u.commitProfile p d)) ∧
    (Landed s 0x8044 w u → fieldOf w SRCH_PROF_LOAD_delete = 1 → fieldOf w SRCH_PROF_LOAD_load = 0 →
      Completes (.profDeleteWrite w) s (u.deleteProfile (fieldOf w SRCH_PROF_LOAD_prof_id))) ∧
    (Landed s (qCfgOff q.val) w u → fieldOf w SRCH_Q_CFG_q_en = 1 → u.qOpen q.val = false →
      4 ≤ fieldOf w SRCH_Q_CFG_req_k → fieldOf w SRCH_Q_CFG_req_k ≤ 12 → 4 ≤ fieldOf w SRCH_Q_CFG_res_k →
      fieldOf w SRCH_Q_CFG_res_k ≤ 12 → u.rdi SRCH_Q_REQ_LO_req_base_lo q.val % 4096 = 0 →
      u.rdi SRCH_Q_RES_LO_res_base_lo q.val % 4096 = 0 → u.rdi SRCH_Q_WB_LO_wb_lo q.val % 8 = 0 →
      Completes (.qEnSet q w) s ((u.wrRW (qCfgOff q.val) w).openPair q.val)) ∧
    (Landed s (qCfgOff q.val) w u → fieldOf w SRCH_Q_CFG_q_en = 0 → u.qOpen q.val = true → (u.pair q.val).closing = false →
      Completes (.qEnClear q w) s ((u.sizesListed w SRCH_Q_CFG_req_k SRCH_Q_CFG_res_k).closePair q.val none)) ∧
    (∀ a b, 4 ≤ fieldOf w a → fieldOf w a ≤ 12 → 4 ≤ fieldOf w b → fieldOf w b ≤ 12 → u.sizesListed w a b = u)

/-- The register writes of the ternary array (R329, R330, R343, R362 to R365).
Of several request bits in one word of TCAM_BLK_CTRL, the model takes one or refuses the word (log entry 31): each clause here
has the other request bits 0, or says which it takes with them. -/
def Obligations.TernaryRegisterWritesComplete : Prop :=
  ∀ (s u : State) (w : RegWord) (b : Fin 256) (t : Fin 64),
    (Landed s 0x9030 w u → fieldOf w TCAM_CASTLE_go = 1 → ∀ v a d ply, v = u.wrRW 0x9030 w → a = v.rd TCAM_CASTLE_table_a →
      d = v.rd TCAM_CASTLE_table_b → ply = v.rd TCAM_CASTLE_AT_LO_at_lo + 2 ^ 32 * v.rd TCAM_CASTLE_AT_HI_at_hi →
      a ≠ 63 → d ≠ 63 → v.castleOk a d = true → v.tblOrphaned a = false → v.tblOrphaned d = false → v.plyOk ply = true →
      v.tbl.castle = none → v.tbl.guardCastle = false → v.inSequence = false →
      Completes (.castleGo w) s (v.setCastle (some { a := a, b := d, atPly := ply, mb := none, behind := false }))) ∧
    (Landed s 0x91B0 w u → fieldOf w TCAM_UPD_CMD_go = 1 → u.rd TCAM_UPD_STATUS_busy ≠ 1 → ∀ f o,
      f = fieldOf w TCAM_UPD_CMD_slot → u.slotRefusal f = none → o = u.slotOwner f → u.castling o = false →
      (fieldOf w TCAM_UPD_CMD_op = 1 →
        Completes (.tcamUpdEntryWrite w) s ((u.wr TCAM_UPD_STATUS_busy 1).queueUpd (.port 9)
          (.tcamWrite o (some f) (u.rd TCAM_UPD_PRIO_prio) u.tcamUpdRes
            (u.regBytes TCAM_UPD_VAL_val 20) (u.regBytes TCAM_UPD_MASK_mask 20) false false))) ∧
      (fieldOf w TCAM_UPD_CMD_op = 2 →
        Completes (.tcamUpdEntryDelete w) s ((u.wr TCAM_UPD_STATUS_busy 1).queueUpd (.port 9) (.tcamDelete o f))) ∧
      (fieldOf w TCAM_UPD_CMD_op = 3 →
        Completes (.tcamUpdResultWrite w) s
          ((u.wr TCAM_UPD_STATUS_busy 1).queueUpd (.port 9) (.tcamResult o f u.tcamUpdRes false)))) ∧
    (Landed s (blkOff b.val) w u → fieldOf w TCAM_BLK_CTRL_owned = 1 → fieldOf w TCAM_BLK_CTRL_gate_req = 0 → b.val < 248 →
      u.blk b.val ≠ blkOwned → u.inSequence = false → ∀ o, o = fieldOf w TCAM_BLK_CTRL_owner → o ≠ 63 → u.tblIs o engTcam = true → u.tblOrphaned o = false →
      u.blocksAnswer [b.val] = none →
      Completes (.blkOwnedSet b w) s
        (((u.wri TCAM_BLK_CTRL_owner b.val o).ungateAll [b.val]).queueUpd .reg (.grow o [b.val]))) ∧
    (Landed s (blkOff b.val) w u → fieldOf w TCAM_BLK_CTRL_owned = 0 → fieldOf w TCAM_BLK_CTRL_gate_req = 0 → b.val < 248 →
      u.blk b.val = blkOwned → u.foreignOwner w = false → u.rdi TCAM_BLK_CTRL_owner b.val = fieldOf w TCAM_BLK_CTRL_owner → (u.blkValid b.val).isEmpty = true →
      Completes (.blkOwnedClear b w) s (u.queueUpd .reg (.shrink (fieldOf w TCAM_BLK_CTRL_owner) [b.val]))) ∧
    (Landed s (blkOff b.val) w u → fieldOf w TCAM_BLK_CTRL_gate_req = 1 → fieldOf w TCAM_BLK_CTRL_ungate_req = 0 →
      fieldOf w TCAM_BLK_CTRL_owned = 0 → b.val < 248 → u.blk b.val = blkFree →
      u.reserved.contains b.val = false → u.foreignOwner w = false →
      Completes (.gateReq b w) s ((u.gate b.val).putOwner b.val w)) ∧
    (Landed s (blkOff b.val) w u → fieldOf w TCAM_BLK_CTRL_ungate_req = 1 → fieldOf w TCAM_BLK_CTRL_gate_req = 0 →
      fieldOf w TCAM_BLK_CTRL_owned = 0 → b.val < 248 → u.foreignOwner w = false → u.blk b.val ≠ blkOwned →
      Completes (.ungateReq b w) s ((u.ungateAll [b.val]).putOwner b.val w)) ∧
    (Landed s (tcamTblOff t.val) w u → fieldOf w TCAM_TBL_CFG_defined = 1 → t.val ≠ 63 → u.tblDefined t.val = false →
      fieldOf w TCAM_TBL_CFG_slot_bind ≠ 2 → u.sweeping t.val = false →
      Completes (.tcamTblCreateWrite t w) s (u.queueUpd .reg (.tcamCreate t.val (fieldOf w TCAM_TBL_CFG_hidden)
        (fieldOf w TCAM_TBL_CFG_slot_bind) (fieldOf w TCAM_TBL_CFG_width_code) []))) ∧
    (Landed s (tcamTblOff t.val) w u → t.val ≠ 63 → ∀ v, v = u.noteBind (fieldOf w TCAM_TBL_CFG_slot_bind) →
      (fieldOf w TCAM_TBL_CFG_defined = 0 → v.tblDefined t.val = true → v.tblIs t.val engTcam = true →
        (v.tblBlocks t.val).isEmpty = true → v.castling t.val = false →
        Completes (.tcamTblDeleteWrite t w) s (v.queueUpd .reg (.delTable t.val))) ∧
      (fieldOf w TCAM_TBL_CFG_defined = 1 → v.tblIs t.val engTcam = true →
        v.rdi TCAM_TBL_CFG_hidden t.val ≠ fieldOf w TCAM_TBL_CFG_hidden → v.castling t.val = false →
        Completes (.tcamTblHiddenWrite t w) s (v.queueUpd .reg (.hide t.val (fieldOf w TCAM_TBL_CFG_hidden)))))

/-- The register writes of the exact-match, direct-index and prefix engines (R373, R374, R376, R377, R384, R385, R401, R404,
R416, R417, R422, R423, R428). -/
def Obligations.ExactPrefixRegisterWritesComplete : Prop :=
  ∀ (s u : State) (w : RegWord) (t : Fin 63) (r : Fin 4),
    (Landed s 0xA118 w u → fieldOf w HASH_UPD_CMD_go = 1 → u.rd HASH_UPD_STATUS_busy ≠ 1 → ∀ a ty key,
      a = fieldOf w HASH_UPD_CMD_table → ty = fieldOf w HASH_UPD_CMD_type → ty ≠ 0 →
      key = u.regBytes HASH_UPD_KEY_key 4 →
      (fieldOf w HASH_UPD_CMD_op = 1 →
        Completes (.hashUpdInsert w) s ((u.wr HASH_UPD_STATUS_busy 1).queueUpd (.port 10)
          (.exactWrite a ty key u.hashUpdRes (fieldOf w HASH_UPD_CMD_learned == 1) false false))) ∧
      (fieldOf w HASH_UPD_CMD_op = 2 →
        Completes (.hashUpdDelete w) s ((u.wr HASH_UPD_STATUS_busy 1).queueUpd (.port 10) (.exactDelete a ty key))) ∧
      (fieldOf w HASH_UPD_CMD_op = 3 →
        Completes (.hashUpdResult w) s
          ((u.wr HASH_UPD_STATUS_busy 1).queueUpd (.port 10) (.exactResult a ty key u.hashUpdRes)))) ∧
    (Landed s (hashTblOff t.val) w u → fieldOf w HASH_TBL_CFG_defined = 1 → u.tblDefined t.val = false →
      u.sweeping t.val = false → fieldOf w HASH_TBL_CFG_slot_bind ≠ 2 → fieldOf w HASH_TBL_CFG_types ≠ 0 →
      learnOk (fieldOf w HASH_TBL_CFG_learn) (fieldOf w HASH_TBL_CFG_slot_bind) = true →
      Completes (.hashTblCreateWrite t w) s (u.queueUpd .reg (.exactCreate t.val (fieldOf w HASH_TBL_CFG_hidden)
        (fieldOf w HASH_TBL_CFG_slot_bind) (fieldOf w HASH_TBL_CFG_types) (fieldOf w HASH_TBL_CFG_learn)
        (u.rdi HASH_TBL_QUOTA_quota t.val)))) ∧
    (Landed s (hashTblOff t.val) w u → ∀ v, v = u.noteBind (fieldOf w HASH_TBL_CFG_slot_bind) →
      v.tblIs t.val engExact = true →
      (fieldOf w HASH_TBL_CFG_defined = 0 →
        Completes (.hashTblDeleteWrite t w) s (v.queueUpd .reg (.delTable t.val))) ∧
      (fieldOf w HASH_TBL_CFG_defined = 1 → learnOk (fieldOf w HASH_TBL_CFG_learn) (v.tblBind t.val) = true → ∀ x,
        x = (v.wri HASH_TBL_CFG_learn t.val (fieldOf w HASH_TBL_CFG_learn)).cfgWritten [hashTblOff t.val] →
        Completes (.hashTblHiddenWrite t w) s (if v.rdi HASH_TBL_CFG_hidden t.val = fieldOf w HASH_TBL_CFG_hidden then x
          else x.queueUpd .reg (.hide t.val (fieldOf w HASH_TBL_CFG_hidden))))) ∧
    (Landed s 0xB028 w u → fieldOf w DIX_UPD_CMD_go = 1 → u.rd DIX_UPD_STATUS_busy ≠ 1 →
      Completes (.dixUpdWrite w) s ((u.wr DIX_UPD_STATUS_busy 1).queueUpd (.port 11) (.dixWrite
        (fieldOf w DIX_UPD_CMD_handle) (u.rd DIX_UPD_LO_word_lo + 2 ^ 32 * u.rd DIX_UPD_HI_word_hi)))) ∧
    (Landed s 0xB000 w u → fieldOf w DIX_CFG_dix_limit ≤ 65536 →
      Completes (.dixLimitWrite w) s (u.queueUpd .reg (.dixLimit (fieldOf w DIX_CFG_dix_limit)))) ∧
    (Landed s 0xC20C w u → fieldOf w LPM_UPD_CMD_go = 1 → u.rd LPM_UPD_STATUS_busy ≠ 1 → ∀ a len pfx,
      a = fieldOf w LPM_UPD_CMD_table → len = fieldOf w LPM_UPD_CMD_length →
      pfx = u.rd LPM_UPD_PFX_LO_lo + 2 ^ 32 * u.rd LPM_UPD_PFX_HI_hi → len ≤ 64 → prefixOk pfx len = true →
      (fieldOf w LPM_UPD_CMD_op = 1 →
        Completes (.lpmUpdInsert w) s ((u.wr LPM_UPD_STATUS_busy 1).queueUpd (.port 12)
          (.lpmInsert a pfx len (u.rd LPM_UPD_RES_res) false false))) ∧
      (fieldOf w LPM_UPD_CMD_op = 2 →
        Completes (.lpmUpdDelete w) s ((u.wr LPM_UPD_STATUS_busy 1).queueUpd (.port 12) (.lpmDelete a pfx len))) ∧
      (fieldOf w LPM_UPD_CMD_op = 3 →
        Completes (.lpmUpdResultChange w) s ((u.wr LPM_UPD_STATUS_busy 1).queueUpd (.port 12)
          (.lpmResult a pfx len (u.rd LPM_UPD_RES_res))))) ∧
    (Landed s (lpmRootOff r.val) w u → fieldOf w LPM_ROOT_CFG_defined = 1 → u.rdi LPM_ROOT_CFG_defined r.val = 0 →
      u.rdi LPM_ROOT_CFG_sweep r.val = 0 → ∀ a v, a = fieldOf w LPM_ROOT_CFG_table → u.tblDefined a = false →
      u.sweeping a = false → fieldOf w LPM_ROOT_CFG_slot_bind ≠ 2 →
      v = u.queueUpd .reg (.lpmCreate a (fieldOf w LPM_ROOT_CFG_hidden) (fieldOf w LPM_ROOT_CFG_slot_bind)
        (u.rdi LPM_ROOT_QUOTA_quota r.val) (some r.val)) →
      Completes (.lpmRootCreateWrite r w) s (if fieldOf w LPM_ROOT_CFG_dflt_valid = 1 then
        v.queueUpd .reg (.lpmDefault a (some 1) (some (u.rdi LPM_ROOT_DFLT_dflt_result r.val))) else v)) ∧
    (Landed s (lpmRootOff r.val) w u → fieldOf w LPM_ROOT_CFG_defined = 0 → u.rdi LPM_ROOT_CFG_defined r.val = 1 →
      fieldOf w LPM_ROOT_CFG_slot_bind ≠ 2 → u.rootKept r.val w = true →
      Completes (.lpmRootDeleteWrite r w) s (u.queueUpd .reg (.delTable (u.rdi LPM_ROOT_CFG_table r.val)))) ∧
    (Landed s (lpmRootOff r.val) w u → fieldOf w LPM_ROOT_CFG_defined = 1 → u.rdi LPM_ROOT_CFG_defined r.val = 1 →
      u.rootKept r.val w = true →
      (u.rdi LPM_ROOT_CFG_hidden r.val ≠ fieldOf w LPM_ROOT_CFG_hidden →
        Completes (.lpmRootHiddenWrite r w) s
          (u.queueUpd .reg (.hide (u.rdi LPM_ROOT_CFG_table r.val) (fieldOf w LPM_ROOT_CFG_hidden)))) ∧
      Completes (.lpmDefaultRouteWrite r false w) s (u.queueUpd .reg (.lpmDefault (u.rdi LPM_ROOT_CFG_table r.val)
        (some (fieldOf w LPM_ROOT_CFG_dflt_valid)) none))) ∧
    (Landed s (lpmRootOff r.val + 4) w u → u.rdi LPM_ROOT_CFG_defined r.val = 1 →
      Completes (.lpmDefaultRouteWrite r true w) s
        (u.queueUpd .reg (.lpmDefault (u.rdi LPM_ROOT_CFG_table r.val) none (some w.toNat)))) ∧
    (Landed s (lpmRootOff r.val + 4) w u → u.rdi LPM_ROOT_CFG_defined r.val ≠ 1 →
      Completes (.lpmDefaultRouteWrite r true w) s (u.wri LPM_ROOT_DFLT_dflt_result r.val w.toNat))

/-- The register writes of the chain port and of the slot ports (R98, R477, R494, R537, R539).
That SLOT_OP_DATA answers a read of 4 bytes whatever the slot's state is the model's reading (log entry 117). -/
def Obligations.ChainSlotRegisterWritesComplete : Prop :=
  ∀ (s u : State) (w : RegWord) (p : Port),
    (Landed s 0x7050 w u → u.isHead = true → mapStartsOk (u.rd CHN_MAP_STAGE_map_stage) = true →
      (fieldOf w CHN_CTRL_enumerate = 1 → fieldOf w CHN_CTRL_groups = 0 → u.chain.enum = none →
        Completes (.chnEnumerateWrite w) s (u.startEnum (u.rd CHN_MAP_STAGE_map_stage) none)) ∧
      (fieldOf w CHN_CTRL_enumerate = 0 → fieldOf w CHN_CTRL_groups = 1 → u.rd CHN_STATUS_state = 2 →
        mapLastOk (u.rd CHN_MAP_STAGE_map_stage) u.members = true →
        Completes (.chnGroupsWrite w) s (u.changeGroups (u.rd CHN_MAP_STAGE_map_stage)).1)) ∧
    (∀ i, i = portIdx p → Landed s (0xF010 + 0x100 * i) w u →
      fieldOf w SLOT_CTRL_power_on + fieldOf w SLOT_CTRL_power_off + fieldOf w SLOT_CTRL_eject +
        fieldOf w SLOT_CTRL_port_reset ≤ 1 →
      (fieldOf w SLOT_CTRL_power_on = 1 → u.slotState i = slPresent ∨ u.slotState i = slFault →
        Completes (.slotPowerOn p w) s ((u.vccOn i).wri SLOT_STATUS_vccq_1v2 i (fieldOf w SLOT_CTRL_vccq_sel))) ∧
      (fieldOf w SLOT_CTRL_power_off = 1 → u.slotState i = slPresent ∨ u.slotState i = slFault ∨ u.slotState i = slEmpty →
        Completes (.slotPowerOff p w) s ((u.endExpert i 4).slotOff i)) ∧
      (fieldOf w SLOT_CTRL_power_off = 1 → u.slotState i ≠ slPresent → u.slotState i ≠ slFault → u.slotState i ≠ slEmpty →
        Completes (.slotPowerOff p w) s (u.slotGone i slPresent 7)) ∧
      (fieldOf w SLOT_CTRL_eject = 1 → u.slotMounted i = false →
        Completes (.slotEjectWrite p w) s (u.beginPulse i none 0)) ∧
      (fieldOf w SLOT_CTRL_port_reset = 1 → u.slotMounted i = true → (u.port i).portReset = none →
        Completes (.slotPortResetWrite p w) s (u.portResetBegin i none))) ∧
    (∀ i t, i = portIdx p → Landed s (0xF040 + 0x100 * i) w u → fieldOf w SLOT_OP_CMD_go = 1 →
      u.rdi SLOT_OP_STATUS_busy i ≠ 1 → u.rdi SLOT_STATUS_vcc_on i = 1 → u.rdi SLOT_STATUS_vccq_on i = 1 →
      fieldOf w SLOT_OP_CMD_die < 8 → t = u.wri SLOT_OP_STATUS_busy i 1 → ∀ op : DieKind → DieOp,
      op = (fun k => { die := fieldOf w SLOT_OP_CMD_die, row := u.rdi SLOT_OP_ROW_row i, kind := k, use := .expert,
                       ready := false }) →
      (fieldOf w SLOT_OP_CMD_op = 1 → Completes (.slotOpReadPageRaw p w) s (t.queueOp i (op .read))) ∧
      (fieldOf w SLOT_OP_CMD_op = 2 → u.slotState i = slRaw →
        Completes (.slotOpProgramRaw p w) s (t.queueOp i (op (.program (padTo pageSize (u.port i).buf))))) ∧
      (fieldOf w SLOT_OP_CMD_op = 3 → u.slotState i = slRaw →
        Completes (.slotOpEraseBlock p w) s (t.queueOp i (op .erase))) ∧
      (fieldOf w SLOT_OP_CMD_op = 4 → Completes (.slotOpReset p w) s (t.queueOp i (op (.reset false)))) ∧
      (fieldOf w SLOT_OP_CMD_op = 5 → Completes (.slotOpReadId p w) s (t.queueOp i (op (.readId false)))) ∧
      (fieldOf w SLOT_OP_CMD_op = 6 → Completes (.slotOpReadParameterPage p w) s (t.queueOp i (op .param)))) ∧
    (∀ i a, i = portIdx p → a = s.rdi SLOT_OP_PTR_ptr i →
      Completes (.slotOpDataAccess p none) s ((s.wri SLOT_OP_PTR_ptr i (a + 4)).reply
        (padTo 4 (((padTo pageSize (s.port i).buf).drop a).take 4)) false .success)) ∧
    (∀ i a, i = portIdx p → Landed s (0xF04C + 0x100 * i) w u → a = s.rdi SLOT_OP_PTR_ptr i →
      Completes (.slotOpDataAccess p (some w)) s
        ((if a < pageSize then u.putBuf i a (leBytes 4 w.toNat) else u).wri SLOT_OP_PTR_ptr i (a + 4)))

/-- The register writes of the stream channels, of the integrity block and of the debug unit (R532, R538, R540, R603, R607,
R616, R622, R626, R666). -/
def Obligations.StreamIntegRegisterWritesComplete : Prop :=
  ∀ (s u : State) (w : RegWord) (c : Fin 16),
    (Landed s (0xE118 + 0x40 * c.val) w u → fieldOf w STRM_CH_CFG_en = 1 → u.chOpen c.val = false →
      4 ≤ fieldOf w STRM_CH_CFG_req_k → fieldOf w STRM_CH_CFG_req_k ≤ 12 → 4 ≤ fieldOf w STRM_CH_CFG_cpl_k →
      fieldOf w STRM_CH_CFG_cpl_k ≤ 12 → 1 ≤ fieldOf w STRM_CH_CFG_deg_rate →
      u.streamProfile (fieldOf w STRM_CH_CFG_profile) = true → 10 ≤ u.rdi STRM_CH_TMO_fetch_ms c.val →
      u.rdi STRM_CH_REQ_LO_lo c.val % 4096 = 0 → u.rdi STRM_CH_CPL_LO_lo c.val % 4096 = 0 →
      (fieldOf w STRM_CH_CFG_wb_en = 0 ∨ u.rdi STRM_CH_WB_LO_lo c.val % 8 = 0) →
      Completes (.strmChEnSet c w) s ((u.wrRW (0xE118 + 0x40 * c.val) w).openChan c.val)) ∧
    (Landed s (0xE118 + 0x40 * c.val) w u → fieldOf w STRM_CH_CFG_en = 0 → u.chOpen c.val = true →
      (u.chan c.val).closing = false → Completes (.strmChEnClear c w) s
        ((u.sizesListed w STRM_CH_CFG_req_k STRM_CH_CFG_cpl_k).closeChan c.val none)) ∧
    (Landed s (0xE128 + 0x40 * c.val) w u → fieldOf w STRM_CH_STATUS_resume = 1 → u.resumable c.val = true →
      Completes (.strmChResumeWrite c w) s (u.resumeChan c.val)) ∧
    (Landed s 0xD080 w u → fieldOf w INTEG_SCRUB_CTRL_go = 1 → u.integ.scrub = none → ∀ sid a n,
      sid = fieldOf w INTEG_SCRUB_CTRL_scrub_sid → a = u.rd INTEG_SCRUB_START_start → n = u.rd INTEG_SCRUB_LEN_length →
      scrubCheck sid a n = none →
      Completes (.scrubGo w) s
        ((u.wrRW 0xD080 w).startScrub sid a n (fieldOf w INTEG_SCRUB_CTRL_scrub_repair) none)) ∧
    (Landed s 0xD0D8 w u → fieldOf w INTEG_AUD_CTRL_go = 1 → u.integ.audit = none →
      (fieldOf w INTEG_AUD_CTRL_table < 63 ∨ fieldOf w INTEG_AUD_CTRL_table = dixTable) →
      Completes (.auditGo w) s ((u.wrRW 0xD0D8 w).startAudit (fieldOf w INTEG_AUD_CTRL_table)
        (fieldOf w INTEG_AUD_CTRL_ignore_learned)
        (u.rd INTEG_AUD_SHADOW_LO_shadow + 2 ^ 32 * u.rd INTEG_AUD_SHADOW_HI_shadow) (u.rd INTEG_AUD_SHADOW_LEN_shadow_len)
        (u.rd INTEG_AUD_RES_LO_res + 2 ^ 32 * u.rd INTEG_AUD_RES_HI_res) (u.rd INTEG_AUD_RES_LEN_res_len) none)) ∧
    (Landed s 0xD110 w u → u.rd INTEG_FLIP_SEL_flip_armed ≠ 1 → fieldOf w INTEG_FLIP_SEL_flip_armed = 1 →
      flipOk (fieldOf w INTEG_FLIP_SEL_flip_sid) (fieldOf w INTEG_FLIP_SEL_flip_copy)
        (fieldOf w INTEG_FLIP_SEL_flip_word) = true →
      Completes (.flipArm w) s ((u.wrRW 0xD110 w).wr INTEG_FLIP_SEL_flip_armed 1)) ∧
    (s.discards = false → ∀ t old, t = s.touchLink.noteReserved 0xD204 w → old = t.rd INTEG_LOG_STATUS_consumed →
      (fieldOf w INTEG_LOG_CONS_cons + 65536 - old) % 65536 ≤ (t.rd INTEG_LOG_STATUS_written + 65536 - old) % 65536 →
      Completes (.logConsWrite w) s (t.wr INTEG_LOG_STATUS_consumed (fieldOf w INTEG_LOG_CONS_cons))) ∧
    (s.discards = false → fieldOf w INTEG_SEEN_CLR_seen_clr = 1 →
      Completes (.seenClr w) s (s.touchLink.noteReserved 0xD20C w).clearSeen) ∧
    (Landed s 0x14004 w u → Completes (.dbgHaltWrite w) s (u.wrRW 0x14004 w).haltEnds)

/-- The register accesses of the pin block (R705, R707, R717, R718). -/
def Obligations.PinRegisterAccessesComplete : Prop :=
  ∀ (s u : State) (w : RegWord) (n : Fin 24) (k : Fin 2),
    (Landed s 0x601C w u →
      Completes (.pinSet w) s (u.wr PIN_OUT_out (u.rd PIN_OUT_out ||| w.toNat % 2 ^ 24))) ∧
    (Landed s 0x6020 w u →
      Completes (.pinClr w) s (u.wr PIN_OUT_out (u.rd PIN_OUT_out &&& (2 ^ 24 - 1 - w.toNat % 2 ^ 24)))) ∧
    (Landed s 0x6024 w u →
      Completes (.pinTgl w) s (u.wr PIN_OUT_out (u.rd PIN_OUT_out ^^^ w.toNat % 2 ^ 24))) ∧
    (Landed s (0x6100 + 4 * n.val) w u → Completes (.padCfgWrite n w) s (u.pinHostWrite (0x6100 + 4 * n.val) w)) ∧
    (Landed s (0x6210 + 0x20 * k.val) w u → Completes (.uartTxPush k w) s (u.uartPush k.val [w.setWidth 8] true)) ∧
    (∀ r, r = s.readReg (uartRxOff k.val) → Completes (.uartRxPop k) s (r.1.reply (leBytes 4 r.2) false .success)) ∧
    (Landed s 0x6284 (w ||| 0x80000000) u → Completes (.i2cGo w) s (u.pinHostWrite 0x6284 (w ||| 0x80000000)))

/-- Window accesses, window searches and doorbells (R195, R197, R203, R222, R227, R236, R263, R271, R306, R635).
What an EP write signals and counts, at a follower too, and the poisoning of the object that it writes, are the model's reading
(log entries 34 and 35). -/
def Obligations.WindowsAndDoorbellsComplete : Prop :=
  ∀ (s : State) (w : RegWord) (n : Fin 8) (lane : Fin 16) (m : Fin 4) (ring : Ring) (off len : Nat)
    (data : List (Option Byte)),
    Completes (.windowRead n off len) s (s.winRead n.val (winOff off) len) ∧
    Completes (.windowWrite n off data) s (s.winWrite n.val (winOff off) data false) ∧
    (8 ≤ len → len ≤ 64 → s.isFollower = false → s.bit SRCH_WIN_CFG_lane_en 0 lane.val = true →
      Completes (.windowSearch lane len) s
        (({ s with srch := { s.srch with window := s.srch.window ++ [{ lane := lane.val, len := len }] } } :
          State).noteWindow.exitDoze)) ∧
    (s.isFollower = false → Completes (.mailboxDoorbell m w) s
      (((s.noteDoorbell (0x3000 + 0x10 * m.val) w).noteUpper w).postDoorbell m.val (doorCount w))) ∧
    (s.isFollower = false → ∀ t old, t = (s.noteDoorbell 0x3048 w).noteUpper w → old = t.rd MBX_EVT_STATUS_evt_consumed →
      cntDist old (doorCount w) ≤ cntDist old (t.rd MBX_EVT_STATUS_evt_written) →
      Completes (.eventConsumerDoorbell w) s (State.drainEvents 65 (t.wr MBX_EVT_STATUS_evt_consumed (doorCount w)))) ∧
    (s.isFollower = false → Completes (.ringProducerDoorbell ring w) s
      (((s.noteDoorbell (ringPage ring) w).noteUpper w).ringProduce ring (doorCount w))) ∧
    (s.isFollower = false → Completes (.ringConsumerDoorbell ring w) s
      (((s.noteDoorbell (ringPage ring + 8) w).noteUpper w).ringConsume ring (doorCount w))) ∧
    (countWord off = true → s.isFollower = false → Completes (.doorbellCountWordWrite off w) s s.touchLink.badWrite) ∧
    (0x10000 ≤ off → off + data.length ≤ 0x90000 → coversReq off data = true → s.isFollower = false →
      Completes (.bootRecordWrite off data) s (s.touchLink.ramWrite off data)) ∧
    (∀ t, t = (s.touchLink.aerAdvisory .poisonedTlp).inc GLB_ERR_CNT_ep_rx →
      (t.isFollower = false → off < 0x100000 → Completes (.epWriteReceived .bar0 off data) s
        ((t.regsPoison off data).raise GLB_STATUS_ep_received)) ∧
      (t.isFollower = false → 0x100000 ≤ off → Completes (.epWriteReceived .bar0 off data) s
        ((t.bar0Write off data true).raise GLB_STATUS_ep_received)) ∧
      (t.isFollower = true → Completes (.epWriteReceived .bar0 off data) s (t.raise GLB_STATUS_ep_received)) ∧
      Completes (.epWriteReceived .bar2 off data) s (((strayDwords off data).foldl
        (fun s a => s.strayWrite (wholeWord off data) (fun s w => s.noteDoorbell a w) a)
        (if t.isFollower then t else t.ramPoison off (ramBytes off data))).raise GLB_STATUS_ep_received))

/-! ### Events of the host link, the search fabric, the clocks, the supply and the heat model -/

/-- The events of the host link (R41, R172 to R177, R202, R204, R205, R207, R209, R210, R223, R774, R775).
Choices of the model in it: a posted unsupported request is not counted (log entry 36), a LINK_UP while the link is up counts a
retrain (38), D3hot entry drops the ring reads (39), and what the endpoint does not serve comes as UNSUPPORTED_REQUEST (120). -/
def Obligations.HostLinkEventsComplete : Prop :=
  ∀ (s : State) (v : Fin 32) (tag : Nat) (data : List Byte),
    (s.host.cfg.d3hot = false → ∀ t : State,
      t = { s with host := { s.host with tx := [], cfg := { s.host.cfg with d3hot := true }, inL1 := false } } →
      Completes .d3hotEntry s (((t.dropRingReads.stopQueues).stopStreams).reply [] false .success)) ∧
    (s.isFollower = false →
      Completes (.msixUnmask (some v)) s ((s.touchLink.wri MSIX_TBL_CTRL_mask v.val 0).sendPending v.val)) ∧
    (s.isFollower = true → Completes (.msixUnmask (some v)) s s.touchLink) ∧
    (∀ t, t = s.touchLink → Completes (.msixUnmask none) s
      ({ t with host := { t.host with cfg := { t.host.cfg with msixFuncMask := false } } } : State).sendAllPending) ∧
    (s.host.holdoff.contains v.val = true → ∀ t : State,
      t = { s with host := { s.host with holdoff := s.host.holdoff.filter (· != v.val),
                                         heldMsg := s.host.heldMsg.filter (· != v.val) } } →
      Completes (.msixHoldoffExpiry v) s (if s.host.heldMsg.contains v.val then t.sendVector v.val else t)) ∧
    (∀ k, Completes (.hostLinkReset k) s
      ((((s.host.jobs.foldl State.abandonRead s.resetLinkState.dropWindow.stopQueues.stopStreams).linkAfter k).inc
        GLB_RESET_CNT_host_link_resets).raise GLB_STATUS_host_reset)) ∧
    (∀ up, up = (s.alive || s.inSequence) → Completes .perstNDeassert s
      { s with host := { s.host with perstHigh := true, training := s.host.training || up,
                                     wakeN := s.host.wakeN && !up } }) ∧
    (∀ width speed rev t u, s.host.training = true → linkWidthOk width = true → linkSpeedOk speed = true →
      t = (if s.rd GLB_LINK_link_up = 1 then s.inc GLB_LINK_CNT_retrain_count else s) →
      u = (((t.wr GLB_LINK_width width).wr GLB_LINK_speed speed).wr GLB_LINK_lanes_reversed (b2n rev)).wr
        GLB_LINK_link_up 1 →
      Completes (.linkUp width speed rev) s
        (if u.chain.upLate && u.isFollower && u.rd CHN_STATUS_state == 1 then u.backToHead else u)) ∧
    (s.host.cfg.aspmL1 = true → s.rd GLB_LINK_link_up = 1 → s.host.tx = [] → s.host.reads = [] → s.host.heldMsg = [] →
      s.rd MSIX_PBA_pending = 0 → Completes .aspmL1Request s { s with host := { s.host with inL1 := true } }) ∧
    (∀ r, s.host.reads.find? (fun r => r.tag == tag) = some r →
      Completes (.dmaCompletion tag data false) s (s.touchLink.takePart r data false) ∧
      Completes (.dmaCompletion tag data true) s
        (((s.touchLink.aerAdvisory .poisonedTlp).inc GLB_ERR_CNT_ep_rx).takePart r data true)) ∧
    (s.host.reads.find? (fun r => r.tag == tag) = none →
      Completes (.dmaCompletion tag data false) s (s.touchLink.aerAdvisory .unexpectedCpl)) ∧
    (∀ r, s.host.reads.find? (fun r => r.tag == tag) = some r → s.host.cfg.cplTimeoutDisable = false →
      Completes (.dmaCplTimeout tag) s ((((s.inc GLB_CPL_CNT_cpl_timeouts).raise GLB_STATUS_cpl_timeout).aer
        .cplTimeout).takePart r [] true)) ∧
    (∀ q : Fin 16, Completes (.ringEntryRetry (.queue q)) s (s.retryPair q.val) ∧
      Completes (.ringEntryRetry (.stream q)) s (s.retryChan q.val)) ∧
    (∀ off, Completes (.configurationRequest (.read off)) s ((s.touchLink.reply
      (leBytes 4 (s.touchLink.cfgDword (off.toNat / 4 * 4))) false .success).nextFree)) ∧
    (∀ m b, Completes (.configurationRequest (.command m b)) s
      ((s.touchLink.cfgWrite (.command m b)).reply [] false .success)) ∧
    (∀ t : State, t = s.touchLink → ∀ set : ConfigSpace → State, set = (fun c => { t with host := { t.host with cfg := c } }) →
      (∀ a p, Completes (.configurationRequest (.linkControl a p)) s
        ((set { t.host.cfg with aspmL1 := a, clockPm := p }).reply [] false .success)) ∧
      (∀ p r, Completes (.configurationRequest (.deviceControl p r)) s
        ((set { t.host.cfg with maxPayload := p, maxReadReq := r }).reply [] false .success)) ∧
      (∀ v d, Completes (.configurationRequest (.deviceControl2 v d)) s
        ((set { t.host.cfg with cplTimeoutValue := v, cplTimeoutDisable := d }).reply [] false .success)) ∧
      (∀ e m, Completes (.configurationRequest (.msixControl e m)) s
        ((set { t.host.cfg with msixEnable := e, msixFuncMask := m }).sendAllPending.reply [] false .success)) ∧
      (∀ a, Completes (.configurationRequest (.base .bar0 a)) s
        ((set { t.host.cfg with bar0 := a.toNat / 2 ^ 22 * 2 ^ 22 }).reply [] false .success) ∧
        Completes (.configurationRequest (.base .bar2 a)) s
          ((set { t.host.cfg with bar2 := a.toNat / 2 ^ 20 * 2 ^ 20 }).reply [] false .success)) ∧
      (∀ l, Completes (.configurationRequest (.errorReporting l)) s
        ((set { t.host.cfg with errEnable := l }).reply [] false .success)) ∧
      (∀ l x, Completes (.configurationRequest (.laneMargin l x)) s
        ((set { t.host.cfg with margin := t.host.cfg.margin.set l x }).reply [] false .success))) ∧
    (∀ t : State, t = s.touchLink → ∀ e,
      Completes (.configurationRequest (.aerClear e)) s (({ t with host := { t.host with aer := t.host.aer.filter (· != e) } } :
        State).reply [] false .success) ∧
      (∀ b, Completes (.configurationRequest (.aerMask e b)) s (({ t with host := { t.host with
          aerMask := setIn t.host.aerMask e b } } : State).reply [] false .success) ∧
        ((∃ k, (e, k) ∈ aerUncorr) → Completes (.configurationRequest (.aerSeverity e b)) s (({ t with host := { t.host with
          aerFatal := setIn t.host.aerFatal e b } } : State).reply [] false .success)) ∧
        ((∀ k, (e, k) ∉ aerUncorr) →
          Completes (.configurationRequest (.aerSeverity e b)) s (t.reply [] false .success)))) ∧
    Completes (.unsupportedRequest (.request true)) s (s.touchLink.aer .unsupported) ∧
    Completes (.unsupportedRequest (.request false)) s
      (((s.touchLink.aerAdvisory .unsupported).inc GLB_CPL_CNT_ur_sent).reply [] false .unsupported) ∧
    (∀ p ∈ [(Unserved.receiverError, AerError.receiverError), (.badTlp, .badTlp), (.badDllp, .badDllp),
        (.replayRollover, .replayRollover), (.replayTimeout, .replayTimeout), (.dlpError, .dlpError),
        (.flowControl, .flowControl), (.receiverOverflow, .receiverOverflow), (.malformedTlp, .malformedTlp)],
      Completes (.unsupportedRequest p.1) s (s.touchLink.aer p.2))

/-- The events of the search fabric (R59, R60, R73, R76, R87): a ply begins, a search is admitted, completes in the fabric,
is delivered on its edge, and a late answer is discarded. And the events of the clockless fabric, of the canary and of the strobes
(R49, R52 to R55, R61 to R63, R69, R79 to R81, R213, R448). Choices of the model in it: the order of delivery, group commits, admission
and removals within one ply, and the ply that SEARCH_ADMISSION begins (log entries 46 and 151); the cap window that begins with the
canary (47); the moves of FABRIC_WORD_TRANSFER (49 and 156); a head that sends TRAIN back (92). -/
def Obligations.SearchClockEventsComplete : Prop :=
  ∀ (s : State) (tag : Nat) (i : Fin 24) (data lost : Word) (poison : Bool) (word : Nat) (arb : Arbiter) (who : Requester),
    (s.powered = true → s.phase ≠ .start → ∀ a b c d, a = s.deliverDue.stopPoisoned.pastStep1 →
      b = ({ a with clk := { a.clk with ply := (a.clk.ply + 1) % 2 ^ 64 } } : State).wr CLK_ADMIT_PTR_admit_ptr
        ((a.rd CLK_ADMIT_PTR_admit_ptr + 1) % 3) →
      c = b.startDue.commitGroups.runArriving →
      d = (if c.1.allOffers.any (fun o => c.1.isGroupSearch o.desc o.mask && !(c.1.groupWindow c.2)) then
        c.1.inc CHN_ADM_WAIT_wait_plies else c.1) →
      (c.1.admitting = false → Completes .searchAdmission s c.1.commitOrphans) ∧
      (c.1.admitting = true →
        (∀ o, c.1.pickOffer c.2 ((a.rd CLK_ADMIT_PTR_admit_ptr + 1) % 3) = some o →
          Completes .searchAdmission s (d.admitOffer o.2).commitOrphans) ∧
        (c.1.pickOffer c.2 ((a.rd CLK_ADMIT_PTR_admit_ptr + 1) % 3) = none →
          Completes .searchAdmission s (if c.1.allOffers.any (fun o => c.1.capped
            (if c.1.isGroupSearch o.desc o.mask then max c.1.clk.capLevel c.1.clk.capGroup else c.1.clk.capLevel)) then
            d.inc CLK_ADMIT_CAPPED_admit_capped else d).commitOrphans))) ∧
    (∀ k f, s.srch.inFlight.findIdx? (fun f => f.tag == tag && !f.arrived) = some k → s.srch.inFlight[k]? = some f →
      Completes (.searchFabricCompletion tag) s ((f.outs.foldl State.applyLookup
        ({ s with srch := { s.srch with
          inFlight := listSet s.srch.inFlight k { f with arrived := true } } } : State)).enterCap f)) ∧
    (∀ k f, s.srch.late.findIdx? (fun f => f.tag == tag) = some k → s.srch.late[k]? = some f →
      Completes (.lateDiscard tag) s ((f.outs.foldl State.applyLookup
        ({ s with srch := { s.srch with late := s.srch.late.eraseIdx k } } : State)).inc CLK_LATE_INFO_late_discard)) ∧
    Completes .searchDelivery s s.deliverDue ∧
    ((s.fifo i.val).length < s.rdi CLK_FIFO_STATUS_depth i.val →
      Completes (.fabricWordTransfer (.push i data poison word)) s
        (s.setFifo i.val (s.fifo i.val ++ [produceWord data poison word]))) ∧
    (∀ w ws v, s.fifo i.val = w :: ws → s.stage i.val = none → v = { w with data := w.data ^^^ lost } →
      Completes (.fabricWordTransfer (.pop i lost)) s
        (((s.setFifo i.val ws).setStage i.val (some (leavingWord v))).fifoLeave i.val v)) ∧
    (s.capWaits i.val = false → Completes (.fabricWordTransfer (.take i)) s (s.setStage i.val none)) ∧
    Completes (.fabricWordTransfer .send) s s.hostTxPop ∧
    (∀ r d, s.rd CHN_LINK_OUT_driving = 1 → s.windowPos = 0 → r = s.forwardFrame → d = (frameBits r.1).data →
      Completes (.fabricWordTransfer .forward) s
        ((({ r.2 with chain := { r.2.chain with line := some (frameBits r.1) } } : State).crossFifo 9
          (produceWord (d.extractLsb' 0 64) false 0)).crossFifo 9 (produceWord (d.extractLsb' 64 64) false 0))) ∧
    (∀ f, f = s.chain.back.head?.getD .idle → (s.isFollower = true ∧ s.windowPos = 0 ∧
        (s.chainServes && s.statusSends) = false) ∨
        (s.isFollower = false ∧ f = .train ∧ (s.rd CHN_STATUS_role = 0 ∨ s.windowPos = 0)) →
      Completes (.fabricWordTransfer .back) s
        { s with chain := { s.chain with back := s.chain.back.drop 1, lineBack := some (frameBits f) } }) ∧
    (∀ t, s.isFollower = true → s.windowPos = 0 → s.chainServes = true → s.statusSends = true →
      t = s.putStatus s.statusBase → Completes (.fabricWordTransfer .back) s
        { t with chain := { t.chain with lineBack := some (frameBits s.statusFrame) } }) ∧
    (∀ q, q = s.arb arb →
      (arbServes arb who = true → q.any (fun r => r.who == who) = false →
        Completes (.fabricWordTransfer (.request arb who)) s (s.setArb arb (q ++ [⟨who, []⟩]))) ∧
      (q.any (fun r => r.who == who) = true → q.all (fun r => r.who == who || !r.passedBy.contains who) = true →
        Completes (.fabricWordTransfer (.grant arb who)) s (s.setArb arb ((q.filter (fun r => r.who != who)).map
          (fun r => { r with passedBy := r.passedBy ++ [who] })))) ∧
      (q.any (fun r => r.who != who && r.passedBy.contains who) = true →
        Completes (.fabricWordTransfer (.grant arb who)) s s)) ∧
    ((s.fifo i.val).isEmpty = false →
      Completes (.fifoStall i) s ((s.wri CLK_FIFO_STATUS_stall i.val 1).raise CLK_EVENT_fifo_stall)) ∧
    (s.powered = true → s.phase ≠ .start → s.phase ≠ .doze → s.clk.gated = false →
      Completes .canaryLaunch s { s with clk := { s.clk with
        admittedThisUs := 0
        capLevel := s.rd THM_STATUS_level
        capGroup := s.rd CHN_GROUP_group_level
        admCaps := (List.range 4).map (s.rdi THM_LEVEL_adm_cap)
        canary := some { target := s.rd CLK_MARGIN_CTRL_canary_target, hyst := s.rd CLK_MARGIN_CTRL_canary_hyst,
                         floor := s.rd CLK_MARGIN_CTRL_canary_floor,
                         cal := signed6 (s.rd CLK_MARGIN_CTRL_canary_cal),
                         minCode := s.rd CLK_MARGIN_LIMIT_margin_code_min } } }) ∧
    (∀ c taps, s.clk.canary = some c →
      Completes (.canaryMeasurement taps) s (s.measure c (slackOf taps c.cal)) ∧
      Completes .canaryMiss s ((s.measure c 0).raise CLK_EVENT_canary_miss)) ∧
    (s.clk.awaitSlack = true → Completes .marginQualifyTimeout s (s.setCode 56).resumeAdmission) ∧
    (s.rd CHN_LINK_IN_locked ≠ 0 → Completes .strobeLost s
      ((((s.wr CHN_LINK_IN_locked 0).wr CLK_ISL_STATUS_chn_lock 0).wr CLK_ISL_STATUS_sic_src 0).linkDown
        CHN_LINK_IN_in_ok)) ∧
    (s.isFollower = true → s.rd CHN_LINK_IN_locked = 0 → ∀ t, t = s.leaveChain.changeRole 0 0 true →
      Completes .followerStrobeTimeout s { t with chain := { t.chain with released := true, heard := false } }) ∧
    (∀ isl, s.powered = true → s.rd (islandLock isl) = 1 →
      Completes (.islandLost isl) s ((s.wr (islandLock isl) 0).raise CLK_EVENT_island_lost))

/-- The events of power entry, of the shutdown sequence and of the low-power states (R96, R98, R102, R104, R114, R117, R121,
R124, R125, R129 to R133, R136, R142).
Choices of the model in it: what OFF and STANDBY keep, and that VIN_CUT and SUPERVISOR_ARM lose the rest (log entries 74 and 78);
journal_ok (75); what step 2 waits for (77); a later trigger in also_seen (140); the values that a rewritten shutdown record takes (186). -/
def Obligations.PowerEventsComplete : Prop :=
  ∀ (s : State),
    (∀ t, t = (if s.phase = .off then s else s.dark .off) →
      Completes .supervisorArm s { t with pwr := { t.pwr with armed := true } }) ∧
    (∀ st, (s.phase = .off ∧ s.pwr.armed = true) ∨ s.phase = .start → Completes (.startCondition st) s (s.startUp st)) ∧
    (s.phase = .start → Completes .vinFall s s.darkArmed) ∧
    (s.phase ≠ .start → Completes .vinFall s (s.trigger .vinFall)) ∧
    (s.inSequence = true → s.rd PWR_STATE_shdn_step = 1 ∨ s.rd PWR_STATE_shdn_step = 2 → s.inFlightEmpty = true → ∀ t,
      t = s.abortAll.abortFetches →
      Completes .shutdownStep2End s (if t.stopsRun then t.wr PWR_STATE_shdn_step 2
        else (t.wr PWR_STATE_shdn_step 3).putShutdown 1 0)) ∧
    (s.atStep 3 = true → ∀ on t u, on = (s.rd CADDY_STATUS_jrnl_en == 1) →
      t = (if on && s.claimed 19 then s.conflict 19 2 1 else s) → u = t.jrnlCommit →
      Completes (.shutdownStep3End true) s (({ u with pwr := { u.pwr with
        journalOk := on && !s.claimed 19 && u.rd CADDY_STATUS_jrnl_full == 0 } } : State).wr PWR_STATE_shdn_step 4) ∧
      Completes (.shutdownStep3End false) s (({ t with pwr := { t.pwr with journalOk := false } } : State).wr
        PWR_STATE_shdn_step 4)) ∧
    (s.atStep 4 = true → Completes .shutdownStep4End s
      ((((s.settleSaves 0).settleSaves 1).putShutdown 2 0).wr PWR_STATE_shdn_step 5)) ∧
    (s.atStep 5 = true → Completes .shutdownStep5End s (((s.slotDead 0).slotDead 1).wr PWR_STATE_shdn_step 6)) ∧
    (∀ us d, s.atStep 6 = true → s.phase ≠ .standbyEntry → d = (s.putShutdown 2 us).dark .off →
      Completes (.shutdownStep6End us) s { d with pwr := { d.pwr with
        armed := d.pwr.armed || (s.pwr.cause == .vinFall || s.pwr.cause == .rail || s.pwr.cause == .cmdRestart) } }) ∧
    (∀ us t d, s.atStep 6 = true → s.phase = .standbyEntry → t = s.putShutdown 2 us → d = t.keepWake (t.dark .standby) →
      Completes (.shutdownStep6End us) s (if d.pwr.wakeLatched = 0 then d
        else ({ d with host := { d.host with wakeN := d.pwr.wakeNAssert } } : State).setPhase .start)) ∧
    (s.phase ≠ .off → Completes .vinCut s (s.dark .off)) ∧
    (∀ p i t, i = portIdx p → s.rdi SLOT_STATUS_vcc_on i ≠ 0 → t = s.slotGone i slFault 7 →
      Completes (.slotPowerFault p) s { t with pwr := { t.pwr with slotFault := listSet t.pwr.slotFault i true } }) ∧
    (∀ (r : Fin 6) t, t = s.setBit PWR_RAIL_STATUS_rail_pg 0 r.val false → s.alive = true →
      Completes (.railFault r) s ((t.raise PWR_EVENT_rail_fault).trigger .rail)) ∧
    (∀ (r : Fin 6) t, t = s.setBit PWR_RAIL_STATUS_rail_pg 0 r.val false → s.alive = false → s.inSequence = true →
      Completes (.railFault r) s (t.laterTrigger .rail)) ∧
    (s.dozeEntering = true → s.inFlightEmpty = true → ∀ code t u, code = s.rd CLK_MARGIN_LIMIT_margin_code_min →
      t = ((({ s with clk := { s.clk with gated := true, canary := none }, pwr := { s.pwr with exitPending := false } } :
        State).setPhase .doze).wr CLK_MARGIN_STATUS_margin_code code).wr CLK_MARGIN_STATUS_rail_mv (620 + 5 * code) →
      u = (t.waiters 0x0202).foldl (fun s m => s.okResp m []) t →
      Completes .dozeGate s (if s.pwr.exitPending then u.exitDoze else u)) ∧
    (s.phase = .leavingDoze → s.clk.gated = true →
      Completes .dozeUngateDone s { s with clk := { s.clk with gated := false, awaitSlack := true } }) ∧
    (∀ src : Fin 5, src.val ≠ 4 ∨ s.padWakes = true →
      Completes (.wakeSource src) s (s.wake src.val)) ∧
    Completes .standbyTimer s (s.wake 0) ∧
    (s.phase = .standby → Completes .standbyVinLow s s.darkArmed)

/-- The events of the heat model (R148, R150, R157, R158, R163, R166).
Choices of the model in it: the stream window that begins with a power sample (log entry 115), GRACE's elapsed time in plies (145),
the whole centiwatts of pin_cw (170), the converter's code and temperature as two operands (187), and
level_change at a sensor fault in ENFORCE (185). -/
def Obligations.HeatEventsComplete : Prop :=
  ∀ (s : State),
    (∀ ps iin pin t u, s.powered = true →
      iin = (match ps.selfTest with | some _ => ps.iinMa - 100 | none => ps.iinMa) → pin = centiwatts ps.vinMv iin →
      t = s.measurements ps iin pin →
      u = t.strmWindow →
      (ps.selfTest = none → Completes (.powerSample ps) s (u.modelUpdate pin (u.slotMicrowatts ps))) ∧
      (∀ inc, ps.selfTest = some inc →
        Completes (.powerSample ps) s ((u.senseTest inc).modelUpdate pin ((u.senseTest inc).slotMicrowatts ps)))) ∧
    (∀ raw conv op sh a b c d, s.powered = true → op = (if conv < -640 then min 10 (s.heat.openRun + 1) else 0) →
      sh = (if 2400 < conv then min 10 (s.heat.shortRun + 1) else 0) →
      a = ({ s with heat := { s.heat with
        openRun := op, shortRun := sh, ntcOpen := op == 10, ntcShort := sh == 10
        enforceTotalMs := if s.thm = 2 then countUp 32 s.heat.enforceTotalMs else s.heat.enforceTotalMs } } : State) →
      b = (a.wr THM_NTC_t_ntc (enc16 (max (-640) (min 2400 conv)))).wr THM_NTC_ntc_raw raw.toNat →
      c = (if s.thm = 2 then b.inc THM_ENF_COUNT_enforce_ms else b) →
      d = (if c.thm = 1 then c.wr THM_GRACE_grace_left_ms (c.rd THM_GRACE_grace_ms - c.graceMs) else c) →
      (d.heat.ntcOpen = false → d.heat.ntcShort = false → Completes (.ntcSample raw conv) s d) ∧
      (d.heat.ntcOpen = true → (d.sensorFault 0).heat.ntcShort = false →
        Completes (.ntcSample raw conv) s (d.sensorFault 0)) ∧
      (d.heat.ntcOpen = false → d.heat.ntcShort = true → Completes (.ntcSample raw conv) s (d.sensorFault 1))) ∧
    (s.thm = 1 → Completes .graceExpiry s s.enterEnforce) ∧
    (∀ l t, l = s.rd THM_STATUS_level → s.thm = 2 → s.rd THM_STATUS_sensor_fault = 0 → s.heat.holdRun = true →
      t = ({ s with heat := { s.heat with holdRun := s.band s.heat.tEst < l - 1 } } : State) →
      Completes .levelHoldExpiry s (t.changeLevel (l - 1))) ∧
    (s.powered = true → Completes .modelStale s (({ s with heat := { s.heat with stale := true } } : State).sensorFault 3)) ∧
    (s.rd THM_STATUS_sensor_fault = 1 → s.faultPresent = false →
      Completes .sensorFaultClear s ((((({ s with heat := { s.heat with holdRun := false } } : State).wr
        THM_STATUS_sensor_fault 0).wr THM_STATUS_est_valid 1).wr THM_FAULT_fault_src 0).throttle.raise
        THM_EVENT_sensor_ok))

/-! ### Events of the mailbox engine, the cores, the tables, the chain, the media, the guard and the pins -/

/-- The events of the mailbox engine, of the cores and of the caddy (R240, R243, R248, R253, R583, R584, R636, R639, R641,
R655, R658, R797).
Choices of the model in it: the watchdog judges by cause 0x05 (log entry 152), and the commands of the fatal state, after a failed
boot and at a follower complete at MAILBOX_TAKE (55). -/
def Obligations.MailboxCoreEventsComplete : Prop :=
  ∀ (s : State) (m : Mb),
    (m ≠ .relay → s.isFollower = true → Completes (.mailboxTake m) s (State.settleFollower 8 m s).fillFollower) ∧
    (m = .relay ∨ s.isFollower = false → s.fatal = true →
      Completes (.mailboxTake m) s (if m = .relay then s.completeRelayed stVoid else State.flushAccepted stVoid m 8 s)) ∧
    (m = .relay ∨ s.isFollower = false → s.fatal = false → s.rd PWR_STATE_fw_state = 3 →
      Completes (.mailboxTake m) s
        (if m = .relay then s.completeRelayed stWrongState else State.flushAccepted stWrongState m 8 s)) ∧
    (m = .relay ∨ s.isFollower = false → s.fatal = false → s.rd PWR_STATE_fw_state ≠ 3 → s.serving = true →
      s.takesNext m = true → Completes (.mailboxTake m) s (s.take m)) ∧
    (∀ c, (s.mbx m).taken = some c → c.stage = .waiting →
      c.opcode = 0x0104 ∨ (c.opcode = 0x0C02 ∧ s.rd SEC_STATUS_castle_wait = 1) →
      Completes (.commandTimeout m) s (s.stopCmd m stBusy)) ∧
    (∀ c, (s.mbx m).taken = some c →
      ¬(c.stage = .waiting ∧ (c.opcode = 0x0104 ∨ (c.opcode = 0x0C02 ∧ s.rd SEC_STATUS_castle_wait = 1))) →
      Completes (.commandTimeout m) s (s.stopCmd m stTimeout)) ∧
    (∀ c, s.waiters 0x0104 = [m] → (s.mbx m).taken = some c → s.claimBusy m (c.u32 0) = false →
      Completes .claimTakeEffect s (s.takeClaim m (c.u32 0))) ∧
    (s.stopsRun = false → s.rd PWR_STATE_fw_state = 1 → s.rd CORE_STATUS_ctl_state = 2 → s.rd DBG_HALT_ctl_halt ≠ 1 → ∀ t u,
      t = ((((s.wr PWR_STATE_fw_state 2).wr GLB_STATUS_fw_ready 1).wr GLB_STATUS_fatal 0).wr CORE_STATUS_fatal 0).smbCause 4 →
      u = t.postFw 0x0101 0xFF (leBytes 4 s.eupex.ctlFwVersion ++ leBytes 4 s.eupex.grdFwVersion) →
      Completes .fwReady s (if u.rd CHN_STATUS_role = 0 then u
        else u.postFw 0x0103 0xFF (leBytes 1 (u.rd CHN_STATUS_role) ++ leBytes 1 u.ownAddr))) ∧
    (s.rd CORE_STATUS_ctl_state ≠ 0 → s.cores.ctlDead = false → Completes .controlCoreReset s s.unplannedControl) ∧
    (s.guardUp = true → s.cores.grdDead = false → Completes .guardCoreReset s s.unplannedGuard) ∧
    (s.guardUp = false → s.rd PWR_STATE_fw_state = 1 ∨ s.rd PWR_STATE_fw_state = 2 → s.cores.grdDead = false → ∀ t u,
      t = (s.wr SEC_STATUS_guard_running 1).wr CORE_STATUS_grd_state 2 →
      u = t.loadDevice →
      Completes .guardCoreStart s ((List.range 2).foldl (fun s p =>
        if s.slotMounted p && (s.tag p).auth.isNone then s.startAuth p .restart [] else s) u)) ∧
    (∀ c f t u, s.coreTraps c = true → t = s.capture c f.cause.toNat f →
      u = (if f.cause.toNat = 1 ∨ f.cause.toNat = 3 then
        t.reportRead (match c with | .control => 0x50 | .guard => 0x51) (f.addr.toNat / 8) (2 + coreNo c) 0xFFFF else t) →
      Completes (.coreTrap c f) s
        (if f.cause.toNat = 3 ∨ f.cause.toNat = 7 ∨ f.cause.toNat = 8 ∨ f.declared = true then u.unrecoverable c
         else u)) ∧
    (∀ f, s.coreTraps .control = true → s.rd DBG_HALT_ctl_halt ≠ 1 →
      (s.cores.ctlWdog = true → f.cause.toNat ≠ 5 →
        Completes (.watchdogExpiry .control f) s ((s.capture .control 6 f).unrecoverable .control)) ∧
      (s.cores.ctlWdog = false ∨ f.cause.toNat = 5 → ∀ t, t = s.capture .control 5 f →
        Completes (.watchdogExpiry .control f) s
        (({ t with cores := { t.cores with ctlWdog := true } } : State).raise CORE_EVENT_ctl_wdog))) ∧
    (∀ f, s.coreTraps .guard = true → s.rd DBG_HALT_grd_halt ≠ 1 →
      (s.cores.grdWdog = true → f.cause.toNat ≠ 5 →
        Completes (.watchdogExpiry .guard f) s ((s.capture .guard 6 f).unrecoverable .guard)) ∧
      (s.cores.grdWdog = false ∨ f.cause.toNat = 5 → ∀ t, t = s.capture .guard 5 f →
        Completes (.watchdogExpiry .guard f) s
        (({ t with cores := { t.cores with grdWdog := true } } : State).raise CORE_EVENT_grd_wdog))) ∧
    (∀ d t, s.cores.dump = some d →
      t = ((({ s with cores := { s.cores with dump := none } } : State).writeDump d).dumpReport (2 + d.writer)).nextFree →
      (d.kind = 1 → d.mb = none → Completes .dumpWritten s t.unplannedControl) ∧
      (d.kind = 2 → d.mb = none → Completes .dumpWritten s t.unplannedGuard) ∧
      (d.kind = 3 → ∀ n, d.mb = some n → Completes .dumpWritten s (t.okResp n (leBytes 8 t.dumpSeq)))) ∧
    (s.otp.any (fun j => j.stop.isSome) = false → s.inSequence = false → s.cores.caddyBoot = true →
      Completes .bootImageVerified s s.bootCaddy) ∧
    (s.otp.any (fun j => j.stop.isSome) = false → s.inSequence = false → s.cores.caddyBoot = false → ∀ r,
      s.cores.boot = some r →
      r.bytes.length = r.len →
      (∀ d, s.imageFail r.bytes = some d →
        Completes .bootImageVerified s ((s.bootRefused stDenied d).raise SEC_EVENT_fw_verify_fail)) ∧
      (s.imageFail r.bytes = none → r.request = 3 → s.claimed 19 = true → Completes .bootImageVerified s
        (((s.conflict 19 2 1).bootState 4 0 0).loadImage r.bytes 2 false)) ∧
      (s.imageFail r.bytes = none → r.request = 3 → s.claimed 19 = false → Completes .bootImageVerified s
        ((((s.bootState 3 0 0).storeSlot r.slot r.bytes).1.bootState 4 0 0).loadImage r.bytes 2 false)) ∧
      (s.imageFail r.bytes = none → r.request ≠ 3 →
        Completes .bootImageVerified s ((s.bootState 4 0 0).loadImage r.bytes 2 false))) ∧
    (s.jrnl.pending ≠ 0 → ¬(s.rd CADDY_STATUS_jrnl_en = 1 ∧ s.claimed 19 = true) →
      Completes .journalCommitTimer s s.jrnlCommit) ∧
    (s.jrnl.pending ≠ 0 → s.rd CADDY_STATUS_jrnl_en = 1 → s.claimed 19 = true →
      Completes .journalCommitTimer s (s.conflict 19 2 1)) ∧
    Completes .checkpointEnd s s.finishCheckpoint

/-- The events of the tables and of learning (R330, R331, R347, R377, R393, R398, R399, R418, R423, R427, R509, R577): the
update port serves host updates, then the guard core's, then learning's, then the frees of a sweep, then repairs.
Choices of the model in it: the castling behind a guard castling (log entry 123), which key an insert counts for (124), the frees
of a sweep (126), the rewrite at OVERLAY_DISARM (127), and that nothing commits while the engines are gated (143). -/
def Obligations.TableEventsComplete : Prop :=
  ∀ (s : State) (b : Fin 256) (t : Fin 64),
    (s.portFree = true → s.castleDue = false →
      (∀ u, s.tryHost s.tbl.queue.length 0 = (u, true) → Completes .updateCommit s u) ∧
      (∀ u v, s.tryHost s.tbl.queue.length 0 = (u, false) → u.tryGuard = (v, true) → Completes .updateCommit s v) ∧
      (∀ u v, s.tryHost s.tbl.queue.length 0 = (u, false) → u.tryGuard = (v, false) →
        (∀ x, State.tryLearn v.learn.updates.length v = (x, true) → Completes .updateCommit s x) ∧
        (∀ x y, State.tryLearn v.learn.updates.length v = (x, false) → x.trySweep = (y, true) →
          Completes .updateCommit s y) ∧
        (∀ x y, State.tryLearn v.learn.updates.length v = (x, false) → x.trySweep = (y, false) →
          Completes .updateCommit s (State.tryRepair y.integ.repairs.length y).1))) ∧
    (∀ c u, s.tbl.castle = some c → s.castleDue = true → s.portFree = true → ∀ v,
      v = ((((s.exchange c.a c.b).stamp c.a).stamp c.b).setCastle none) →
      u = ((((v.wr TCAM_CASTLE_PLY_castle_ply v.clk.ply).inc TCAM_CASTLE_COUNT_castlings).raise
        TCAM_EVENT_castle_done).usePly).jrnlCastle c.a c.b →
      Completes .castlingCommit s (match c.mb with | some m => u.okResp m u.plyBytes | none => u)) ∧
    (∀ l, s.guard.due = some l → s.tbl.guardCastle = true → s.tbl.guardQ = [] →
      s.tbl.castle.all (·.behind) = true → s.portFree = true →
      Completes .guardCastlingCommit s (s.rulesInForce l).usePly) ∧
    (s.clk.gated = false → ∀ rest u, s.tbl.ungating.contains b.val = true → rest = s.tbl.ungating.filter (· != b.val) →
      u = (s.clearBlk b.val).setBlk b.val blkFree →
      Completes (.blockUngateDone b) s
        ({ u with tbl := { u.tbl with ungating := rest ++ u.tbl.ungateWait.take (8 - rest.length)
                                      ungateWait := u.tbl.ungateWait.drop (8 - rest.length) } } : State).settleReleases) ∧
    (s.clk.gated = false → ∀ u, s.tbl.invalidating.contains b.val = true → u = (s.invalidateBlks [b.val]).setBlk b.val blkFree →
      Completes (.blockInvalidateDone b) s ({ u with tbl := { u.tbl with
        invalidating := u.tbl.invalidating.filter (· != b.val) } } : State).settleReleases) ∧
    (s.clk.gated = false → t.val < 63 → s.rdi HASH_TBL_CFG_sweep t.val = 1 → (s.stale t.val).isEmpty = true → ∀ u,
      u = ((s.wri HASH_TBL_CFG_sweep t.val 0).cfgWritten [hashTblOff t.val]).raise HASH_EVENT_sweep_done →
      ((List.range 4).find? (fun r => u.rdi LPM_ROOT_CFG_table r == t.val && u.rdi LPM_ROOT_CFG_sweep r == 1)) = none →
      Completes (.sweepDone t) s u.settleReleases) ∧
    (s.clk.gated = false → s.rdi HASH_TBL_CFG_sweep t.val ≠ 1 → ∀ r,
      ((List.range 4).find? (fun r => s.rdi LPM_ROOT_CFG_table r == t.val && s.rdi LPM_ROOT_CFG_sweep r == 1)) = some r →
      Completes (.sweepDone t) s
        (((s.sweepLpm t.val r).wri LPM_ROOT_CFG_sweep r 0).raise LPM_EVENT_sweep_done).settleReleases) ∧
    (s.clk.gated = false → s.rd LPM_OVL_CTRL_armed = 1 → Completes .overlayDisarm s s.finishRewrite) ∧
    (s.clk.gated = false → s.rd LPM_STATUS_rebuild = 1 → Completes .lpmRebuildDone s (s.wr LPM_STATUS_rebuild 0)) ∧
    (∀ i w r u v, s.learn.walks[i]? = some w → w.result = some r → r.found = none → r.failed = false →
      u = (({ s with learn := { s.learn with notFound := countUp 32 s.learn.notFound } } : State).inc
        HASH_WALK_NF_walk_not_found).endWalk i →
      v = w.walkers.foldl (fun s x => s.walkerEnds r x) u → Completes (.walkEnd i) s v) ∧
    (∀ i w r d u v, s.learn.walks[i]? = some w → w.result = some r → r.found = some d → u = s.endWalk i →
      v = (if r.failed then u else u.queueInsert
        { table := w.table, type := 1, key := w.key, result := d, startPly := w.startPly,
          mbs := w.walkers.filterMap (fun x => match x with | .cmd m => some m | _ => none),
          first := match w.walkers with | .cmd _ :: _ => true | _ => false }) →
      Completes (.walkEnd i) s (w.walkers.foldl (fun s x => s.walkerEnds r x) v)) ∧
    (s.rd HASH_LEARN_CTRL_ager_en ≠ 0 → s.clk.gated = false → s.inSequence = false → s.fatal = false → s.agerQueued ≠ 0 → Completes .agerPass s
      (({ s with learn := { s.learn with agerDue := true } } : State).raise HASH_EVENT_ager_overrun)) ∧
    (s.rd HASH_LEARN_CTRL_ager_en ≠ 0 → s.clk.gated = false → s.inSequence = false → s.fatal = false → s.agerQueued = 0 → Completes .agerPass s s.beginPass)

/-- The events of the chain's links and of enumeration (R22, R436, R443 to R447, R454, R456, R461 to R464, R475, R476).
Choices of the model in it: the run of four bad frames within 8 plies (log entry 93), a member's fault bit that cuts every member off
(130), which frames a module samples (131), a head's own late token (134), and step 1 of an enumeration behind GROUPS (181). -/
def Obligations.ChainLinkEventsComplete : Prop :=
  ∀ (s : State),
    (s.alive = true → s.rd CHN_STATUS_role = 0 → s.rd GLB_LINK_link_up = 1 → s.chain.heard = false → ∀ t,
      t = s.changeRole 1 0 s.chain.released →
      Completes .headRoleTake s { t with chain := { t.chain with released := false } }) ∧
    (s.chain.training = true → ∀ t : State, t = { s with chain := { s.chain with training := false } } →
      Completes .trainEnd s (if s.rd CHN_LINK_OUT_back_ok = 1 then
        { t with chain := { t.chain with fwd := t.chain.fwd ++
          [.token (s.ownAddr + 1) 0 s.chain.tokSerial s.chain.tokSeq] } } else t)) ∧
    (∀ count stamp serial seq, s.alive = true → s.hears .fromUp = true →
      (s.ownToken serial.toNat seq.toNat = true → 1 ≤ count.toNat → count.toNat ≤ 32 →
        Completes (.tokenFrame count stamp serial seq) s (s.goodIn.tokenBack count.toNat)) ∧
      (s.ownToken serial.toNat seq.toNat = true → count.toNat = 0 ∨ 32 < count.toNat →
        Completes (.tokenFrame count stamp serial seq) s s.chainBroken) ∧
      (s.ownToken serial.toNat seq.toNat = false → s.isHead = true → serial.toNat = s.moduleSerial →
        Completes (.tokenFrame count stamp serial seq) s s.goodIn) ∧
      (s.ownToken serial.toNat seq.toNat = false → ¬(s.isHead = true ∧ serial.toNat = s.moduleSerial) →
        (1 ≤ count.toNat → count.toNat ≤ 31 → Completes (.tokenFrame count stamp serial seq) s
          (s.becomeFollower count.toNat stamp.toNat serial.toNat seq.toNat)) ∧
        (count.toNat = 0 ∨ 31 < count.toNat → Completes (.tokenFrame count stamp serial seq) s s.badInFrame))) ∧
    (s.isHead = true → s.chain.enum.isSome = true → s.chain.startAt = none → s.chain.training = false →
      s.chain.tokenIn = false → Completes .tokenTimeout s s.chainBroken) ∧
    (s.isFollower = true → s.rd CHN_STATUS_state = 1 → s.rd GLB_LINK_link_up = 1 →
      Completes .chainUpTimeout s s.backToHead) ∧
    (s.isFollower = true → s.rd CHN_STATUS_state = 1 → s.rd GLB_LINK_link_up ≠ 1 →
      Completes .chainUpTimeout s { s with chain := { s.chain with upLate := true } }) ∧
    (∀ (p : Fin 32) (key : BitVec 112) (fc : BitVec 8) t, s.hears .fromUp = true → s.alive = true → s.isFollower = true →
      s.chainServes = true → s.rd CHN_LINK_IN_in_ok = 1 → t = s.goodIn.crossFifo 8 (produceWord (key.setWidth 64) false 0) →
      Completes (.searchFrame p key fc) s
        { t with chain := { t.chain with arriving := some (.search p.val key fc.toNat) } }) ∧
    (∀ a, s.hears .fromDown = true →
      (s.rd CHN_LINK_OUT_back_ok = 1 → Completes (.answerFrame a) s
        ((s.goodOut.crossFifo 8 (produceWord a.result a.poison 0)).takeDown (some a))) ∧
      (s.rd CHN_LINK_OUT_back_ok ≠ 1 → Completes (.answerFrame a) s (s.takeDown none))) ∧
    (∀ d alive fault heat c t, s.alive = true → s.chainServes = true → s.statusWindow = true →
      s.hears .fromDown = true → s.rd CHN_LINK_OUT_back_ok = 1 →
      alive = d.alive.toNat ||| 2 ^ s.ownAddr →
      fault = (if s.linkFault then d.fault.toNat ||| 2 ^ s.ownAddr else d.fault.toNat) →
      heat = (if s.nextInGroup then max (s.rd THM_STATUS_level) d.heat.toNat else s.rd THM_STATUS_level) →
      c = s.goodOut.crossFifo 8 (produceWord (d.alive.setWidth 64) false 0) →
      t = (({ c with chain := { c.chain with statusIn := d } } : State).putStatus d) →
      (s.statusOf d = (alive, fault, heat)) ∧
      (s.isHead = true → ∀ u, u = t.noteLost alive → Completes (.statusFrame (some d)) s (if fault = 0 then u
        else (if u.rd CHN_STATUS_state = 2 then u.wr CHN_STATUS_state 4 else u).cutOff (fun _ => true))) ∧
      (s.isHead = false → Completes (.statusFrame (some d)) s t)) ∧
    (∀ due, due = s.chain.groupsPend.filter (fun g => s.plyReached g.2) →
      Completes .groupsCommit s (due.foldl (fun s g => (s.wr CHN_GROUP_MAP_group_map g.1).raise CHN_EVENT_groups_commit)
        ({ s with chain := { s.chain with
          groupsPend := s.chain.groupsPend.filter (fun g => !s.plyReached g.2) } } : State))) ∧
    (s.isHead = true → s.chain.enum.isSome = true → s.chain.upBack = true → ∀ t,
      t = (((s.wr CHN_STATUS_state 2).wr CHN_GROUP_MAP_group_map s.chain.enumMap).raise CHN_EVENT_enum_done).deleteOwners →
      Completes .enumerationCommit s
        ((({ t with chain := { t.chain with lost := 0, prevAlive := 2 ^ 32 - 1 } } : State).cutOff
          (fun a => s.members ≤ a)).endEnum s.chain.enumMap)) ∧
    (∀ phase t, s.alive = true → s.hears .fromUp = true → t = (if s.isHead then (s.goodIn.wr CHN_LINK_IN_locked 1).wr CLK_ISL_STATUS_chn_lock 1
        else ((s.goodIn.wr CHN_LINK_IN_locked 1).wr CLK_ISL_STATUS_chn_lock 1).wr CLK_ISL_STATUS_sic_src 1) →
      Completes (.trainFrame .fromUp phase) s { t with chain := { t.chain with back := t.chain.back ++ [.train] } }) ∧
    (∀ phase, s.alive = true → s.rd CHN_LINK_OUT_driving = 1 → s.chain.training = true → s.hears .fromDown = true →
      Completes (.trainFrame .fromDown phase) s
        ((s.goodOut.wr CHN_LINK_OUT_back_phase phase.toNat).wr CHN_LINK_OUT_back_ok 1)) ∧
    (∀ bits n t, frameValid bits .fromUp = false → s.samples .fromUp = true → n = (if s.clk.ply ≤ s.chain.badInAt + 8 then s.chain.badIn + 1 else 1) →
      t = (({ s with chain := { s.chain with heard := true, badIn := n, badInAt := s.clk.ply } } : State).inc
        CHN_LINK_IN_in_errors).raise CHN_EVENT_frame_error →
      Completes (.frameError ⟨.fromUp, bits⟩) s
        (if n = 4 ∧ s.rd CHN_LINK_IN_in_ok = 1 then t.linkDown CHN_LINK_IN_in_ok else t)) ∧
    (∀ bits n t u, frameValid bits .fromDown = false → s.samples .fromDown = true → n = (if s.clk.ply ≤ s.chain.badOutAt + 8 then s.chain.badOut + 1 else 1) →
      t = ((s.takeDown none).inc CHN_LINK_OUT_out_errors).raise CHN_EVENT_frame_error →
      u = { t with chain := { t.chain with badOut := n, badOutAt := s.clk.ply } } →
      Completes (.frameError ⟨.fromDown, bits⟩) s
        (if n = 4 && s.rd CHN_LINK_OUT_back_ok == 1 then u.linkDown CHN_LINK_OUT_back_ok else u))

/-- The packets of the chain at the member that they name, and a packet for another member, which is passed on (R441, R443,
R465 to R470, R473, R474, R476, R784, R789).
The bit places of the REG, RDONE, GROUPS and CHAIN_UP packets are the model's choice (log entries 10 and 98), and the counting of
pkt_in and rf_served its reading (99). -/
def Obligations.ChainPacketsComplete : Prop :=
  ∀ (s t : State) (p : Packet), s.portLive = true →
    (p.dst = s.ownAddr → t = (s.enterPkt p).inc CHN_PKT_pkt_in →
      (t.fatal = false → t.rd PWR_STATE_fw_state ≠ 3 → t.inSequence = false → Completes (.cmdPacket p) s
        { t with chain := { t.chain with relayQ := t.chain.relayQ ++ [⟨p.src, p.tag, p.payload⟩] } }) ∧
      (∀ m c u, t.answered p (fun c => c.relayed) = some (m, c, u) →
        Completes (.rspPacket p) s ((u.putRange c (p.payload.drop 256)).done m (fieldAt p.payload 10 1)
          (fieldAt p.payload 14 2) ((p.payload.drop 16).take (min 240 (fieldAt p.payload 12 2))))) ∧
      (t.isFollower = false → Completes (.eventPacket p) s (t.postEvent (eventOf p.src p.payload))) ∧
      (∀ u, u = t.exitDoze → u.fatal = false → u.inSequence = false → (remoteReq p).len ≠ 0 →
        u.streamProfile (remoteReq p).profile = true → (8 ≤ u.remoteBusy && 64 ≤ u.strm.remoteQ.length) = false →
        Completes (.rfetchPacket p) s ((({ u with strm := { u.strm with remoteQ := u.strm.remoteQ ++ [remoteReq p] } } :
          State).inc CHN_RFETCH_rf_served).nextRemote)) ∧
      (∀ f, t.remoteOf p = some f →
        Completes (.rdataPacket p) s (t.holdData f.id p.fields.toNat p.payload none)) ∧
      (∀ f, t.remoteOf p = some f → fieldAt p.payload 8 1 ≠ stBusy →
        Completes (.rdonePacket p) s (t.holdData f.id 0 [] (some (fieldAt p.payload 8 1)))) ∧
      (∀ f, t.remoteOf p = some f → fieldAt p.payload 8 1 = stBusy →
        Completes (.rdonePacket p) s (t.updFetch f.id (fun g => { g with stage := .retry p.src }))) ∧
      (t.isFollower = true → ∀ r, r = State.portAccesses (p.fields.toNat / 2 ^ 32 % 256 == 2)
          (p.fields.toNat / 2 ^ 40 % 32) (p.fields.toNat % 2 ^ 32) p.payload t →
        Completes (.regPacket p) s (r.1.sendPkt { dst := p.src, src := t.ownAddr, kind := 0xA, tag := p.tag,
                                                  fields := p.fields, payload := r.2 })) ∧
      (∀ m c u, t.answered p (fun c => c.opcode == 0x0504 && !c.relayed) = some (m, c, u) →
        Completes (.regRspPacket p) s (u.okResp m (padTo (4 * c.u8 2) p.payload))) ∧
      (fieldAt p.payload 4 1 = 2 → ∀ u, u = (t.bar2Put bootRec (padTo 32 p.payload)).bootServe →
        Completes (.bootPacket p) s (u.sendPkt { dst := p.src, src := u.ownAddr, kind := 0xC, tag := p.tag, fields := 0,
                                                 payload := u.bar2Get (bootRec + 32) 32 })) ∧
      (∀ m c u, t.answered p (fun c => c.opcode == 0x0505 && !c.relayed) = some (m, c, u) →
        Completes (.bootRspPacket p) s (u.okResp m (padTo 32 p.payload)))) ∧
    (p.dst ≠ s.ownAddr → t = (s.enterPkt p).passOn p → Completes (.cmdPacket p) s t ∧ Completes (.rspPacket p) s t ∧
      Completes (.eventPacket p) s t ∧ Completes (.rfetchPacket p) s t ∧ Completes (.rdataPacket p) s t ∧
      Completes (.rdonePacket p) s t ∧ Completes (.regPacket p) s t ∧ Completes (.regRspPacket p) s t ∧
      Completes (.bootPacket p) s t ∧ Completes (.bootRspPacket p) s t) ∧
    (p.src = s.ownAddr → t = (s.enterPkt p).inc CHN_PKT_pkt_in → Completes (.groupsPacket p) s t ∧
      (t.chain.enum.isSome = true →
        Completes (.chainUpPacket p) s { t with chain := { t.chain with upBack := true } })) ∧
    (∀ u, u = s.enterPkt p → p.src ≠ s.ownAddr → u.isFollower = true →
      t = { u with chain := { u.chain with upLate := false } } →
      Completes (.chainUpPacket p) s ((((t.wr CHN_STATUS_state 2).wr CHN_STATUS_members (fieldAt p.payload 0 1)).wr
        CHN_GROUP_MAP_group_map (fieldAt p.payload 1 4)).passOn p)) ∧
    (∀ u, u = s.enterPkt p → p.src ≠ s.ownAddr → u.isFollower = true →
      t = { u with chain := { u.chain with groupsPend := u.chain.groupsPend ++
        [(fieldAt p.payload 0 4, fieldAt p.payload 4 8)] } } →
      Completes (.groupsPacket p) s (t.passOn p)) ∧
    (∀ id f a, s.fetch id = some f → f.stage = .retry a → Completes (.rfetchResend id) s (s.sendRfetch f a))

/-- The events of the slots, the dies and the tag buses (R98, R482 to R486, R489, R493, R494, R502, R549, R552).
Choices of the model in it: every command served by an eject pulse completes at its end (log entry 147), a transfer counts at the
event that ends it (144), and slot events are not seen in boundary scan (85). -/
def Obligations.MediaEventsComplete : Prop :=
  ∀ (s : State) (p : Port) (i : Nat), i = portIdx p →
    (s.alive = true → s.scanOwns = false → s.slotState i = slEmpty → Completes (.slotInsertion p) s
      (((s.wri SLOT_STATUS_present i 1).setSlotState i slPresent).raisei SLOT_EVENT_inserted i)) ∧
    (s.scanOwns = false → s.slotState i ≠ slEmpty → Completes (.slotRemoval p) s
      (((s.slotGone i slEmpty 8).wri SLOT_STATUS_present i 0).raisei SLOT_EVENT_removed i)) ∧
    (s.pwr.vccPending.getD i false = true → Completes (.slotVccDelayedOff p) s (s.vccOpen i)) ∧
    (∀ l t, (s.port i).pulse = some l →
      t = (s.updPort i (fun x => { x with pulse := none })).raisei SLOT_EVENT_eject_done i →
      Completes (.ejectPulseEnd p) s (l.foldl (fun s e => match e.1 with
        | some m => s.okResp m (leBytes 8 e.2)
        | none => s) t)) ∧
    ((s.port i).drain.isSome = true → s.slotState i = slUnmounting → s.slotDrained i = true →
      s.tbl.orphans.any (fun e => e.unmount && e.slot == i) = false →
      Completes (.unmountDrainEnd p) s (s.orphanSlot i)) ∧
    (∀ e es o d t, s.tbl.orphans = e :: es → e.slot = i →
      o = ({ s with tbl := { s.tbl with orphans := es, lastPly := some s.clk.ply } } : State).commitOrphan i →
      (e.unmount = false → s.commitOrphans = o) ∧
      (e.unmount = true → (o.port i).drain = some d →
        t = ((o.updPort i (fun x => { x with drain := none })).slotOff i).setSlotState i slPresent →
        s.commitOrphans = (if d.eject then t.beginPulse i d.mb o.clk.ply
          else match d.mb with | some m => t.okResp m (leBytes 8 o.clk.ply) | none => t))) ∧
    (∀ (die : Fin 8) k o a r behind t, r = s.dieSees a → (s.port i).array die.val = some k → (s.port i).ops[k]? = some o →
      o.moves = 0 ∨ s.busFree i = true → s.lateFinal i o = false → behind = ((s.port i).first die.val != some k) → o.use ≠ .expert →
      t = (s.busMoves i o.moves).issue i die.val ((s.port i).cmdsOf o behind) →
      (o.kind = .read → o.use = .mount → Completes (.dieOperationComplete p die a) s
        (t.updPort i (fun x => { x with ops := listSet x.ops k { o with ready := true, cached := behind } }))) ∧
      (∀ m page, o.kind = .program page → o.use = .page m → Completes (.dieOperationComplete p die a) s
        ((if dieFailed r.status then (t.dropOp i k).addi SLOT_PE_program_fail i 1 else t.dropOp i k).pageDie i m r.status
          (dieFailed r.status))) ∧
      (∀ m, o.kind = .erase → o.use = .save m → Completes (.dieOperationComplete p die a) s
        ((if dieFailed r.status then (t.dropOp i k).addi SLOT_PE_erase_fail i 1 else t.dropOp i k).saveDie i m
          (dieFailed r.status))) ∧
      (o.kind = .param → o.use = .mount → Completes (.dieOperationComplete p die a) s
        ((t.dropOp i k).mountReply i die.val .param r))) ∧
    (∀ (die : Fin 8) k o data page t, page = s.pageSees data → s.dieRuns i die.val = some k → (s.port i).ops[k]? = some o → o.kind = .read →
      o.ready = true → s.busFree i = true →
      t = (((s.issue i die.val (s.dataCmds i o)).dropOp i k).addi SLOT_READS_reads i 1).busMoves i page.length →
      (o.use = .mount → Completes (.pageDataReceived p die data) s (t.mountHeader i o.row page)) ∧
      (∀ id f, o.use = .fetch id → t.fetch id = some f → f.stage = .media →
        Completes (.pageDataReceived p die data) s (t.fetchPage i die.val o.row f page)) ∧
      (∀ m, o.use = .save m → Completes (.pageDataReceived p die data) s (t.savePage i m page)) ∧
      (o.use = .expert →
        Completes (.pageDataReceived p die data) s ((t.putBuf i 0 (padTo pageSize page)).expertDone i 0))) ∧
    (∀ r reply frame n, (s.tag i).run = some r → frame = s.tagSees reply → n = fieldAt frame 1 2 → n ≤ 512 → frame.length = n + 7 →
      crc32 (frame.take (n + 3)) = fieldAt frame (n + 3) 4 → fieldAt frame 0 1 ≤ 3 →
      Completes (.tagTransaction p reply) s
        (((s.addi TAG_FRAMES_frames i 1).wri TAG_STATUS_last_status i (fieldAt frame 0 1)).tagOver i r
          (some (fieldAt frame 0 1, (frame.drop 3).take n)))) ∧
    (∀ a, (s.tag i).auth = some a → a.stage = .pause → (s.tag i).run = none →
      Completes (.tagResultPoll p) s ((s.updTag i (fun t => { t with
        auth := some { a with stage := .poll, polls := a.polls + 1 } })).startTag i 6 [] none)) ∧
    (s.rdi SLOT_STATUS_vcc_on i ≠ 0 → s.pwr.vccPending.getD i false = false →
      ((s.port i).mount = none → (s.port i).vccGood = false → Completes (.slotPowerGood p) s
        ((s.updPort i (fun x => { x with vccGood := true })).vccqOn i (s.rdi SLOT_STATUS_vccq_1v2 i == 1))) ∧
      ((s.port i).mount = none → (s.port i).vccGood = true → Completes (.slotPowerGood p) s
        (s.updPort i (fun x => { x with vccqGood := true }))) ∧
      (∀ r, (s.port i).mount = some r → r.step = 1 → Completes (.slotPowerGood p) s
        ((((s.updPort i (fun x => { x with vccGood := true })).setBus i true).mountStep i 2).startTag i 1 [] none)) ∧
      (∀ r, (s.port i).mount = some r → r.step = 3 → Completes (.slotPowerGood p) s
        ((List.range 8).foldl (fun t d => (t.queueOp i
          { die := d, row := 0, kind := .reset false, use := .mount, ready := false }).queueOp i
          { die := d, row := 0, kind := .readId false, use := .mount, ready := false })
          ((s.updPort i (fun x => { x with vccqGood := true })).mountStep i 4))))

/-- The events of the stream channels and of the save areas (R513, R518, R523, R529, R533, R565), and those of the guard and of the
integrity block (R571, R598, R611, R617, R621). Choices of the model in it: a save's program counts its transfer when it ends and waits
for what the bus moved before (log entry 144), and in a sequence commits only where it had been issued (77); a fetch that a follower
serves times out there (182); the whole range of a scrub and of an audit is read at the event that ends it (104 and 114); which
detector reports a failing key (183). -/
def Obligations.FetchGuardIntegEventsComplete : Prop :=
  ∀ (s : State) (c : Fin 16) (id : Nat) (f : Fetch),
    (∀ k x ch n, s.fetch id = some f → f.keySlot = some k → f.owner = .chan ch n →
      f.sectors.find? (fun x => x.index == f.next) = some x → f.stage = .media → f.held = [] →
      (s.keyBad k = false → x.poison.contains true = false →
        Completes (.sectorDecrypted id) s (((s.keyReport k 5).inc STRM_SECTORS_sectors).deliverSector f f.next
          (xtsDecrypt (s.keyBytes k) (extId (f.desc.getD 0) * 2 ^ 32 + f.next) x.data))) ∧
      (s.keyBad k = true ∨ x.poison.contains true = true → ∀ bad,
        bad = (fun w => s.keyBad k || x.poison.getD (w / 128) false) →
        Completes (.sectorDecrypted id) s ((((((s.keyReport k 5).inc STRM_SECTORS_sectors).keepSector ch
          (xtsDecrypt (s.keyBytes k) (extId (f.desc.getD 0) * 2 ^ 32 + f.next) x.data) bad).bite 0x74 5
          (4096 * ch + 8 * ((List.range 512).find? bad).getD 0) 0xFFFF).endFetch id stPoisoned).haltChan ch 1))) ∧
    (s.headFetch c.val = some f → f.stage = .ended → s.cplRoom c.val = true → s.dmaOk = true →
      Completes (.fetchCompletion c) s (s.writeCompletion c.val f)) ∧
    (∀ e t a b, (s.chan c.val).entry = some e → s.chOpen c.val = true → s.chHalted c.val = false →
      (s.chan c.val).closing = false → s.inSequence = false → s.chBusy c.val < 4 →
      s.chanFails c.val = false → t = s.rdi STRM_CH_REQ_CNT_taken c.val →
      a = (s.setChan c.val { s.chan c.val with entry := none }).wri STRM_CH_REQ_CNT_taken c.val (t + 1) →
      f = entryFetch s.strm.nextId c.val t (s.rdi STRM_CH_CFG_profile c.val) e →
      b = ({ a with strm := { a.strm with fetches := a.strm.fetches ++ [f], nextId := a.strm.nextId + 1 } } : State) →
      Completes (.streamRequestTake c) s (((if s.fatal then b.endFetch f.id stVoid
        else if entryBad e then b.endFetch f.id stBadParam else b).noteChan c.val).pumpChan c.val)) ∧
    (∀ r, s.fetch id = some f → f.stage = .media → f.keySlot = none → s.guardRuns = true →
      r = s.bindExtent (extSlot (f.desc.getD 0)) (extId (f.desc.getD 0)) →
      Completes (.extentKeyLoaded id) s (r.1.updFetch id (fun g => { g with keySlot := r.2 }))) ∧
    (s.fetch id = some f → f.stage ≠ .ended →
      Completes (.fetchTimeout id) s ((s.endFetch id stTimeout).raise STRM_EVENT_fetch_timeout)) ∧
    (∀ p i m r k o, i = portIdx p → s.saveRun i m = some r → s.dieRuns i 0 = some k → (s.port i).ops[k]? = some o →
      o.use = .save m → r.phase = .final → s.busFree i = true → (r.issued = true ∨ ¬ s.inSequence = true) →
      Completes (.saveCommit p m) s
        ((((s.issue i 0 ((s.port i).cmdsOf o false)).busMoves i o.moves).dropOp i k).saveCommitted i r)) ∧
    (∀ p i, i = portIdx p → s.rd SEC_CFG_reauth_s ≠ 0 → s.rdi SEC_CTX_ctx_valid i = 1 →
      s.rdi SEC_CTX_tag_state i < 8 →
      Completes (.reauthDue p) s (((s.wri SEC_CTX_tag_state i (s.rdi SEC_CTX_tag_state i + 8)).wri SEC_CTX_AGE_age_s i
        (max (s.rdi SEC_CTX_AGE_age_s i) (s.rd SEC_CFG_reauth_s))).raise SEC_EVENT_reauth_due)) ∧
    (∀ p, 8 ≤ s.rdi SEC_CTX_tag_state (portIdx p) → Completes (.reauthDue p) s s) ∧
    (∀ k : Fin 85, s.rd SEC_STATUS_guard_running = 1 → s.keyValid k.val = true → s.keyBad k.val = true →
      s.keyBound k.val = false → Completes (.keySlotZeroise k) s (s.zeroise k.val)) ∧
    (s.steepRuns = true →
      (∀ sid w, s.steepFrom 20 (s.rd INTEG_STEEP_POS_pos_sid) (s.rd INTEG_STEEP_POS_pos_word) = some (sid, w) →
        (s.steepRoom sid = true → Completes .steepRead s ((s.steepCount sid).steepWord sid w)) ∧
        (s.steepRoom sid = false → Completes .steepRead s s)) ∧
      (s.steepFrom 20 (s.rd INTEG_STEEP_POS_pos_sid) (s.rd INTEG_STEEP_POS_pos_word) = none →
        Completes .steepRead s s.steepLapEnd)) ∧
    (∀ r t u, s.integ.scrub = some r → t = (if r.read then s else s.scrubRead r) →
      (t.integ.repairs.any (·.scrub) = true → Completes .scrubDone s t) ∧
      (t.integ.repairs.any (·.scrub) = false → u = t.dropScrub.raise INTEG_EVENT_scrub_done →
        Completes .scrubDone s (match r.mb with | some m => u.okResp m u.scrubSummary | none => u))) ∧
    (∀ a img, s.integ.audit = some a → a.shadow = some img → Completes .auditDone s (s.runAudit a img))

/-- The events of the pads and of their peripherals (R701, R702, R716 to R723).
Choices of the model in it: a lost received byte counts an overrun only (log entry 80), the count of TCLK edges (167), and the
filter and debounce events in STANDBY (168). -/
def Obligations.PinEventsComplete : Prop :=
  ∀ (s : State) (n : Fin 24) (l : Bool) (u : Fin 2) (k : Fin 4) (e : Fin 8),
    (s.padsLive = true → s.padCanShow n.val l = true →
      Completes (.glitchFilterPass n l) s (s.padEdge (s.filterShows n.val l) n.val)) ∧
    (s.wakeSampled n.val = true → Completes (.glitchFilterPass n l) s (s.filterShows n.val l)) ∧
    (∀ t, t = s.filterShows n.val l → padBit t.pins.filt n.val = l ∧
      (s.rdi PIN_PAD_CFG_debounce_ms n.val = 0 → padBit t.pins.deb n.val = l) ∧
      (s.rdi PIN_PAD_CFG_debounce_ms n.val ≠ 0 → t.pins.deb = s.pins.deb)) ∧
    (s.padsLive = true → Completes (.debounceExpiry n) s (s.padEdge (s.debounceShows n.val) n.val)) ∧
    (s.wakeSampled n.val = true → Completes (.debounceExpiry n) s (s.debounceShows n.val)) ∧
    (padBit (s.debounceShows n.val).pins.deb n.val = padBit s.pins.filt n.val) ∧
    (∀ b t, s.padsLive = true → s.scanOwns = false → s.rdi PIN_Uu_CFG_en u.val = 1 → s.carried (1 + 5 * u.val) = true →
      (Completes (.uartFrameReceived u b false false true) s
        ((s.wri PIN_Uu_STATUS_break_seen u.val 1).raise PIN_EVENT_uart_err)) ∧
      (64 ≤ (s.uart u.val).rx.length →
        Completes (.uartFrameReceived u b false false false) s (s.uartErr PIN_Uu_ERR_overrun u.val)) ∧
      ((s.uart u.val).rx.length < 64 → t = (s.setUart u.val { s.uart u.val with
          rx := (s.uart u.val).rx ++ [if s.rdi PIN_Uu_CFG_bits7 u.val = 1 then b &&& 0x7F else b] }).raise
            (if u.val = 0 then PIN_EVENT_u1_rx else PIN_EVENT_u2_rx) →
        Completes (.uartFrameReceived u b false false false) s t ∧
        Completes (.uartFrameReceived u b true false false) s (t.uartErr PIN_Uu_ERR_framing u.val))) ∧
    (∀ t, (s.uart u.val).cur.isSome = true → t = (s.setUart u.val { s.uart u.val with cur := none }).uartPump u.val →
      ((t.uart u.val).cur.isSome = true → Completes (.uartFrameSent u) s t) ∧
      ((t.uart u.val).cur = none → (t.uart u.val).tx = [] → Completes (.uartFrameSent u) s
        ((if t.rdi PIN_Uu_CFG_de_tail u.val = 0 then t.setUart u.val { t.uart u.val with de := false } else t).uartDone
          u.val))) ∧
    ((s.uart u.val).de = true → (s.uart u.val).cur = none → (s.uart u.val).tx = [] →
      Completes (.uartDeTailEnd u) s (s.setUart u.val { s.uart u.val with de := false })) ∧
    (∀ r m (o : Fin 6) wr data t, s.pins.i2c = some r → r.mb = some m → s.i2cCan r o.val wr data = true →
      t = ((((({ s with pins := { s.pins with i2c := none, i2cBus := i2cActs r o.val wr data } } : State).wr
        PIN_I2C_STATUS_busy 0).wr PIN_STATUS_i2c_busy 0).wr PIN_I2C_STATUS_outcome o.val).wr PIN_I2C_STATUS_count (wr + data.length)) →
      Completes (.i2cTransferEnd o wr data) s (((t.okResp m (leBytes 1 o.val ++ leBytes 1 wr ++ leBytes 1 data.length ++
        [0] ++ data)).raise PIN_EVENT_i2c_done).i2cResume s.pins.i2cNext)) ∧
    (s.rdi PIN_PWM_PER_en k.val = 1 → Completes (.pwmPeriodBoundary k) s
      (s.setPwm k.val { period := s.rdi PIN_PWM_PER_period_m1 k.val, duty := s.rdi PIN_PWM_DUTY_duty k.val
                        killed := (s.pwm k.val).killed && s.rdi PIN_PWM_PER_kill_en k.val == 1 && !s.sigIn 17 })) ∧
    (∀ hit : Nat → Bool,
      hit = (fun k => s.rdi PIN_PWM_PER_en k == 1 && s.rdi PIN_PWM_PER_kill_en k == 1 && !(s.pwm k).killed) →
      s.sigIn 17 = false → (List.range 4).any hit = true →
      Completes .pwmKill s (((List.range 4).foldl (fun t k => if hit k then t.setPwm k { t.pwm k with killed := true } else t)
        s).raise PIN_EVENT_pwm_kill)) ∧
    (∀ v left t, s.padsLive = true → s.rd PIN_TMR_CTRL_en = 1 →
      (s.rd PIN_TMR_CTRL_clk_sel = 0 ∧ left = s.pins.tclk) ∨
        (s.rd PIN_TMR_CTRL_clk_sel = 1 ∧ s.pins.tclk = left + (s.rd PIN_TMR_CTRL_prescale + 1)) →
      v = (s.rd PIN_TMR_COUNT_count + 1) % 2 ^ 32 →
      t = (({ s with pins := { s.pins with tcmp := s.tcmpNext v, tclk := left } } : State).wr PIN_TMR_COUNT_count v) →
      Completes .timerCount s (if (List.range 8).any (fun i => s.rdi PIN_TCMP_cmp i == v &&
        s.rdi PIN_TCFG_cmp_action i != 0) then t.raise PIN_EVENT_tcmp else t)) ∧
    (s.edgeOn (18 + e.val) (s.rdi PIN_TCFG_cap_edge e.val) l = true → Completes (.timerCapture e l) s
      ((s.wri PIN_TCAP_cap e.val (s.rd PIN_TMR_COUNT_count)).raise PIN_EVENT_tcap)) ∧
    (∀ gap gaps t, s.padsLive = true → s.scanOwns = false → s.fanOn u.val = true →
        s.carried (37 + u.val) = true → s.sigIn (37 + u.val) = false →
      (s.fan u.val).seen = true → 0 < gap → gap ≤ 25000000 →
      gaps = ((s.fan u.val).gaps ++ [gap]).drop ((s.fan u.val).gaps.length + 1 - 8) →
      t = ({ s with pins := { s.pins with fans := listSet s.pins.fans u.val { seen := true, gaps := gaps } } } : State) →
      Completes (.fanTachEdge u gap) s (if gaps.length = 8 then
        (t.wri PIN_FAN_rpm u.val (fanRpm (s.fanPpr u.val) gaps)).wri PIN_FAN_stalled u.val 0 else t)) ∧
    (∀ gap, s.padsLive = true → s.scanOwns = false → s.fanOn u.val = true →
        s.carried (37 + u.val) = true → s.sigIn (37 + u.val) = false →
      (s.fan u.val).seen = false → Completes (.fanTachEdge u gap) s
        { s with pins := { s.pins with fans := listSet s.pins.fans u.val { seen := true, gaps := [] } } }) ∧
    (s.fanOn u.val = true → (s.fan u.val).seen = true ∨ s.rdi PIN_FAN_stalled u.val = 0 →
      Completes (.fanStall u) s (((s.fanClear u.val).wri PIN_FAN_stalled u.val 1).raise PIN_EVENT_fan_stall)) ∧
    (s.edgeOn (39 + e.val) (bitsOf (s.rd PIN_UIN_CFG_uin_edge) (2 * e.val) 2) l = true →
      Completes (.uinEdge e l) s ((s.setBit PIN_UIN_STATUS_uin 0 e.val true).raise PIN_EVENT_uin))

/-- The transactions of the SMBus target (R726 to R730): with the target enabled and powered, each is acknowledged and
counted; with packet error checking, a read ends with its check byte. And the instructions of the TAP (R770, R771, R773): each
loads its instruction, whatever it selects.
A PEC byte is ignored while pec_en is 0 (log entry 87). -/
def Obligations.SmbusTapTransactionsComplete : Prop :=
  (∀ (s : State), s.smbAnswers = true →
    ∀ (answer : Nat → List Byte → State),
    answer = (fun code data => (s.smbSend (some (data ++ if s.rd PIN_SMB_CFG_pec_en = 1 then
      [pecOf 0 ([s.smbAddr 0, BitVec.ofNat 8 code, s.smbAddr 1] ++ data)] else []))).inc PIN_SMB_COUNT_transactions) →
    Completes .smbStatusRead s (answer 0x01 (leBytes 2 s.smbStatus)) ∧
    Completes .smbTEstRead s (answer 0x02 (leBytes 2 (s.rd THM_STATUS_t_est))) ∧
    Completes .smbTNtcRead s (answer 0x03 (leBytes 2 (s.rd THM_NTC_t_ntc))) ∧
    Completes .smbVinRead s (answer 0x04 (leBytes 2 (s.rd PWR_VIN_vin_mv))) ∧
    Completes .smbPinRead s (answer 0x05 (leBytes 2 (s.rd PWR_PIN_pin_cw))) ∧
    Completes .smbSustainRead s (answer 0x06 (leBytes 2 (s.rd THM_PDIE_sustain_cw))) ∧
    Completes .smbCauseRead s (answer 0x07 (leBytes 1 (s.rd PIN_SMB_CAUSE_cause))) ∧
    Completes .smbSerialRead s (answer 0x08 (smbBlock (leBytes 8 s.moduleSerial))) ∧
    Completes .smbRegRead s ((answer 0x11 (smbBlock (leBytes 4 ((s.wr PIN_STATUS_smb_active 1).viewReg
      (s.rd PIN_SMB_REGPTR_offset))))).pastView (s.rd PIN_SMB_REGPTR_offset)) ∧
    (∀ (mask : BitVec 8) pec, s.rd PIN_SMB_CFG_pec_en ≠ 1 ∨
        pec = some (pecOf 0 ([s.smbAddr 0, 0x07] ++ [mask])) →
      Completes (.smbCauseClear mask pec) s
        (((s.smbSend (some [])).clearCauses mask.toNat).inc PIN_SMB_COUNT_transactions)) ∧
    (∀ (off : BitVec 32) pec, off.toNat < 0x100000 → off.toNat % 4 = 0 → s.rd PIN_SMB_CFG_pec_en ≠ 1 ∨
        pec = some (pecOf 0 ([s.smbAddr 0, 0x10] ++ smbBlock (leBytes 4 off.toNat))) →
      Completes (.smbRegptrWrite off pec) s
        (((s.smbSend (some [])).wr PIN_SMB_REGPTR_offset off.toNat).inc PIN_SMB_COUNT_transactions)) ∧
    (∀ t, s.pins.smbAlert = true → t = s.smbSend (some ([s.smbAddr 0] ++
        if s.rd PIN_SMB_CFG_pec_en = 1 then [pecOf 0 [0x19, s.smbAddr 0]] else [])) →
      Completes .smbAlertResponse s
        (({ t with pins := { t.pins with smbAlert := false } } : State).inc PIN_SMB_COUNT_transactions)) ∧
    Completes .smbTimeout s (((s.smbSend none).inc PIN_SMB_COUNT_timeouts).raise PIN_EVENT_smb_timeout)) ∧
  (∀ (s : State) (cells : BitVec 486) (levels : BitVec 24), s.padsLive = true →
    Completes (.tapExtest cells levels) s (s.tapShift 0b00000 (some cells) levels) ∧
    Completes (.tapIdcode levels) s (s.tapShift 0b00001 none levels) ∧
    Completes (.tapSamplePreload cells levels) s (s.tapShift 0b00010 (some cells) levels) ∧
    Completes (.tapClamp levels) s (s.tapShift 0b00011 none levels) ∧
    Completes (.tapHighz levels) s (s.tapShift 0b00100 none levels) ∧
    Completes (.tapBypass levels) s (s.tapShift 0b11111 none levels) ∧
    (∀ t, t = s.tapLoad .idcode none levels → Completes (.tapReset levels) s
      { t with pins := { t.pins with tapIr := 0b00001 } }) ∧
    (∀ c t, t = s.tapShift c (some cells) levels → t.pins.tapIr = c ∧ t.pins.irOut = 0b00001 ∧
      t.pins.tap = s.tapOffered (tapOfCode c))) ∧
  (∀ (s : State) (i : Nat) (l : Land), s.pins.tap = .extest ∨ s.pins.tap = .clamp →
    (l.inputOnly = true ∨ cell s.pins.boundary (3 * i + 2) = false → s.landDriver i l = .released) ∧
    (l.inputOnly = false → cell s.pins.boundary (3 * i + 2) = true →
      (l.openDrain = true → cell s.pins.boundary (3 * i + 1) = true → s.landDriver i l = .released) ∧
      (l.openDrain = false ∨ cell s.pins.boundary (3 * i + 1) = false →
        s.landDriver i l = .level (cell s.pins.boundary (3 * i + 1)))))

/-! ### Frames of the chain -/

/-- A frame is invalid when a bit of its check, an exclusive-OR of the frame's bits, is wrong or its type is reserved, and
valid otherwise (R433, with the codes of R435 in the direction from which it came); the check and the flag bits of the frames
that a member drives make each of them valid. An IDLE frame's D[123:0] is 0; a TRAIN frame repeats 0x6A95 on the edges 0 to 6,
with D[123:112] 0xA95 and F[7:3] 0b10101 (R436). A valid frame raises no frame error. -/
def Obligations.FramesCarryTheirCheck : Prop :=
  (∀ (b : FrameBits) (side : LinkSide), frameValid b side = true ↔
    (∀ q < 3, b.data.getLsbD (124 + q) = decide ((List.range 32).countP (fun i => b.data.getLsbD (32 * q + i)) % 2 = 1)) ∧
    b.data.getLsbD 127 = decide (((List.range 28).countP (fun i => b.data.getLsbD (96 + i)) +
      (List.range 8).countP (fun i => b.flags.getLsbD i)) % 2 = 1) ∧
    b.flags.toNat % 8 ∈ (match side with | .fromUp => [0, 1, 2, 3, 4, 5] | .fromDown => [0, 1, 2, 4])) ∧
  (∀ f : Frame, (∀ n d, f = .pktData n d → d.length ≤ 15) → frameValid (frameBits f) .fromUp = true) ∧
  (∀ f : Frame, (match f with | .idle | .train | .answer _ | .status .. => True | _ => False) →
    frameValid (frameBits f) .fromDown = true) ∧
  (frameBits .idle).data.extractLsb' 0 124 = 0 ∧
  (∀ e < 7, (frameEdge (frameBits .train) e).1 = 0x6A95) ∧ (frameBits .train).data.extractLsb' 112 12 = 0xA95 ∧
  (frameBits .train).flags.extractLsb' 3 5 = 0b10101 ∧
  (∀ (b : FrameBits) (k : Nat), k < 128 → (frameEdge b (k / 16)).1.getLsbD (k % 16) = b.data.getLsbD k) ∧
  (∀ (b : FrameBits) (e : Nat), (frameEdge b e).2 = b.flags.getLsbD e) ∧
  (∀ (s : State) (f : SampledFrame), frameValid f.bits f.side = true → Completes (.frameError f) s s)

/-! ### The queue, the invariant and reset -/

/-- A step runs the command at the front of the queue on the state with the queue's rest, and with nothing in the queue the
block idles. The queue, and idling, are the model's (log entry 1). -/
def Obligations.StepRunsFrontCommand : Prop :=
  (∀ (c : Instr) (s : State), step { s with pending := c :: s.pending } = exec c s) ∧
  (∀ s : State, s.pending = [] → step s = .next s)

/-- The state after START meets the invariant. -/
def Obligations.ResetMeetsInvariant : Prop := State.reset.Inv

/-- When START completes, blocks 0 to 247 are GATED and no host table is defined, and blocks 248 to 255 are OWNED by table
63, with every array slot invalid (R328). -/
def Obligations.ResetBlocksAndTables : Prop :=
  (∀ b < 248, State.reset.blk b = blkGated) ∧
  (∀ b, 248 ≤ b → b < 256 → State.reset.ownsBlk 63 b = true) ∧
  (∀ i, 248 * 4096 ≤ i → i < 256 * 4096 → slotValid (State.reset.slot i) = false) ∧
  (∀ t < 63, State.reset.tblDefined t = false)

/-- Every step keeps the memories and the register file in canonical form. -/
def Obligations.StepKeepsInvariant : Prop := ∀ s t : State, s.Inv → step s = .next t → t.Inv

/-- No command ends in a fault or a refusal: whatever the state, it answers a next state in canonical form.
That a row whose event cannot happen in a state changes nothing is the model's reading (log entry 118). -/
def Obligations.NoCommandStops : Prop := ∀ (c : Instr) (s : State), ∃ t : State, exec c s = .next t.settled

/-! ### The two levels of control, and the follower -/

/-- While a block is claimed, every mailbox command that would write it completes with EXPERT_HELD and its number; the
completion (see CompletionTouchesOnlyItsSlot) is its only effect. A command that writes no claimed block is not held.
Which blocks a command writes is read from its chapter (log entry 57). Two commands are judged later and left out here: an OTP
command while a word is being programmed, which waits (log entry 89), and SLOT.MOUNT without a running guard core, which waits (112). -/
def Obligations.ClaimedBlockHoldsCommands : Prop :=
  ∀ p ∈ mailboxCommands, ∀ (m : Mb) (s : State) (c : Cmd), s.takenCmd m p.1 = some c →
    (∀ b, s.heldBlock c = some b → (p.1 / 256 = 4 → s.otp = none) → (p.1 = 0x0A02 → s.guardRuns = true) →
      b ∈ s.cmdWrites c ∧ s.claimed b = true ∧ Completes (p.2 m) s (s.done m 0x0C b [])) ∧
    (s.heldBlock c = none ↔ ∀ b ∈ s.cmdWrites c, s.claimed b = false)

/-- A write of a register with an operation of its own, in a block that the host has not claimed: its W1C fields act, the
operation does not run, and the rest of the write is discarded, with bad_write where it carries a value for an RW field, a 1
in a W1S field, or a 1 in a WO field (R189). It leaves every memory as it was, and every register outside GLB, the MSI-X
pending bits and the register's own block; in DOZE a write of a gated block also begins the exit that PWR_STATE shows (R116). -/
def Obligations.BasicControlOfRegisterWrites : Prop :=
  (∀ p ∈ controlWrites, ∀ (s u : State) (w : RegWord), Basic s p.1 w u →
    Completes (p.2 w) s (u.basicWrite p.1 w) ∧ RegsKept s (u.basicWrite p.1 w) (basicPages s p.1) ∧
      MemKept s (u.basicWrite p.1 w) 0 0 ∧
      (hasAcc p.1 .rw = true → (u.basicWrite p.1 w).rd GLB_STATUS_bad_write = 1)) ∧
  (∀ p ∈ updateWrites, ∀ (s u : State) (w : RegWord), Basic s p.1 w u → fieldOf w p.2.1 = p.2.2.1 →
    Completes (p.2.2.2 w) s (u.basicWrite p.1 w) ∧ RegsKept s (u.basicWrite p.1 w) (basicPages s p.1) ∧
      MemKept s (u.basicWrite p.1 w) 0 0 ∧ (u.basicWrite p.1 w).rd GLB_STATUS_bad_write = 1)

/-- A follower discards the register writes that arrive on its host link, and serves register reads as any other module does
(R26): an aligned read of 4 or 8 bytes with every byte enable on answers the registers' values with their side effects on a read,
and any other form answers the values alone (R182; log entry 188); a read of a register whose word fails parity answers its data as
poisoned (R601). -/
def Obligations.FollowerServesReadsAndDiscardsWrites : Prop :=
  ∀ s : State, s.discards = true →
    (∀ p ∈ controlWrites, ∀ w, Completes (p.2 w) s s.touchLink) ∧
    (∀ p ∈ updateWrites, ∀ w, fieldOf w p.2.1 = p.2.2.1 → Completes (p.2.2.2 w) s s.touchLink) ∧
    (∀ off data, off < 0x100000 → Completes (.registerWrite .bar0 off data) s s.touchLink) ∧
    s.touchLink.regs = s.regs ∧ s.touchLink.mem = s.mem ∧
    (∀ off len full u a n, off < 0x100000 → len ≤ 8 → u = s.touchLink → a = off / 4 * 4 → n = (off % 4 + len + 3) / 4 →
      ((∀ k < n, u.regPoison (a + 4 * k) = false) →
        (len = 4 → off = a → full = true →
          Completes (.rcRead .bar0 off len full) s ((u.readReg a).1.reply (leBytes 4 (u.readReg a).2) false .success)) ∧
        (len = 8 → off % 8 = 0 → full = true → ∀ r, r = (u.readReg a).1.readReg (a + 4) →
          Completes (.rcRead .bar0 off len full) s
            (r.1.reply (leBytes 4 (u.readReg a).2 ++ leBytes 4 r.2) false .success)) ∧
        (regForm off len full = false → Completes (.rcRead .bar0 off len full) s
          (u.reply ((List.range n).flatMap (fun k => leBytes 4 (u.viewReg (a + 4 * k)))) false .success))) ∧
      ((∃ k < n, u.regPoison (a + 4 * k) = true) → ∃ (t : State) (d : List Byte),
        Completes (.rcRead .bar0 off len full) s t ∧ t.host.tx.getLast? = some (.completion d true .success))) ∧
    (∀ (u : State) off, (u.readReg off).2 = (if takeoverReg off then u else u.wakeReg off).viewReg off)

/-! ### Mailboxes, events and interrupts -/

/-- A command held by a halted core stays TAKEN (R666); that it keeps the first answer it was given, and gives it when the halt ends, is
the model's reading (log entry 177). A command that reaches DONE has its response from byte 0x10 of its slot on, and resp_len, detail, status and state 0x03 in
the slot's header; the bytes of the parameter area beyond resp_len stay as they were, and done advances by one. (An armed
flip-mask acts on the next write of its structure, R626: none is armed here. No marked command follows.) SYS.NOP completes so,
with its parameters as its response. -/
def Obligations.CompletionWritesTheSlot : Prop :=
  ∀ (m : Mb) (s : State) (c : Cmd), m ≠ .relay → (s.mbx m).taken = some c → (s.mbx m).marked = [] →
    s.isFollower = false → s.rd INTEG_FLIP_SEL_flip_armed ≠ 1 →
    (s.haltHolds c = true → ∀ st d resp, s.done m st d resp = s.setMbx m { s.mbx m with
      taken := some { c with stage := .waiting, answer := some (c.answer.getD (st, d, resp)) } }) ∧
    (s.haltHolds c = false →
      ∀ st d resp a, resp.length ≤ 240 → st < 256 → d < 65536 → a = slotAt (mbIdx m) (s.doneCnt m) → ∀ t, t = s.done m st d resp →
      t.bar2Get (a + 0x10) resp.length = resp ∧ t.bar2Nat (a + 0x0C) 2 = resp.length ∧ t.bar2Nat (a + 0x0E) 2 = d ∧
      t.bar2Nat (a + 0x0A) 1 = st ∧ t.bar2Nat (a + 0x0B) 1 = 3 ∧ t.doneCnt m = (s.doneCnt m + 1) % 65536 ∧
      (t.mbx m).taken = none ∧
      ∀ j, resp.length ≤ j → j < 240 → t.bar2Get (a + 0x10 + j) 1 = s.bar2Get (a + 0x10 + j) 1) ∧
    (Ready s m 0x0107 c → Completes (.sysNop m) s (s.done m 0 0 c.params))

/-- What a completion leaves as it was: with the head's or a lone module's role, memory outside its mailbox's own ring; every
register outside the MBX block, the pending bits of MSI-X and the integrity block; and the state of every other part of the
module. The commands that only read complete so: each of them leaves all that. -/
def Obligations.CompletionTouchesOnlyItsSlot : Prop :=
  ∀ (m : Mb) (s : State), m ≠ .relay → s.isFollower = false →
    (∀ st d resp t, resp.length ≤ 240 → t = s.done m st d resp →
      MemKept s t (0x800 * mbIdx m) (0x800 * mbIdx m + 0x800) ∧ RegsKept s t [5, 0x0D, 0x21] ∧ t.clk = s.clk ∧ t.pwr = s.pwr ∧
      t.heat = s.heat ∧ t.chain = s.chain ∧ t.srch = s.srch ∧ t.tbl = s.tbl ∧ t.learn = s.learn ∧ t.jrnl = s.jrnl ∧
      t.cores = s.cores ∧ t.slots = s.slots ∧ t.strm = s.strm ∧ t.guard = s.guard ∧ t.settings = s.settings ∧
      t.otp = s.otp ∧ t.pins = s.pins) ∧
    (∀ i ∈ [Instr.sysIdentify, .sysStateQuery, .pwrStateQuery, .pwrMarginQuery, .thmQuery, .thmModelQuery, .otpQuery,
        .tableQuery, .profileGet, .learnQuery, .slotQuery, .streamQuery, .guardQuery, .guardSlotInfo, .guardKeyQuery,
        .integQuery, .dumpQuery, .fwQuery, .caddyQuery],
      exec (i m) s = .next s.settled ∨
        ∃ st d resp, resp.length ≤ 240 ∧ exec (i m) s = .next (s.done m st d resp).settled)

/-- The mailbox engine accepts a producer doorbell value at most 8 beyond done and at most 8 beyond posted: posted takes the
value, and state 0x01 is written into the slot of every newly covered command. It discards any other value, sets the mailbox's
bit of ring_fault and increments its ring_faults. No more than 8 commands then stand between done and posted. Either way the doorbell reads as it was last written. (No shutdown runs,
R251; no flip-mask is armed, R626.) -/
def Obligations.MailboxDoorbellCounts : Prop :=
  ∀ (s : State) (m : Fin 4) (w : RegWord) (d : Nat), s.isFollower = false → s.inSequence = false →
    s.rd INTEG_FLIP_SEL_flip_armed ≠ 1 → d = doorCount w → ∃ t, Completes (.mailboxDoorbell m w) s t ∧
      storeGetD 0 t.host.doorbells (0x3000 + 0x10 * m.val) = w.toNat ∧ t.doneCnt (mbOf m.val) = s.doneCnt (mbOf m.val) ∧
      (cntDist (s.doneCnt (mbOf m.val)) (s.posted (mbOf m.val)) ≤ 8 →
        cntDist (t.doneCnt (mbOf m.val)) (t.posted (mbOf m.val)) ≤ 8) ∧
      (cntDist (s.doneCnt (mbOf m.val)) d ≤ 8 → cntDist (s.posted (mbOf m.val)) d ≤ 8 → t.posted (mbOf m.val) = d ∧
        ∀ k < cntDist (s.posted (mbOf m.val)) d,
          t.bar2Nat (slotAt m.val ((s.posted (mbOf m.val) + k) % 65536) + 0x0B) 1 = 1) ∧
      (¬(cntDist (s.doneCnt (mbOf m.val)) d ≤ 8 ∧ cntDist (s.posted (mbOf m.val)) d ≤ 8) →
        t.posted (mbOf m.val) = s.posted (mbOf m.val) ∧ t.bit MBX_EVENT_ring_fault 0 m.val = true ∧
        t.rdi MBX_MB_INFO_ring_faults m.val =
          min (s.rdi MBX_MB_INFO_ring_faults m.val + 1) (2 ^ MBX_MB_INFO_ring_faults.width - 1))

/-- A host write to a read-only count word of the doorbell area is discarded and sets bad_write. The mailbox engine discards an event
consumer doorbell value that moves backwards or passes the events written, and sets evt_ring_fault. -/
def Obligations.CountAndConsumerWritesChecked : Prop :=
  ∀ (s : State) (w : RegWord), s.isFollower = false →
    (∀ off, countWord off = true →
      ∃ t, Completes (.doorbellCountWordWrite off w) s t ∧ t.rd GLB_STATUS_bad_write = 1 ∧ MemKept s t 0 0 ∧
        RegsKept s t [0, 0x21] ∧ t.host.doorbells = s.host.doorbells) ∧
    (cntDist (s.rd MBX_EVT_STATUS_evt_consumed) (s.rd MBX_EVT_STATUS_evt_written) <
        cntDist (s.rd MBX_EVT_STATUS_evt_consumed) (doorCount w) →
      ∃ t, Completes (.eventConsumerDoorbell w) s t ∧ t.rd MBX_EVENT_evt_ring_fault = 1 ∧
        t.rd MBX_EVT_STATUS_evt_consumed = s.rd MBX_EVT_STATUS_evt_consumed ∧
        t.rd MBX_EVT_STATUS_evt_written = s.rd MBX_EVT_STATUS_evt_written ∧ MemKept s t 0 0)

/-- The module writes event c into the record at 0x2000 + 0x40 × (c mod 64), body and tail, only when the consumer count
exceeds c − 64, and then the events-written word; so no more than 64 records stand between consumed and written. (No flip-mask is armed, R626; nothing is held or dropped, R262.) -/
def Obligations.EventRingHasRoom : Prop :=
  ∀ (s t : State) (r : EventRec) (c a : Nat), s.isFollower = false → s.eupex.evtHeld = [] → s.eupex.evtDropped = 0 →
    s.rd INTEG_FLIP_SEL_flip_armed ≠ 1 → c = s.rd MBX_EVT_STATUS_evt_written → s.rd MBX_EVT_STATUS_evt_consumed < 65536 →
    c < 65536 → a = 0x2000 + 0x40 * (c % 64) → t = s.postEvent r →
    (cntDist (s.rd MBX_EVT_STATUS_evt_consumed) c < 64 → t.bar2Get a 56 = eventBody r ∧ t.bar2Nat (a + 56) 8 = c ∧
      t.rd MBX_EVT_STATUS_evt_written = (c + 1) % 65536 ∧ MemKept s t a (a + 64)) ∧
    (64 ≤ cntDist (s.rd MBX_EVT_STATUS_evt_consumed) c → t.mem = s.mem ∧ t.rd MBX_EVT_STATUS_evt_written = c) ∧
    (cntDist (s.rd MBX_EVT_STATUS_evt_consumed) c ≤ 64 →
      cntDist (t.rd MBX_EVT_STATUS_evt_consumed) (t.rd MBX_EVT_STATUS_evt_written) ≤ 64)

/-- When a vector or the function is masked, an interrupt sets the vector's pending bit instead of sending the message; when
the mask is cleared while the pending bit is set, the message is sent and the bit is cleared. (A follower discards the write
that clears a vector's own mask, R26.) -/
def Obligations.MaskedVectorPends : Prop :=
  (∀ (s : State) (i v : Nat), v = s.rdi GLB_VEC_SRC_vector i → v < 32 →
    s.rdi MSIX_TBL_CTRL_mask v = 1 ∨ s.host.cfg.msixFuncMask = true → ∀ t, t = s.raiseSource i →
    t.bit MSIX_PBA_pending 0 v = true ∧ t.host.tx = s.host.tx) ∧
  (∀ (s : State) (v : Fin 32), s.isFollower = false → s.host.cfg.msixEnable = true → s.host.cfg.msixFuncMask = false →
    s.dmaOk = true → s.host.holdoff.contains v.val = false → ∃ t, Completes (.msixUnmask (some v)) s t ∧ t.rdi MSIX_TBL_CTRL_mask v.val = 0 ∧
      t.bit MSIX_PBA_pending 0 v.val = false ∧
      t.host.tx = s.host.tx ++ (if s.bit MSIX_PBA_pending 0 v.val = true then [.msix v.val] else [])) ∧
  (∀ (s : State) (v : Nat), v < 32 → s.host.cfg.msixEnable = true → s.rdi MSIX_TBL_CTRL_mask v = 0 → s.dmaOk = true →
    s.host.holdoff = [] → s.bit MSIX_PBA_pending 0 v = true → ∃ t, Completes (.msixUnmask none) s t ∧
      t.host.tx.contains (.msix v) = true ∧ t.bit MSIX_PBA_pending 0 v = false)

/-- After a message on a vector, no further message on it for the greatest holdoff of the sources mapped to it; events in that
time produce one message at its end. -/
def Obligations.HoldoffJoinsMessages : Prop :=
  ∀ (s : State) (v : Fin 32), s.vecMasked v.val = false →
    (∀ i < 34, s.rdi GLB_VEC_SRC_vector i = v.val → s.rdi GLB_VEC_SRC_holdoff_us i ≤ s.vecHoldoff v.val) ∧
    (s.vecHoldoff v.val = 0 ∨ ∃ i < 34, s.rdi GLB_VEC_SRC_vector i = v.val ∧
      s.rdi GLB_VEC_SRC_holdoff_us i = s.vecHoldoff v.val) ∧
    (s.host.holdoff.contains v.val = false → ∀ t, t = s.sendVector v.val →
      t.host.tx = s.host.tx ++ [.msix v.val] ∧ (s.vecHoldoff v.val ≠ 0 → t.host.holdoff.contains v.val = true)) ∧
    (s.host.holdoff.contains v.val = true → ∀ t, t = s.sendVector v.val →
      t.host.tx = s.host.tx ∧ t.host.heldMsg.contains v.val = true ∧ t.host.holdoff = s.host.holdoff) ∧
    (s.host.holdoff.contains v.val = true → ∃ t, Completes (.msixHoldoffExpiry v) s t ∧
      t.host.tx = s.host.tx ++ (if s.host.heldMsg.contains v.val = true then [.msix v.val] else []) ∧
      t.host.heldMsg.contains v.val = false)

/-- A producer doorbell value that an open ring does not accept is discarded and recorded as a ring fault (R222): the ring's
accepted count stays, the pair or channel stops, and its event is set. No memory changes, and of the registers only GLB's, those of
the pair's or channel's block and the MSI-X pending bits, with the phase in PWR_STATE where the doorbell ends DOZE (R116). (A
channel that has already halted with reason 4 or 6 keeps its reason.) -/
def Obligations.RingDoorbellDiscarded : Prop :=
  ∀ (s : State) (q : Fin 16) (w : RegWord) (d : Nat), s.isFollower = false → d = doorCount w →
    (s.qOpen q.val = true → 2 ^ s.rdi SRCH_Q_CFG_req_k q.val < cntDist (s.rdi SRCH_Q_REQ_CNT_req_admitted q.val) d ∨
      cntDist (s.rdi SRCH_Q_REQ_CNT_req_admitted q.val) d <
        cntDist (s.rdi SRCH_Q_REQ_CNT_req_admitted q.val) (s.rdi SRCH_Q_REQ_CNT_req_accepted q.val) →
      ∃ t, Completes (.ringProducerDoorbell (.queue q) w) s t ∧
        t.rdi SRCH_Q_REQ_CNT_req_accepted q.val = s.rdi SRCH_Q_REQ_CNT_req_accepted q.val ∧
        t.rdi SRCH_Q_STATUS_req_fault q.val = 1 ∧ t.bit SRCH_STATUS_q_stopped 0 q.val = true ∧
        t.rd SRCH_EVENT_req_ring_fault = 1 ∧ Frame [.host, .pwr] [0, 1, 8, 0x21].contains 0 0 s t) ∧
    (s.chOpen q.val = true →
      (s.chHalted q.val = true → s.rdi STRM_CH_STATUS_halt_reason q.val ≠ 4 ∧ s.rdi STRM_CH_STATUS_halt_reason q.val ≠ 6) →
      2 ^ s.rdi STRM_CH_CFG_req_k q.val < cntDist (s.rdi STRM_CH_REQ_CNT_taken q.val) d ∨
      cntDist (s.rdi STRM_CH_REQ_CNT_taken q.val) d <
        cntDist (s.rdi STRM_CH_REQ_CNT_taken q.val) (s.rdi STRM_CH_REQ_CNT_accepted q.val) →
      ∃ t, Completes (.ringProducerDoorbell (.stream q) w) s t ∧
        t.rdi STRM_CH_REQ_CNT_accepted q.val = s.rdi STRM_CH_REQ_CNT_accepted q.val ∧
        t.rdi STRM_CH_STATUS_halt_reason q.val = 3 ∧ t.bit STRM_STATUS_halted 0 q.val = true ∧
        t.rd STRM_EVENT_req_ring_fault = 1 ∧ Frame [.host, .pwr, .strm] [0, 1, 0xE, 0x21].contains 0 0 s t)

/-! ### Integrity -/

/-- An event whose key is on the seen list increments repeat_count and does nothing else: every other register, every memory and
every other part of the state stay. A new event has its key added while the list has room, writes a log record while the log has
room (R607), increments the counter of its kind and of its structure (uncorr_count counts new UNCORRECTABLE, LATE and FIFO events, kinds 2, 4
and 5, and sid_uncorr the new uncorrectable and BITE events of its structure) and sets the event bit of its kind; it leaves every
memory, every part but its own and the interrupt's, and every register outside the integrity block and the MSI-X pending bits; and
no more than 64 records then stand between consumed and written of the log. -/
def Obligations.SeenListJudgesEvents : Prop :=
  ∀ (s t : State) (r : Report), 1 ≤ r.kind → r.kind ≤ 5 → t = s.report r →
    (s.integ.seen.contains ⟨r.sid, r.offset, r.kind⟩ = true →
      t.rd INTEG_REPEAT_COUNT_repeat_count =
        min (s.rd INTEG_REPEAT_COUNT_repeat_count + 1) (2 ^ INTEG_REPEAT_COUNT_repeat_count.width - 1) ∧
      t.integ = { s.integ with repeatTotal := countUp 32 s.integ.repeatTotal } ∧
      (∀ k, k ≠ fldKey INTEG_REPEAT_COUNT_repeat_count 0 → storeGetD 0 t.regs k = storeGetD 0 s.regs k) ∧
      t.mem = s.mem ∧ ∀ p, p ≠ .integ → PartKept s t p) ∧
    (s.integ.seen.contains ⟨r.sid, r.offset, r.kind⟩ = false →
      Frame [.integ, .host] [0x0D, 0x21].contains 0 0 s t ∧
      t.integ.seen = (if s.integ.seen.length < 256 then s.integ.seen ++ [⟨r.sid, r.offset, r.kind⟩] else s.integ.seen) ∧
      ((s.rd INTEG_LOG_STATUS_written + 65536 - s.rd INTEG_LOG_STATUS_consumed) % 65536 < 64 →
        t.rd INTEG_LOG_STATUS_written = (s.rd INTEG_LOG_STATUS_written + 1) % 65536 ∧
        ∀ k < 8, t.rdi INTEG_LOG_record (8 * (s.rd INTEG_LOG_STATUS_written % 64) + k) =
          leNat (((logBytes r (s.rd INTEG_LOG_STATUS_written) s.clk.ply).drop (4 * k)).take 4)) ∧
      (64 ≤ (s.rd INTEG_LOG_STATUS_written + 65536 - s.rd INTEG_LOG_STATUS_consumed) % 65536 →
        t.rd INTEG_LOG_STATUS_written = s.rd INTEG_LOG_STATUS_written ∧ t.rd INTEG_EVENT_log_lost = 1 ∧
        (∀ k < 512, t.rdi INTEG_LOG_record k = s.rdi INTEG_LOG_record k) ∧ t.rd INTEG_LOG_LOST_log_lost =
          min (s.rd INTEG_LOG_LOST_log_lost + 1) (2 ^ INTEG_LOG_LOST_log_lost.width - 1)) ∧
      (s.rd INTEG_LOG_STATUS_written < 65536 → s.rd INTEG_LOG_STATUS_consumed < 65536 →
        cntDist (s.rd INTEG_LOG_STATUS_consumed) (s.rd INTEG_LOG_STATUS_written) ≤ 64 →
        cntDist (t.rd INTEG_LOG_STATUS_consumed) (t.rd INTEG_LOG_STATUS_written) ≤ 64) ∧
      (r.kind = 1 → t.rd INTEG_EVENT_corrected = 1 ∧ t.rd INTEG_CORR_COUNT_corr_count =
          min (s.rd INTEG_CORR_COUNT_corr_count + 1) (2 ^ INTEG_CORR_COUNT_corr_count.width - 1) ∧
        ∀ j, sidIndex r.sid = some j → t.rdi INTEG_SID_COUNT_sid_corr j =
          min (s.rdi INTEG_SID_COUNT_sid_corr j + 1) (2 ^ INTEG_SID_COUNT_sid_corr.width - 1)) ∧
      (r.kind = 2 ∨ r.kind = 3 ∨ r.kind = 5 → ∀ j, sidIndex r.sid = some j → t.rdi INTEG_SID_COUNT_sid_uncorr j =
        min (s.rdi INTEG_SID_COUNT_sid_uncorr j + 1) (2 ^ INTEG_SID_COUNT_sid_uncorr.width - 1)) ∧
      (r.kind = 4 → ∀ j < 21, t.rdi INTEG_SID_COUNT_sid_uncorr j = s.rdi INTEG_SID_COUNT_sid_uncorr j) ∧
      (r.kind = 2 ∨ r.kind = 4 ∨ r.kind = 5 → t.rd INTEG_EVENT_uncorrectable = 1 ∧ t.rd INTEG_UNCORR_COUNT_uncorr_count =
        min (s.rd INTEG_UNCORR_COUNT_uncorr_count + 1) (2 ^ INTEG_UNCORR_COUNT_uncorr_count.width - 1)) ∧
      (r.kind = 3 → t.rd INTEG_EVENT_bite = 1 ∧ t.rd INTEG_POISON_COUNT_poison_bites =
        min (s.rd INTEG_POISON_COUNT_poison_bites + 1) (2 ^ INTEG_POISON_COUNT_poison_bites.width - 1)))

/-- Poison stored in a word of 8-byte units: the data, with every byte failing parity in every copy, so that a read leaves
with poison; every other word of the structure reads as before (R594, R593). A poisoned host write of one word of mailbox
data RAM stores so, and sets ep_received (R203). -/
def Obligations.PoisonIsStored : Prop :=
  (∀ (m : Memory) (sid wi : Nat) (d : List Byte), unit32 sid = false → d.length = 8 → wi < 2 ^ 24 →
    (∀ c ∈ copies sid, readRaw (putPoison m sid wi d) sid c wi = ⟨d, 0xFF⟩) ∧
    (readWord (putPoison m sid wi d) sid wi).poison = true ∧
    ∀ wj < 2 ^ 24, wj ≠ wi → readWord (putPoison m sid wi d) sid wj = readWord m sid wj) ∧
  (∀ (s : State) (k : Nat) (d : List Byte), k < 65536 → d.length = 8 → s.isFollower = false →
    s.rd INTEG_FLIP_SEL_flip_armed ≠ 1 → ∃ t, Completes (.epWriteReceived .bar2 (0x10000 + 8 * k) (d.map some)) s t ∧
      t.bar2Get (0x10000 + 8 * k) 8 = d ∧ (readWord t.mem sidBar2 (0x2000 + k)).poison = true ∧
      t.rd GLB_STATUS_ep_received = 1)

/-- A read of a paired structure uses copy A of a word when copy A passes, and copy B when only copy B passes; a word that
passes in neither copy is uncorrectable; a unit is read correctably when every one of its words passes in a copy. -/
def Obligations.PairedReadUsesAPassingCopy : Prop :=
  ∀ (m : Memory) (sid : Nat), paired sid = true →
    (∀ wi, ((readRaw m sid 0 wi).syn = 0 →
        (readWord m sid wi).data = (readRaw m sid 0 wi).data ∧ (readWord m sid wi).poison = false) ∧
      ((readRaw m sid 0 wi).syn ≠ 0 → (readRaw m sid 1 wi).syn = 0 →
        (readWord m sid wi).data = (readRaw m sid 1 wi).data ∧ (readWord m sid wi).poison = false) ∧
      ((readRaw m sid 0 wi).syn ≠ 0 → (readRaw m sid 1 wi).syn ≠ 0 → (readWord m sid wi).poison = true)) ∧
    (∀ ui, (∀ k < unitBytes sid / 8, (readWord m sid (unitBytes sid / 8 * ui + k)).poison = false) ↔
      ∀ k < unitBytes sid / 8, (readRaw m sid 0 (unitBytes sid / 8 * ui + k)).syn = 0 ∨
        (readRaw m sid 1 (unitBytes sid / 8 * ui + k)).syn = 0)

/-- An event counter holds its all-ones value once reached and does not wrap; here the count of requests answered as
unsupported, and any counter that a command advances. -/
def Obligations.EventCountersSaturate : Prop :=
  (∀ (s : State) (f : Fld) (i n : Nat), (s.addi f i n).rdi f i = min (s.rdi f i + n) (2 ^ f.width - 1)) ∧
  (∀ s : State, ∃ t, Completes (.unsupportedRequest (.request false)) s t ∧
    t.rd GLB_CPL_CNT_ur_sent = min (s.rd GLB_CPL_CNT_ur_sent + 1) (2 ^ GLB_CPL_CNT_ur_sent.width - 1))

/-! ### Lookups -/

/-- A ternary lookup answers with the matching entry of the table that has the lowest priority value and, among those of equal
priority, the lowest first array slot; with no matching entry it misses. -/
def Obligations.TernaryLookupAnswersBestMatch : Prop :=
  ∀ (s : State) (t : Nat) (key : List Byte) (o : LookupOut), key.length = 80 → s.tblGate t engTcam = none →
    s.rdi TCAM_TBL_CFG_width_code t ≤ 3 → (∀ i ∈ listedUnits s.mem sidArray, i < 1048576) → o = s.tcamLookup t key →
    (o.outcome = outHit → TcamMatches s t key o.index ∧ o.prio = slotPrio (s.slot o.index) ∧
      ∀ f, TcamMatches s t key f →
        o.prio < slotPrio (s.slot f) ∨ (o.prio = slotPrio (s.slot f) ∧ o.index ≤ f)) ∧
    (o.outcome = outMiss ↔ ∀ f, ¬TcamMatches s t key f) ∧
    (o.outcome = outHit ∨ o.outcome = outMiss ∨ o.outcome = outPoison)

/-- An exact-match lookup answers with an entry of the bucket or the overflow store that answers its key, and where entries of
more than one type answer, with the CONTENT entry (type 1), then the TITLE entry (type 3), then the OWNER entry (type 2). -/
def Obligations.ExactLookupPrefersContent : Prop :=
  ∀ (s : State) (t mask : Nat) (key : List Byte) (rank : Nat → Nat), rank = (fun ty => if ty = 1 then 0 else if ty = 3 then 1 else 2) →
    (∀ p, s.exactFind t mask key = some p → p ∈ s.candidates t key ∧ s.answers t mask key p = true ∧
      ∀ q ∈ s.candidates t key, s.answers t mask key q = true →
        rank (entType (s.unitBytesOf p)) ≤ rank (entType (s.unitBytesOf q))) ∧
    (s.exactFind t mask key = none ↔ ∀ q ∈ s.candidates t key, s.answers t mask key q = false)

/-! ### Frames of the pins -/

/-- PIN_SET, PIN_CLR and PIN_TGL set, clear and invert the bits of PIN_OUT that they name and leave its other bits; they change
no other register but those of GLB and the MSI-X pending bits, and no memory. -/
def Obligations.PinOutWritesTouchOnlyPinOut : Prop :=
  ∀ (s u : State) (w : RegWord) (i : RegWord → Instr) (off : Nat),
    (off, i) ∈ [(0x601C, Instr.pinSet), (0x6020, .pinClr), (0x6024, .pinTgl)] → Landed s off w u → ∃ t, Completes (i w) s t ∧
      MemKept s t 0 0 ∧ t.pins = s.pins ∧
      (∀ k, k ≠ fldKey PIN_OUT_out 0 → k / 131072 ≠ 0 → k / 131072 ≠ 0x21 → storeGetD 0 t.regs k = storeGetD 0 s.regs k) ∧
      ∀ n < 24, t.bit PIN_OUT_out 0 n = (if w.getLsbD n then
        (if off = 0x601C then true else if off = 0x6020 then false else !s.bit PIN_OUT_out 0 n) else s.bit PIN_OUT_out 0 n)

/-- An event of one part leaves the others as they were: no part of the state, no block of registers and no memory changes but the
event's own and what its event bit reaches (BlockFrame). The pads' events (but UART_FRAME_SENT and I2C_TRANSFER_END, which may also
complete a mailbox command), the host link's, the heat model's, the fabric's, a slot's insertion, a tag's reauthentication falling
due, a TRAIN frame and the end of a route table's rebuild. A canary measurement may also end DOZE and complete the PWR.WAKE
commands that wait for it. -/
def Obligations.EventsTouchOnlyTheirPart : Prop :=
  ∀ (i : Instr) (s t : State), exec i s = .next t →
    ((∃ (e : Fin 8) (l : Bool), i = .timerCapture e l ∨ i = .uinEdge e l) ∨ i = .timerCount ∨ i = .pwmKill ∨
        (∃ k, i = .pwmPeriodBoundary k) ∨ (∃ k, i = .fanStall k) ∨ (∃ k gap, i = .fanTachEdge k gap) ∨
        (∃ n l, i = .glitchFilterPass n l) ∨ (∃ n, i = .debounceExpiry n) ∨
        (∃ u b f p k, i = .uartFrameReceived u b f p k) ∨ (∃ u, i = .uartDeTailEnd u) →
      Frame eventParts eventPages.contains 0x2000 0x3000 s t) ∧
    ((∃ v, i = .msixHoldoffExpiry v) ∨ (∃ v, i = .msixUnmask v) ∨ i = .aspmL1Request ∨ i = .perstNDeassert →
      Frame [.host] [0x20, 0x21].contains 0 0 s t) ∧
    ((∃ r c, i = .ntcSample r c) ∨ i = .graceExpiry ∨ i = .levelHoldExpiry ∨ i = .modelStale ∨ i = .sensorFaultClear →
      BlockFrame .heat 2 s t) ∧
    (i = .canaryLaunch ∨ i = .dozeUngateDone → Frame [.clk] (fun _ => false) 0 0 s t) ∧
    ((∃ k, i = .fifoStall k) ∨ (∃ l, i = .islandLost l) →
      Frame eventParts (3 :: eventPages).contains 0x2000 0x3000 s t) ∧
    ((∃ taps, i = .canaryMeasurement taps) ∨ i = .canaryMiss ∨ i = .marginQualifyTimeout →
      Frame (.clk :: eventParts) (3 :: 1 :: eventPages).contains 0 0x3000 s t) ∧
    ((∃ p, i = .slotInsertion p) → Frame eventParts (0xF :: eventPages).contains 0x2000 0x3000 s t) ∧
    ((∃ p, i = .reauthDue p) → Frame eventParts (0x10 :: eventPages).contains 0x2000 0x3000 s t) ∧
    ((∃ d k, i = .trainFrame d k) → Frame [.chain] [3, 7].contains 0 0 s t) ∧
    (i = .lpmRebuildDone → Frame [] [0xC].contains 0 0 s t)

/-! ### The margin code -/

/-- The margin controller keeps margin_code between margin_code_min and 56, and the core rail voltage is
620 mV + 5 mV × margin_code after each of its actions (R64); it never lowers margin_code by more than one code per measurement
(R66). A slack that does not come in time sets the code to 56. -/
def Obligations.MarginCodeStaysInRange : Prop :=
  ∀ (s : State),
    (∀ c taps i, s.clk.canary = some c → i ∈ [Instr.canaryMeasurement taps, .canaryMiss] → c.minCode ≤ 56 →
      s.rd CLK_MARGIN_STATUS_margin_code ≤ 56 → ∃ t, Completes i s t ∧
        c.minCode ≤ t.rd CLK_MARGIN_STATUS_margin_code ∧ t.rd CLK_MARGIN_STATUS_margin_code ≤ 56 ∧
        t.rd CLK_MARGIN_STATUS_rail_mv = 620 + 5 * t.rd CLK_MARGIN_STATUS_margin_code ∧
        s.rd CLK_MARGIN_STATUS_margin_code ≤ t.rd CLK_MARGIN_STATUS_margin_code + 1) ∧
    (s.clk.awaitSlack = true → ∃ t, Completes .marginQualifyTimeout s t ∧
      t.rd CLK_MARGIN_STATUS_margin_code = 56 ∧ t.rd CLK_MARGIN_STATUS_rail_mv = 900)

/-! ### Reads and updates -/

/-- No read writes to memory (R592): a read of a register, of a window, of BAR2 outside the search lanes or of configuration
space, and a read of the two register accesses that have a row of their own, change no byte of any memory; of the other parts of the
state a read changes at most those that answer it, count it, report a bad copy of what it read, and end DOZE (R116). -/
def Obligations.ReadsLeaveMemory : Prop :=
  ∀ (i : Instr) (s t : State), exec i s = .next t →
    (∃ off len full, i = .rcRead .bar0 off len full) ∨
      (∃ off len full, i = .rcRead .bar2 off len full ∧ ¬(0x8000 ≤ off ∧ off < 0x9000)) ∨
      (∃ n off len, i = .windowRead n off len) ∨ (∃ off, i = .configurationRequest (.read off)) ∨ i = .plyLoRead ∨
      (∃ u, i = .uartRxPop u) ∨ (∃ p, i = .slotOpDataAccess p none) →
    Frame [.host, .integ, .pwr, .pins, .free] (fun _ => true) 0 0 s t

/-- An entry write, delete or result write changes only the w array slots of that entry and its result word (R335): every other word
of the array and of the result words, and of every structure but the caddy (where the journal's record stands) and BAR2 RAM (where an
event's record stands), reads the same in data and parity, so no other entry moves, changes or stops matching. An update of an
exact-match entry or of a direct-index word changes only its own unit in the same way, and the zeroing of a key only its own words.
(No flip-mask is armed, R626; the table's width_code is one of its four values.) -/
def Obligations.UpdatesTouchOnlyTheirEntry : Prop :=
  ∀ (s u : State) (t : Nat) (resp : List Byte), s.rd INTEG_FLIP_SEL_flip_armed ≠ 1 → s.rdi TCAM_TBL_CFG_width_code t ≤ 3 →
    (∀ idx prio result value mask must free, s.commitTcamWrite t idx prio result value mask must free = .done u resp →
      ∃ f, (idx = some f ∨ idx = none ∧ s.lowestFree t = some f) ∧
        WordsKept s u (fun sid wi => (sid == sidArray && 4 * f ≤ wi && wi < 4 * (f + s.tblW t)) || (sid == sidResult && wi == f))) ∧
    (∀ f, s.commitTcamDelete t f = .done u resp →
      WordsKept s u (fun sid wi => sid == sidArray && 4 * f ≤ wi && wi < 4 * (f + s.tblW t))) ∧
    (∀ f result must, s.commitTcamResult t f result must = .done u resp →
      WordsKept s u (fun sid wi => sid == sidResult && wi == f)) ∧
    (∀ type key result learned must free, s.commitExactWrite t type key result learned must free = .done u resp →
      ∃ p : Place, (s.exactFind t (2 ^ (type - 1)) key = some p ∨
          s.exactFind t (2 ^ (type - 1)) key = none ∧ s.freePlace t key = some p) ∧
        WordsKept s u (fun sid wi => sid == p.sid && wi / 4 == p.unit)) ∧
    (∀ type key, s.commitExactDelete t type key = .done u resp →
      (s.exactFind t (2 ^ (type - 1)) key = none → u.mem = s.mem) ∧
      ∀ p, s.exactFind t (2 ^ (type - 1)) key = some p → WordsKept s u (fun sid wi => sid == p.sid && wi / 4 == p.unit)) ∧
    (∀ type key result, s.commitExactResult t type key result = .done u resp →
      ∃ p, s.exactFind t (2 ^ (type - 1)) key = some p ∧ WordsKept s u (fun sid wi => sid == p.sid && wi / 4 == p.unit)) ∧
    (∀ h w, h < 131072 → s.commitDix h w = .done u resp → WordsKept s u (fun sid wi => sid == sidDix && wi == h)) ∧
    (∀ k : Fin 85, exec (.keySlotZeroise k) s = .next u →
      WordsKept s u (fun sid wi => sid == sidKey && keyOff k.val / 8 ≤ wi && wi < (keyOff k.val + keyLen k.val) / 8))
end

