-- ==== Sys2Proof/Laws/Store.lean ====
section
/-! SUPPORT. Laws of the sparse stores: what a read gives after each operation, and that each operation keeps the
canonical form. -/

namespace Sys2Proof.Machine

variable {α : Type}

@[simp] theorem storeGet?_nil (k : Nat) : storeGet? ([] : Store α) k = none := rfl

theorem storeGet?_cons (k' : Nat) (v : α) (t : Store α) (k : Nat) :
    storeGet? ((k', v) :: t) k = if k = k' then some v else storeGet? t k := rfl

@[simp] theorem storeGet?_put_same (st : Store α) (k : Nat) (v : α) : storeGet? (storePut st k v) k = some v := by
  induction st with
  | nil => simp [storePut, storeGet?]
  | cons e t ih =>
    obtain ⟨k', v'⟩ := e
    simp only [storePut]
    split
    · simp [storeGet?]
    · split
      · simp [storeGet?]
      · simp [storeGet?, *]

theorem storeGet?_put_other (st : Store α) {k j : Nat} (v : α) (h : j ≠ k) :
    storeGet? (storePut st k v) j = storeGet? st j := by
  induction st with
  | nil => simp [storePut, storeGet?, h]
  | cons e t ih =>
    obtain ⟨k', v'⟩ := e
    simp only [storePut]
    split
    · simp [storeGet?, h]
    · split
      · subst k; simp [storeGet?, h]
      · simp [storeGet?, ih]

@[simp] theorem storeGet?_del_same (st : Store α) (k : Nat) : storeGet? (storeDel st k) k = none := by
  induction st with
  | nil => rfl
  | cons e t ih =>
    obtain ⟨k', v⟩ := e
    by_cases h : k' = k
    · simpa [storeDel, h] using ih
    · have h' : k ≠ k' := fun e => h e.symm
      simpa [storeDel, h, storeGet?, h'] using ih

theorem storeGet?_del_other (st : Store α) {k j : Nat} (h : j ≠ k) : storeGet? (storeDel st k) j = storeGet? st j := by
  induction st with
  | nil => rfl
  | cons e t ih =>
    obtain ⟨k', v⟩ := e
    by_cases hk : k' = k
    · subst hk; simpa [storeDel, storeGet?, h] using ih
    · have : storeGet? (storeDel ((k', v) :: t) k) j = storeGet? ((k', v) :: storeDel t k) j := by simp [storeDel, hk]
      rw [this, storeGet?_cons, storeGet?_cons, ih]

theorem storeGet?_delRange (st : Store α) (lo hi k : Nat) :
    storeGet? (storeDelRange st lo hi) k = if lo ≤ k ∧ k < hi then none else storeGet? st k := by
  induction st with
  | nil => simp [storeDelRange]
  | cons e t ih =>
    obtain ⟨k', v⟩ := e
    unfold storeDelRange at ih ⊢
    by_cases hk : k' < lo ∨ hi ≤ k'
    · rw [List.filter_cons_of_pos (by simpa using hk), storeGet?_cons, storeGet?_cons, ih]
      by_cases e : k = k'
      · subst e; simp; omega
      · simp [e]
    · rw [List.filter_cons_of_neg (by simpa using hk), ih, storeGet?_cons]
      by_cases e : k = k'
      · subst e; have : lo ≤ k ∧ k < hi := by omega
        simp [this]
      · simp [e]

/-! ### Reads with a default -/

@[simp] theorem storeGetD_nil (d : α) (k : Nat) : storeGetD d [] k = d := rfl

@[simp] theorem storeGetD_set_same [DecidableEq α] (d : α) (st : Store α) (k : Nat) (v : α) :
    storeGetD d (storeSetD d st k v) k = v := by
  unfold storeSetD storeGetD
  split <;> simp [*]

theorem storeGet?_set_other [DecidableEq α] (d : α) (st : Store α) {k j : Nat} (v : α) (h : j ≠ k) :
    storeGet? (storeSetD d st k v) j = storeGet? st j := by
  unfold storeSetD
  split
  · exact storeGet?_del_other st h
  · exact storeGet?_put_other st v h

theorem storeGetD_set_other [DecidableEq α] (d d' : α) (st : Store α) {k j : Nat} (v : α) (h : j ≠ k) :
    storeGetD d' (storeSetD d st k v) j = storeGetD d' st j := by
  unfold storeGetD
  rw [storeGet?_set_other d st v h]

/-! ### The canonical form -/

theorem storePut_mem {st : Store α} {k : Nat} {v : α} {e : Nat × α} (h : e ∈ storePut st k v) :
    e = (k, v) ∨ e ∈ st := by
  induction st with
  | nil => simpa [storePut] using h
  | cons x t ih =>
    obtain ⟨k', v'⟩ := x
    simp only [storePut] at h
    split at h
    · simpa using h
    · split at h
      · rcases List.mem_cons.1 h with h | h
        · exact .inl h
        · exact .inr (List.mem_cons_of_mem _ h)
      · rcases List.mem_cons.1 h with h | h
        · exact .inr (h ▸ List.mem_cons_self)
        · rcases ih h with h | h
          · exact .inl h
          · exact .inr (List.mem_cons_of_mem _ h)

theorem storePut_sorted {st : Store α} (k : Nat) (v : α) (h : storeSorted st) : storeSorted (storePut st k v) := by
  induction st with
  | nil => simp [storePut, storeSorted]
  | cons x t ih =>
    obtain ⟨k', v'⟩ := x
    have hc := List.pairwise_cons.1 h
    simp only [storePut]
    split
    · rename_i hk
      refine List.pairwise_cons.2 ⟨fun e he => ?_, h⟩
      rcases List.mem_cons.1 he with rfl | he
      · exact hk
      · exact lt_trans hk (hc.1 e he)
    · split
      · rename_i he; subst he
        exact List.pairwise_cons.2 ⟨hc.1, hc.2⟩
      · rename_i h1 h2
        refine List.pairwise_cons.2 ⟨fun e he => ?_, ih hc.2⟩
        rcases storePut_mem he with rfl | he
        · simp only; omega
        · exact hc.1 e he

theorem storeDel_sorted {st : Store α} (k : Nat) (h : storeSorted st) : storeSorted (storeDel st k) :=
  h.filter _

theorem storeDelRange_sorted {st : Store α} (lo hi : Nat) (h : storeSorted st) : storeSorted (storeDelRange st lo hi) :=
  h.filter _

theorem storeSetD_sorted [DecidableEq α] {st : Store α} (d : α) (k : Nat) (v : α) (h : storeSorted st) :
    storeSorted (storeSetD d st k v) := by
  unfold storeSetD
  split
  · exact storeDel_sorted k h
  · exact storePut_sorted k v h

/-- What `storeSetD` may list: the pair it was given, where it is not the default, and what was listed before. -/
theorem storeSetD_mem [DecidableEq α] {d : α} {st : Store α} {k : Nat} {v : α} {e : Nat × α}
    (h : e ∈ storeSetD d st k v) : (e = (k, v) ∧ v ≠ d) ∨ e ∈ st := by
  unfold storeSetD at h
  split at h
  · exact .inr (List.mem_filter.1 h).1
  · rename_i hv
    rcases storePut_mem h with h | h
    · exact .inl ⟨h, hv⟩
    · exact .inr h

/-- A store whose unlisted key `k` reads as `dflt k` is in canonical form: keys strictly rising, no default listed. -/
abbrev storeOk (dflt : Nat → α) (st : Store α) : Prop := storeSorted st ∧ ∀ e ∈ st, e.2 ≠ dflt e.1

theorem storeOk_nil (dflt : Nat → α) : storeOk dflt [] := by simp [storeOk, storeSorted]

theorem storeOk_set [DecidableEq α] {dflt : Nat → α} {st : Store α} (k : Nat) (v : α) (h : storeOk dflt st) :
    storeOk dflt (storeSetD (dflt k) st k v) := by
  refine ⟨storeSetD_sorted _ _ _ h.1, fun e he => ?_⟩
  rcases storeSetD_mem he with ⟨rfl, hv⟩ | he
  · exact hv
  · exact h.2 e he

theorem storeOk_delRange {dflt : Nat → α} {st : Store α} (lo hi : Nat) (h : storeOk dflt st) :
    storeOk dflt (storeDelRange st lo hi) :=
  ⟨storeDelRange_sorted lo hi h.1, fun e he => h.2 e (List.mem_filter.1 he).1⟩

/-! ### The canonical form of any list -/

theorem storeCanon_cons [DecidableEq α] (dflt : Nat → α) (e : Nat × α) (st : Store α) :
    storeCanon dflt (e :: st) = storeSetD (dflt e.1) (storeCanon dflt st) e.1 e.2 := rfl

theorem storeCanon_ok [DecidableEq α] (dflt : Nat → α) (st : Store α) : storeOk dflt (storeCanon dflt st) := by
  induction st with
  | nil => exact storeOk_nil dflt
  | cons e t ih => rw [storeCanon_cons]; exact storeOk_set e.1 e.2 ih

/-- Every key reads as before. -/
theorem storeCanon_get [DecidableEq α] (dflt : Nat → α) (st : Store α) (k : Nat) :
    storeGetD (dflt k) (storeCanon dflt st) k = storeGetD (dflt k) st k := by
  induction st with
  | nil => rfl
  | cons e t ih =>
    obtain ⟨k', v⟩ := e
    rw [storeCanon_cons]
    by_cases h : k = k'
    · subst h; rw [storeGetD_set_same]; simp [storeGetD, storeGet?]
    · rw [storeGetD_set_other _ _ _ _ h, ih]; simp [storeGetD, storeGet?, h]

theorem storeDel_of_lt {st : Store α} {k : Nat} (h : ∀ e ∈ st, k < e.1) : storeDel st k = st :=
  List.filter_eq_self.2 (fun e he => by have := h e he; simp; omega)

theorem storePut_of_lt {st : Store α} {k : Nat} (v : α) (h : ∀ e ∈ st, k < e.1) : storePut st k v = (k, v) :: st := by
  cases st with
  | nil => rfl
  | cons e t => obtain ⟨k', v'⟩ := e; have := h (k', v') List.mem_cons_self; simp [storePut, this]

/-- A store in canonical form is its own canonical form. -/
theorem storeCanon_of_ok [DecidableEq α] {dflt : Nat → α} {st : Store α} (h : storeOk dflt st) :
    storeCanon dflt st = st := by
  induction st with
  | nil => rfl
  | cons e t ih =>
    obtain ⟨k, v⟩ := e
    have hc := List.pairwise_cons.1 h.1
    have hv : v ≠ dflt k := h.2 (k, v) List.mem_cons_self
    rw [storeCanon_cons, ih ⟨hc.2, fun e he => h.2 e (List.mem_cons_of_mem _ he)⟩]
    simp only [storeSetD, hv, if_false]
    exact storePut_of_lt v hc.1

end Sys2Proof.Machine
end

