-- ==== Sys2Proof/Laws/Memory.lean ====
section
/-! SUPPORT. Laws of the memories: reads after writes, and that every memory operation keeps the canonical form. -/

namespace Sys2Proof.Machine

theorem Memory.wf_iff (m : Memory) : Memory.wf m ↔ storeOk Memory.fill m := Iff.rfl

theorem wf_nil : Memory.wf [] := storeOk_nil _

/-! ### Bytes -/

@[simp] theorem memByte_set_same (m : Memory) (a : Nat) (v : Byte) : memByte (memSetByte m a v) a = v :=
  storeGetD_set_same _ _ _ _

theorem memByte_set_other (m : Memory) {a b : Nat} (v : Byte) (h : b ≠ a) :
    memByte (memSetByte m a v) b = memByte m b :=
  storeGetD_set_other _ _ _ _ h

theorem memSetByte_wf {m : Memory} (a : Nat) (v : Byte) (h : m.wf) : (memSetByte m a v).wf :=
  storeOk_set (dflt := Memory.fill) a v h

theorem memSetBytes_wf {m : Memory} (a : Nat) (bs : List Byte) (h : m.wf) : (memSetBytes m a bs).wf := by
  induction bs generalizing m a with
  | nil => exact h
  | cons b bs ih => exact ih (a + 1) (memSetByte_wf a b h)

theorem memByte_setBytes_out (m : Memory) (a b : Nat) (bs : List Byte) (h : b < a ∨ a + bs.length ≤ b) :
    memByte (memSetBytes m a bs) b = memByte m b := by
  induction bs generalizing m a with
  | nil => rfl
  | cons x xs ih =>
    simp only [List.length_cons] at h
    rw [memSetBytes, ih (memSetByte m a x) (a + 1) (by omega), memByte_set_other m x (by omega)]

theorem memByte_setBytes_in (m : Memory) (a : Nat) (bs : List Byte) (k : Nat) (h : k < bs.length) :
    memByte (memSetBytes m a bs) (a + k) = bs[k] := by
  induction bs generalizing m a k with
  | nil => simp at h
  | cons x xs ih =>
    cases k with
    | zero => rw [memSetBytes, memByte_setBytes_out _ _ _ _ (by omega)]; simp
    | succ k =>
      have := ih (memSetByte m a x) (a + 1) k (by simpa using h)
      rw [memSetBytes, show a + (k + 1) = a + 1 + k by omega, this]; rfl

@[simp] theorem memBytes_length (m : Memory) (a n : Nat) : (memBytes m a n).length = n := by
  induction n generalizing a with
  | zero => rfl
  | succ n ih => simp [memBytes, ih]

theorem memBytes_get (m : Memory) (a n k : Nat) (h : k < (memBytes m a n).length) :
    (memBytes m a n)[k] = memByte m (a + k) := by
  induction n generalizing a k with
  | zero => simp [memBytes] at h
  | succ n ih =>
    cases k with
    | zero => rfl
    | succ k => simp only [memBytes, List.getElem_cons_succ]; rw [ih]; congr 1; omega

/-- Bytes written and read back at the same place. -/
theorem memBytes_setBytes_same (m : Memory) (a : Nat) (bs : List Byte) :
    memBytes (memSetBytes m a bs) a bs.length = bs := by
  apply List.ext_getElem (by simp)
  intro k h1 h2
  rw [memBytes_get, memByte_setBytes_in _ _ _ _ h2]

/-- Bytes written leave every range apart from them as it was. -/
theorem memBytes_setBytes_apart (m : Memory) (a b n : Nat) (bs : List Byte)
    (h : b + n ≤ a ∨ a + bs.length ≤ b) : memBytes (memSetBytes m a bs) b n = memBytes m b n := by
  apply List.ext_getElem (by simp)
  intro k h1 h2
  rw [memBytes_get, memBytes_get]
  exact memByte_setBytes_out _ _ _ _ (by simp at h1; omega)

theorem memBytes_congr {m m' : Memory} {a n : Nat} (h : ∀ k < n, memByte m (a + k) = memByte m' (a + k)) :
    memBytes m a n = memBytes m' a n := by
  apply List.ext_getElem (by simp)
  intro k h1 h2
  rw [memBytes_get, memBytes_get]
  exact h k (by simpa using h1)

/-! ### Units and words -/

theorem foldl_wf {β : Type} (f : Memory → β → Memory) (hf : ∀ m b, Memory.wf m → (f m b).wf) (l : List β) {m : Memory}
    (h : m.wf) : (l.foldl f m).wf := by
  induction l generalizing m with
  | nil => exact h
  | cons b l ih => exact ih (hf m b h)

theorem putUnitRaw_wf {m : Memory} (sid copy ui : Nat) (u : List Byte) (h : m.wf) : (putUnitRaw m sid copy ui u).wf :=
  memSetBytes_wf _ _ h

theorem putUnit_wf {m : Memory} (sid ui : Nat) (u : List Byte) (h : m.wf) : (putUnit m sid ui u).wf :=
  foldl_wf _ (fun _ _ h => putUnitRaw_wf _ _ _ _ h) _ h

theorem putWordRaw_wf {m : Memory} (sid copy wi : Nat) (d : List Byte) (chk : Byte) (h : m.wf) :
    (putWordRaw m sid copy wi d chk).wf :=
  memSetByte_wf _ _ (memSetBytes_wf _ _ h)

theorem putWord_wf {m : Memory} (sid wi : Nat) (d : List Byte) (h : m.wf) : (putWord m sid wi d).wf :=
  foldl_wf _ (fun _ _ h => putWordRaw_wf _ _ _ _ _ h) _ h

theorem putPoison_wf {m : Memory} (sid wi : Nat) (d : List Byte) (h : m.wf) : (putPoison m sid wi d).wf := by
  unfold putPoison
  split
  · exact foldl_wf _ (fun _ _ h => putUnitRaw_wf _ _ _ _ h) _ h
  · exact foldl_wf _ (fun _ _ h => putWordRaw_wf _ _ _ _ _ h) _ h

theorem clearRange_wf {m : Memory} (sid lo len : Nat) (h : m.wf) : (clearRange m sid lo len).wf :=
  foldl_wf _ (fun _ _ h => storeOk_delRange (dflt := Memory.fill) _ _ (storeOk_delRange (dflt := Memory.fill) _ _ h)) _ h

theorem putByte_wf {m : Memory} (sid off : Nat) (b : Byte) (h : m.wf) : (putByte m sid off b).wf :=
  foldl_wf _ (fun _ _ h => memSetByte_wf _ _ (memSetByte_wf _ _ h)) _ h

theorem putBytes_wf {m : Memory} (sid off : Nat) (bs : List (Option Byte)) (h : m.wf) : (putBytes m sid off bs).wf := by
  induction bs generalizing m off with
  | nil => exact h
  | cons b bs ih =>
    cases b with
    | none => exact ih _ h
    | some b => exact ih _ (putByte_wf _ _ _ h)

theorem flipCopy_wf {m : Memory} (sid c ui w data chk : Nat) (h : m.wf) : (flipCopy m sid c ui w data chk).wf := by
  unfold flipCopy
  split
  · exact putUnitRaw_wf _ _ _ _ h
  · exact putWordRaw_wf _ _ _ _ _ h

theorem checkBase_eq (sid copy : Nat) : checkBase sid copy = dataBase sid copy + regionSize := by
  unfold checkBase dataBase
  generalize regionSize = R
  ring

theorem foldl_one {α β : Type} (f : α → β → α) (a : α) (b : β) : [b].foldl f a = f a b := rfl

theorem copies_single {sid : Nat} (hs : paired sid = false) : copies sid = [0] := by simp [copies, hs]

theorem putWord_single (m : Memory) (sid wi : Nat) (d : List Byte) (hs : paired sid = false) :
    putWord m sid wi d = memSetByte (memSetBytes m (dataBase sid 0 + 8 * wi) (d.take 8)) (checkBase sid 0 + wi) (wordCheck d) := by
  unfold putWord
  rw [copies_single hs, foldl_one, putWordRaw]

/-- An 8-byte word of a single-copy structure, written with fresh parity, reads back and has no failing byte (R588). -/
theorem putWord_read (m : Memory) (sid wi : Nat) (d : List Byte) (hd : d.length = 8) (hs : paired sid = false)
    (hw : 8 * wi + 8 ≤ regionSize) :
    memBytes (putWord m sid wi d) (dataBase sid 0 + 8 * wi) 8 = d ∧ wordSyn (putWord m sid wi d) sid 0 wi = 0 := by
  have hb := checkBase_eq sid 0
  unfold wordSyn
  rw [putWord_single m sid wi d hs]
  generalize regionSize = R at hb hw
  generalize checkBase sid 0 = C at hb ⊢
  generalize dataBase sid 0 = D at hb ⊢
  have h1 : memBytes (memSetByte (memSetBytes m (D + 8 * wi) (d.take 8)) (C + wi) (wordCheck d)) (D + 8 * wi) 8 = d := by
    rw [memBytes_congr (m' := memSetBytes m (D + 8 * wi) (d.take 8)) (fun k hk => memByte_set_other _ _ (by omega))]
    have := memBytes_setBytes_same m (D + 8 * wi) (d.take 8)
    rw [List.take_of_length_le (by omega), hd] at this
    rw [List.take_of_length_le (by omega)]
    exact this
  refine ⟨h1, ?_⟩
  rw [h1, memByte_set_same, BitVec.xor_self]
  rfl

/-! ### Bytes of an 8-byte-unit structure with one copy -/

theorem putByte_single (m : Memory) (sid off : Nat) (b : Byte) (hs : paired sid = false) :
    putByte m sid off b =
      memSetByte (memSetByte m (dataBase sid 0 + off) b) (checkBase sid 0 + off / 8)
        (if oddParity b then memByte m (checkBase sid 0 + off / 8) ||| BitVec.ofNat 8 (2 ^ (off % 8))
         else memByte m (checkBase sid 0 + off / 8) &&& ~~~ BitVec.ofNat 8 (2 ^ (off % 8))) := by
  unfold putByte
  rw [copies_single hs, foldl_one]

theorem putByte_in (m : Memory) (sid off : Nat) (b : Byte) (hs : paired sid = false) (ho : off < regionSize) :
    memByte (putByte m sid off b) (dataBase sid 0 + off) = b := by
  have hb := checkBase_eq sid 0
  generalize regionSize = R at hb ho
  rw [putByte_single _ _ _ _ hs, memByte_set_other _ _ (by omega), memByte_set_same]

theorem putByte_out (m : Memory) (sid off : Nat) (b : Byte) (hs : paired sid = false) (a : Nat)
    (h1 : a ≠ dataBase sid 0 + off) (h2 : a ≠ checkBase sid 0 + off / 8) : memByte (putByte m sid off b) a = memByte m a := by
  rw [putByte_single _ _ _ _ hs, memByte_set_other _ _ h2, memByte_set_other _ _ h1]

/-- A byte string written at `off` leaves every address but its own data bytes and their words' check bytes. -/
theorem putBytes_out (m : Memory) (sid off : Nat) (bs : List (Option Byte)) (hs : paired sid = false) (a : Nat)
    (h1 : a < dataBase sid 0 + off ∨ dataBase sid 0 + off + bs.length ≤ a)
    (h2 : a < checkBase sid 0 + off / 8 ∨ checkBase sid 0 + (off + bs.length + 7) / 8 ≤ a) :
    memByte (putBytes m sid off bs) a = memByte m a := by
  induction bs generalizing m off with
  | nil => rfl
  | cons b bs ih =>
    simp only [List.length_cons] at h1 h2
    cases b with
    | none => exact ih _ _ (by omega) (by omega)
    | some b => rw [putBytes, ih _ _ (by omega) (by omega), putByte_out _ _ _ _ hs _ (by omega) (by omega)]

/-- A byte string written at `off` reads back. -/
theorem putBytes_in (m : Memory) (sid off : Nat) (bs : List Byte) (hs : paired sid = false)
    (hr : off + bs.length ≤ regionSize) {k : Nat} (hk : k < bs.length) :
    memByte (putBytes m sid off (bs.map some)) (dataBase sid 0 + (off + k)) = bs[k] := by
  have hb := checkBase_eq sid 0
  have hin := fun m o b h => putByte_in m sid o b hs h
  generalize regionSize = R at hb hr hin
  induction bs generalizing m off k with
  | nil => simp at hk
  | cons b bs ih =>
    simp only [List.length_cons] at hr hk
    simp only [List.map_cons, putBytes]
    cases k with
    | zero =>
      rw [putBytes_out _ _ _ _ hs _ (by omega) (by simp; omega)]
      simpa using hin m off b (by omega)
    | succ k =>
      have := ih (putByte m sid off b) (off + 1) (by omega) (k := k) (by omega)
      rw [show off + (k + 1) = off + 1 + k by omega, this]; rfl

/-- The bytes of a written range, read as a range. -/
theorem putBytes_read (m : Memory) (sid off : Nat) (bs : List Byte) (hs : paired sid = false)
    (hr : off + bs.length ≤ regionSize) :
    memBytes (putBytes m sid off (bs.map some)) (dataBase sid 0 + off) bs.length = bs := by
  apply List.ext_getElem (by simp)
  intro k h1 h2
  rw [memBytes_get, Nat.add_assoc]
  exact putBytes_in _ _ _ _ hs hr h2

end Sys2Proof.Machine
end

