-- ==== Sys2Proof/Laws/State.lean ====
section
/-! SUPPORT. What the shared state updates leave alone: one lemma for each field of the state and each update, true by rfl. -/

namespace Sys2Proof.Machine
open Reg

/-! ### State.wri -/

@[simp] theorem State.wri_pending (s : State) (f : Fld) (i v : Nat) : (s.wri f i v).pending = s.pending := rfl
@[simp] theorem State.wri_mem (s : State) (f : Fld) (i v : Nat) : (s.wri f i v).mem = s.mem := rfl
@[simp] theorem State.wri_host (s : State) (f : Fld) (i v : Nat) : (s.wri f i v).host = s.host := rfl
@[simp] theorem State.wri_eupex (s : State) (f : Fld) (i v : Nat) : (s.wri f i v).eupex = s.eupex := rfl
@[simp] theorem State.wri_clk (s : State) (f : Fld) (i v : Nat) : (s.wri f i v).clk = s.clk := rfl
@[simp] theorem State.wri_pwr (s : State) (f : Fld) (i v : Nat) : (s.wri f i v).pwr = s.pwr := rfl
@[simp] theorem State.wri_heat (s : State) (f : Fld) (i v : Nat) : (s.wri f i v).heat = s.heat := rfl
@[simp] theorem State.wri_integ (s : State) (f : Fld) (i v : Nat) : (s.wri f i v).integ = s.integ := rfl
@[simp] theorem State.wri_chain (s : State) (f : Fld) (i v : Nat) : (s.wri f i v).chain = s.chain := rfl
@[simp] theorem State.wri_srch (s : State) (f : Fld) (i v : Nat) : (s.wri f i v).srch = s.srch := rfl
@[simp] theorem State.wri_tbl (s : State) (f : Fld) (i v : Nat) : (s.wri f i v).tbl = s.tbl := rfl
@[simp] theorem State.wri_learn (s : State) (f : Fld) (i v : Nat) : (s.wri f i v).learn = s.learn := rfl
@[simp] theorem State.wri_jrnl (s : State) (f : Fld) (i v : Nat) : (s.wri f i v).jrnl = s.jrnl := rfl
@[simp] theorem State.wri_cores (s : State) (f : Fld) (i v : Nat) : (s.wri f i v).cores = s.cores := rfl
@[simp] theorem State.wri_slots (s : State) (f : Fld) (i v : Nat) : (s.wri f i v).slots = s.slots := rfl
@[simp] theorem State.wri_strm (s : State) (f : Fld) (i v : Nat) : (s.wri f i v).strm = s.strm := rfl
@[simp] theorem State.wri_guard (s : State) (f : Fld) (i v : Nat) : (s.wri f i v).guard = s.guard := rfl
@[simp] theorem State.wri_settings (s : State) (f : Fld) (i v : Nat) : (s.wri f i v).settings = s.settings := rfl
@[simp] theorem State.wri_otp (s : State) (f : Fld) (i v : Nat) : (s.wri f i v).otp = s.otp := rfl
@[simp] theorem State.wri_pins (s : State) (f : Fld) (i v : Nat) : (s.wri f i v).pins = s.pins := rfl
@[simp] theorem State.wri_free (s : State) (f : Fld) (i v : Nat) : (s.wri f i v).free = s.free := rfl

/-! ### State.wr -/

@[simp] theorem State.wr_pending (s : State) (f : Fld) (v : Nat) : (s.wr f v).pending = s.pending := rfl
@[simp] theorem State.wr_mem (s : State) (f : Fld) (v : Nat) : (s.wr f v).mem = s.mem := rfl
@[simp] theorem State.wr_host (s : State) (f : Fld) (v : Nat) : (s.wr f v).host = s.host := rfl
@[simp] theorem State.wr_eupex (s : State) (f : Fld) (v : Nat) : (s.wr f v).eupex = s.eupex := rfl
@[simp] theorem State.wr_clk (s : State) (f : Fld) (v : Nat) : (s.wr f v).clk = s.clk := rfl
@[simp] theorem State.wr_pwr (s : State) (f : Fld) (v : Nat) : (s.wr f v).pwr = s.pwr := rfl
@[simp] theorem State.wr_heat (s : State) (f : Fld) (v : Nat) : (s.wr f v).heat = s.heat := rfl
@[simp] theorem State.wr_integ (s : State) (f : Fld) (v : Nat) : (s.wr f v).integ = s.integ := rfl
@[simp] theorem State.wr_chain (s : State) (f : Fld) (v : Nat) : (s.wr f v).chain = s.chain := rfl
@[simp] theorem State.wr_srch (s : State) (f : Fld) (v : Nat) : (s.wr f v).srch = s.srch := rfl
@[simp] theorem State.wr_tbl (s : State) (f : Fld) (v : Nat) : (s.wr f v).tbl = s.tbl := rfl
@[simp] theorem State.wr_learn (s : State) (f : Fld) (v : Nat) : (s.wr f v).learn = s.learn := rfl
@[simp] theorem State.wr_jrnl (s : State) (f : Fld) (v : Nat) : (s.wr f v).jrnl = s.jrnl := rfl
@[simp] theorem State.wr_cores (s : State) (f : Fld) (v : Nat) : (s.wr f v).cores = s.cores := rfl
@[simp] theorem State.wr_slots (s : State) (f : Fld) (v : Nat) : (s.wr f v).slots = s.slots := rfl
@[simp] theorem State.wr_strm (s : State) (f : Fld) (v : Nat) : (s.wr f v).strm = s.strm := rfl
@[simp] theorem State.wr_guard (s : State) (f : Fld) (v : Nat) : (s.wr f v).guard = s.guard := rfl
@[simp] theorem State.wr_settings (s : State) (f : Fld) (v : Nat) : (s.wr f v).settings = s.settings := rfl
@[simp] theorem State.wr_otp (s : State) (f : Fld) (v : Nat) : (s.wr f v).otp = s.otp := rfl
@[simp] theorem State.wr_pins (s : State) (f : Fld) (v : Nat) : (s.wr f v).pins = s.pins := rfl
@[simp] theorem State.wr_free (s : State) (f : Fld) (v : Nat) : (s.wr f v).free = s.free := rfl

/-! ### State.addi -/

@[simp] theorem State.addi_pending (s : State) (f : Fld) (i n : Nat) : (s.addi f i n).pending = s.pending := rfl
@[simp] theorem State.addi_mem (s : State) (f : Fld) (i n : Nat) : (s.addi f i n).mem = s.mem := rfl
@[simp] theorem State.addi_host (s : State) (f : Fld) (i n : Nat) : (s.addi f i n).host = s.host := rfl
@[simp] theorem State.addi_eupex (s : State) (f : Fld) (i n : Nat) : (s.addi f i n).eupex = s.eupex := rfl
@[simp] theorem State.addi_clk (s : State) (f : Fld) (i n : Nat) : (s.addi f i n).clk = s.clk := rfl
@[simp] theorem State.addi_pwr (s : State) (f : Fld) (i n : Nat) : (s.addi f i n).pwr = s.pwr := rfl
@[simp] theorem State.addi_heat (s : State) (f : Fld) (i n : Nat) : (s.addi f i n).heat = s.heat := rfl
@[simp] theorem State.addi_integ (s : State) (f : Fld) (i n : Nat) : (s.addi f i n).integ = s.integ := rfl
@[simp] theorem State.addi_chain (s : State) (f : Fld) (i n : Nat) : (s.addi f i n).chain = s.chain := rfl
@[simp] theorem State.addi_srch (s : State) (f : Fld) (i n : Nat) : (s.addi f i n).srch = s.srch := rfl
@[simp] theorem State.addi_tbl (s : State) (f : Fld) (i n : Nat) : (s.addi f i n).tbl = s.tbl := rfl
@[simp] theorem State.addi_learn (s : State) (f : Fld) (i n : Nat) : (s.addi f i n).learn = s.learn := rfl
@[simp] theorem State.addi_jrnl (s : State) (f : Fld) (i n : Nat) : (s.addi f i n).jrnl = s.jrnl := rfl
@[simp] theorem State.addi_cores (s : State) (f : Fld) (i n : Nat) : (s.addi f i n).cores = s.cores := rfl
@[simp] theorem State.addi_slots (s : State) (f : Fld) (i n : Nat) : (s.addi f i n).slots = s.slots := rfl
@[simp] theorem State.addi_strm (s : State) (f : Fld) (i n : Nat) : (s.addi f i n).strm = s.strm := rfl
@[simp] theorem State.addi_guard (s : State) (f : Fld) (i n : Nat) : (s.addi f i n).guard = s.guard := rfl
@[simp] theorem State.addi_settings (s : State) (f : Fld) (i n : Nat) : (s.addi f i n).settings = s.settings := rfl
@[simp] theorem State.addi_otp (s : State) (f : Fld) (i n : Nat) : (s.addi f i n).otp = s.otp := rfl
@[simp] theorem State.addi_pins (s : State) (f : Fld) (i n : Nat) : (s.addi f i n).pins = s.pins := rfl
@[simp] theorem State.addi_free (s : State) (f : Fld) (i n : Nat) : (s.addi f i n).free = s.free := rfl

/-! ### State.inc -/

@[simp] theorem State.inc_pending (s : State) (f : Fld) : (s.inc f).pending = s.pending := rfl
@[simp] theorem State.inc_mem (s : State) (f : Fld) : (s.inc f).mem = s.mem := rfl
@[simp] theorem State.inc_host (s : State) (f : Fld) : (s.inc f).host = s.host := rfl
@[simp] theorem State.inc_eupex (s : State) (f : Fld) : (s.inc f).eupex = s.eupex := rfl
@[simp] theorem State.inc_clk (s : State) (f : Fld) : (s.inc f).clk = s.clk := rfl
@[simp] theorem State.inc_pwr (s : State) (f : Fld) : (s.inc f).pwr = s.pwr := rfl
@[simp] theorem State.inc_heat (s : State) (f : Fld) : (s.inc f).heat = s.heat := rfl
@[simp] theorem State.inc_integ (s : State) (f : Fld) : (s.inc f).integ = s.integ := rfl
@[simp] theorem State.inc_chain (s : State) (f : Fld) : (s.inc f).chain = s.chain := rfl
@[simp] theorem State.inc_srch (s : State) (f : Fld) : (s.inc f).srch = s.srch := rfl
@[simp] theorem State.inc_tbl (s : State) (f : Fld) : (s.inc f).tbl = s.tbl := rfl
@[simp] theorem State.inc_learn (s : State) (f : Fld) : (s.inc f).learn = s.learn := rfl
@[simp] theorem State.inc_jrnl (s : State) (f : Fld) : (s.inc f).jrnl = s.jrnl := rfl
@[simp] theorem State.inc_cores (s : State) (f : Fld) : (s.inc f).cores = s.cores := rfl
@[simp] theorem State.inc_slots (s : State) (f : Fld) : (s.inc f).slots = s.slots := rfl
@[simp] theorem State.inc_strm (s : State) (f : Fld) : (s.inc f).strm = s.strm := rfl
@[simp] theorem State.inc_guard (s : State) (f : Fld) : (s.inc f).guard = s.guard := rfl
@[simp] theorem State.inc_settings (s : State) (f : Fld) : (s.inc f).settings = s.settings := rfl
@[simp] theorem State.inc_otp (s : State) (f : Fld) : (s.inc f).otp = s.otp := rfl
@[simp] theorem State.inc_pins (s : State) (f : Fld) : (s.inc f).pins = s.pins := rfl
@[simp] theorem State.inc_free (s : State) (f : Fld) : (s.inc f).free = s.free := rfl

/-! ### State.setBit -/

@[simp] theorem State.setBit_pending (s : State) (f : Fld) (i k : Nat) (b : Bool) : (s.setBit f i k b).pending = s.pending := rfl
@[simp] theorem State.setBit_mem (s : State) (f : Fld) (i k : Nat) (b : Bool) : (s.setBit f i k b).mem = s.mem := rfl
@[simp] theorem State.setBit_host (s : State) (f : Fld) (i k : Nat) (b : Bool) : (s.setBit f i k b).host = s.host := rfl
@[simp] theorem State.setBit_eupex (s : State) (f : Fld) (i k : Nat) (b : Bool) : (s.setBit f i k b).eupex = s.eupex := rfl
@[simp] theorem State.setBit_clk (s : State) (f : Fld) (i k : Nat) (b : Bool) : (s.setBit f i k b).clk = s.clk := rfl
@[simp] theorem State.setBit_pwr (s : State) (f : Fld) (i k : Nat) (b : Bool) : (s.setBit f i k b).pwr = s.pwr := rfl
@[simp] theorem State.setBit_heat (s : State) (f : Fld) (i k : Nat) (b : Bool) : (s.setBit f i k b).heat = s.heat := rfl
@[simp] theorem State.setBit_integ (s : State) (f : Fld) (i k : Nat) (b : Bool) : (s.setBit f i k b).integ = s.integ := rfl
@[simp] theorem State.setBit_chain (s : State) (f : Fld) (i k : Nat) (b : Bool) : (s.setBit f i k b).chain = s.chain := rfl
@[simp] theorem State.setBit_srch (s : State) (f : Fld) (i k : Nat) (b : Bool) : (s.setBit f i k b).srch = s.srch := rfl
@[simp] theorem State.setBit_tbl (s : State) (f : Fld) (i k : Nat) (b : Bool) : (s.setBit f i k b).tbl = s.tbl := rfl
@[simp] theorem State.setBit_learn (s : State) (f : Fld) (i k : Nat) (b : Bool) : (s.setBit f i k b).learn = s.learn := rfl
@[simp] theorem State.setBit_jrnl (s : State) (f : Fld) (i k : Nat) (b : Bool) : (s.setBit f i k b).jrnl = s.jrnl := rfl
@[simp] theorem State.setBit_cores (s : State) (f : Fld) (i k : Nat) (b : Bool) : (s.setBit f i k b).cores = s.cores := rfl
@[simp] theorem State.setBit_slots (s : State) (f : Fld) (i k : Nat) (b : Bool) : (s.setBit f i k b).slots = s.slots := rfl
@[simp] theorem State.setBit_strm (s : State) (f : Fld) (i k : Nat) (b : Bool) : (s.setBit f i k b).strm = s.strm := rfl
@[simp] theorem State.setBit_guard (s : State) (f : Fld) (i k : Nat) (b : Bool) : (s.setBit f i k b).guard = s.guard := rfl
@[simp] theorem State.setBit_settings (s : State) (f : Fld) (i k : Nat) (b : Bool) : (s.setBit f i k b).settings = s.settings := rfl
@[simp] theorem State.setBit_otp (s : State) (f : Fld) (i k : Nat) (b : Bool) : (s.setBit f i k b).otp = s.otp := rfl
@[simp] theorem State.setBit_pins (s : State) (f : Fld) (i k : Nat) (b : Bool) : (s.setBit f i k b).pins = s.pins := rfl
@[simp] theorem State.setBit_free (s : State) (f : Fld) (i k : Nat) (b : Bool) : (s.setBit f i k b).free = s.free := rfl

/-! ### State.settled -/

@[simp] theorem State.settled_pending (s : State) : (s.settled).pending = s.pending := rfl
@[simp] theorem State.settled_host (s : State) : (s.settled).host = s.host := rfl
@[simp] theorem State.settled_eupex (s : State) : (s.settled).eupex = s.eupex := rfl
@[simp] theorem State.settled_clk (s : State) : (s.settled).clk = s.clk := rfl
@[simp] theorem State.settled_pwr (s : State) : (s.settled).pwr = s.pwr := rfl
@[simp] theorem State.settled_heat (s : State) : (s.settled).heat = s.heat := rfl
@[simp] theorem State.settled_integ (s : State) : (s.settled).integ = s.integ := rfl
@[simp] theorem State.settled_chain (s : State) : (s.settled).chain = s.chain := rfl
@[simp] theorem State.settled_srch (s : State) : (s.settled).srch = s.srch := rfl
@[simp] theorem State.settled_tbl (s : State) : (s.settled).tbl = s.tbl := rfl
@[simp] theorem State.settled_learn (s : State) : (s.settled).learn = s.learn := rfl
@[simp] theorem State.settled_jrnl (s : State) : (s.settled).jrnl = s.jrnl := rfl
@[simp] theorem State.settled_cores (s : State) : (s.settled).cores = s.cores := rfl
@[simp] theorem State.settled_slots (s : State) : (s.settled).slots = s.slots := rfl
@[simp] theorem State.settled_strm (s : State) : (s.settled).strm = s.strm := rfl
@[simp] theorem State.settled_guard (s : State) : (s.settled).guard = s.guard := rfl
@[simp] theorem State.settled_settings (s : State) : (s.settled).settings = s.settings := rfl
@[simp] theorem State.settled_otp (s : State) : (s.settled).otp = s.otp := rfl
@[simp] theorem State.settled_pins (s : State) : (s.settled).pins = s.pins := rfl
@[simp] theorem State.settled_free (s : State) : (s.settled).free = s.free := rfl

/-! ### State.nextFree -/

@[simp] theorem State.nextFree_pending (s : State) : (s.nextFree).pending = s.pending := rfl
@[simp] theorem State.nextFree_regs (s : State) : (s.nextFree).regs = s.regs := rfl
@[simp] theorem State.nextFree_mem (s : State) : (s.nextFree).mem = s.mem := rfl
@[simp] theorem State.nextFree_host (s : State) : (s.nextFree).host = s.host := rfl
@[simp] theorem State.nextFree_eupex (s : State) : (s.nextFree).eupex = s.eupex := rfl
@[simp] theorem State.nextFree_clk (s : State) : (s.nextFree).clk = s.clk := rfl
@[simp] theorem State.nextFree_pwr (s : State) : (s.nextFree).pwr = s.pwr := rfl
@[simp] theorem State.nextFree_heat (s : State) : (s.nextFree).heat = s.heat := rfl
@[simp] theorem State.nextFree_integ (s : State) : (s.nextFree).integ = s.integ := rfl
@[simp] theorem State.nextFree_chain (s : State) : (s.nextFree).chain = s.chain := rfl
@[simp] theorem State.nextFree_srch (s : State) : (s.nextFree).srch = s.srch := rfl
@[simp] theorem State.nextFree_tbl (s : State) : (s.nextFree).tbl = s.tbl := rfl
@[simp] theorem State.nextFree_learn (s : State) : (s.nextFree).learn = s.learn := rfl
@[simp] theorem State.nextFree_jrnl (s : State) : (s.nextFree).jrnl = s.jrnl := rfl
@[simp] theorem State.nextFree_cores (s : State) : (s.nextFree).cores = s.cores := rfl
@[simp] theorem State.nextFree_slots (s : State) : (s.nextFree).slots = s.slots := rfl
@[simp] theorem State.nextFree_strm (s : State) : (s.nextFree).strm = s.strm := rfl
@[simp] theorem State.nextFree_guard (s : State) : (s.nextFree).guard = s.guard := rfl
@[simp] theorem State.nextFree_settings (s : State) : (s.nextFree).settings = s.settings := rfl
@[simp] theorem State.nextFree_otp (s : State) : (s.nextFree).otp = s.otp := rfl
@[simp] theorem State.nextFree_pins (s : State) : (s.nextFree).pins = s.pins := rfl

/-! ### State.setMbx -/

@[simp] theorem State.setMbx_pending (s : State) (m : Mb) (b : Mailbox) : (s.setMbx m b).pending = s.pending := rfl
@[simp] theorem State.setMbx_regs (s : State) (m : Mb) (b : Mailbox) : (s.setMbx m b).regs = s.regs := rfl
@[simp] theorem State.setMbx_mem (s : State) (m : Mb) (b : Mailbox) : (s.setMbx m b).mem = s.mem := rfl
@[simp] theorem State.setMbx_host (s : State) (m : Mb) (b : Mailbox) : (s.setMbx m b).host = s.host := rfl
@[simp] theorem State.setMbx_clk (s : State) (m : Mb) (b : Mailbox) : (s.setMbx m b).clk = s.clk := rfl
@[simp] theorem State.setMbx_pwr (s : State) (m : Mb) (b : Mailbox) : (s.setMbx m b).pwr = s.pwr := rfl
@[simp] theorem State.setMbx_heat (s : State) (m : Mb) (b : Mailbox) : (s.setMbx m b).heat = s.heat := rfl
@[simp] theorem State.setMbx_integ (s : State) (m : Mb) (b : Mailbox) : (s.setMbx m b).integ = s.integ := rfl
@[simp] theorem State.setMbx_chain (s : State) (m : Mb) (b : Mailbox) : (s.setMbx m b).chain = s.chain := rfl
@[simp] theorem State.setMbx_srch (s : State) (m : Mb) (b : Mailbox) : (s.setMbx m b).srch = s.srch := rfl
@[simp] theorem State.setMbx_tbl (s : State) (m : Mb) (b : Mailbox) : (s.setMbx m b).tbl = s.tbl := rfl
@[simp] theorem State.setMbx_learn (s : State) (m : Mb) (b : Mailbox) : (s.setMbx m b).learn = s.learn := rfl
@[simp] theorem State.setMbx_jrnl (s : State) (m : Mb) (b : Mailbox) : (s.setMbx m b).jrnl = s.jrnl := rfl
@[simp] theorem State.setMbx_cores (s : State) (m : Mb) (b : Mailbox) : (s.setMbx m b).cores = s.cores := rfl
@[simp] theorem State.setMbx_slots (s : State) (m : Mb) (b : Mailbox) : (s.setMbx m b).slots = s.slots := rfl
@[simp] theorem State.setMbx_strm (s : State) (m : Mb) (b : Mailbox) : (s.setMbx m b).strm = s.strm := rfl
@[simp] theorem State.setMbx_guard (s : State) (m : Mb) (b : Mailbox) : (s.setMbx m b).guard = s.guard := rfl
@[simp] theorem State.setMbx_settings (s : State) (m : Mb) (b : Mailbox) : (s.setMbx m b).settings = s.settings := rfl
@[simp] theorem State.setMbx_otp (s : State) (m : Mb) (b : Mailbox) : (s.setMbx m b).otp = s.otp := rfl
@[simp] theorem State.setMbx_pins (s : State) (m : Mb) (b : Mailbox) : (s.setMbx m b).pins = s.pins := rfl
@[simp] theorem State.setMbx_free (s : State) (m : Mb) (b : Mailbox) : (s.setMbx m b).free = s.free := rfl

/-! ### State.dmaRead -/

/-- A DMA read changes the host link only. -/
theorem State.issueRead_frame {s t : State} (h : s.issueRead = some t) : t = { s with host := t.host } := by
  unfold State.issueRead at h
  split at h
  · cases h
  · split at h
    · cases h; rfl
    · cases h

theorem State.issueReads_frame (n : Nat) (s : State) : State.issueReads n s = { s with host := (State.issueReads n s).host } := by
  induction n generalizing s with
  | zero => rfl
  | succ n ih =>
    unfold State.issueReads
    split
    · next t ht =>
      rw [ih t]
      rw [State.issueRead_frame ht]
    · rfl

theorem State.dmaRead_frame (s : State) (addr len : Nat) (use : DmaUse) :
    s.dmaRead addr len use = { s with host := (s.dmaRead addr len use).host } := by
  unfold State.dmaRead
  rw [State.issueReads_frame]

@[simp] theorem State.dmaRead_pending (s : State) (addr len : Nat) (use : DmaUse) : (s.dmaRead addr len use).pending = s.pending := by
  rw [State.dmaRead_frame]
@[simp] theorem State.dmaRead_regs (s : State) (addr len : Nat) (use : DmaUse) : (s.dmaRead addr len use).regs = s.regs := by
  rw [State.dmaRead_frame]
@[simp] theorem State.dmaRead_mem (s : State) (addr len : Nat) (use : DmaUse) : (s.dmaRead addr len use).mem = s.mem := by
  rw [State.dmaRead_frame]
@[simp] theorem State.dmaRead_eupex (s : State) (addr len : Nat) (use : DmaUse) : (s.dmaRead addr len use).eupex = s.eupex := by
  rw [State.dmaRead_frame]
@[simp] theorem State.dmaRead_clk (s : State) (addr len : Nat) (use : DmaUse) : (s.dmaRead addr len use).clk = s.clk := by
  rw [State.dmaRead_frame]
@[simp] theorem State.dmaRead_pwr (s : State) (addr len : Nat) (use : DmaUse) : (s.dmaRead addr len use).pwr = s.pwr := by
  rw [State.dmaRead_frame]
@[simp] theorem State.dmaRead_heat (s : State) (addr len : Nat) (use : DmaUse) : (s.dmaRead addr len use).heat = s.heat := by
  rw [State.dmaRead_frame]
@[simp] theorem State.dmaRead_integ (s : State) (addr len : Nat) (use : DmaUse) : (s.dmaRead addr len use).integ = s.integ := by
  rw [State.dmaRead_frame]
@[simp] theorem State.dmaRead_chain (s : State) (addr len : Nat) (use : DmaUse) : (s.dmaRead addr len use).chain = s.chain := by
  rw [State.dmaRead_frame]
@[simp] theorem State.dmaRead_srch (s : State) (addr len : Nat) (use : DmaUse) : (s.dmaRead addr len use).srch = s.srch := by
  rw [State.dmaRead_frame]
@[simp] theorem State.dmaRead_tbl (s : State) (addr len : Nat) (use : DmaUse) : (s.dmaRead addr len use).tbl = s.tbl := by
  rw [State.dmaRead_frame]
@[simp] theorem State.dmaRead_learn (s : State) (addr len : Nat) (use : DmaUse) : (s.dmaRead addr len use).learn = s.learn := by
  rw [State.dmaRead_frame]
@[simp] theorem State.dmaRead_jrnl (s : State) (addr len : Nat) (use : DmaUse) : (s.dmaRead addr len use).jrnl = s.jrnl := by
  rw [State.dmaRead_frame]
@[simp] theorem State.dmaRead_cores (s : State) (addr len : Nat) (use : DmaUse) : (s.dmaRead addr len use).cores = s.cores := by
  rw [State.dmaRead_frame]
@[simp] theorem State.dmaRead_slots (s : State) (addr len : Nat) (use : DmaUse) : (s.dmaRead addr len use).slots = s.slots := by
  rw [State.dmaRead_frame]
@[simp] theorem State.dmaRead_strm (s : State) (addr len : Nat) (use : DmaUse) : (s.dmaRead addr len use).strm = s.strm := by
  rw [State.dmaRead_frame]
@[simp] theorem State.dmaRead_guard (s : State) (addr len : Nat) (use : DmaUse) : (s.dmaRead addr len use).guard = s.guard := by
  rw [State.dmaRead_frame]
@[simp] theorem State.dmaRead_settings (s : State) (addr len : Nat) (use : DmaUse) : (s.dmaRead addr len use).settings = s.settings := by
  rw [State.dmaRead_frame]
@[simp] theorem State.dmaRead_otp (s : State) (addr len : Nat) (use : DmaUse) : (s.dmaRead addr len use).otp = s.otp := by
  rw [State.dmaRead_frame]
@[simp] theorem State.dmaRead_pins (s : State) (addr len : Nat) (use : DmaUse) : (s.dmaRead addr len use).pins = s.pins := by
  rw [State.dmaRead_frame]
@[simp] theorem State.dmaRead_free (s : State) (addr len : Nat) (use : DmaUse) : (s.dmaRead addr len use).free = s.free := by
  rw [State.dmaRead_frame]

/-! ### State.reply -/

@[simp] theorem State.reply_pending (s : State) (data : List Byte) (ep : Bool) (st : CplStatus) : (s.reply data ep st).pending = s.pending := rfl
@[simp] theorem State.reply_regs (s : State) (data : List Byte) (ep : Bool) (st : CplStatus) : (s.reply data ep st).regs = s.regs := rfl
@[simp] theorem State.reply_mem (s : State) (data : List Byte) (ep : Bool) (st : CplStatus) : (s.reply data ep st).mem = s.mem := rfl
@[simp] theorem State.reply_eupex (s : State) (data : List Byte) (ep : Bool) (st : CplStatus) : (s.reply data ep st).eupex = s.eupex := rfl
@[simp] theorem State.reply_clk (s : State) (data : List Byte) (ep : Bool) (st : CplStatus) : (s.reply data ep st).clk = s.clk := rfl
@[simp] theorem State.reply_pwr (s : State) (data : List Byte) (ep : Bool) (st : CplStatus) : (s.reply data ep st).pwr = s.pwr := rfl
@[simp] theorem State.reply_heat (s : State) (data : List Byte) (ep : Bool) (st : CplStatus) : (s.reply data ep st).heat = s.heat := rfl
@[simp] theorem State.reply_integ (s : State) (data : List Byte) (ep : Bool) (st : CplStatus) : (s.reply data ep st).integ = s.integ := rfl
@[simp] theorem State.reply_chain (s : State) (data : List Byte) (ep : Bool) (st : CplStatus) : (s.reply data ep st).chain = s.chain := rfl
@[simp] theorem State.reply_srch (s : State) (data : List Byte) (ep : Bool) (st : CplStatus) : (s.reply data ep st).srch = s.srch := rfl
@[simp] theorem State.reply_tbl (s : State) (data : List Byte) (ep : Bool) (st : CplStatus) : (s.reply data ep st).tbl = s.tbl := rfl
@[simp] theorem State.reply_learn (s : State) (data : List Byte) (ep : Bool) (st : CplStatus) : (s.reply data ep st).learn = s.learn := rfl
@[simp] theorem State.reply_jrnl (s : State) (data : List Byte) (ep : Bool) (st : CplStatus) : (s.reply data ep st).jrnl = s.jrnl := rfl
@[simp] theorem State.reply_cores (s : State) (data : List Byte) (ep : Bool) (st : CplStatus) : (s.reply data ep st).cores = s.cores := rfl
@[simp] theorem State.reply_slots (s : State) (data : List Byte) (ep : Bool) (st : CplStatus) : (s.reply data ep st).slots = s.slots := rfl
@[simp] theorem State.reply_strm (s : State) (data : List Byte) (ep : Bool) (st : CplStatus) : (s.reply data ep st).strm = s.strm := rfl
@[simp] theorem State.reply_guard (s : State) (data : List Byte) (ep : Bool) (st : CplStatus) : (s.reply data ep st).guard = s.guard := rfl
@[simp] theorem State.reply_settings (s : State) (data : List Byte) (ep : Bool) (st : CplStatus) : (s.reply data ep st).settings = s.settings := rfl
@[simp] theorem State.reply_otp (s : State) (data : List Byte) (ep : Bool) (st : CplStatus) : (s.reply data ep st).otp = s.otp := rfl
@[simp] theorem State.reply_pins (s : State) (data : List Byte) (ep : Bool) (st : CplStatus) : (s.reply data ep st).pins = s.pins := rfl
@[simp] theorem State.reply_free (s : State) (data : List Byte) (ep : Bool) (st : CplStatus) : (s.reply data ep st).free = s.free := rfl

/-! ### State.sendPkt -/

@[simp] theorem State.sendPkt_pending (s : State) (p : Packet) : (s.sendPkt p).pending = s.pending := rfl
@[simp] theorem State.sendPkt_mem (s : State) (p : Packet) : (s.sendPkt p).mem = s.mem := rfl
@[simp] theorem State.sendPkt_host (s : State) (p : Packet) : (s.sendPkt p).host = s.host := rfl
@[simp] theorem State.sendPkt_eupex (s : State) (p : Packet) : (s.sendPkt p).eupex = s.eupex := rfl
@[simp] theorem State.sendPkt_clk (s : State) (p : Packet) : (s.sendPkt p).clk = s.clk := rfl
@[simp] theorem State.sendPkt_pwr (s : State) (p : Packet) : (s.sendPkt p).pwr = s.pwr := rfl
@[simp] theorem State.sendPkt_heat (s : State) (p : Packet) : (s.sendPkt p).heat = s.heat := rfl
@[simp] theorem State.sendPkt_integ (s : State) (p : Packet) : (s.sendPkt p).integ = s.integ := rfl
@[simp] theorem State.sendPkt_srch (s : State) (p : Packet) : (s.sendPkt p).srch = s.srch := rfl
@[simp] theorem State.sendPkt_tbl (s : State) (p : Packet) : (s.sendPkt p).tbl = s.tbl := rfl
@[simp] theorem State.sendPkt_learn (s : State) (p : Packet) : (s.sendPkt p).learn = s.learn := rfl
@[simp] theorem State.sendPkt_jrnl (s : State) (p : Packet) : (s.sendPkt p).jrnl = s.jrnl := rfl
@[simp] theorem State.sendPkt_cores (s : State) (p : Packet) : (s.sendPkt p).cores = s.cores := rfl
@[simp] theorem State.sendPkt_slots (s : State) (p : Packet) : (s.sendPkt p).slots = s.slots := rfl
@[simp] theorem State.sendPkt_strm (s : State) (p : Packet) : (s.sendPkt p).strm = s.strm := rfl
@[simp] theorem State.sendPkt_guard (s : State) (p : Packet) : (s.sendPkt p).guard = s.guard := rfl
@[simp] theorem State.sendPkt_settings (s : State) (p : Packet) : (s.sendPkt p).settings = s.settings := rfl
@[simp] theorem State.sendPkt_otp (s : State) (p : Packet) : (s.sendPkt p).otp = s.otp := rfl
@[simp] theorem State.sendPkt_pins (s : State) (p : Packet) : (s.sendPkt p).pins = s.pins := rfl
@[simp] theorem State.sendPkt_free (s : State) (p : Packet) : (s.sendPkt p).free = s.free := rfl

/-! ### State.dmaWrite -/

@[simp] theorem State.dmaWrite_pending (s : State) (addr : Nat) (data : List Byte) : (s.dmaWrite addr data).pending = s.pending := by
  unfold State.dmaWrite; split <;> rfl
@[simp] theorem State.dmaWrite_regs (s : State) (addr : Nat) (data : List Byte) : (s.dmaWrite addr data).regs = s.regs := by
  unfold State.dmaWrite; split <;> rfl
@[simp] theorem State.dmaWrite_mem (s : State) (addr : Nat) (data : List Byte) : (s.dmaWrite addr data).mem = s.mem := by
  unfold State.dmaWrite; split <;> rfl
@[simp] theorem State.dmaWrite_eupex (s : State) (addr : Nat) (data : List Byte) : (s.dmaWrite addr data).eupex = s.eupex := by
  unfold State.dmaWrite; split <;> rfl
@[simp] theorem State.dmaWrite_clk (s : State) (addr : Nat) (data : List Byte) : (s.dmaWrite addr data).clk = s.clk := by
  unfold State.dmaWrite; split <;> rfl
@[simp] theorem State.dmaWrite_pwr (s : State) (addr : Nat) (data : List Byte) : (s.dmaWrite addr data).pwr = s.pwr := by
  unfold State.dmaWrite; split <;> rfl
@[simp] theorem State.dmaWrite_heat (s : State) (addr : Nat) (data : List Byte) : (s.dmaWrite addr data).heat = s.heat := by
  unfold State.dmaWrite; split <;> rfl
@[simp] theorem State.dmaWrite_integ (s : State) (addr : Nat) (data : List Byte) : (s.dmaWrite addr data).integ = s.integ := by
  unfold State.dmaWrite; split <;> rfl
@[simp] theorem State.dmaWrite_chain (s : State) (addr : Nat) (data : List Byte) : (s.dmaWrite addr data).chain = s.chain := by
  unfold State.dmaWrite; split <;> rfl
@[simp] theorem State.dmaWrite_srch (s : State) (addr : Nat) (data : List Byte) : (s.dmaWrite addr data).srch = s.srch := by
  unfold State.dmaWrite; split <;> rfl
@[simp] theorem State.dmaWrite_tbl (s : State) (addr : Nat) (data : List Byte) : (s.dmaWrite addr data).tbl = s.tbl := by
  unfold State.dmaWrite; split <;> rfl
@[simp] theorem State.dmaWrite_learn (s : State) (addr : Nat) (data : List Byte) : (s.dmaWrite addr data).learn = s.learn := by
  unfold State.dmaWrite; split <;> rfl
@[simp] theorem State.dmaWrite_jrnl (s : State) (addr : Nat) (data : List Byte) : (s.dmaWrite addr data).jrnl = s.jrnl := by
  unfold State.dmaWrite; split <;> rfl
@[simp] theorem State.dmaWrite_cores (s : State) (addr : Nat) (data : List Byte) : (s.dmaWrite addr data).cores = s.cores := by
  unfold State.dmaWrite; split <;> rfl
@[simp] theorem State.dmaWrite_slots (s : State) (addr : Nat) (data : List Byte) : (s.dmaWrite addr data).slots = s.slots := by
  unfold State.dmaWrite; split <;> rfl
@[simp] theorem State.dmaWrite_strm (s : State) (addr : Nat) (data : List Byte) : (s.dmaWrite addr data).strm = s.strm := by
  unfold State.dmaWrite; split <;> rfl
@[simp] theorem State.dmaWrite_guard (s : State) (addr : Nat) (data : List Byte) : (s.dmaWrite addr data).guard = s.guard := by
  unfold State.dmaWrite; split <;> rfl
@[simp] theorem State.dmaWrite_settings (s : State) (addr : Nat) (data : List Byte) : (s.dmaWrite addr data).settings = s.settings := by
  unfold State.dmaWrite; split <;> rfl
@[simp] theorem State.dmaWrite_otp (s : State) (addr : Nat) (data : List Byte) : (s.dmaWrite addr data).otp = s.otp := by
  unfold State.dmaWrite; split <;> rfl
@[simp] theorem State.dmaWrite_pins (s : State) (addr : Nat) (data : List Byte) : (s.dmaWrite addr data).pins = s.pins := by
  unfold State.dmaWrite; split <;> rfl
@[simp] theorem State.dmaWrite_free (s : State) (addr : Nat) (data : List Byte) : (s.dmaWrite addr data).free = s.free := by
  unfold State.dmaWrite; split <;> rfl

/-! ### State.aer -/

@[simp] theorem State.aer_pending (s : State) (e : AerError) : (s.aer e).pending = s.pending := by
  unfold State.aer State.aerBit; split <;> split <;> rfl
@[simp] theorem State.aer_regs (s : State) (e : AerError) : (s.aer e).regs = s.regs := by
  unfold State.aer State.aerBit; split <;> split <;> rfl
@[simp] theorem State.aer_mem (s : State) (e : AerError) : (s.aer e).mem = s.mem := by
  unfold State.aer State.aerBit; split <;> split <;> rfl
@[simp] theorem State.aer_eupex (s : State) (e : AerError) : (s.aer e).eupex = s.eupex := by
  unfold State.aer State.aerBit; split <;> split <;> rfl
@[simp] theorem State.aer_clk (s : State) (e : AerError) : (s.aer e).clk = s.clk := by
  unfold State.aer State.aerBit; split <;> split <;> rfl
@[simp] theorem State.aer_pwr (s : State) (e : AerError) : (s.aer e).pwr = s.pwr := by
  unfold State.aer State.aerBit; split <;> split <;> rfl
@[simp] theorem State.aer_heat (s : State) (e : AerError) : (s.aer e).heat = s.heat := by
  unfold State.aer State.aerBit; split <;> split <;> rfl
@[simp] theorem State.aer_integ (s : State) (e : AerError) : (s.aer e).integ = s.integ := by
  unfold State.aer State.aerBit; split <;> split <;> rfl
@[simp] theorem State.aer_chain (s : State) (e : AerError) : (s.aer e).chain = s.chain := by
  unfold State.aer State.aerBit; split <;> split <;> rfl
@[simp] theorem State.aer_srch (s : State) (e : AerError) : (s.aer e).srch = s.srch := by
  unfold State.aer State.aerBit; split <;> split <;> rfl
@[simp] theorem State.aer_tbl (s : State) (e : AerError) : (s.aer e).tbl = s.tbl := by
  unfold State.aer State.aerBit; split <;> split <;> rfl
@[simp] theorem State.aer_learn (s : State) (e : AerError) : (s.aer e).learn = s.learn := by
  unfold State.aer State.aerBit; split <;> split <;> rfl
@[simp] theorem State.aer_jrnl (s : State) (e : AerError) : (s.aer e).jrnl = s.jrnl := by
  unfold State.aer State.aerBit; split <;> split <;> rfl
@[simp] theorem State.aer_cores (s : State) (e : AerError) : (s.aer e).cores = s.cores := by
  unfold State.aer State.aerBit; split <;> split <;> rfl
@[simp] theorem State.aer_slots (s : State) (e : AerError) : (s.aer e).slots = s.slots := by
  unfold State.aer State.aerBit; split <;> split <;> rfl
@[simp] theorem State.aer_strm (s : State) (e : AerError) : (s.aer e).strm = s.strm := by
  unfold State.aer State.aerBit; split <;> split <;> rfl
@[simp] theorem State.aer_guard (s : State) (e : AerError) : (s.aer e).guard = s.guard := by
  unfold State.aer State.aerBit; split <;> split <;> rfl
@[simp] theorem State.aer_settings (s : State) (e : AerError) : (s.aer e).settings = s.settings := by
  unfold State.aer State.aerBit; split <;> split <;> rfl
@[simp] theorem State.aer_otp (s : State) (e : AerError) : (s.aer e).otp = s.otp := by
  unfold State.aer State.aerBit; split <;> split <;> rfl
@[simp] theorem State.aer_pins (s : State) (e : AerError) : (s.aer e).pins = s.pins := by
  unfold State.aer State.aerBit; split <;> split <;> rfl
@[simp] theorem State.aer_free (s : State) (e : AerError) : (s.aer e).free = s.free := by
  unfold State.aer State.aerBit; split <;> split <;> rfl

end Sys2Proof.Machine
end

