-- ==== Sys2Proof/Laws/Regs.lean ====
section
/-! SUPPORT. Laws of the register file: a field reads what was last written to it, and every other field is left alone. -/

namespace Sys2Proof.Machine
open Reg

theorem State.rdi_wri_same (s : State) (f : Fld) (i v : Nat) : (s.wri f i v).rdi f i = v % 2 ^ f.width := by
  unfold State.rdi State.wri
  rw [storeGetD_set_same, Nat.xor_assoc, Nat.xor_self, Nat.xor_zero]

theorem State.rdi_wri_other (s : State) {f g : Fld} {i j : Nat} (v : Nat) (h : fldKey g j ≠ fldKey f i) :
    (s.wri f i v).rdi g j = s.rdi g j := by
  unfold State.rdi State.wri
  rw [storeGetD_set_other _ _ _ _ h]

theorem State.rd_wr_same (s : State) (f : Fld) (v : Nat) : (s.wr f v).rd f = v % 2 ^ f.width :=
  s.rdi_wri_same f 0 v

theorem State.rd_wr_other (s : State) {f g : Fld} (v : Nat) (h : fldKey g 0 ≠ fldKey f 0) : (s.wr f v).rd g = s.rd g :=
  s.rdi_wri_other v h

theorem State.rdi_wr_other (s : State) {f g : Fld} {j : Nat} (v : Nat) (h : fldKey g j ≠ fldKey f 0) :
    (s.wr f v).rdi g j = s.rdi g j :=
  s.rdi_wri_other v h

/-- An event counter after one more event: it stays at its all-ones value (R13). -/
theorem State.rdi_addi_same (s : State) (f : Fld) (i n : Nat) :
    (s.addi f i n).rdi f i = min (s.rdi f i + n) (2 ^ f.width - 1) := by
  unfold State.addi
  rw [State.rdi_wri_same]
  exact Nat.mod_eq_of_lt (by have := Nat.two_pow_pos f.width; omega)

theorem State.rdi_addi_other (s : State) {f g : Fld} {i j : Nat} (n : Nat) (h : fldKey g j ≠ fldKey f i) :
    (s.addi f i n).rdi g j = s.rdi g j :=
  s.rdi_wri_other _ h

theorem State.rdi_setBit_other (s : State) {f g : Fld} {i j : Nat} (k : Nat) (b : Bool) (h : fldKey g j ≠ fldKey f i) :
    (s.setBit f i k b).rdi g j = s.rdi g j :=
  s.rdi_wri_other _ h

/-- Two states with the same register file give the same value of every field. -/
theorem State.rdi_congr {s t : State} (h : s.regs = t.regs) (f : Fld) (i : Nat) : s.rdi f i = t.rdi f i := by
  unfold State.rdi; rw [h]

/-- Registers at the values they hold when START has completed: an empty file. -/
theorem State.rdi_of_empty {s : State} (h : s.regs = []) (f : Fld) (i : Nat) : s.rdi f i = fldReset f i := by
  unfold State.rdi; rw [h, storeGetD_nil, Nat.zero_xor]

/-! ### The canonical form at the end of a command -/

@[simp] theorem State.rdi_settled (s : State) (f : Fld) (i : Nat) : s.settled.rdi f i = s.rdi f i := by
  unfold State.rdi State.settled
  exact congrArg (· ^^^ fldReset f i) (storeCanon_get (fun _ => 0) s.regs (fldKey f i))

@[simp] theorem State.rd_settled (s : State) (f : Fld) : s.settled.rd f = s.rd f := s.rdi_settled f 0

@[simp] theorem State.memByte_settled (s : State) (a : Nat) : memByte s.settled.mem a = memByte s.mem a :=
  storeCanon_get Memory.fill s.mem a

theorem State.bar2Get_settled (s : State) (off n : Nat) : s.settled.bar2Get off n = s.bar2Get off n :=
  memBytes_congr (fun _ _ => s.memByte_settled _)

/-- The memories and the register file after a command are in canonical form. -/
theorem State.settled_canonical (s : State) : s.settled.mem.wf ∧ storeWf 0 s.settled.regs :=
  ⟨storeCanon_ok Memory.fill s.mem, storeCanon_ok (fun _ => 0) s.regs⟩

/-- A state in canonical form is left as it is. -/
theorem State.settled_of_canonical (s : State) (hm : s.mem.wf) (hr : storeWf 0 s.regs) : s.settled = s := by
  unfold State.settled
  rw [storeCanon_of_ok (dflt := Memory.fill) hm, storeCanon_of_ok (dflt := fun _ => 0) hr]

theorem State.wri_canonical {s : State} (f : Fld) (i v : Nat) (h : storeWf 0 s.regs) : storeWf 0 (s.wri f i v).regs :=
  storeOk_set (dflt := fun _ => 0) _ _ h

/-! ### The end of a command -/

theorem ok_eq (s : State) : ok s = .next s.settled := rfl

theorem ok_next {s t : State} (h : ok s = .next t) : t = s.settled := by
  rw [ok_eq] at h; injection h with h; exact h.symm

theorem ok_not_fault (s : State) (e : Fault) : ok s ≠ .fault e := by simp [ok]

theorem ok_not_refused (s : State) (e : Refusal) : ok s ≠ .refused e := by simp [ok]

end Sys2Proof.Machine
end

