-- ==== Sys2Proof/Laws/Access.lean ====
section
/-! SUPPORT. What a register write that has an operation of its own does, at each level of control. -/

namespace Sys2Proof.Machine
open Reg

@[simp] theorem touchLink_discards (s : State) : s.touchLink.discards = s.discards := by
  unfold State.touchLink; split <;> rfl

@[simp] theorem touchLink_regs (s : State) : s.touchLink.regs = s.regs := by
  unfold State.touchLink; split <;> rfl

@[simp] theorem touchLink_mem (s : State) : s.touchLink.mem = s.mem := by
  unfold State.touchLink; split <;> rfl

@[simp] theorem touchLink_hostOwns (s : State) (b : Nat) : s.touchLink.hostOwns b = s.hostOwns b := by
  unfold State.touchLink; split <;> rfl

/-- A follower discards a register write from its host link (R26). -/
theorem regOp_discarded {s : State} {off : Nat} {w : RegWord} (act : State → State) (h : s.discards = true) :
    s.regOp off w act = s.touchLink := by
  simp [State.regOp, h]

/-- In a block that the host owns, the operation runs after the register's W1C fields have acted (R190). -/
theorem regOp_landed {s u : State} {off : Nat} {w : RegWord} (act : State → State)
    (h : s.discards = false ∧ s.hostOwns (off / 4096) = true ∧ u = ((s.arrive off).wrW1C off w).noteReserved off w) :
    s.regOp off w act = act u := by
  obtain ⟨h1, h2, rfl⟩ := h
  simp [State.regOp, h1, h2]

/-- In a block that the host does not own, only the W1C and statistics-clear fields act (R189). -/
theorem regOp_basic {s u : State} {off : Nat} {w : RegWord} (act : State → State)
    (h : s.discards = false ∧ s.hostOwns (off / 4096) = false ∧ u = ((s.arrive off).wrW1C off w).noteReserved off w) :
    s.regOp off w act = u.basicWrite off w := by
  obtain ⟨h1, h2, rfl⟩ := h
  simp [State.regOp, h1, h2]

end Sys2Proof.Machine
end

