-- ==== Sys2Proof/Laws/Frames.lean ====
section
/-! SUPPORT. What the shared operations leave as it was: one frame lemma for each, which a frame of a command composes. -/

namespace Sys2Proof.Machine
open Reg

variable {P : List Part} {R : Nat → Bool} {lo hi : Nat} {s t u : State}

theorem Frame.refl : Frame P R lo hi s s :=
  ⟨fun p _ => by cases p <;> rfl, fun _ _ => rfl, fun _ _ _ => rfl⟩

theorem PartKept.trans {p : Part} (h : PartKept s t p) (k : PartKept t u p) : PartKept s u p := by
  cases p <;> exact Eq.trans k h

theorem Frame.trans (h : Frame P R lo hi s t) (k : Frame P R lo hi t u) : Frame P R lo hi s u :=
  ⟨fun p hp => (h.parts p hp).trans (k.parts p hp), fun i hi => (k.regs i hi).trans (h.regs i hi),
    fun a h1 h2 => (k.mem a h1 h2).trans (h.mem a h1 h2)⟩

/-- A frame that allows less is a frame that allows more. -/
theorem Frame.mono {Q : List Part} {S : Nat → Bool} {lo' hi' : Nat} (h : Frame Q S lo' hi' s t)
    (hp : ∀ p, P.contains p = false → Q.contains p = false) (hr : ∀ k, R k = false → S k = false)
    (hl : lo ≤ lo') (hh : hi' ≤ hi) : Frame P R lo hi s t :=
  ⟨fun p k => h.parts p (hp p k), fun i k => h.regs i (hr _ k),
    fun a h1 h2 => h.mem a (by omega) (by omega)⟩

/-- A change that leaves the registers and the memories and only parts of `P`. -/
theorem Frame.of_parts (hr : t.regs = s.regs) (hm : t.mem = s.mem) (hp : ∀ p, P.contains p = false → PartKept s t p) :
    Frame P R lo hi s t :=
  ⟨hp, fun _ _ => by rw [hr], fun _ _ _ => by rw [hm]⟩

/-- A change of the memories alone. -/
theorem frame_mem (m : Memory) (h : ∀ a, ¬(dataBase sidBar2 0 + lo ≤ a ∧ a < dataBase sidBar2 0 + hi) →
    ¬(checkBase sidBar2 0 + lo / 8 ≤ a ∧ a < checkBase sidBar2 0 + hi / 8) → memByte m a = memByte s.mem a) :
    Frame P R lo hi s { s with mem := m } :=
  ⟨fun p _ => by cases p <;> rfl, fun _ _ => rfl, h⟩

/-- The state after `ok` holds what the state before held. -/
theorem frame_settled : Frame P R lo hi s s.settled :=
  ⟨fun p _ => by cases p <;> rfl, fun k _ => storeCanon_get (fun _ => 0) s.regs k, fun a _ _ => State.memByte_settled s a⟩

/-! ### Registers -/

theorem frame_wri {f : Fld} {i : Nat} (v : Nat) (h : R (fldKey f i / 131072) = true) :
    Frame P R lo hi s (s.wri f i v) := by
  refine ⟨fun p _ => by cases p <;> rfl, fun k hk => ?_, fun _ _ _ => rfl⟩
  refine storeGetD_set_other _ _ _ _ ?_
  rintro rfl
  rw [h] at hk; cases hk

theorem frame_wr {f : Fld} (v : Nat) (h : R (fldKey f 0 / 131072) = true) : Frame P R lo hi s (s.wr f v) :=
  frame_wri v h

theorem frame_addi {f : Fld} {i : Nat} (n : Nat) (h : R (fldKey f i / 131072) = true) :
    Frame P R lo hi s (s.addi f i n) := frame_wri _ h

theorem frame_inc {f : Fld} (h : R (fldKey f 0 / 131072) = true) : Frame P R lo hi s (s.inc f) := frame_wri _ h

theorem frame_setBit {f : Fld} {i : Nat} (k : Nat) (b : Bool) (h : R (fldKey f i / 131072) = true) :
    Frame P R lo hi s (s.setBit f i k b) := frame_wri _ h

/-- A list of steps that each keep a frame keep it together. -/
theorem frame_foldl {α : Type} (f : State → α → State) (l : List α) (h : ∀ s a, a ∈ l → Frame P R lo hi s (f s a)) (s : State) :
    Frame P R lo hi s (l.foldl f s) := by
  induction l generalizing s with
  | nil => exact .refl
  | cons a l ih =>
    exact (h s a List.mem_cons_self).trans (ih (fun s b hb => h s b (List.mem_cons_of_mem _ hb)) _)

/-! ### Memory -/

/-- A byte string of BAR2 RAM on 8-byte words changes only its words. -/
theorem mem_putBytes (m : Memory) (off : Nat) (bs : List (Option Byte)) (h1 : lo ≤ off) (h2 : off + bs.length ≤ hi)
    (h3 : lo % 8 = 0) (h4 : hi % 8 = 0) (a : Nat) (ha : ¬(dataBase sidBar2 0 + lo ≤ a ∧ a < dataBase sidBar2 0 + hi))
    (hb : ¬(checkBase sidBar2 0 + lo / 8 ≤ a ∧ a < checkBase sidBar2 0 + hi / 8)) :
    memByte (putBytes m sidBar2 off bs) a = memByte m a :=
  putBytes_out _ _ _ _ rfl _ (by omega) (by omega)

/-- A flipped word of BAR2 RAM is the only word that changes. -/
theorem mem_flipCopy (m : Memory) (c ui w data chk : Nat) (h1 : lo ≤ 8 * ui) (h2 : 8 * ui + 8 ≤ hi) (h3 : lo % 8 = 0) (h4 : hi % 8 = 0)
    (hc : c = 0) (a : Nat)
    (ha : ¬(dataBase sidBar2 0 + lo ≤ a ∧ a < dataBase sidBar2 0 + hi))
    (hb : ¬(checkBase sidBar2 0 + lo / 8 ≤ a ∧ a < checkBase sidBar2 0 + hi / 8)) :
    memByte (flipCopy m sidBar2 c ui w data chk) a = memByte m a := by
  subst hc
  simp only [flipCopy, show unit32 sidBar2 = false from rfl, Bool.false_eq_true, if_false, putWordRaw]
  rw [memByte_set_other _ _ (by omega), memByte_setBytes_out]
  simp only [List.length_take, List.length_zipWith, memBytes_length]
  omega

/-! ### Events and their interrupts -/

/-- A frame that admits what an event may reach. -/
structure EventFrame (P : List Part) (R : Nat → Bool) (lo hi : Nat) : Prop where
  parts : ∀ p, P.contains p = false → eventParts.contains p = false
  pages : ∀ k, R k = false → eventPages.contains k = false
  lo : lo ≤ 0x2000
  hi : 0x3000 ≤ hi

/-- What stays within an event's reach stays within any frame that admits it. -/
theorem Frame.of_event (h : EventFrame P R lo hi) (k : Frame eventParts eventPages.contains 0x2000 0x3000 s t) : Frame P R lo hi s t :=
  k.mono h.parts h.pages h.lo h.hi

theorem frame_vector (v : Nat) : Frame eventParts eventPages.contains 0x2000 0x3000 s (s.sendVector v) := by
  unfold State.sendVector
  split
  · exact frame_setBit _ _ (by decide)
  · split <;> exact .of_parts rfl rfl (fun p hp => by cases p <;> first | rfl | cases hp)

theorem frame_source (i : Nat) : Frame eventParts eventPages.contains 0x2000 0x3000 s (s.raiseSource i) := frame_vector _

/-- The event's own reach admits itself. -/
theorem EventFrame.own : EventFrame eventParts eventPages.contains 0x2000 0x3000 :=
  ⟨fun _ h => h, fun _ h => h, Nat.le_refl _, Nat.le_refl _⟩

/-- An event bit, with the interrupt that it may raise. -/
theorem frame_setEvent (e : EventFrame P R lo hi) {f : Fld} {i : Nat} (k : Nat)
    (h : R (fldKey f i / 131072) = true) : Frame P R lo hi s (s.setEvent f i k) := by
  unfold State.setEvent State.irqFrom
  refine (frame_setBit (s := s) k true h).trans ?_
  split
  · exact .of_event e (frame_source 0)
  · exact .refl

theorem frame_flipSpent (off : Nat) : Frame eventParts eventPages.contains 0x2000 0x3000 s (s.flipSpent off) :=
  ((frame_wr 0 (by decide)).trans (frame_wr off (by decide))).trans (frame_setEvent .own 0 (by decide))

theorem frame_forget (sid a b : Nat) : Frame eventParts eventPages.contains 0x2000 0x3000 s (s.forget sid a b) := by
  unfold State.forget
  dsimp only
  split
  · exact .refl
  · refine Frame.trans ?_ ((frame_wr _ (by decide)).trans (frame_wr _ (by decide)))
    exact .of_parts rfl rfl (fun p hp => by cases p <;> first | rfl | cases hp)

/-- A byte string stored in BAR2 RAM on whole words: its words, the seen list's keys of them and an armed flip-mask change. -/
theorem frame_bar2Put (e : EventFrame P R lo hi) (off : Nat) (bs : List Byte) (h1 : lo ≤ off) (h2 : off + bs.length ≤ hi)
    (h3 : lo % 8 = 0) (h4 : hi % 8 = 0) : Frame P R lo hi s (s.bar2Put off bs) := by
  unfold State.bar2Put State.storeBytes
  split
  · exact .refl
  · rename_i k hk
    have hk' : k < bs.length := by
      have := List.findIdx?_eq_some_iff_getElem.1 hk
      simpa using this.1
    refine ((frame_mem (putBytes s.mem sidBar2 off (bs.map some)) ?_).trans (.of_event e
      (frame_forget sidBar2 (off + k) (off + (bs.map some).length)))).trans ?_
    · exact fun a ha hb => mem_putBytes _ _ _ h1 (by simpa using h2) h3 h4 a ha hb
    · unfold State.fireFlip
      dsimp only
      split
      · refine (frame_mem _ ?_).trans (.of_event e (frame_flipSpent _))
        intro a ha hb
        generalize State.rd _ INTEG_FLIP_SEL_flip_word = w
        exact mem_flipCopy _ 0 _ w _ _ (by omega) (by omega) h3 h4 rfl a ha hb
      · exact .refl

/-- A packet queued for the chain, and counted. -/
theorem frame_sendPkt (x : Packet) : Frame eventParts eventPages.contains 0x2000 0x3000 s (s.sendPkt x) := by
  unfold State.sendPkt
  refine Frame.trans ?_ (frame_inc (by decide))
  exact .of_parts rfl rfl (fun p hp => by cases p <;> first | rfl | cases hp)

/-- An event's record: written into the event ring, sent to the head, held for room, or counted as lost. -/
theorem frame_postEvent (r : EventRec) : Frame eventParts eventPages.contains 0x2000 0x3000 s (s.postEvent r) := by
  unfold State.postEvent
  split
  · exact frame_sendPkt _
  · split
    · unfold State.writeEvent
      dsimp only
      have hb : (eventBody r).length = 56 := by simp [eventBody, padTo, leBytes]; omega
      have hw : Frame eventParts eventPages.contains 0x2000 0x3000 s
          (((s.bar2Put (0x2000 + 0x40 * (s.rd MBX_EVT_STATUS_evt_written % 64)) (eventBody r)).bar2Put
            (0x2000 + 0x40 * (s.rd MBX_EVT_STATUS_evt_written % 64) + 0x38) (leBytes 8 (s.rd MBX_EVT_STATUS_evt_written))).wr
            MBX_EVT_STATUS_evt_written ((s.rd MBX_EVT_STATUS_evt_written + 1) % 65536)) :=
        ((frame_bar2Put .own _ _ (by omega) (by omega) rfl rfl).trans
          (frame_bar2Put .own _ _ (by omega) (by simp [leBytes]; omega) rfl rfl)).trans (frame_wr _ (by decide))
      split
      · exact hw.trans (frame_source 1)
      · exact hw
    · split
      · exact .of_parts rfl rfl (fun p hp => by cases p <;> first | rfl | cases hp)
      · refine Frame.trans (Frame.trans ?_ (frame_inc (by decide))) (frame_setEvent .own 0 (by decide))
        exact .of_parts rfl rfl (fun p hp => by cases p <;> first | rfl | cases hp)

theorem frame_smbCause (b : Nat) : Frame eventParts eventPages.contains 0x2000 0x3000 s (s.smbCause b) := by
  unfold State.smbCause
  dsimp only
  split
  · exact .refl
  · refine (frame_setBit (f := PIN_SMB_CAUSE_cause) (i := 0) b true (by decide)).trans ?_
    split
    · exact .of_parts rfl rfl (fun p hp => by cases p <;> first | rfl | cases hp)
    · exact .refl

/-- An event whose bit has been set: its interrupt, its alert and its record. -/
theorem frame_raised (f : Fld) (i k : Nat) : Frame eventParts eventPages.contains 0x2000 0x3000 (s.setBit f i k true) (s.raiseAt f i k) := by
  have h0 : Frame eventParts eventPages.contains 0x2000 0x3000 (s.setBit f i k true) (s.setEvent f i k) := by
    unfold State.setEvent State.irqFrom
    split
    · exact frame_source 0
    · exact .refl
  have h1 : Frame eventParts eventPages.contains 0x2000 0x3000 (s.setBit f i k true)
      (if f.base = 0x1030 then s.alertFrom (s.setEvent f i k) else s.setEvent f i k) := by
    split
    · unfold State.alertFrom
      split
      · exact h0.trans (frame_smbCause 3)
      · exact h0
    · exact h0
  unfold State.raiseAt
  dsimp only
  split
  · exact h1
  · split
    · exact h1.trans (frame_postEvent _)
    · exact h1

/-- An event: its bit, its interrupt, its alert and its record. -/
theorem frame_raiseAt (e : EventFrame P R lo hi) {f : Fld} {i : Nat} (k : Nat)
    (h : R (fldKey f i / 131072) = true) : Frame P R lo hi s (s.raiseAt f i k) :=
  (frame_setBit k true h).trans (.of_event e (frame_raised f i k))

/-- An event leaves every register field but its own bit's and those that an event reaches. -/
theorem raise_rdi {f g : Fld} {i j : Nat} (h : fldKey g j ≠ fldKey f i) (hg : eventPages.contains (fldKey g j / 131072) = false) :
    (s.raisei f i).rdi g j = s.rdi g j := by
  have := (frame_raised (s := s) f i 0).regs _ hg
  rw [show (s.raisei f i).rdi g j = (s.setBit f i 0 true).rdi g j from ?_, State.rdi_setBit_other _ _ _ h]
  simp only [State.rdi, State.raisei, this]

theorem frame_raise (e : EventFrame P R lo hi) {f : Fld} (h : R (fldKey f 0 / 131072) = true) :
    Frame P R lo hi s (s.raise f) := frame_raiseAt e 0 h

theorem frame_raisei (e : EventFrame P R lo hi) {f : Fld} {i : Nat} (h : R (fldKey f i / 131072) = true) :
    Frame P R lo hi s (s.raisei f i) := frame_raiseAt e 0 h

theorem frame_postFw (code block : Nat) (payload : List Byte) :
    Frame eventParts eventPages.contains 0x2000 0x3000 s (s.postFw code block payload) := frame_postEvent _

/-! ### Events that post no record, and the reports of the integrity block -/

/-- A frame that admits what a report reaches: the integrity block, its interrupt and GLB's events. -/
structure ReportFrame (P : List Part) (R : Nat → Bool) : Prop where
  host : P.contains .host = true
  integ : P.contains .integ = true
  integPage : R 0x0D = true
  pba : R 0x21 = true

theorem ReportFrame.event : ReportFrame eventParts eventPages.contains := ⟨rfl, rfl, rfl, rfl⟩

/-- A new value of the host link's part. -/
theorem frame_host (h : P.contains .host = true) (x : HostLink) : Frame P R lo hi s { s with host := x } :=
  .of_parts rfl rfl (fun p hp => by cases p <;> first | rfl | (rw [h] at hp; cases hp))

/-- A new value of the integrity part. -/
theorem frame_integ (h : P.contains .integ = true) (x : Integ) : Frame P R lo hi s { s with integ := x } :=
  .of_parts rfl rfl (fun p hp => by cases p <;> first | rfl | (rw [h] at hp; cases hp))

/-- The interrupt of an event bit. -/
theorem frame_vectorOnly (hP : P.contains .host = true) (hR : R 0x21 = true) (v : Nat) : Frame P R lo hi s (s.sendVector v) := by
  unfold State.sendVector
  split
  · exact frame_setBit (f := MSIX_PBA_pending) (i := 0) v true hR
  · split <;> exact frame_host hP _

/-- An event that posts no record: its bit and its interrupt. -/
theorem frame_quiet (hP : P.contains .host = true) (hR : R 0x21 = true) {f : Fld} {i : Nat} (h : R (fldKey f i / 131072) = true)
    (hb : f.base ≠ 0x1030) (hq : s.postsRecord (f.base / 4096) f.lo = false) : Frame P R lo hi s (s.raisei f i) := by
  unfold State.raisei State.raiseAt State.setEvent State.irqFrom
  simp only [hb, if_false, Nat.add_zero, hq, Bool.false_eq_true, ite_self]
  split
  · exact (frame_setBit 0 true h).trans (frame_vectorOnly hP hR _)
  · exact frame_setBit 0 true h

/-- The blocks whose events post no record. -/
theorem postsRecord_quiet {b : Nat} (k : Nat) (h : [1, 2, 3, 6, 7, 16].contains b = false) : s.postsRecord b k = false := by
  simp only [List.contains_cons, List.contains_nil, Bool.or_false, Bool.or_eq_false_iff, beq_eq_false_iff_ne] at h
  unfold State.postsRecord
  simp [h]

/-- An event of the integrity block. -/
theorem frame_integEvent (e : ReportFrame P R) {f : Fld} (h : f.base / 4096 = 0x0D) (hk : fldKey f 0 / 131072 = 0x0D) :
    Frame P R lo hi s (s.raise f) :=
  frame_quiet e.host e.pba (by rw [hk]; exact e.integPage) (by omega) (postsRecord_quiet _ (by rw [h]; rfl))

/-! ### Integrity events -/

theorem frame_putLog (e : ReportFrame P R) (n : Nat) (k : Nat) (bs : List Byte) (hn : bs.length = 4 * n) (hk : k + n ≤ 512) :
    Frame P R lo hi s (s.putLog k bs) := by
  induction n generalizing s k bs with
  | zero =>
    obtain rfl : bs = [] := List.length_eq_zero_iff.1 (by omega)
    exact .refl
  | succ n ih =>
    match bs, hn with
    | b0 :: b1 :: b2 :: b3 :: bs, hn =>
      refine (frame_wri (f := INTEG_LOG_record) (i := k) (leNat [b0, b1, b2, b3]) ?_).trans (ih _ _ (by simp at hn; omega) (by omega))
      have : fldKey INTEG_LOG_record k / 131072 = 0x0D := by simp [fldKey, INTEG_LOG_record]; omega
      rw [this]; exact e.integPage

theorem sidIndex_lt {sid j : Nat} (h : sidIndex sid = some j) : j < 21 := by
  unfold sidIndex at h
  split at h <;> first | (cases h; decide) | cases h

theorem frame_integReg (e : ReportFrame P R) {f : Fld} {i : Nat} (v : Nat) (h : fldKey f i / 131072 = 0x0D) :
    Frame P R lo hi s (s.wri f i v) := frame_wri v (by rw [h]; exact e.integPage)

theorem frame_logRecord (e : ReportFrame P R) (r : Report) : Frame P R lo hi s (s.logRecord r) := by
  unfold State.logRecord
  dsimp only
  split
  · exact (frame_putLog e 8 _ _ (by simp [logBytes, leBytes]) (by omega)).trans
      (frame_integReg (f := INTEG_LOG_STATUS_written) (i := 0) e _ (by decide))
  · exact ((frame_integReg (f := INTEG_LOG_LOST_log_lost) (i := 0) e _ (by decide)).trans (frame_integ e.integ _)).trans
      (frame_integEvent e (by decide) (by decide))

theorem frame_noteSeen (e : ReportFrame P R) (key : SeenKey) : Frame P R lo hi s (s.noteSeen key) := by
  unfold State.noteSeen
  split
  · exact ((frame_integ e.integ _).trans (frame_integReg (f := INTEG_STATUS_seen_count) (i := 0) e _ (by decide))).trans
      (frame_integReg (f := INTEG_STATUS_seen_full) (i := 0) e _ (by decide))
  · exact .refl

theorem frame_countSid (e : ReportFrame P R) (r : Report) : Frame P R lo hi s (s.countSid r) := by
  unfold State.countSid
  split
  · exact .refl
  · rename_i j hj
    have hj := sidIndex_lt hj
    have p1 : fldKey INTEG_SID_COUNT_sid_corr j / 131072 = 0x0D := by simp [fldKey, INTEG_SID_COUNT_sid_corr]; omega
    have p2 : fldKey INTEG_SID_COUNT_sid_uncorr j / 131072 = 0x0D := by simp [fldKey, INTEG_SID_COUNT_sid_uncorr]; omega
    split
    · exact frame_integReg e _ p1
    · split
      · exact frame_integReg e _ p2
      · exact .refl

/-- An integrity event changes the seen list, the log, its counters and its event, and no memory (R592). -/
theorem frame_report (e : ReportFrame P R) (r : Report) : Frame P R lo hi s (s.report r) := by
  unfold State.report
  dsimp only
  split
  · exact (frame_integReg (f := INTEG_REPEAT_COUNT_repeat_count) (i := 0) e _ (by decide)).trans (frame_integ e.integ _)
  · have f3 : Frame P R lo hi s (((s.noteSeen ⟨r.sid, r.offset, r.kind⟩).logRecord r).countSid r) :=
      ((frame_noteSeen e _).trans (frame_logRecord e r)).trans (frame_countSid e r)
    generalize ((s.noteSeen ⟨r.sid, r.offset, r.kind⟩).logRecord r).countSid r = s3 at f3 ⊢
    split
    · exact (f3.trans ((frame_integReg (f := INTEG_CORR_COUNT_corr_count) (i := 0) e _ (by decide)).trans
        (frame_integ e.integ _))).trans (frame_integEvent e (by decide) (by decide))
    · split
      · exact (f3.trans ((frame_integReg (f := INTEG_POISON_COUNT_poison_bites) (i := 0) e _ (by decide)).trans
          (frame_integ e.integ _))).trans (frame_integEvent e (by decide) (by decide))
      · exact (f3.trans ((frame_integReg (f := INTEG_UNCORR_COUNT_uncorr_count) (i := 0) e _ (by decide)).trans
          (frame_integ e.integ _))).trans (frame_integEvent e (by decide) (by decide))

theorem frame_bite (e : ReportFrame P R) (sid detector offset detail : Nat) :
    Frame P R lo hi s (s.bite sid detector offset detail) := frame_report e _

/-- A read that is reported writes no memory (R592). -/
theorem frame_reportRead (e : ReportFrame P R) (sid wi detector detail : Nat) :
    Frame P R lo hi s (s.reportRead sid wi detector detail) := by
  unfold State.reportRead
  dsimp only
  split
  · exact frame_report e _
  · split
    · exact frame_report e _
    · exact .refl

theorem frame_reportRange (e : ReportFrame P R) (sid off len detector : Nat) :
    Frame P R lo hi s (s.reportRange sid off len detector) :=
  frame_foldl _ _ (fun _ _ _ => frame_reportRead e _ _ _ _) _

theorem frame_cfgReport (e : ReportFrame P R) (detector a b : Nat) : Frame P R lo hi s (s.cfgReport detector a b) :=
  frame_foldl _ _ (fun _ _ _ => frame_report e _) _

/-! ### Completions on the link -/

theorem frame_reply (h : P.contains .host = true) (data : List Byte) (ep : Bool) (st : CplStatus) :
    Frame P R lo hi s (s.reply data ep st) := frame_host h _

theorem frame_touchLink (h : P.contains .host = true) : Frame P R lo hi s s.touchLink := by
  unfold State.touchLink
  split
  · exact .refl
  · exact frame_host h _

theorem frame_aerBit (h : P.contains .host = true) (e : AerError) : Frame P R lo hi s (s.aerBit e) := by
  unfold State.aerBit
  split
  · exact .refl
  · exact frame_host h _

theorem frame_aer (h : P.contains .host = true) (e : AerError) : Frame P R lo hi s (s.aer e) := by
  unfold State.aer
  dsimp only
  split
  · exact frame_aerBit h e
  · exact (frame_aerBit h e).trans (frame_host h _)

theorem frame_aerAdvisory (h : P.contains .host = true) (e : AerError) : Frame P R lo hi s (s.aerAdvisory e) := by
  unfold State.aerAdvisory
  split
  · exact (frame_aerBit h _).trans (frame_aer h _)
  · exact frame_aer h _

theorem frame_abortRead (h : P.contains .host = true) : Frame P R lo hi s s.abortRead :=
  (frame_aerAdvisory h _).trans (frame_reply h _ _ _)

/-! ### Completions of commands -/

/-- What a command's completion may reach: its mailbox's slots below the event ring, beside what an event reaches. -/
theorem EventFrame.mail : EventFrame eventParts eventPages.contains 0 0x3000 :=
  ⟨fun _ h => h, fun _ h => h, Nat.zero_le _, Nat.le_refl _⟩

theorem frame_setMbx (m : Mb) (b : Mailbox) : Frame eventParts eventPages.contains 0 0x3000 s (s.setMbx m b) :=
  .of_parts rfl rfl (fun p hp => by cases p <;> first | rfl | cases hp)

theorem frame_countEnd (st : Nat) : Frame eventParts eventPages.contains 0 0x3000 s (s.countEnd st) := by
  unfold State.countEnd
  split
  · exact frame_inc (by decide)
  · split
    · exact (frame_inc (by decide)).trans (frame_raise .mail (by decide))
    · split
      · exact (frame_inc (by decide)).trans (frame_raise .mail (by decide))
      · exact .refl

theorem mbIdx_lt (m : Mb) : mbIdx m < 5 := by cases m <;> decide

theorem frame_endSlot (m : Mb) (flags st detail : Nat) (resp : List Byte) (hr : resp.length ≤ 240) :
    Frame eventParts eventPages.contains 0 0x3000 s (s.endSlot m flags st detail resp) := by
  have hm := mbIdx_lt m
  have hk : fldKey MBX_MB_STATUS_done (mbIdx m) / 131072 = 5 := by simp [fldKey, MBX_MB_STATUS_done]; omega
  unfold State.endSlot
  dsimp only
  have ha : slotAt (mbIdx m) (s.doneCnt m) + 256 ≤ 0x3000 := by unfold slotAt; omega
  generalize slotAt (mbIdx m) (s.doneCnt m) = a at ha ⊢
  have hb (k : Nat) (bs : List Byte) (u : State) (h : k + bs.length ≤ 256) :
      Frame eventParts eventPages.contains 0 0x3000 u (u.bar2Put (a + k) bs) :=
    frame_bar2Put .mail _ _ (Nat.zero_le _) (by omega) rfl rfl
  have h4 := (((((hb 0x10 resp s (by omega)).trans (hb 0x0C (leBytes 2 resp.length ++ leBytes 2 detail) _ (by simp [leBytes]))).trans (hb 0x0A (leBytes 1 st) _ (by simp [leBytes]))).trans
    (hb 0x0B (leBytes 1 3) _ (by simp [leBytes]))).trans
    (frame_wri (f := MBX_MB_STATUS_done) ((s.doneCnt m + 1) % 65536) (by rw [hk]; decide))).trans (frame_countEnd st)
  split
  · exact h4.trans (.of_event .mail (frame_source 1))
  · exact h4

theorem frame_settleMarked (n : Nat) (m : Mb) : Frame eventParts eventPages.contains 0 0x3000 s (State.settleMarked n m s) := by
  induction n generalizing s with
  | zero => exact .refl
  | succ n ih =>
    unfold State.settleMarked
    dsimp only
    split
    · exact ((frame_setMbx _ _).trans (frame_endSlot _ _ _ _ _ (by simp))).trans ih
    · exact .refl

theorem frame_settleFollower (n : Nat) (m : Mb) : Frame eventParts eventPages.contains 0 0x3000 s (State.settleFollower n m s) := by
  induction n generalizing s with
  | zero => exact .refl
  | succ n ih =>
    unfold State.settleFollower
    dsimp only
    split
    · exact ((frame_setMbx _ _).trans (frame_endSlot _ _ _ _ _ (by simp))).trans ih
    · exact .refl

theorem frame_fillFollower : Frame eventParts eventPages.contains 0 0x3000 s s.fillFollower := by
  unfold State.fillFollower
  split
  · refine Frame.trans ?_ (frame_foldl _ _ (fun u k hk => ?_) _)
    · exact .of_parts rfl rfl (fun p hp => by cases p <;> first | rfl | cases hp)
    · rw [List.mem_range] at hk
      exact (frame_bar2Put .mail _ _ (Nat.zero_le _) (by simp [leBytes]; omega) rfl rfl).trans
        (frame_bar2Put .mail _ _ (Nat.zero_le _) (by simp [leBytes]; omega) rfl rfl)
  · exact .refl

/-- A command's completion changes its mailbox and what an event reaches, and nothing else. -/
theorem frame_finish (m : Mb) (st detail : Nat) (resp : List Byte) (hr : resp.length ≤ 240) :
    Frame eventParts eventPages.contains 0 0x3000 s (s.finish m st detail resp) := by
  have hm := mbIdx_lt m
  have hk : fldKey MBX_MB_INFO_cur_opcode (mbIdx m) / 131072 = 5 := by simp [fldKey, MBX_MB_INFO_cur_opcode]; omega
  unfold State.finish
  split
  · split
    · exact frame_setMbx _ _
    · dsimp only
      rename_i r hr
      have h0 : Frame eventParts eventPages.contains 0 0x3000 s { s with chain := { s.chain with relayCur := none } } :=
        .of_parts rfl rfl (fun p hp => by cases p <;> first | rfl | cases hp)
      exact ((h0.trans (frame_setMbx _ _)).trans (frame_countEnd st)).trans (.of_event .mail (frame_sendPkt _))
  · split
    · exact .refl
    · dsimp only
      have h := ((frame_setMbx (s := s) m { s.mbx m with taken := none }).trans
        (frame_wri (f := MBX_MB_INFO_cur_opcode) (i := mbIdx m) 0 (by rw [hk]; decide)))
      split
      · exact ((h.trans (frame_endSlot _ _ _ _ _ hr)).trans (frame_settleFollower 8 m)).trans frame_fillFollower
      · exact (h.trans (frame_endSlot _ _ _ _ _ hr)).trans (frame_settleMarked 8 m)

theorem frame_done (m : Mb) (st detail : Nat) (resp : List Byte) (hr : resp.length ≤ 240) :
    Frame eventParts eventPages.contains 0 0x3000 s (s.done m st detail resp) := by
  unfold State.done
  split
  · exact frame_finish m st detail resp hr
  · split
    · exact frame_setMbx _ _
    · exact frame_finish m st detail resp hr

end Sys2Proof.Machine
end

