-- ==== Sys2Proof/Laws/BlockFrames.lean ====
section
/-! SUPPORT. What the shared operations of one block leave as it was: the heat model, the canary, the slots' states and the
pins. -/

namespace Sys2Proof.Machine
open Reg

variable {p : Part} {n : Nat} {s t : State}

theorem eventFrame_block : EventFrame (p :: eventParts) (n :: eventPages).contains 0x2000 0x3000 := by
  refine ⟨fun q h => ?_, fun k h => ?_, Nat.le_refl _, Nat.le_refl _⟩
  · rw [List.contains_cons, Bool.or_eq_false_iff] at h; exact h.2
  · rw [List.contains_cons, Bool.or_eq_false_iff] at h; exact h.2

theorem block_admits : (n :: eventPages).contains n = true := by rw [List.contains_cons]; simp

/-- An event's own reach is within any block's. -/
theorem block_of_event (k : Frame eventParts eventPages.contains 0x2000 0x3000 s t) : BlockFrame p n s t :=
  Frame.of_event eventFrame_block k

theorem block_raise {f : Fld} (h : fldKey f 0 / 131072 = n) : BlockFrame p n s (s.raise f) :=
  frame_raise eventFrame_block (h ▸ block_admits)

theorem block_raisei {f : Fld} {i : Nat} (h : fldKey f i / 131072 = n) : BlockFrame p n s (s.raisei f i) :=
  frame_raisei eventFrame_block (h ▸ block_admits)

theorem block_wri {f : Fld} {i : Nat} (v : Nat) (h : fldKey f i / 131072 = n) : BlockFrame p n s (s.wri f i v) :=
  frame_wri v (h ▸ block_admits)

theorem block_wr {f : Fld} (v : Nat) (h : fldKey f 0 / 131072 = n) : BlockFrame p n s (s.wr f v) := block_wri v h

theorem block_inc {f : Fld} (h : fldKey f 0 / 131072 = n) : BlockFrame p n s (s.inc f) := block_wri _ h

theorem block_addi {f : Fld} {i : Nat} (k : Nat) (h : fldKey f i / 131072 = n) : BlockFrame p n s (s.addi f i k) :=
  block_wri _ h

theorem block_setBit {f : Fld} {i : Nat} (k : Nat) (b : Bool) (h : fldKey f i / 131072 = n) :
    BlockFrame p n s (s.setBit f i k b) := block_wri _ h

/-- A command's answer holds what its state before `ok` held. -/
theorem block_of_ok {u : State} (h : ok u = .next t) (k : BlockFrame p n s u) : BlockFrame p n s t := by
  rw [ok_next h]; exact k.trans frame_settled

/-! ### The heat model -/

theorem frame_heat (x : Heat) : BlockFrame .heat n s { s with heat := x } :=
  .of_parts rfl rfl (fun p hp => by cases p <;> first | rfl | cases hp)

theorem frame_throttle : BlockFrame .heat 2 s s.throttle := by
  unfold State.throttle
  dsimp only
  split
  · exact (block_wr _ (by decide)).trans (block_of_event (frame_smbCause 0))
  · exact block_wr _ (by decide)

theorem frame_changeLevel (l : Nat) : BlockFrame .heat 2 s (s.changeLevel l) := by
  unfold State.changeLevel
  split
  · exact .refl
  · exact (block_wr _ (by decide)).trans (block_raise (by decide))

theorem frame_setThm (st l : Nat) : BlockFrame .heat 2 s (s.setThm st l) :=
  ((block_wr _ (by decide)).trans (block_wr _ (by decide))).trans frame_throttle

theorem frame_enterGrace : BlockFrame .heat 2 s s.enterGrace :=
  ((((frame_heat _).trans (block_wr _ (by decide))).trans (block_inc (by decide))).trans (frame_setThm _ _)).trans (block_raise (by decide))

theorem frame_enterEnforce : BlockFrame .heat 2 s s.enterEnforce :=
  (((frame_heat _).trans (block_wr _ (by decide))).trans (frame_setThm _ _)).trans (block_raise (by decide))

theorem frame_sensorFault (src : Nat) : BlockFrame .heat 2 s (s.sensorFault src) := by
  unfold State.sensorFault
  dsimp only
  have h1 : BlockFrame .heat 2 s (s.setBit THM_FAULT_fault_src 0 src true) := block_setBit _ _ (by decide)
  split
  · exact h1
  · have h2 := ((((((h1.trans (frame_heat { (s.setBit THM_FAULT_fault_src 0 src true).heat with critRun := 0, holdRun := false })).trans
      (block_inc (f := THM_FAULT_fault_count) (by decide))).trans (block_wr (f := THM_STATUS_sensor_fault) 1 (by decide))).trans (block_of_event (frame_smbCause 1))).trans
      (block_wr (f := THM_STATUS_est_valid) 0 (by decide))).trans frame_throttle).trans (block_raise (f := THM_EVENT_sensor_fault) (by decide))
    split
    · exact h2.trans frame_enterGrace
    · split
      · exact h2.trans (frame_changeLevel 4)
      · exact h2

/-! ### The canary -/

theorem frame_clk (x : Clocks) : BlockFrame .clk n s { s with clk := x } :=
  .of_parts rfl rfl (fun p hp => by cases p <;> first | rfl | cases hp)

theorem frame_setCode (c : Nat) : BlockFrame .clk 3 s (s.setCode c) := (block_wr _ (by decide)).trans (block_wr _ (by decide))

/-- What a canary measurement may reach: the clocks, the exit of DOZE, and the completion of the PWR.WAKE commands that wait
for it. -/
abbrev CanaryFrame (s t : State) : Prop := Frame (.clk :: eventParts) (3 :: 1 :: eventPages).contains 0 0x3000 s t

theorem eventFrame_canary : EventFrame (.clk :: eventParts) (3 :: 1 :: eventPages).contains 0 0x3000 := by
  refine ⟨fun q h => ?_, fun k h => ?_, Nat.zero_le _, Nat.le_refl _⟩
  · rw [List.contains_cons, Bool.or_eq_false_iff] at h; exact h.2
  · rw [List.contains_cons, Bool.or_eq_false_iff, List.contains_cons, Bool.or_eq_false_iff] at h; exact h.2.2

theorem canary_clk (x : Clocks) : CanaryFrame s { s with clk := x } :=
  .of_parts rfl rfl (fun p hp => by cases p <;> first | rfl | cases hp)

theorem frame_resumeAdmission : Frame (.clk :: eventParts) (1 :: eventPages).contains 0 0x3000 s s.resumeAdmission := by
  have e : EventFrame (.clk :: eventParts) (1 :: eventPages).contains 0 0x3000 := by
    refine ⟨fun q h => ?_, fun k h => ?_, Nat.zero_le _, Nat.le_refl _⟩ <;>
      (rw [List.contains_cons, Bool.or_eq_false_iff] at h; exact h.2)
  have hc (x : Clocks) : Frame (.clk :: eventParts) (1 :: eventPages).contains 0 0x3000 s { s with clk := x } :=
    .of_parts rfl rfl (fun p hp => by cases p <;> first | rfl | cases hp)
  unfold State.resumeAdmission
  dsimp only
  split
  · have h := ((hc { s.clk with awaitSlack := false, gated := false, admitStop := false }).trans
      (frame_wr (f := PWR_STATE_state) (phaseCode .run) (by decide))).trans
      (frame_raise (f := PWR_EVENT_doze_exit) e (by decide))
    exact h.trans (frame_foldl _ _ (fun _ _ _ => (frame_done _ _ _ _ (by simp)).mono e.parts e.pages (Nat.le_refl _) (Nat.le_refl _)) _)
  · exact hc _

theorem canary_resumeAdmission : CanaryFrame s s.resumeAdmission :=
  frame_resumeAdmission.mono (fun _ h => h) (fun k h => by
    rw [List.contains_cons, Bool.or_eq_false_iff] at h; exact h.2) (Nat.le_refl _) (Nat.le_refl _)

theorem canary_setCode (c : Nat) : CanaryFrame s (s.setCode c) := (frame_wr _ (by decide)).trans (frame_wr _ (by decide))

theorem canary_noteSlack (k : Nat) : CanaryFrame s (s.noteSlack k) :=
  (((frame_wr (f := CLK_CANARY_slack_last) _ (by decide)).trans (frame_wr (f := CLK_CANARY_MM_slack_min) _ (by decide))).trans
    (frame_wr (f := CLK_CANARY_MM_slack_max) _ (by decide))).trans (canary_clk _)

theorem canary_stepCode (a b : Nat) : CanaryFrame s (s.stepCode a b) := by
  unfold State.stepCode
  dsimp only
  split
  · exact (canary_setCode b).trans (frame_inc (by decide))
  · split
    · exact (canary_setCode b).trans (frame_inc (by decide))
    · exact canary_setCode b

theorem canary_noteFloor (c : CanaryRun) (k : Nat) : CanaryFrame s (s.noteFloor c k) := by
  unfold State.noteFloor
  split
  · exact ((canary_clk _).trans (frame_inc (f := CLK_FLOOR_COUNT_floor_count) (by decide))).trans
      (frame_raise (f := CLK_EVENT_canary_floor) eventFrame_canary (by decide))
  · exact .refl

theorem canary_noteExhausted (k : Nat) (b : Bool) : CanaryFrame s (s.noteExhausted k b) := by
  unfold State.noteExhausted
  split
  · exact (frame_wr (f := CLK_MARGIN_STATUS_margin_exhausted) 1 (by decide)).trans
      (frame_raise (f := CLK_EVENT_margin_exhausted) eventFrame_canary (by decide))
  · split
    · exact frame_wr (f := CLK_MARGIN_STATUS_margin_exhausted) 0 (by decide)
    · exact .refl

theorem canary_measure (c : CanaryRun) (k : Nat) : CanaryFrame s (s.measure c k) := by
  have h (a b : Nat) (g : Bool) : CanaryFrame s ((((s.noteSlack k).stepCode a b).noteFloor c k).noteExhausted a g) :=
    (((canary_noteSlack k).trans (canary_stepCode a b)).trans (canary_noteFloor c k)).trans (canary_noteExhausted a g)
  unfold State.measure
  dsimp only
  split
  · exact (h _ _ _).trans canary_resumeAdmission
  · exact h _ _ _

/-! ### The slots -/

theorem frame_setSlotState (i st : Nat) (h : i < 2) : BlockFrame p 0xF s (s.setSlotState i st) := by
  have hk : fldKey SLOT_STATUS_state i / 131072 = 0xF := by simp [fldKey, SLOT_STATUS_state]; omega
  unfold State.setSlotState
  dsimp only
  split
  · exact block_wri _ hk
  · exact (block_wri _ hk).trans (block_of_event (frame_smbCause 5))

/-! ### The pins -/

theorem frame_pins (x : Pins) : Frame eventParts eventPages.contains 0x2000 0x3000 s { s with pins := x } :=
  .of_parts rfl rfl (fun p hp => by cases p <;> first | rfl | cases hp)

theorem frame_setUart {u : Nat} (x : Uart) (hu : u < 2) : Frame eventParts eventPages.contains 0x2000 0x3000 s (s.setUart u x) := by
  have h (f : Fld) (hf : fldKey f u / 131072 = 6) : eventPages.contains (fldKey f u / 131072) = true := by rw [hf]; rfl
  refine (((frame_pins _).trans (frame_wri _ (h _ ?_))).trans (frame_wri _ (h _ ?_))).trans (frame_wri _ (h _ ?_)) <;>
    simp [fldKey, PIN_Uu_STATUS_tx_level, PIN_Uu_STATUS_rx_level, PIN_Uu_STATUS_tx_busy] <;> omega

theorem frame_uartErr {f : Fld} {u : Nat} (h : fldKey f u / 131072 = 6) :
    Frame eventParts eventPages.contains 0x2000 0x3000 s (s.uartErr f u) :=
  (frame_addi 1 (by rw [h]; rfl)).trans (frame_raise .own (by decide))

theorem frame_uartPump (u : Nat) (hu : u < 2) : Frame eventParts eventPages.contains 0x2000 0x3000 s (s.uartPump u) := by
  unfold State.uartPump
  dsimp only
  split
  · split
    · exact frame_setUart _ hu
    · exact .refl
  · exact .refl

/-- What the edge that a pad shows leaves as it was: the pins, their event and its interrupt are its reach. -/
theorem frame_padEdge (m : Nat) (h : Frame eventParts eventPages.contains 0x2000 0x3000 s t) :
    Frame eventParts eventPages.contains 0x2000 0x3000 s (s.padEdge t m) := by
  have hb : Frame eventParts eventPages.contains 0x2000 0x3000 t (t.setBit PIN_IRQ_STATUS_irq 0 m true) := frame_setBit _ _ (by decide)
  have h1 (c : Bool) : Frame eventParts eventPages.contains 0x2000 0x3000 s
      (if c then if t.bit PIN_IRQ_STATUS_irq 0 m then t.setBit PIN_IRQ_STATUS_irq 0 m true
        else (t.setBit PIN_IRQ_STATUS_irq 0 m true).raise PIN_EVENT_pad_irq else t) := by
    split
    · split
      · exact h.trans hb
      · exact (h.trans hb).trans (frame_raise .own (by decide))
    · exact h
  unfold State.padEdge
  dsimp only
  refine Frame.trans (Frame.trans ?_ (frame_uartPump 0 (by omega))) (frame_uartPump 1 (by omega))
  split
  · exact (h1 _).trans (frame_pins _)
  · exact h1 _

end Sys2Proof.Machine
end

