-- ==== Sys2Proof/Laws/Integ.lean ====
section
/-! SUPPORT. What the shared operations on configuration RAM, on the tag bus and on the steep's pace do. -/

namespace Sys2Proof.Machine
open Reg

/-- A flip-mask that is not armed on configuration RAM leaves its writes alone (R626). -/
theorem fireFlipCfg_idle {s : State} (ws : List Nat)
    (h : ¬(s.rd INTEG_FLIP_SEL_flip_armed = 1 ∧ s.rd INTEG_FLIP_SEL_flip_sid = 0x71)) : s.fireFlipCfg ws = s := by
  simp [State.fireFlipCfg, h]

/-- Forgetting a word's keys writes seen_count and seen_full alone (R604). -/
theorem forget_rd {s : State} {f : Fld} (sid lo hi : Nat) (hc : fldKey f 0 ≠ fldKey INTEG_STATUS_seen_count 0)
    (hf : fldKey f 0 ≠ fldKey INTEG_STATUS_seen_full 0) : (s.forget sid lo hi).rd f = s.rd f := by
  unfold State.forget
  dsimp only
  split
  · rfl
  · rw [State.rd_wr_other _ _ hf, State.rd_wr_other _ _ hc]; rfl

/-- A written word of configuration RAM leaves a register outside the counters of INTEG as it was (R594, R604). -/
theorem cfgWord_rd {s : State} {f : Fld} (w : Nat) (hc : fldKey f 0 ≠ fldKey INTEG_STATUS_seen_count 0)
    (hf : fldKey f 0 ≠ fldKey INTEG_STATUS_seen_full 0) (hp : fldKey f 0 ≠ fldKey INTEG_POISON_COUNT_poison_stored 0) :
    (s.cfgWord w).rd f = s.rd f := by
  unfold State.cfgWord
  dsimp only
  rw [forget_rd _ _ _ hc hf]
  split
  · exact State.rdi_addi_other _ _ hp
  · rfl

theorem cfgWords_rd {f : Fld} (ws : List Nat) (hc : fldKey f 0 ≠ fldKey INTEG_STATUS_seen_count 0)
    (hf : fldKey f 0 ≠ fldKey INTEG_STATUS_seen_full 0) (hp : fldKey f 0 ≠ fldKey INTEG_POISON_COUNT_poison_stored 0)
    (s : State) : (ws.foldl State.cfgWord s).rd f = s.rd f := by
  induction ws generalizing s with
  | nil => rfl
  | cons w ws ih => rw [List.foldl_cons, ih, cfgWord_rd _ hc hf hp]

/-- Without an armed flip-mask the words that have been written pass, or hold the poison that was written (R594, R601). -/
theorem cfgWritten_clean {s : State} (offs : List Nat)
    (h : ¬(s.rd INTEG_FLIP_SEL_flip_armed = 1 ∧ s.rd INTEG_FLIP_SEL_flip_sid = 0x71)) :
    s.cfgWritten offs = (sortNat ((offs.filter cfgReg).map (· / 8))).foldl State.cfgWord s := by
  unfold State.cfgWritten
  dsimp only
  refine fireFlipCfg_idle _ ?_
  rw [cfgWords_rd _ (by decide) (by decide) (by decide), cfgWords_rd _ (by decide) (by decide) (by decide)]
  exact h

/-- With no GUARD.TAG_XFER on its bus, a transaction starts at once (R548). -/
theorem startTag_free {s : State} {p : Nat} (cmd : Nat) (payload : List Byte) (xfer : Option (Mb × (Nat × Nat)))
    (h : s.xferMb p = none) : s.startTag p cmd payload xfer = s.runTag p ⟨cmd, payload, 0, xfer⟩ := by
  simp [State.startTag, h]

/-- A word that the pace has no room for is not read (R610). -/
theorem steepRead_waits {s : State} {sid w : Nat} (hr : s.steepRuns = true)
    (hw : s.steepFrom 20 (s.rd INTEG_STEEP_POS_pos_sid) (s.rd INTEG_STEEP_POS_pos_word) = some (sid, w))
    (h : s.steepRoom sid = false) : execSteepRead s = ok s := by
  simp [execSteepRead, hr, hw, h]

end Sys2Proof.Machine
end

