-- ==== Sys2Proof/Laws/Mail.lean ====
section
/-! SUPPORT. What the shared operations of a mailbox command do: the command that runs, the one that is held by a claim, and
the parameter checks. -/

namespace Sys2Proof.Machine

/-- A command that its mailbox has taken and that writes no claimed block runs its body. -/
theorem runCmd_ready {m : Mb} {op : Nat} {s : State} {c : Cmd} (body : Cmd → State → State)
    (h : s.takenCmd m op = some c ∧ s.heldBlock c = none) : runCmd m op s body = .next (body c s).settled := by
  simp [runCmd, h.1, h.2, ok]

/-- A command that writes a claimed block completes with EXPERT_HELD and that block (R255). -/
theorem runCmd_held {m : Mb} {op : Nat} {s : State} {c : Cmd} {b : Nat} (body : Cmd → State → State)
    (h : s.takenCmd m op = some c) (hb : s.heldBlock c = some b) :
    runCmd m op s body = .next (s.done m stExpertHeld b []).settled := by
  simp [runCmd, h, hb, ok]

/-- Where the mailbox has not taken such a command, nothing happens. -/
theorem runCmd_not_taken {m : Mb} {op : Nat} {s : State} (body : Cmd → State → State) (h : s.takenCmd m op = none) :
    runCmd m op s body = .next s.settled := by
  simp [runCmd, h, ok]

/-- Whatever the mailbox holds, a command's meaning answers a next state. -/
theorem runCmd_next (m : Mb) (op : Nat) (s : State) (body : Cmd → State → State) :
    ∃ t, runCmd m op s body = ok t := by
  unfold runCmd
  split
  · exact ⟨_, rfl⟩
  · split <;> exact ⟨_, rfl⟩

theorem guardCmd_ready {m : Mb} {op : Nat} {s : State} {c : Cmd} (body : Cmd → State → State) (hg : s.guardRuns = true)
    (h : s.takenCmd m op = some c ∧ s.heldBlock c = none) : guardCmd m op s body = .next (body c s).settled := by
  simp [guardCmd, hg, runCmd_ready body h]

/-- A command that the guard core serves waits while that core does not run its firmware. -/
theorem guardCmd_waits {m : Mb} {op : Nat} {s : State} (body : Cmd → State → State) (hg : s.guardRuns = false) :
    guardCmd m op s body = .next s.settled := by
  simp [guardCmd, hg, ok]

theorem otpCmd_ready {m : Mb} {op : Nat} {s : State} {c : Cmd} (body : Cmd → State → State) (ho : s.otp = none)
    (h : s.takenCmd m op = some c ∧ s.heldBlock c = none) : otpCmd m op s body = .next (body c s).settled := by
  simp [otpCmd, ho, runCmd_ready body h]

/-! ### Parameter checks (R238) -/

@[simp] theorem need_eq_none (b : Bool) (d : Nat) : need b d = none ↔ b = true := by cases b <;> simp [need]

@[simp] theorem need_true (d : Nat) : need true d = none := rfl

@[simp] theorem need_false (d : Nat) : need false d = some d := rfl

@[simp] theorem firstFail_nil : firstFail [] = none := rfl

@[simp] theorem firstFail_none (l : List (Option Nat)) : firstFail (none :: l) = firstFail l := rfl

@[simp] theorem firstFail_some (d : Nat) (l : List (Option Nat)) : firstFail (some d :: l) = some d := rfl

theorem firstFail_eq_none {l : List (Option Nat)} : firstFail l = none ↔ ∀ x ∈ l, x = none := by
  induction l with
  | nil => simp
  | cons x l ih => cases x <;> simp [ih]

/-- With every check passed, the effect. -/
theorem checked_ok {m : Mb} {checks : List (Option Nat)} (s : State) (effect : State → State)
    (h : ∀ x ∈ checks, x = none) : checked m checks s effect = effect s := by
  simp [checked, firstFail_eq_none.2 h]

/-- With a check failed, BAD_PARAM with the first failing offset (R238). -/
theorem checked_bad {m : Mb} {checks : List (Option Nat)} (s : State) (effect : State → State) {d : Nat}
    (h : firstFail checks = some d) : checked m checks s effect = s.badParam m d := by
  simp [checked, h]

/-! ### Completion (R231, R237) -/

/-- A mailbox without a command has nothing to complete. -/
theorem done_idle {s : State} {m : Mb} (st d : Nat) (resp : List Byte) (hm : m ≠ .relay) (h : (s.mbx m).taken = none) :
    s.done m st d resp = s := by
  cases m <;> simp_all [State.done, State.finish]

end Sys2Proof.Machine
end

