-- ==== Sys2Proof/Laws/Parity.lean ====
section
/-! SUPPORT. Fresh parity of the structures with 8-byte units and one copy: every byte write keeps it, and a structure whose
parity is fresh holds no poison (R588, R594). -/

namespace Sys2Proof.Machine

/-- The stored parity bit of the byte at offset `off` of a structure is its fresh one. -/
def parityOk (m : Memory) (sid off : Nat) : Prop :=
  (memByte m (checkBase sid 0 + off / 8)).getLsbD (off % 8) = oddParity (memByte m (dataBase sid 0 + off))

/-- Every byte of a structure has its fresh parity bit. -/
def parityFresh (m : Memory) (sid : Nat) : Prop := ∀ off < regionSize, parityOk m sid off

theorem check_region (sid a : Nat) (ha : a < regionSize) :
    (checkBase sid 0 + a) / regionSize = sid * 4 + 1 ∧ (checkBase sid 0 + a) % regionSize = a := by
  unfold checkBase
  rw [Nat.mul_add_div (by decide), Nat.div_eq_of_lt ha, Nat.mul_add_mod, Nat.mod_eq_of_lt ha]
  omega

theorem data_region (sid a : Nat) (ha : a < regionSize) :
    (dataBase sid 0 + a) / regionSize = sid * 4 ∧ (dataBase sid 0 + a) % regionSize = a := by
  unfold dataBase
  rw [Nat.mul_add_div (by decide), Nat.div_eq_of_lt ha, Nat.mul_add_mod, Nat.mod_eq_of_lt ha]
  omega

theorem fill_check (sid a : Nat) (ha : a < regionSize) (hc : sid ≠ 0x60 ∨ factoryAt (8 * a) = false) :
    Memory.fill (checkBase sid 0 + a) = 0xFF := by
  obtain ⟨h, h'⟩ := check_region sid a ha
  have h0 : sid * 4 + 1 ≠ 0x60 * 4 := by omega
  have h1 : ¬ (sid * 4 + 1 = 0x60 * 4 + 1 ∧ factoryAt (8 * a) = true) := by
    rintro ⟨e, f⟩
    rcases hc with hc | hc
    · exact hc (by omega)
    · rw [hc] at f; cases f
  have h2 : (sid * 4 + 1) % 2 = 1 := by omega
  unfold Memory.fill
  dsimp only
  rw [h, h', if_neg h0, if_neg h1, if_pos h2]

theorem fill_data (sid a : Nat) (hs : unit32 sid = false) (ha : a < regionSize) (hc : sid ≠ 0x60 ∨ factoryAt a = false) :
    Memory.fill (dataBase sid 0 + a) = 0 := by
  obtain ⟨h, h'⟩ := data_region sid a ha
  have h2 : ¬ sid * 4 % 2 = 1 := by omega
  have h4 : sid * 4 / 4 = sid := by omega
  have h1 : ¬ (sid * 4 = 0x60 * 4 + 1 ∧ factoryAt (8 * a) = true) := by omega
  unfold Memory.fill
  dsimp only
  rw [h, h']
  by_cases e : sid * 4 = 0x60 * 4
  · rw [if_pos e, factoryFill]
    rcases hc with hc | hc
    · exact absurd (by omega) hc
    · rw [hc]; rfl
  · rw [if_neg e, if_neg h1, if_neg h2, h4, hs]; rfl

theorem factoryAt_word (off : Nat) : factoryAt (8 * (off / 8)) = factoryAt off := by
  unfold factoryAt
  rw [Bool.eq_iff_iff]
  simp only [Bool.or_eq_true, Bool.and_eq_true, decide_eq_true_eq]
  omega

theorem wordCheck_bit (f : Nat → Byte) (k : Nat) (hk : k < 8) :
    (wordCheck ((List.range 8).map f)).getLsbD k = oddParity (f k) := by
  have e : (List.range 8).map f = [f 0, f 1, f 2, f 3, f 4, f 5, f 6, f 7] := rfl
  have key : ∀ a b c d e g h i : Bool, ∀ k < 8, (BitVec.ofNat 8 (bitsNat [a, b, c, d, e, g, h, i])).getLsbD k =
      ([a, b, c, d, e, g, h, i][k]?).getD false := by decide
  rw [e, wordCheck]
  simp only [List.map_cons, List.map_nil]
  rw [key _ _ _ _ _ _ _ _ k hk]
  have : k = 0 ∨ k = 1 ∨ k = 2 ∨ k = 3 ∨ k = 4 ∨ k = 5 ∨ k = 6 ∨ k = 7 := by omega
  rcases this with rfl | rfl | rfl | rfl | rfl | rfl | rfl | rfl <;> rfl

/-- The caddy leaves Ouvnuwell with fresh parity (R781). -/
theorem fill_factory (off : Nat) (ho : off < regionSize) (hf : factoryAt off = true) :
    (Memory.fill (checkBase 0x60 0 + off / 8)).getLsbD (off % 8) = oddParity (Memory.fill (dataBase 0x60 0 + off)) := by
  obtain ⟨h, h'⟩ := check_region 0x60 (off / 8) (Nat.lt_of_le_of_lt (Nat.div_le_self _ _) ho)
  obtain ⟨g, g'⟩ := data_region 0x60 off ho
  have e : 8 * (off / 8) + off % 8 = off := by omega
  unfold Memory.fill
  dsimp only
  rw [h, h', g, g', if_neg (by decide), if_pos ⟨rfl, by rw [factoryAt_word, hf]⟩, if_pos rfl,
    wordCheck_bit _ _ (Nat.mod_lt _ (by decide)), e]

theorem parityFresh_nil (sid : Nat) (hs : unit32 sid = false) : parityFresh [] sid := by
  intro off ho
  by_cases hf : sid = 0x60 ∧ factoryAt off = true
  · obtain ⟨rfl, hf⟩ := hf
    exact fill_factory off ho hf
  · have hc : sid ≠ 0x60 ∨ factoryAt off = false := by
      by_cases e : sid = 0x60
      · exact .inr (by simpa [e] using hf)
      · exact .inl e
    have h1 := fill_check sid (off / 8) (Nat.lt_of_le_of_lt (Nat.div_le_self _ _) ho) (by rwa [factoryAt_word])
    have h2 := fill_data sid off hs ho hc
    have h3 : ∀ k < 8, (0xFF : Byte).getLsbD k = oddParity 0 := by decide
    simp only [parityOk, memByte, storeGetD_nil, h1, h2]
    exact h3 _ (Nat.mod_lt _ (by decide))

theorem parityFresh_putByte {m : Memory} {sid : Nat} (off : Nat) (b : Byte) (hp : paired sid = false)
    (ho : off < regionSize) (h : parityFresh m sid) : parityFresh (putByte m sid off b) sid := by
  have bits : ∀ (c : Bool) (x : Byte) (j k : Nat), j < 8 → k < 8 →
      (if c then x ||| BitVec.ofNat 8 (2 ^ j) else x &&& ~~~ BitVec.ofNat 8 (2 ^ j)).getLsbD k =
        if k = j then c else x.getLsbD k := by
    intro c x j k hj hk
    have e : ∀ j < 8, ∀ k < 8, (BitVec.ofNat 8 (2 ^ j)).getLsbD k = decide (k = j) := by decide
    have e' := e j hj k hk
    generalize BitVec.ofNat 8 (2 ^ j) = v at e'
    cases c
    · rw [if_neg Bool.false_ne_true, BitVec.getLsbD_and, BitVec.getLsbD_not, e']
      by_cases hkj : k = j <;> simp [hkj, hk]
    · rw [if_pos rfl, BitVec.getLsbD_or, e']
      by_cases hkj : k = j <;> simp [hkj]
  intro o hlt
  have hk := h o hlt
  have hb := checkBase_eq sid 0
  unfold parityOk at hk ⊢
  rw [putByte_single _ _ _ _ hp]
  have hdc : dataBase sid 0 + o ≠ checkBase sid 0 + off / 8 := by omega
  rw [memByte_set_other _ _ hdc]
  by_cases he : o / 8 = off / 8
  · rw [he, memByte_set_same, bits _ _ _ _ (Nat.mod_lt _ (by decide)) (Nat.mod_lt _ (by decide))]
    by_cases hm : o % 8 = off % 8
    · have : o = off := by omega
      subst this
      simp [memByte_set_same]
    · have hne : dataBase sid 0 + o ≠ dataBase sid 0 + off := by omega
      rw [if_neg hm, memByte_set_other _ _ hne, ← he]
      exact hk
  · have hc1 : checkBase sid 0 + o / 8 ≠ checkBase sid 0 + off / 8 := by omega
    have hc2 : checkBase sid 0 + o / 8 ≠ dataBase sid 0 + off := by omega
    have hne : dataBase sid 0 + o ≠ dataBase sid 0 + off := by omega
    rw [memByte_set_other _ _ hc1, memByte_set_other _ _ hc2, memByte_set_other _ _ hne]
    exact hk

theorem parityFresh_putBytes {m : Memory} {sid : Nat} (off : Nat) (bs : List (Option Byte)) (hp : paired sid = false)
    (ho : off + bs.length ≤ regionSize) (h : parityFresh m sid) : parityFresh (putBytes m sid off bs) sid := by
  induction bs generalizing m off with
  | nil => exact h
  | cons b bs ih =>
    simp only [List.length_cons] at ho
    cases b with
    | none => exact ih _ (by omega) h
    | some b => exact ih _ (by omega) (parityFresh_putByte off b hp (by omega) h)

/-- A structure with fresh parity keeps it when another structure with one copy is written. -/
theorem parityFresh_other {m : Memory} {sid sid' : Nat} (off : Nat) (bs : List (Option Byte)) (hne : sid' ≠ sid)
    (hp : paired sid' = false) (ho : off + bs.length ≤ regionSize) (h : parityFresh m sid) :
    parityFresh (putBytes m sid' off bs) sid := by
  intro o hlt
  have hk := h o hlt
  have hb := checkBase_eq sid 0
  have hb' := checkBase_eq sid' 0
  have hd : dataBase sid 0 = 4 * (regionSize * sid) := by unfold dataBase; ring
  have hd' : dataBase sid' 0 = 4 * (regionSize * sid') := by unfold dataBase; ring
  have hapart : sid < sid' ∧ regionSize * sid + regionSize ≤ regionSize * sid' ∨
      sid' < sid ∧ regionSize * sid' + regionSize ≤ regionSize * sid := by
    rcases Nat.lt_or_gt_of_ne hne with g | g
    · exact Or.inr ⟨g, by rw [← Nat.mul_succ]; exact Nat.mul_le_mul_left _ g⟩
    · exact Or.inl ⟨g, by rw [← Nat.mul_succ]; exact Nat.mul_le_mul_left _ g⟩
  unfold parityOk at hk ⊢
  generalize regionSize = R at *
  generalize R * sid = A at *
  generalize R * sid' = B at *
  rw [putBytes_out _ _ _ _ hp _ (by omega) (by omega), putBytes_out _ _ _ _ hp _ (by omega) (by omega)]
  exact hk

theorem wordSyn_fresh {m : Memory} {sid : Nat} (wi : Nat) (hw : 8 * wi + 8 ≤ regionSize) (h : parityFresh m sid) :
    wordSyn m sid 0 wi = 0 := by
  have key : ∀ b0 b1 b2 b3 b4 b5 b6 b7 : Bool, ∀ i : Fin 8,
      (BitVec.ofNat 8 (bitsNat [b0, b1, b2, b3, b4, b5, b6, b7])).getLsbD i =
        [b0, b1, b2, b3, b4, b5, b6, b7].getD i false := by decide
  have eq : memByte m (checkBase sid 0 + wi) = wordCheck (memBytes m (dataBase sid 0 + 8 * wi) 8) := by
    apply BitVec.eq_of_getLsbD_eq
    intro i hi
    have hb := h (8 * wi + i) (by omega)
    unfold parityOk at hb
    rw [show (8 * wi + i) / 8 = wi by omega, show (8 * wi + i) % 8 = i by omega] at hb
    rw [hb, wordCheck]
    simp only [memBytes, List.map_cons, List.map_nil]
    rw [key _ _ _ _ _ _ _ _ ⟨i, hi⟩]
    have : i = 0 ∨ i = 1 ∨ i = 2 ∨ i = 3 ∨ i = 4 ∨ i = 5 ∨ i = 6 ∨ i = 7 := by omega
    rcases this with rfl | rfl | rfl | rfl | rfl | rfl | rfl | rfl <;> simp [Nat.add_assoc]
  unfold wordSyn
  rw [eq]
  exact BitVec.xor_self

/-- A range of a structure with fresh parity holds no poison. -/
theorem rangePoison_fresh {s : State} {sid : Nat} (off len : Nat) (hr : off + len + 15 ≤ regionSize)
    (h : parityFresh s.mem sid) : s.rangePoison sid off len = false := by
  unfold State.rangePoison
  rw [List.any_eq_false]
  intro k hk
  rw [List.mem_range] at hk
  rw [wordSyn_fresh _ (by omega) h]
  decide

/-- A byte range of a structure apart from the written one reads as before. -/
theorem putBytes_apart (m : Memory) (sid off o n : Nat) (bs : List (Option Byte)) (hp : paired sid = false)
    (_ho : off + bs.length + 7 ≤ regionSize) (hn : o + n ≤ regionSize) (h : o + n ≤ off ∨ off + bs.length ≤ o) :
    memBytes (putBytes m sid off bs) (dataBase sid 0 + o) n = memBytes m (dataBase sid 0 + o) n := by
  apply memBytes_congr
  intro k hk
  have hb := checkBase_eq sid 0
  generalize regionSize = R at *
  exact putBytes_out _ _ _ _ hp _ (by omega) (by omega)

/-- A byte range of a structure reads as before when another structure is written. -/
theorem putBytes_elsewhere (m : Memory) (sid sid' off o n : Nat) (bs : List (Option Byte)) (hne : sid' ≠ sid)
    (hp : paired sid' = false) (ho : off + bs.length + 7 ≤ regionSize) (hn : o + n ≤ regionSize) :
    memBytes (putBytes m sid' off bs) (dataBase sid 0 + o) n = memBytes m (dataBase sid 0 + o) n := by
  apply memBytes_congr
  intro k hk
  have hb' := checkBase_eq sid' 0
  have hd : dataBase sid 0 = 4 * (regionSize * sid) := by unfold dataBase; ring
  have hd' : dataBase sid' 0 = 4 * (regionSize * sid') := by unfold dataBase; ring
  have hapart : sid < sid' ∧ regionSize * sid + regionSize ≤ regionSize * sid' ∨
      sid' < sid ∧ regionSize * sid' + regionSize ≤ regionSize * sid := by
    rcases Nat.lt_or_gt_of_ne hne with g | g
    · exact Or.inr ⟨g, by rw [← Nat.mul_succ]; exact Nat.mul_le_mul_left _ g⟩
    · exact Or.inl ⟨g, by rw [← Nat.mul_succ]; exact Nat.mul_le_mul_left _ g⟩
  generalize regionSize = R at *
  generalize R * sid = A at *
  generalize R * sid' = B at *
  exact putBytes_out _ _ _ _ hp _ (by omega) (by omega)

end Sys2Proof.Machine
end

