-- ==== Sys2Proof/Laws/Updates.lean ====
section
/-! SUPPORT. Which words of the structures an update stores to: each store's words, the journal's record and a posted event, and
that every other word reads as before. -/

namespace Sys2Proof.Machine
open Reg

variable {m m' m'' : Memory} {s t u : State} {own : Nat → Nat → Bool}

/-! ### Memories -/

/-- From `m` to `m'` only words `lo` to `hi` of structure `sid` change, in any copy, data or check bytes. -/
def Touch (sid lo hi : Nat) (m m' : Memory) : Prop :=
  ∀ n o, o < regionSize → ¬(n / 4 = sid ∧ (n % 2 = 0 → 8 * lo ≤ o ∧ o < 8 * hi) ∧ (n % 2 = 1 → lo ≤ o ∧ o < hi)) →
    memByte m' (regionSize * n + o) = memByte m (regionSize * n + o)

variable {sid lo hi : Nat}

theorem Touch.refl : Touch sid lo hi m m := fun _ _ _ _ => rfl

theorem Touch.trans (h : Touch sid lo hi m m') (k : Touch sid lo hi m' m'') : Touch sid lo hi m m'' :=
  fun n o ho hn => (k n o ho hn).trans (h n o ho hn)

theorem Touch.mono {lo' hi' : Nat} (h : Touch sid lo hi m m') (hl : lo' ≤ lo) (hh : hi ≤ hi') : Touch sid lo' hi' m m' :=
  fun n o ho hn => h n o ho (fun x => hn ⟨x.1, fun e => by have := x.2.1 e; omega, fun e => by have := x.2.2 e; omega⟩)

theorem touch_foldl {β : Type} (f : Memory → β → Memory) (l : List β) (h : ∀ m, ∀ b ∈ l, Touch sid lo hi m (f m b)) (m : Memory) :
    Touch sid lo hi m (l.foldl f m) := by
  induction l generalizing m with
  | nil => exact .refl
  | cons b l ih =>
    exact (h m b List.mem_cons_self).trans (ih (fun m c hc => h m c (List.mem_cons_of_mem _ hc)) _)

/-- Two places of the memories are apart when their regions or their offsets differ. -/
theorem place_ne {n o n' o' : Nat} (ho : o < regionSize) (ho' : o' < regionSize) (h : n ≠ n' ∨ o ≠ o') :
    regionSize * n + o ≠ regionSize * n' + o' := by
  intro e
  have hR : 0 < regionSize := by decide
  have h1 : (regionSize * n + o) / regionSize = n := by rw [Nat.mul_add_div hR, Nat.div_eq_of_lt ho, Nat.add_zero]
  have h2 : (regionSize * n' + o') / regionSize = n' := by rw [Nat.mul_add_div hR, Nat.div_eq_of_lt ho', Nat.add_zero]
  have hn : n = n' := by rw [← h1, ← h2, e]
  subst hn
  rcases h with h | h <;> omega

theorem touch_setByte (n o : Nat) (v : Byte) (ho : o < regionSize) (hs : n / 4 = sid) (hd : n % 2 = 0 → 8 * lo ≤ o ∧ o < 8 * hi)
    (hc : n % 2 = 1 → lo ≤ o ∧ o < hi) : Touch sid lo hi m (memSetByte m (regionSize * n + o) v) := by
  intro n' o' ho' hn
  refine memByte_set_other _ _ (place_ne ho' ho ?_)
  by_contra hx
  rw [not_or, not_not, not_not] at hx
  obtain ⟨rfl, rfl⟩ := hx
  exact hn ⟨hs, hd, hc⟩

theorem touch_setBytes (n o : Nat) (bs : List Byte) (ho : o + bs.length ≤ regionSize) (hs : n / 4 = sid)
    (hd : n % 2 = 0 → 8 * lo ≤ o ∧ o + bs.length ≤ 8 * hi) (hc : n % 2 = 1 → lo ≤ o ∧ o + bs.length ≤ hi) :
    Touch sid lo hi m (memSetBytes m (regionSize * n + o) bs) := by
  induction bs generalizing m o with
  | nil => exact .refl
  | cons b bs ih =>
    simp only [List.length_cons] at ho hd hc
    rw [memSetBytes]
    refine (touch_setByte n o b (by omega) hs (fun e => by have := hd e; omega) (fun e => by have := hc e; omega)).trans ?_
    rw [show regionSize * n + o + 1 = regionSize * n + (o + 1) by omega]
    exact ih (o + 1) (by omega) (fun e => by have := hd e; omega) (fun e => by have := hc e; omega)

theorem dataBase_eq (sid c : Nat) : dataBase sid c = regionSize * ((sid * 2 + c) * 2) := rfl

theorem copies_lt {sid c : Nat} (h : c ∈ copies sid) : c < 2 := by
  unfold copies at h
  split at h <;> simp at h <;> omega

/-- A 32-byte unit written with any bytes: its own four words. -/
theorem touch_unitRaw (c ui : Nat) (v : List Byte) (hc : c < 2) (hu : ui < 2 ^ 22) :
    Touch sid (4 * ui) (4 * ui + 4) m (putUnitRaw m sid c ui v) := by
  unfold putUnitRaw
  have hl : (v.take 32).length ≤ 32 := by simp
  have hR : regionSize = 2 ^ 27 := rfl
  rw [dataBase_eq]
  exact touch_setBytes _ _ _ (by omega) (by omega) (fun _ => by omega) (fun e => by omega)

theorem touch_unit (ui : Nat) (v : List Byte) (hu : ui < 2 ^ 22) : Touch sid (4 * ui) (4 * ui + 4) m (putUnit m sid ui v) :=
  touch_foldl _ _ (fun _ c hc => touch_unitRaw c ui _ (copies_lt hc) hu) m

/-- An 8-byte word written with any data and check byte. -/
theorem touch_wordRaw (c wi : Nat) (d : List Byte) (k : Byte) (hc : c < 2) (hw : wi < 2 ^ 24) :
    Touch sid wi (wi + 1) m (putWordRaw m sid c wi d k) := by
  unfold putWordRaw
  have hl : (d.take 8).length ≤ 8 := by simp
  have hR : regionSize = 2 ^ 27 := rfl
  rw [dataBase_eq]
  refine Touch.trans (m' := memSetBytes m (regionSize * ((sid * 2 + c) * 2) + 8 * wi) (d.take 8))
    (touch_setBytes _ _ _ (by omega) (by omega) (fun _ => by omega) (fun e => by omega)) ?_
  exact touch_setByte ((sid * 2 + c) * 2 + 1) wi _ (by omega) (by omega) (fun e => by omega) (fun _ => by omega)

theorem touch_word (wi : Nat) (d : List Byte) (hw : wi < 2 ^ 24) : Touch sid wi (wi + 1) m (putWord m sid wi d) :=
  touch_foldl _ _ (fun _ c hc => touch_wordRaw c wi d _ (copies_lt hc) hw) m

theorem touch_byte (off : Nat) (b : Byte) (ho : off < regionSize) : Touch sid (off / 8) (off / 8 + 1) m (putByte m sid off b) := by
  have hR : regionSize = 2 ^ 27 := rfl
  refine touch_foldl _ _ (fun m c hc => ?_) m
  have hc := copies_lt hc
  dsimp only
  refine (touch_setByte ((sid * 2 + c) * 2) off b ho (by omega) (fun _ => by omega) (fun e => by omega)).trans ?_
  exact touch_setByte ((sid * 2 + c) * 2 + 1) (off / 8) _ (by omega) (by omega) (fun e => by omega) (fun _ => by omega)

theorem touch_bytes (off : Nat) (bs : List (Option Byte)) (ho : off + bs.length ≤ regionSize) :
    Touch sid 0 (2 ^ 24) m (putBytes m sid off bs) := by
  have hR : regionSize = 2 ^ 27 := rfl
  induction bs generalizing m off with
  | nil => exact .refl
  | cons b bs ih =>
    simp only [List.length_cons] at ho
    cases b with
    | none => exact ih (off + 1) (by omega)
    | some b => exact ((touch_byte off b (by omega)).mono (by omega) (by omega)).trans (ih (off + 1) (by omega))

/-- A word that stands apart from the touched ones reads as before: a word of another structure, another word of 8 bytes, or a
word of another unit of 32 bytes. -/
theorem readWord_touch {sid' wi : Nat} (h : Touch sid lo hi m m') (hw : wi < 2 ^ 24)
    (ha : sid' = sid → if unit32 sid then 4 * (wi / 4) + 4 ≤ lo ∨ hi ≤ 4 * (wi / 4) else wi < lo ∨ hi ≤ wi) :
    readWord m' sid' wi = readWord m sid' wi := by
  have hR : regionSize = 2 ^ 27 := rfl
  have raw (c : Nat) (hc : c < 2) : readRaw m' sid' c wi = readRaw m sid' c wi := by
    unfold readRaw
    by_cases hu : unit32 sid' = true
    · have : unitRaw m' sid' c (wi / 4) = unitRaw m sid' c (wi / 4) := by
        unfold unitRaw
        apply memBytes_congr
        intro k hk
        rw [dataBase_eq, Nat.add_assoc]
        refine h _ _ (by omega) (fun hx => ?_)
        obtain ⟨h1, h2, _⟩ := hx
        have hs : sid' = sid := by omega
        have h3 := ha hs
        rw [← hs, hu, if_pos rfl] at h3
        have := h2 (by omega)
        omega
      simp only [hu, if_true, this]
    · have hu' : unit32 sid' = false := by simpa using hu
      have hd : memBytes m' (dataBase sid' c + 8 * wi) 8 = memBytes m (dataBase sid' c + 8 * wi) 8 := by
        apply memBytes_congr
        intro k hk
        rw [dataBase_eq, Nat.add_assoc]
        refine h _ _ (by omega) (fun hx => ?_)
        obtain ⟨h1, h2, _⟩ := hx
        have hs : sid' = sid := by omega
        have h3 := ha hs
        rw [← hs, hu'] at h3
        have := h2 (by omega)
        simp only [Bool.false_eq_true, if_false] at h3
        omega
      have hk : memByte m' (checkBase sid' c + wi) = memByte m (checkBase sid' c + wi) := by
        refine h ((sid' * 2 + c) * 2 + 1) wi (by omega) (fun hx => ?_)
        obtain ⟨h1, _, h2⟩ := hx
        have hs : sid' = sid := by omega
        have h3 := ha hs
        rw [← hs, hu'] at h3
        have := h2 (by omega)
        simp only [Bool.false_eq_true, if_false] at h3
        omega
      simp only [hu', Bool.false_eq_true, if_false, wordSyn, hd, hk]
  unfold readWord
  rw [raw 0 (by omega), raw 1 (by omega)]

/-! ### States -/

/-- From `s` to `t` no flip-mask becomes armed, and while none is armed every word outside `own` is kept. -/
def Quiet (own : Nat → Nat → Bool) (s t : State) : Prop :=
  s.rd INTEG_FLIP_SEL_flip_armed ≠ 1 → t.rd INTEG_FLIP_SEL_flip_armed ≠ 1 ∧ WordsKept s t own

theorem Quiet.refl : Quiet own s s := fun h => ⟨h, fun _ _ _ _ _ _ => rfl⟩

theorem Quiet.trans (h : Quiet own s t) (k : Quiet own t u) : Quiet own s u := fun a =>
  ⟨(k (h a).1).1, fun sid wi h1 h2 h3 h4 => ((k (h a).1).2 sid wi h1 h2 h3 h4).trans ((h a).2 sid wi h1 h2 h3 h4)⟩

theorem Quiet.mono {own' : Nat → Nat → Bool} (h : Quiet own s t) (hm : ∀ sid wi, own' sid wi = false → own sid wi = false) :
    Quiet own' s t := fun a => ⟨(h a).1, fun sid wi h1 h2 h3 h4 => (h a).2 sid wi h1 h2 h3 (hm _ _ h4)⟩

/-- A change that leaves the registers and the memories. -/
theorem Quiet.of_parts (hr : t.regs = s.regs) (hm : t.mem = s.mem) : Quiet own s t := fun a =>
  ⟨by rwa [State.rd, State.rdi_congr hr, ← State.rd], fun _ _ _ _ _ _ => by rw [hm]⟩

theorem quiet_foldl {α : Type} (f : State → α → State) (l : List α) (h : ∀ s, ∀ a ∈ l, Quiet own s (f s a)) (s : State) :
    Quiet own s (l.foldl f s) := by
  induction l generalizing s with
  | nil => exact .refl
  | cons a l ih =>
    exact (h s a List.mem_cons_self).trans (ih (fun s b hb => h s b (List.mem_cons_of_mem _ hb)) _)

/-- A register other than the arming of the flip-mask. -/
theorem quiet_wri {f : Fld} {i : Nat} (v : Nat) (h : fldKey f i ≠ fldKey INTEG_FLIP_SEL_flip_armed 0) : Quiet own s (s.wri f i v) :=
  fun a => ⟨by rwa [State.rd, State.rdi_wri_other _ _ h.symm, ← State.rd], fun _ _ _ _ _ _ => rfl⟩

theorem quiet_forget (sid a b : Nat) : Quiet own s (s.forget sid a b) := fun h =>
  ⟨by rwa [forget_rd _ _ _ (by decide) (by decide)], fun _ _ _ _ _ _ => by
    unfold State.forget
    dsimp only
    split <;> rfl⟩

/-- No flip-mask is armed, and none acts. -/
theorem fireFlip_idle (sid ui : Nat) (h : s.rd INTEG_FLIP_SEL_flip_armed ≠ 1) : s.fireFlip sid ui = s := by
  simp [State.fireFlip, h]

/-- A store: its memory, its forgotten keys and the flip-mask that it may meet. -/
theorem quiet_store (m : Memory) (sid a b ui : Nat)
    (h : ∀ sid wi, sid ≠ sidCaddy → sid ≠ sidBar2 → wi < 2 ^ 24 → own sid wi = false → readWord m sid wi = readWord s.mem sid wi) :
    Quiet own s ((({ s with mem := m } : State).forget sid a b).fireFlip sid ui) := by
  have h1 : Quiet own s { s with mem := m } := fun ha => ⟨ha, h⟩
  have h2 := h1.trans (quiet_forget sid a b)
  intro ha
  rw [fireFlip_idle _ _ (h2 ha).1]
  exact h2 ha

theorem quiet_storeUnit (sid ui : Nat) (v : List Byte) (hs : unit32 sid = true) (hu : ui < 2 ^ 22)
    (ho : ∀ wi, wi / 4 = ui → own sid wi = true) : Quiet own s (s.storeUnit sid ui v) :=
  quiet_store _ _ _ _ _ (fun sid' wi _ _ hw h4 => readWord_touch (touch_unit ui v hu) hw (fun e => by
    rw [hs, if_pos rfl]
    by_contra hx
    have := ho wi (by omega)
    rw [e, this] at h4; cases h4))

theorem quiet_storeUnitBytes (sid ui i : Nat) (bs : List (Option Byte)) (hs : unit32 sid = true) (hu : ui < 2 ^ 22)
    (ho : ∀ wi, wi / 4 = ui → own sid wi = true) : Quiet own s (s.storeUnitBytes sid ui i bs) := by
  unfold State.storeUnitBytes
  dsimp only
  split
  · exact .refl
  · refine quiet_store _ _ _ _ _ (fun sid' wi _ _ hw h4 => readWord_touch (sid := sid) (lo := 4 * ui) (hi := 4 * ui + 4)
      (touch_foldl _ _ (fun _ c hc => touch_unitRaw c ui _ (copies_lt hc) hu) _) hw (fun e => ?_))
    rw [hs, if_pos rfl]
    by_contra hx
    have := ho wi (by omega)
    rw [e, this] at h4; cases h4

theorem quiet_storeWord (sid wi : Nat) (d : List Byte) (hs : unit32 sid = false) (hw : wi < 2 ^ 24) (ho : own sid wi = true) :
    Quiet own s (s.storeWord sid wi d) :=
  quiet_store _ _ _ _ _ (fun sid' wi' _ _ hw' h4 => readWord_touch (touch_word wi d hw) hw' (fun e => by
    rw [hs]
    simp only [Bool.false_eq_true, if_false]
    by_contra hx
    have : wi' = wi := by omega
    rw [e, this, ho] at h4; cases h4))

theorem quiet_slotInvalidate (i : Nat) (hi : i < 2 ^ 22) (ho : ∀ wi, wi / 4 = i → own sidArray wi = true) :
    Quiet own s (s.slotInvalidate i) :=
  quiet_store _ _ _ _ _ (fun sid' wi _ _ hw h4 => readWord_touch (touch_unitRaw 0 i _ (by omega) hi) hw (fun e => by
    rw [show unit32 sidArray = true from rfl, if_pos rfl]
    by_contra hx
    have := ho wi (by omega)
    rw [e, this] at h4; cases h4))

/-- A store in the caddy or in BAR2's RAM leaves the other structures. -/
theorem quiet_storeBytes (sid off : Nat) (bs : List (Option Byte)) (hs : sid = sidCaddy ∨ sid = sidBar2) (ho : off + bs.length ≤ regionSize) :
    Quiet own s (s.storeBytes sid off bs) := by
  unfold State.storeBytes
  split
  · exact .refl
  · exact quiet_store _ _ _ _ _ (fun sid' wi h1 h2 hw _ => readWord_touch (touch_bytes off bs ho) hw (fun e => by
      rcases hs with hs | hs <;> exact absurd (e.trans hs) (by assumption)))

/-! ### Events -/

theorem quiet_vector (v : Nat) : Quiet own s (s.sendVector v) := by
  unfold State.sendVector
  split
  · exact quiet_wri _ (by decide)
  · split <;> exact .of_parts rfl rfl

theorem quiet_setEvent {f : Fld} {i : Nat} (k : Nat) (h : fldKey f i ≠ fldKey INTEG_FLIP_SEL_flip_armed 0) :
    Quiet own s (s.setEvent f i k) := by
  unfold State.setEvent State.irqFrom
  split
  · exact Quiet.trans (t := s.setBit f i k true) (quiet_wri _ h) (quiet_vector _)
  · exact quiet_wri _ h

theorem quiet_bar2Put (off : Nat) (bs : List Byte) (h : off + bs.length ≤ regionSize) : Quiet own s (s.bar2Put off bs) :=
  quiet_storeBytes _ _ _ (.inr rfl) (by simpa using h)

theorem quiet_eupex (x : Eupex) : Quiet own s { s with eupex := x } := .of_parts rfl rfl

theorem quiet_sendPkt (x : Packet) : Quiet own s (s.sendPkt x) := by
  have h : Quiet own s { s with chain := { s.chain with tx := s.chain.tx ++ [x] } } := .of_parts rfl rfl
  exact h.trans (quiet_wri _ (by decide))

theorem quiet_writeEvent (r : EventRec) : Quiet own s (s.writeEvent r) := by
  have hR : regionSize = 2 ^ 27 := rfl
  have hb : (eventBody r).length = 56 := by simp [eventBody, padTo, leBytes]; omega
  have h8 : (leBytes 8 (s.rd MBX_EVT_STATUS_evt_written)).length = 8 := by simp [leBytes]
  unfold State.writeEvent
  dsimp only
  generalize leBytes 8 (s.rd MBX_EVT_STATUS_evt_written) = tail at h8 ⊢
  generalize ha : 0x2000 + 0x40 * (s.rd MBX_EVT_STATUS_evt_written % 64) = a
  have h1 : Quiet own s ((s.bar2Put a (eventBody r)).bar2Put (a + 0x38) tail) :=
    (quiet_bar2Put a (eventBody r) (by omega)).trans (quiet_bar2Put (a + 0x38) tail (by omega))
  generalize (s.bar2Put a (eventBody r)).bar2Put (a + 0x38) tail = s1 at h1 ⊢
  have h2 := h1.trans (quiet_wri (f := MBX_EVT_STATUS_evt_written) (i := 0) ((s.rd MBX_EVT_STATUS_evt_written + 1) % 65536) (by decide))
  split
  · exact h2.trans (quiet_vector _)
  · exact h2

theorem quiet_postEvent (r : EventRec) : Quiet own s (s.postEvent r) := by
  unfold State.postEvent
  split
  · exact quiet_sendPkt _
  · split
    · exact quiet_writeEvent r
    · split
      · exact quiet_eupex _
      · exact ((quiet_eupex _).trans (quiet_wri _ (by decide))).trans (quiet_setEvent 0 (by decide))

theorem quiet_smbCause (b : Nat) : Quiet own s (s.smbCause b) := by
  unfold State.smbCause
  dsimp only
  split
  · exact .refl
  · split
    · exact Quiet.trans (t := s.setBit PIN_SMB_CAUSE_cause 0 b true) (quiet_wri _ (by decide)) (.of_parts rfl rfl)
    · exact quiet_wri _ (by decide)

theorem quiet_raise {f : Fld} {i : Nat} (h : fldKey f i ≠ fldKey INTEG_FLIP_SEL_flip_armed 0) : Quiet own s (s.raisei f i) := by
  unfold State.raisei State.raiseAt
  dsimp only
  have h1 : Quiet own s (if f.base = 0x1030 then s.alertFrom (s.setEvent f i 0) else s.setEvent f i 0) := by
    split
    · unfold State.alertFrom
      split
      · exact (quiet_setEvent 0 h).trans (quiet_smbCause 3)
      · exact quiet_setEvent 0 h
    · exact quiet_setEvent 0 h
  split
  · exact h1
  · split
    · exact h1.trans (quiet_postEvent _)
    · exact h1

theorem quiet_conflict (b action how : Nat) : Quiet own s (s.conflict b action how) := by
  unfold State.conflict
  have h1 : Quiet own s (((s.inc MBX_CONFLICT_conflict_count).wr MBX_CONFLICT_last_block b).raise MBX_EVENT_expert_conflict) :=
    ((quiet_wri (f := MBX_CONFLICT_conflict_count) _ (by decide)).trans (quiet_wri (f := MBX_CONFLICT_last_block) b (by decide))).trans
      (quiet_raise (f := MBX_EVENT_expert_conflict) (i := 0) (by decide))
  generalize ((s.inc MBX_CONFLICT_conflict_count).wr MBX_CONFLICT_last_block b).raise MBX_EVENT_expert_conflict = s1 at h1 ⊢
  dsimp only
  refine h1.trans ?_
  repeat' split
  all_goals first | exact (quiet_eupex _).trans (quiet_postEvent _) | exact quiet_eupex _

/-! ### The journal -/

theorem mem_insertNat {l : List Nat} {k x : Nat} (h : x ∈ insertNat l k) : x = k ∨ x ∈ l := by
  induction l with
  | nil => simpa [insertNat] using h
  | cons y l ih =>
    simp only [insertNat] at h
    split at h
    · simpa using h
    · split at h
      · exact .inr h
      · rcases List.mem_cons.1 h with h | h
        · exact .inr (List.mem_cons.2 (.inl h))
        · rcases ih h with h | h
          · exact .inl h
          · exact .inr (List.mem_cons.2 (.inr h))

theorem mem_sortNat {l : List Nat} {x : Nat} (h : x ∈ sortNat l) : x ∈ l := by
  have go (l acc : List Nat) (h : x ∈ l.foldl insertNat acc) : x ∈ l ∨ x ∈ acc := by
    induction l generalizing acc with
    | nil => exact .inr h
    | cons y l ih =>
      rcases ih _ h with h | h
      · exact .inl (List.mem_cons_of_mem _ h)
      · rcases mem_insertNat h with h | h
        · exact .inl (h ▸ List.mem_cons_self)
        · exact .inr h
  rcases go l [] h with h | h
  · exact h
  · cases h

/-- A new value of the journal's part. -/
theorem quiet_jrnl (x : Journal) : Quiet own s { s with jrnl := x } := .of_parts rfl rfl

theorem touch_poison (wi : Nat) (d : List Byte) (hs : unit32 sid = false) (hw : wi < 2 ^ 24) :
    Touch sid wi (wi + 1) m (putPoison m sid wi d) := by
  unfold putPoison
  simp only [hs, Bool.false_eq_true, if_false]
  exact touch_foldl _ _ (fun _ c hc => touch_wordRaw c wi d _ (copies_lt hc) hw) m

/-- Bytes stored in the caddy, some of them poisoned, leave the other structures. -/
theorem quiet_cadPutBad (off : Nat) (bs : List Byte) (bad : List Nat) (h : off + bs.length ≤ regionSize)
    (hb : ∀ i ∈ bad, off + i < regionSize) : Quiet own s (s.cadPutBad off bs bad) := by
  have hR : regionSize = 2 ^ 27 := rfl
  unfold State.cadPutBad
  refine Quiet.trans ?_ (quiet_wri (f := CADDY_WRITES_lines_written) (i := 0) _ (by decide))
  unfold State.storeMixed
  split
  · exact quiet_storeBytes _ _ _ (.inl rfl) (by simpa using h)
  · dsimp only
    have hw : ∀ w ∈ sortNat (bad.map (fun i => (off + i) / 8)), w < 2 ^ 24 := by
      intro w hw
      have hw := mem_sortNat hw
      rw [List.mem_map] at hw
      obtain ⟨i, hi, rfl⟩ := hw
      have := hb i hi
      omega
    refine Quiet.trans (quiet_store _ _ _ _ _ (fun sid' wi h1 h2 hw' _ => readWord_touch (sid := sidCaddy) (lo := 0) (hi := 2 ^ 24)
      ((touch_bytes off (bs.map some) (by simpa using h)).trans (touch_foldl _ _ (fun m w hm => ?_) _)) hw' (fun e => absurd e h1)))
      (quiet_foldl _ _ (fun _ _ _ => quiet_wri (f := INTEG_POISON_COUNT_poison_stored) (i := 0) _ (by decide)) _)
    have := hw w hm
    exact (touch_poison w _ rfl this).mono (by omega) (by omega)

theorem quiet_ringPut (off : Nat) (bs : List Byte) (bad : List Nat) (h : bs.length ≤ cadRingSize) (hb : ∀ i ∈ bad, i < 2 ^ 26) :
    Quiet own s (s.ringPut off bs bad) := by
  have hR : regionSize = 2 ^ 27 := rfl
  have hC : cadRingSize = 27584 * 1024 := rfl
  have hB : cadRing = 0x510000 := rfl
  have ho : off % cadRingSize < cadRingSize := Nat.mod_lt _ (by decide)
  unfold State.ringPut
  dsimp only
  have h1 : Quiet own s (s.cadPutBad (cadRing + off % cadRingSize) (bs.take (min bs.length (cadRingSize - off % cadRingSize)))
      (bad.filter (· < min bs.length (cadRingSize - off % cadRingSize)))) := by
    refine quiet_cadPutBad _ _ _ (by simp only [List.length_take]; omega) (fun i hi => ?_)
    have := (List.mem_filter.1 hi).2
    simp only [decide_eq_true_eq] at this
    omega
  split
  · refine h1.trans (quiet_cadPutBad _ _ _ (by simp only [List.length_drop]; omega) (fun i hi => ?_))
    rw [List.mem_map] at hi
    obtain ⟨j, hj, rfl⟩ := hi
    have := hb j (List.mem_filter.1 hj).1
    omega
  · exact h1

theorem quiet_jrnlPut (type op table : Nat) (payload : List Byte) (bad : List Nat) (hb : ∀ i ∈ bad, i < 2 ^ 25) :
    Quiet own s (s.jrnlPut type op table payload bad) := by
  unfold State.jrnlPut
  dsimp only
  split
  · exact (quiet_wri (f := CADDY_STATUS_jrnl_full) (i := 0) 1 (by decide)).trans (quiet_raise (f := CADDY_EVENT_jrnl_full) (i := 0) (by decide))
  · refine (quiet_ringPut s.jrnl.head (jrnlRecord type op s.jrnl.seq table payload) (bad.map (32 + ·)) (by omega) (fun i hi => ?_)).trans (quiet_jrnl _)
    rw [List.mem_map] at hi
    obtain ⟨j, hj, rfl⟩ := hi
    have := hb j hj
    omega

theorem quiet_jrnlClose : Quiet own s s.jrnlClose := by
  unfold State.jrnlClose
  split
  · exact .refl
  · dsimp only
    have h := quiet_jrnlPut (own := own) (s := s) 5 0 0xFF (leBytes 8 (s.jrnl.commitNo + 1) ++ leBytes 8 s.clk.ply ++
      leBytes 4 (s.jrnl.crc ^^^ 0xFFFFFFFF) ++ List.replicate 12 0) [] (by simp)
    split
    · exact h
    · exact h.trans (quiet_jrnl _)

theorem quiet_jrnlLimit : Quiet own s s.jrnlLimit := by
  unfold State.jrnlLimit
  split
  · exact quiet_jrnlClose
  · exact .refl

theorem quiet_jrnlCheckpoint : Quiet own s s.jrnlCheckpoint := by
  unfold State.jrnlCheckpoint
  split
  · exact .refl
  · dsimp only
    have h := quiet_jrnlPut (own := own) (s := s) 1 0 0xFF (leBytes 8 s.jrnlMask) [] (by simp)
    split
    · exact h
    · exact ((h.trans (quiet_jrnl _)).trans (quiet_wri (f := CADDY_STATUS_ckpt_run) (i := 0) 1 (by decide))).trans quiet_jrnlLimit

theorem quiet_jrnlSpace : Quiet own s s.jrnlSpace := by
  unfold State.jrnlSpace
  split
  · exact quiet_jrnlCheckpoint
  · exact .refl

/-- The journal's record of an update stands in the caddy; it leaves the other structures. -/
theorem quiet_delta (op t : Nat) (payload : List Byte) (bad : List Nat) (hb : ∀ i ∈ bad, i < 2 ^ 25) :
    Quiet own s (s.delta op t payload bad) := by
  unfold State.delta State.jrnlAppend
  split
  · exact .refl
  · split
    · exact .refl
    · split
      · exact quiet_conflict _ _ _
      · split
        · exact .refl
        · exact ((quiet_jrnlPut _ _ _ _ _ hb).trans quiet_jrnlLimit).trans quiet_jrnlSpace

/-! ### Updates -/

theorem quiet_stamp (t : Nat) : Quiet own s (s.stamp t) := by
  unfold State.stamp
  exact Quiet.trans (t := s.setInfo t { s.tblInfo t with lastPly := s.clk.ply }) (.of_parts rfl rfl)
    (quiet_wri _ (by simp [fldKey, TCAM_TBL_PLY_tbl_ply, INTEG_FLIP_SEL_flip_armed]; omega))

theorem srcBad_lt {l : List RecSrc} {n : Nat} (h : ∀ x ∈ l, x.pos + x.len ≤ n) : ∀ i ∈ s.srcBad l, i < n := by
  intro i hi
  unfold State.srcBad at hi
  rw [List.mem_flatMap] at hi
  obtain ⟨x, hx, hi⟩ := hi
  rw [List.mem_map] at hi
  obtain ⟨k, hk, rfl⟩ := hi
  have := h x (List.mem_filter.1 hx).1
  rw [List.mem_range] at hk
  omega

theorem tcamSrc_lt (t f : Nat) (hw : s.tblW t ≤ 8) : ∀ x ∈ s.tcamSrc t f, x.pos + x.len ≤ 256 := by
  intro x hx
  unfold State.tcamSrc at hx
  simp only [List.cons_append, List.nil_append, List.mem_cons, List.mem_flatMap, List.mem_range, List.not_mem_nil, or_false] at hx
  rcases hx with rfl | rfl | ⟨k, hk, rfl | rfl | rfl | rfl⟩ <;> dsimp only <;> omega

theorem placeSrc_lt (p : Place) : ∀ x ∈ placeSrc p, x.pos + x.len ≤ 256 := by
  intro x hx
  simp only [placeSrc, List.mem_cons, List.not_mem_nil, or_false] at hx
  rcases hx with rfl | rfl | rfl | rfl <;> dsimp only <;> omega

/-- The stores of an entry of a ternary table: its slots and its result word. -/
theorem quiet_putEntry (f w prio result : Nat) (value mask : List Byte) (hf : f + w ≤ 2 ^ 22)
    (ha : ∀ wi, 4 * f ≤ wi → wi < 4 * (f + w) → own sidArray wi = true) (hr : own sidResult f = true) (hw : 0 < w) :
    Quiet own s (s.putEntry f w prio result value mask) := by
  unfold State.putEntry
  refine Quiet.trans (quiet_foldl _ _ (fun u k hk => ?_) _) (quiet_storeWord sidResult f _ rfl (by omega) hr)
  rw [List.mem_range] at hk
  exact quiet_storeUnit sidArray (f + k) _ rfl (by omega) (fun wi hwi => ha wi (by omega) (by omega))

theorem quiet_dropEntry (f w : Nat) (hf : f + w ≤ 2 ^ 22)
    (ha : ∀ wi, 4 * f ≤ wi → wi < 4 * (f + w) → own sidArray wi = true) : Quiet own s (s.dropEntry f w) :=
  quiet_foldl _ _ (fun u k hk => by
    rw [List.mem_range] at hk
    exact quiet_slotInvalidate (f + k) (by omega) (fun wi hwi => ha wi (by omega) (by omega))) _

/-! ### Places of the exact-match store -/

/-- A place of a bucket or of the overflow store. -/
abbrev Place.real (p : Place) : Prop := (p.sid = sidBuckets ∨ p.sid = sidOverflow) ∧ p.unit < 2 ^ 22

theorem Place.real.unit32 {p : Place} (h : p.real) : unit32 p.sid = true := by rcases h.1 with h | h <;> rw [h] <;> rfl

theorem listedUnits_lt {n : Nat} (h : n ∈ listedUnits m sidOverflow) : n < 2 ^ 22 := by
  have h := mem_sortNat h
  have hR : regionSize = 2 ^ 27 := rfl
  have hu : unitBytes sidOverflow = 32 := rfl
  rw [List.mem_flatMap] at h
  obtain ⟨c, _, h⟩ := h
  rw [List.mem_filterMap] at h
  obtain ⟨e, _, h⟩ := h
  split at h
  · rename_i hx
    simp only [Bool.and_eq_true, decide_eq_true_eq] at hx
    rw [hu] at h
    cases h
    omega
  · split at h
    · rename_i hx; simp [show unit32 sidOverflow = true from rfl] at hx
    · cases h

theorem bucket_lt (t : Nat) (key : List Byte) : s.bucket t key < 2 ^ 19 := BitVec.isLt _

theorem candidates_real {t : Nat} {key : List Byte} {p : Place} (h : p ∈ s.candidates t key) : p.real := by
  unfold State.candidates at h
  rw [List.mem_append, List.mem_map, List.mem_map] at h
  have hb := bucket_lt (s := s) t key
  rcases h with ⟨w, hw, rfl⟩ | ⟨n, hn, rfl⟩
  · rw [List.mem_range] at hw
    exact ⟨.inl rfl, by dsimp only; omega⟩
  · exact ⟨.inr rfl, listedUnits_lt hn⟩

theorem exactFind_real {t k : Nat} {key : List Byte} {p : Place} (h : s.exactFind t k key = some p) : p.real := by
  unfold State.exactFind at h
  obtain ⟨ty, _, h⟩ := List.exists_of_findSome?_eq_some h
  exact candidates_real (List.mem_filter.1 (List.mem_of_find?_eq_some h)).1

theorem freePlace_real {t : Nat} {key : List Byte} {p : Place} (h : s.freePlace t key = some p) : p.real := by
  unfold State.freePlace at h
  have hb := bucket_lt (s := s) t key
  split at h
  · rename_i q hq
    cases h
    have := List.mem_of_find?_eq_some hq
    rw [List.mem_map] at this
    obtain ⟨w, hw, rfl⟩ := this
    rw [List.mem_range] at hw
    exact ⟨.inl rfl, by dsimp only; omega⟩
  · rw [Option.map_eq_some_iff] at h
    obtain ⟨n, hn, rfl⟩ := h
    have := List.find?_some hn
    simp only [Bool.and_eq_true, decide_eq_true_eq] at this
    exact ⟨.inr rfl, by dsimp only; omega⟩

theorem quiet_unlist (sid ui : Nat) : Quiet own s (s.unlist sid ui) := by
  unfold State.unlist
  split
  · exact .of_parts rfl rfl
  · exact .refl

theorem quiet_putPlace {p : Place} (hp : p.real) (v : List Byte) (ho : ∀ wi, wi / 4 = p.unit → own p.sid wi = true) :
    Quiet own s (s.putPlace p v) := (quiet_storeUnit p.sid p.unit v hp.unit32 hp.2 ho).trans (quiet_unlist _ _)

theorem quiet_putPlaceBytes {p : Place} (hp : p.real) (i : Nat) (bs : List Byte) (ho : ∀ wi, wi / 4 = p.unit → own p.sid wi = true) :
    Quiet own s (s.putPlaceBytes p i bs) := (quiet_storeUnitBytes p.sid p.unit i _ hp.unit32 hp.2 ho).trans (quiet_unlist _ _)

theorem quiet_dropPlace {p : Place} (hp : p.real) (ho : ∀ wi, wi / 4 = p.unit → own p.sid wi = true) :
    Quiet own s (s.dropPlace p) := by
  unfold State.dropPlace
  dsimp only
  split
  · exact quiet_putPlace hp _ ho
  · exact quiet_putPlaceBytes hp _ _ ho

theorem quiet_logHost (t type : Nat) (key : List Byte) : Quiet own s (s.logHost t type key) := by
  unfold State.logHost
  dsimp only
  split <;> exact .of_parts rfl rfl

theorem quiet_noteOverflow (b : State) : Quiet own s (State.noteOverflow b s) := by
  unfold State.noteOverflow
  split
  · exact quiet_raise (f := HASH_EVENT_ovf_high) (i := 0) (by decide)
  · exact .refl

end Sys2Proof.Machine
end

