-- ==== Sys2Proof/Tests/Helpers.lean ====
section
/-! SUPPORT. Small states and commands for the tests. -/

namespace Sys2Proof.Tests
open Sys2Proof Sys2Proof.Machine Sys2Proof.Machine.Reg

/-- Bytes from numbers. -/
def bytes (l : List Nat) : List Byte := l.map (BitVec.ofNat 8)

/-- A command as its mailbox holds it, taken and not begun. -/
def wc (op : Nat) (ps : List Nat) : Cmd :=
  { opcode := op, flags := 0, target := 0xFF, tag := 7, timeoutMs := 0, params := bytes ps, stage := .fresh, relayed := false }

/-- A command that waits for the event that completes it. -/
def ww (op : Nat) (ps : List Nat) : Cmd := { wc op ps with stage := .waiting }

/-- A command that has been sent over the chain. -/
def wr' (op : Nat) (ps : List Nat) : Cmd := { wc op ps with relayed := true }

/-- Mailbox `m` holds command `c`. -/
def has (m : Mb) (c : Cmd) (s : State) : State := s.setMbx m ⟨some c, []⟩

/-- A running module: both cores run firmware, the host link is up, and the host may be written to. -/
def base : State :=
  let s := (((((State.reset.wr PWR_STATE_fw_state 2).wr CORE_STATUS_ctl_state 2).wr CORE_STATUS_grd_state 2).wr
    SEC_STATUS_guard_running 1).wr GLB_LINK_link_up 1)
  { s with host := { s.host with perstHigh := true, cfg := { s.host.cfg with busMaster := true, msixEnable := true } } }

/-- The state that a command answers. -/
def after (c : Instr) (s : State) : State :=
  match exec c s with
  | .next t => t
  | _ => State.reset

/-- The host has claimed the blocks of a mask. -/
def claim (mask : Nat) (s : State) : State := s.wr GLB_CLAIM_claimed mask

/-- Logical table `t` is defined, with its engine. -/
def tbl (t e : Nat) (s : State) : State := (s.wri TCAM_TBL_CFG_defined t 1).wri TCAM_TBL_CFG_engine t e

/-- Block `b` is OWNED by table `t`. -/
def own (t b : Nat) (s : State) : State := (s.wri TCAM_BLK_CTRL_pwr_state b blkOwned).wri TCAM_BLK_CTRL_owner b t

/-- An image of one record at the start of mailbox data RAM. -/
def img (width engine : Nat) (r : List Byte) (s : State) : State :=
  s.refPut (0, 512) 0 (imageHeader width engine [r] ++ r)

/-- The number of bytes of an image of one record. -/
def imgLen (width engine : Nat) (r : List Byte) : Nat := (imageHeader width engine [r] ++ r).length

/-- An exact-match entry of table `t` in overflow entry 0. -/
def entry (t type : Nat) (key : List Byte) (result : Nat) (s : State) : State :=
  { s with mem := putUnit s.mem sidOverflow 0 (entImage key result type t 0 0 false) }

/-- A learned entry of table 1 in overflow entry 0. -/
def learned : State :=
  let s := tbl 1 2 base
  { s with mem := putUnit s.mem sidOverflow 0 (entImage [] 0 1 1 0 0 true) }

/-- Table 0 with one entry of 80 compared bits, all bytes 0x55, in array slot 0. -/
def oneRule : State :=
  let s := own 0 0 (tbl 0 1 base)
  { s with mem := putUnit s.mem sidArray 0 (slotImage (List.replicate 10 0x55) (List.replicate 10 0xFF) 3) }

/-- A stored prefix of table `t`, of at most 16 bits, in record 0 of stage 0. -/
def lpmAt (t pfx len result : Nat) (s : State) : State :=
  s.storeWords (sidStage 0) [(recBase 0, pfx), (recBase 0 + 1, result + len * 2 ^ 32 + (t + 128) * 2 ^ 40)]

/-- A profile of one ternary lookup of table 0 and one guard lookup, with one segment of 80 bits of the request. -/
def prof (p : Nat) : List Nat :=
  [p, 0, 0, 0, 0, 0, 0, 0] ++ List.replicate 8 0 ++ [1, 0, 0, 1, 5, 63, 0, 0] ++ List.replicate 8 0 ++ [0, 0, 0, 5] ++
    List.replicate 60 0

/-- A parameter page. -/
def page : ParamPage :=
  { valid := true, luns := 1, pageBytes := 16384, pages := 256, blocks := 1024, colCycles := 2, rowCycles := 3, tR := 50,
    tProg := 500, tBers := 3000, rates2 := [0, 1], rates3 := [], zq := true }

/-- A mounted port: one die, one save area of 65,536 bytes. -/
def upPort : SlotPort :=
  { SlotPort.empty with
      vccGood := true, dies := [0], param := some page
      header := bytes (List.replicate 56 0 ++ [1] ++ List.replicate 19 0 ++ [0, 0, 1, 0] ++ List.replicate 432 0) }

/-- Slot A in a state, with a mounted port. -/
def slot (st : Nat) (s : State) : State :=
  ({ s with slots := listSet s.slots 0 upPort } : State).wri SLOT_STATUS_state 0 st

/-- A head with one follower and its links up. -/
def head (s : State) : State :=
  ((s.wr CHN_STATUS_role 1).wr CHN_STATUS_state 2).wr CHN_STATUS_members 2

/-- The module stands at ply `n`. -/
def atPly (n : Nat) (s : State) : State := { s with clk := { s.clk with ply := n } }

/-- A follower of address 0 in a chain state, in a ply on which it samples its links. -/
def follower (st : Nat) : State := atPly 7 ((base.wr CHN_STATUS_role 2).wr CHN_STATUS_state st)

/-- A register word from the values of its fields. -/
def fw (l : List (Fld × Nat)) : RegWord := BitVec.ofNat 32 (l.foldl (fun n x => n + x.2 * 2 ^ x.1.lo) 0)

/-- Registers of an array written from instance 0 on, four bytes each. -/
def regs4 (f : Fld) (l : List Nat) (s : State) : State :=
  (List.range (l.length / 4)).foldl (fun s i => s.wri f i (leNat (bytes ((l.drop (4 * i)).take 4)))) s

/-- A Workbench image at the start of mailbox data RAM. -/
def wbench (kind : Nat) (body : List Byte) (s : State) : State :=
  s.refPut (0, 512) 0 (leBytes 4 0x54384F49 ++ leBytes 1 kind ++ leBytes 1 1 ++ leBytes 2 body.length ++
    leBytes 4 (crc32 body) ++ leBytes 4 0 ++ body)

/-- The caddy's record of firmware slot `i` names an image of `n` bytes with a CRC and a security version. -/
def slotRec (i n crc sv : Nat) (s : State) : State :=
  let r := leBytes 4 1 ++ leBytes 4 n ++ List.replicate 8 0 ++ leBytes 4 sv ++ List.replicate 8 0 ++ leBytes 4 crc ++
    List.replicate 28 0
  s.cadPut (cadSlotRec i) (r ++ leBytes 4 (crc32 r))

/-- A caddy with an anchor at ring offset 64, a COMMIT before it and nothing behind it. -/
def anchored (s : State) : State :=
  let a := leBytes 4 64 ++ leBytes 4 0 ++ leBytes 8 1 ++ leBytes 8 1 ++ List.replicate 36 0
  (s.cadPut (cadAnchor 0) (a ++ leBytes 4 (crc32 a))).cadPut cadRing (jrnlRecord 5 0 0 0 (List.replicate 24 0))

/-- A search of window lane 0 that is in flight. -/
def flight (tag : Nat) : InFlight :=
  { tag := tag, due := 0, src := .window 0 32, profile := 0, userTag := 0, bad := none, poisoned := false, outs := [], keys := []
    masks := [], guard := 0, slot := 0, k := 1, arrived := false, down := none }

/-- A fetch of its owner at a stage. -/
def aFetch (id : Nat) (owner : FetchOwner) (stage : FetchStage) : Fetch :=
  { id := id, owner := owner, profile := 0, fetchClass := 0, keyLen := 8, key := [], offset := 0, len := 64, dest := 4096
    userTag := 9, stage := stage, again := false, walked := false, found := none, desc := none, degraded := false
    corrected := false, excluded := false, wasRemote := false, eccHigh := false, maxBits := 0, ply := 0, written := 0, held := [], paced := 0
    next := 0, sectors := [], keySlot := none, issued := false, status := 0 }

/-- One fetch is in progress. -/
def fetchIs (f : Fetch) (s : State) : State := { s with strm := { s.strm with fetches := [f] } }

/-- Slot A holds a mounted cartridge, with its port in a state. -/
def port0 (x : SlotPort) (s : State) : State := ({ s with slots := listSet s.slots 0 x } : State).wri SLOT_STATUS_state 0 slReady

/-- One operation runs at die 7 of slot A. -/
def dieRun (kind : DieKind) (use : DieUse) (s : State) : State :=
  port0 { upPort with ops := [⟨7, 0, kind, use, false, false⟩] } s

/-- A read of die 7 of slot A has its page in the page register. -/
def dieRead (use : DieUse) (s : State) : State := port0 { upPort with ops := [⟨7, 0, .read, use, true, false⟩] } s

/-- Pad `n` carries signal `g`. -/
def sig (n g : Nat) (s : State) : State := (s.wri PIN_PAD_CFG_mode n 2).wri PIN_PAD_CFG_sig n g

/-- UART 2 in a state, enabled. -/
def uart2 (x : Uart) (s : State) : State := (s.wri PIN_Uu_CFG_en 1 1).setUart 1 x

/-- Fetch 7 is in progress. -/
def fetching (owner : FetchOwner) (stage : FetchStage) (s : State) : State :=
  { s with strm := { s.strm with fetches := [aFetch 7 owner stage] } }

/-- What an answer of another member is matched with. -/
theorem answered_of {s : State} {p : Packet} {q : Cmd → Bool} {a : AwaitRsp} {c : Cmd}
    (h : s.chain.awaits.find? (fun a => a.tag == p.tag && a.member == p.src) = some a) (hc : (s.mbx a.mb).taken = some c)
    (hq : q c = true) : s.answered p q =
      some (a.mb, c, { s with chain := { s.chain with awaits := s.chain.awaits.filter (fun b => b != a) } }) := by
  simp only [State.answered, h, hc, hq, if_true]

/-- A range of mailbox data RAM that nothing has written is not poisoned. -/
theorem refPoison_empty {s : State} {r : Nat × Nat} (h : s.mem = []) (hr : dataRam + r.1 + r.2 + 15 ≤ regionSize) :
    s.refPoison r = false := by
  unfold State.refPoison
  rw [rangePoison_fresh _ _ hr (h ▸ parityFresh_nil sidBar2 (by decide)), Bool.and_false]

/-- Mailbox URGENT holds a command whose answer, with tag 7, is awaited from member 1. -/
def awaiting (c : Cmd) (s : State) : State :=
  let t := has .urgent c s
  { t with chain := { t.chain with awaits := [⟨7, 1, .urgent⟩] } }

/-! A firmware image that verifies: sections of 64 zero bytes, a firmware certificate and a provisioning root. Each key was
chosen to fit a signature of its message. -/

/-- A certificate. -/
def cert (type subject issuer key sig : Nat) : List Byte :=
  leBytes 4 0x54384354 ++ leBytes 4 (type + 256) ++ leBytes 8 subject ++ leBytes 8 issuer ++ List.replicate 8 0 ++
    beBytes 64 key ++ List.replicate 32 0 ++ beBytes 64 sig

/-- The provisioning root. -/
def rootCert : List Byte :=
  cert 1 1 1 0x03297ebe125977c7e8e0d02a540435104ac653e9da1f10b279f142b1d69089452fb6946b2383ebefe151b9aa557a2a4af84fa7b0a42b63d9ebff98373c605bec 0

/-- The firmware signing certificate. -/
def fwCert : List Byte :=
  cert 6 2 1 0x9bbfffe86bc5177f4edf78a8a1fd8da4f245a4e81a485d7be86a938c304b49c8a2d07531efd65e503d73093ad775c2ff9dfe164be8bc41cf5053e5cd1d98e816
    0xb5cab3fab474a8ec8e85520bc980f131dcd9899395f88ef4ee16141d71bb7c5bb5cab3fab474a8ec8e85520bc980f131dcd9899395f88ef4ee16141d71bb7c5b

/-- The image. -/
@[irreducible] def fwImage : List Byte :=
  leBytes 4 0x54384657 ++ leBytes 4 1 ++ List.replicate 8 0 ++ leBytes 4 1 ++ leBytes 4 64 ++ leBytes 4 64 ++
    List.replicate 228 0 ++ rootCert ++ fwCert ++
    beBytes 64 0xb3b3c73a04013770bd39b948b7c70ced9be04fbfe684f97ce2e5c6b3ad620ce8b3b3c73a04013770bd39b948b7c70ced9be04fbfe684f97ce2e5c6b3ad620ce8

/-- A security region in force that holds the root's hash. -/
@[irreducible] def otpRoot (s : State) : State :=
  { (s.wr OTP_STATUS_sec_state 1) with
    mem := putBytes s.mem sidOtp 0x188 ((sha256 ((rootCert.drop 32).take 64)).map some) }

/-- The caddy's record of a slot that holds the image, with security version 1. -/
@[irreducible] def fwRec : List Byte :=
  let r := leBytes 4 1 ++ leBytes 4 704 ++ List.replicate 8 0 ++ leBytes 4 1 ++ List.replicate 8 0 ++
    leBytes 4 (crc32 fwImage) ++ List.replicate 28 0
  r ++ leBytes 4 (crc32 r)

/-- Bytes written into the caddy, uncounted. -/
def cad (off : Nat) (bs : List Byte) (s : State) : State := { s with mem := putBytes s.mem sidCaddy off (bs.map some) }

/-- The caddy with the image in slot 0, and then in slot 1, and then the two slot records. -/
def withImage0 : State := cad (cadSlot 0) fwImage (otpRoot base)
def withImages : State := cad (cadSlot 1) fwImage withImage0
def withRec0 : State := cad (cadSlotRec 0) fwRec withImages
def withRecs : State := cad (cadSlotRec 1) fwRec withRec0

/-- Both slots of the caddy hold the image, and the running firmware has security version 1. -/
def twoImages : State := { withRecs with cores := { withRecs.cores with securityVersion := 1 } }

/-- A command answers a next state. -/
def isNext : Out → Bool
  | .next _ => true
  | _ => false

/-- An update is done. -/
def isDone : UpdRes → Bool
  | .done _ _ => true
  | _ => false

/-- The state that a command answers. -/
theorem next_of {o : Out} (h : isNext o = true) : ∃ t, o = .next t := by
  cases o with
  | next t => exact ⟨t, rfl⟩
  | _ => cases h

/-- The state and the response of an update that is done. -/
theorem done_of {r : UpdRes} (h : isDone r = true) : ∃ u resp, r = .done u resp := by
  cases r with
  | done u resp => exact ⟨u, resp, rfl⟩
  | _ => cases h

end Sys2Proof.Tests
end

