-- ==== Sys2Proof/Tests/Slice0.lean ====
section
/-! SUPPORT. Small tests: ill-formed operands that the check refuses, the manual's worked values, and single steps. Expected
values are the manual's (the rule or example is named), or published check values of a named standard. -/

set_option Elab.async false

namespace Sys2Proof.Tests
open Sys2Proof Sys2Proof.Machine Sys2Proof.Machine.Reg

/-! ### Well-formedness: one ill-formed term for each check -/

theorem test_wf_read_beyond_bar0 : (Instr.rcRead .bar0 0x3FFFFC 8 true).wf = false := by decide
theorem test_wf_read_beyond_bar2 : (Instr.rcRead .bar2 0xFFFFC 8 true).wf = false := by decide
theorem test_wf_read_of_nothing : (Instr.rcRead .bar0 0 0 true).wf = false := by decide
theorem test_wf_write_too_long : (Instr.registerWrite .bar0 0 (List.replicate 4097 none)).wf = false := by decide +kernel
theorem test_wf_unaligned_register : (Instr.mmClear 0x1006 0).wf = false := by decide
theorem test_wf_register_in_a_window : (Instr.mmClear 0x100000 0).wf = false := by decide
theorem test_wf_window : (Instr.windowRead 0 0x1FFFF 2).wf = false := by decide
theorem test_wf_window_search : (Instr.windowSearch 0 129).wf = false := by decide
theorem test_wf_count_word : (Instr.doorbellCountWordWrite 0x6000 0).wf = false := by decide
theorem test_wf_boot_record : (Instr.bootRecordWrite 0x8FFFF [none, none]).wf = false := by decide
theorem test_wf_link_width : (Instr.linkUp 3 1 false).wf = false := by decide
theorem test_wf_dma_tag : (Instr.dmaCplTimeout 256).wf = false := by decide
theorem test_wf_start : (Instr.startCondition ⟨5, 6⟩).wf = false := by decide
theorem test_wf_power_sample : (Instr.powerSample ⟨65536, 0, 0, 0, 0, 0, none⟩).wf = false := by decide
theorem test_wf_ntc : (Instr.ntcSample 0 32768).wf = false := by decide
theorem test_wf_fault_registers : (Instr.coreTrap .control ⟨1, 0, 0, 0, [], false⟩).wf = false := by decide
theorem test_wf_page : (Instr.pageDataReceived .a 0 []).wf = false := by decide
theorem test_wf_i2c : (Instr.i2cTransferEnd 0 65 []).wf = false := by decide
theorem test_wf_answer : (Instr.answerFrame ⟨0, false, 0, 0, 0, 0, 32, 0, 0, false, false, []⟩).wf = false := by decide

/-- A packet of another kind than its row's is ill formed: one for each kind code. -/
theorem test_wf_packet_kinds :
    let p : Packet := ⟨0, 0, 0, 0, 0, []⟩
    [Instr.cmdPacket p, .rspPacket p, .eventPacket p, .rfetchPacket p, .rdataPacket p, .rdonePacket p, .chainUpPacket p,
      .groupsPacket p, .regPacket p, .regRspPacket p, .bootPacket p, .bootRspPacket p].all (fun i => !i.wf) = true := by decide

theorem test_wf_packet : (Instr.cmdPacket ⟨31, 31, 1, 65535, 0, []⟩).wf = true := by decide
theorem test_wf_packet_address : (Instr.cmdPacket ⟨32, 0, 1, 0, 0, []⟩).wf = false := by decide

/-! ### The command word and the queue -/

/-- No row of the table gives bits, so a word spells no command. -/
theorem test_no_word_spells_a_command : decodeTableWord 32 0x12345678 = none := rfl

theorem test_front_command_runs :
    step { claim 64 base with pending := [.pinSet 5] } = exec (.pinSet 5) (claim 64 { base with pending := [] }) := rfl

theorem test_empty_queue_idles : step State.reset = .next State.reset := rfl

/-! ### Check values -/

/-- R6: the CRC of the string 123456789. -/
theorem test_crc32 : crc32 (ascii "123456789") = 0xCBF43926 := by decide +kernel

/-- FIPS 180-4: SHA-256 of the string abc. -/
theorem test_sha256 : beNat (sha256 (ascii "abc")) =
    0xBA7816BF8F01CFEA414140DE5DAE2223B00361A396177A9CB410FF61F20015AD := by decide +kernel

/-- FIPS 197, section 5.1.1: the S-box takes 0x53 to 0xED. -/
theorem test_sbox : sbox 0x53 = 0xED ∧ invSbox 0xED = 0x53 := by decide +kernel

/-- R587: the stored byte 0x1A holds three ones, so its parity bit is 0 (worked example of the integrity chapter). -/
theorem test_parity : oddParity 0x1A = false ∧ oddParity 0x0A = true := by decide

/-! ### Searches -/

/-- The bucket of the texture's key (R368, the worked table under it). -/
theorem test_bucket :
    bucketOf 0 5 (beBytes 16 0x3C91E40758D21A6FB044C92E81F50D73) = 0x1A096 := by decide

/-- The tail word of the content probe (worked example of the search chapter). -/
theorem test_info_word_queue : infoWord 0x0123 1 false false false 1 0 false 0 4 0x5A17 = 0x005A172001010123 := by decide

/-- The last word of the rule search's record (worked example of the search chapter). -/
theorem test_info_word_window : infoWord 0x0042 1 false false false 0 0 false 0 9 0x77 = 0x0000774800010042 := by decide

/-- Rule 1 and rule 2 of the Open File table in block 18 of table 12, with two-slot entries. -/
def openFile : State :=
  let s := (own 12 18 (tbl 12 1 base)).wri TCAM_TBL_CFG_width_code 12 1
  let tail : List Nat := [0x2C, 0, 3, 0, 2, 0, 0x46, 0x4F]
  let v (b3 : Nat) := bytes ([0, 0, 0, b3] ++ List.replicate 8 0 ++ tail)
  let k (b3 : Nat) := bytes ([0, 0, 0, b3] ++ List.replicate 8 0 ++ List.replicate 8 0xFF)
  (s.putEntry 0x12300 2 0x40 0x815 (v 0) (k 0)).putEntry 0x12F00 2 0x10 0x817 (v 0x1F) (k 0xFF)

/-- The station's key: square 0x1F in byte 3 and the compared tail. -/
def openFileKey : List Byte :=
  padTo 80 (bytes ([9, 8, 7, 0x1F, 6, 5, 4, 3, 2, 1, 9, 9, 0x2C, 0, 3, 0, 2, 0, 0x46, 0x4F]))

/-- Both rules match; the tree keeps the second on its priority (R323; worked example of the ternary chapter). -/
theorem test_open_file_lookup :
    let o := openFile.tcamLookup 12 openFileKey
    o.outcome = outHit ∧ o.index = 0x12F00 ∧ o.result = 0x817 ∧ o.prio = 0x10 := by decide +kernel

/-- Slot 0x1_2F00 in window structure 0x01: bytes 0x03, 0x13, the priority and ctrl (the same example). -/
theorem test_open_file_slot :
    let u := openFile.slot 0x12F00
    u.getD 3 0 = 0x1F ∧ u.getD 0x13 0 = 0xFF ∧ u.getD 0x0A 0 = 0x10 ∧ u.getD 0x0B 0 = 0 ∧ u.getD 0x0C 0 = 1 := by
  decide +kernel

/-- The stored words of LPM table 7 on root 0 (worked example of the trie chapter). -/
def assetPaths : State :=
  let s := ((((tbl 7 4 base).wri LPM_ROOT_CFG_defined 0 1).wri LPM_ROOT_CFG_table 0 7).wri LPM_ROOT_CFG_dflt_valid 0 1).wri
    LPM_ROOT_DFLT_dflt_result 0 1
  ((s.storeWords (sidStage 0) [(0x0A31, 0x0000009000000A31)]).storeWords (sidStage 1) [(7, 0x0000009800000710)]).storeWords
    (sidStage 2) [(0x12, 0x0000002000000712), (0x15, 0x0000001C00000701)]

/-- The four lookups of the example. -/
theorem test_asset_path_lookups :
    let r (k : Nat) := let o := assetPaths.lpmLookup 7 k; (o.outcome, o.index, o.result)
    r 0x0A3107125C000000 = (outHit, 32, 0x712) ∧ r 0x0A31071500000000 = (outHit, 28, 0x701) ∧
      r 0x0A31072200000000 = (outHit, 24, 0x710) ∧ r 0x0B00000000000000 = (outHit, 0, 1) := by decide +kernel

/-- The /28 covers 16 entries, and the window byte of root entry 0x0A31 is 0x5188 (the same example). -/
theorem test_asset_path_places : coveredCount 28 = 16 ∧ stageOf 28 = 2 ∧ 8 * entryWord 0 0 0x0A31 = 0x5188 := by decide

/-! ### Time, heat, media and pins -/

/-- The margin controller of the worked example: 152, 16, 51, code_min 0. -/
theorem test_margin_steps :
    let c : CanaryRun := ⟨152, 16, 51, 0, 0⟩
    [(24, 171), (23, 164), (23, 135), (24, 141), (24, 49), (28, 162), (28, 170), (27, 165)].map
      (fun x => nextCode x.1 x.2 c) = [23, 23, 24, 24, 28, 28, 27, 27] := by decide

/-- The extent descriptor of the sound bank (R511; worked example of the media chapter). -/
theorem test_extent :
    let d := 0x000311002C400C13
    extDie d = 6 ∧ extSlot d = 1 ∧ extSectors d = 12 ∧ extRow d = 0x2C40 ∧ extId d = 0x311 := by decide

/-- The fan of the cabinet (R722; worked example of the pin chapter). -/
theorem test_fan_rpm : fanRpm 2 (List.replicate 8 375000) = 2000 := by decide

/-- The pad configuration of GP1 of the cabinet: peripheral, signal 1, pull up, glitch 4. -/
theorem test_pad_config :
    [PIN_PAD_CFG_sig, PIN_PAD_CFG_mode, PIN_PAD_CFG_pull, PIN_PAD_CFG_glitch, PIN_PAD_CFG_debounce_ms].map
      (fieldOf 0x00040481) = [1, 2, 1, 4, 0] := by decide +kernel

/-- The settings image of the cabinet maker: its header is accepted (R680). -/
theorem test_settings_header :
    let body := bytes ([0x1E, 0x0F, 2, 0, 1] ++ List.replicate 35 0)
    workbench (bytes [0x49, 0x4F, 0x38, 0x54, 1, 1, 0x28, 0] ++ leBytes 4 (crc32 body) ++ leBytes 4 0 ++ body) 1 40 =
      some body := by decide +kernel

/-- The settings positions: words 0x0C0 to 0x0DF hold position 0. -/
theorem test_settings_words : setWord 0 = 0x0C0 ∧ setWord 1 = 0x0E0 ∧ 4 * setWord 0 = 0x300 := by decide

/-! ### Single steps -/

/-- PIN_SET under a claim sets its bits; without one it is discarded with bad_write (R189). -/
theorem test_pin_set : (after (.pinSet 0x800001) (claim 64 base)).rd PIN_OUT_out = 0x800001 := by decide +kernel
theorem test_pin_set_unclaimed : let t := after (.pinSet 1) base
    t.rd PIN_OUT_out = 0 ∧ t.rd GLB_STATUS_bad_write = 1 := by decide +kernel

/-- SYS.NOP answers with its parameters, and its slot is DONE (R237). -/
theorem test_nop : let t := after (.sysNop .media) (has .media (wc 0x0107 [1, 2, 3]) base)
    t.bar2Get (0x1000 + 0x10) 3 = [1, 2, 3] ∧ t.bar2Nat (0x1000 + 0x0B) 1 = 3 ∧ t.doneCnt .media = 1 := by decide +kernel

/-- The producer doorbell of URGENT moves posted from 0x0101 to 0x0102 (the mailbox chapter). -/
theorem test_mailbox_doorbell :
    let s := (base.wri MBX_MB_STATUS_posted 0 0x0101).wri MBX_MB_STATUS_done 0 0x0101
    (after (.mailboxDoorbell 0 0x0102) s).posted .urgent = 0x0102 := by decide +kernel

/-- The first move of the margin example: a slack of 171 taps at code 24 steps down to 23, 735 mV. -/
theorem test_canary_measurement :
    let s := { base.setCode 24 with clk := { base.clk with canary := some ⟨152, 16, 51, 0, 0⟩ } }
    let t := after (.canaryMeasurement (1016 - 171)) s
    t.rd CLK_MARGIN_STATUS_margin_code = 23 ∧ t.rd CLK_MARGIN_STATUS_rail_mv = 735 ∧ t.rd CLK_CANARY_slack_last = 171 := by
  decide +kernel

/-- 12.000 V and 2.000 A are 24.00 W. -/
theorem test_power_sample :
    (after (.powerSample ⟨12000, 2000, 0, 0, 0, 0, none⟩) base).rd PWR_PIN_pin_cw = 2400 := by decide +kernel

/-- A cartridge inserted in slot B makes the slot PRESENT. -/
theorem test_slot_insertion : (after (.slotInsertion .b) base).slotState 1 = slPresent := by decide +kernel

/-- A block whose ungate time is over is FREE (R330). -/
theorem test_block_ungated :
    (after (.blockUngateDone 18) { base with tbl := { base.tbl with ungating := [18] } }).blk 18 = blkFree := by decide +kernel

/-- A level that passed the glitch filter of a pad shows in PIN_IN (R700, R701). -/
theorem test_glitch_filter : (after (.glitchFilterPass 12 true) base).padIn = 2 ^ 12 := by decide +kernel

/-- The timer counts (R720). -/
theorem test_timer_count :
    (after .timerCount ((base.wr PIN_TMR_CTRL_en 1).wr PIN_TMR_COUNT_count 0xFFFFFFFF)).rd PIN_TMR_COUNT_count = 0 := by
  decide +kernel

/-- The ninth falling edge of the fan's tachometer gives 2,000 rpm (R722). -/
theorem test_fan_edge :
    let s := { sig 0 37 ((base.wr PIN_FAN_CFG_en0 1).wr PIN_FAN_CFG_ppr0 1) with
      pins := { base.pins with fans := [⟨true, List.replicate 7 375000⟩, ⟨false, []⟩] } }
    (after (.fanTachEdge 0 375000) s).rdi PIN_FAN_rpm 0 = 2000 := by decide +kernel

/-- A castling exchanges the blocks of two tables (R346). -/
theorem test_castling :
    let s := { own 1 41 (own 0 40 (tbl 1 1 (tbl 0 1 base))) with tbl := { base.tbl with castle := some ⟨0, 1, 0, none, false⟩ } }
    let t := after .castlingCommit s
    t.ownsBlk 1 40 = true ∧ t.ownsBlk 0 41 = true ∧ t.tbl.castle = none := by decide +kernel

/-- A head takes its own token back with its count of members (R443). -/
theorem test_token_back :
    let s := atPly 7 { head base with chain := { base.chain with enum := some none } }
    (after (.tokenFrame 4 0 0 0) s).rd CHN_STATUS_members = 4 := by decide +kernel

/-- The SMBus target answers a command byte of the serial number with a block of 8 bytes (R725). -/
theorem test_smb_serial :
    ((after .smbSerialRead (base.wr PIN_SMB_CFG_en 1)).pins.smbOut.map (fun l => l.take 1)) = some [8] := by decide +kernel

/-- A TRAIN frame repeats 0x6A95 on its edges 0 to 6, and edge 7 carries its check and 0xA95 (R433, R436). -/
theorem test_train_edges : (List.range 8).map (fun e => (frameEdge (frameBits .train) e).1.toNat % 4096) =
    List.replicate 8 0xA95 := by decide +kernel

/-- A frame with one bit turned is invalid, and so is a type that no frame from that side has (R433, R435). -/
theorem test_frame_errors : frameValid ⟨(frameBits .idle).data, 1#8 <<< 7⟩ .fromUp = false ∧
    frameValid (frameBits (.token 1 0 5 0)) .fromDown = false := by decide +kernel

/-- A module that has heard the chain takes no head role (R22). -/
theorem test_head_role_waits :
    (after .headRoleTake { base.wr CHN_STATUS_role 0 with chain := { base.chain with heard := true } }).rd CHN_STATUS_role =
      0 := by decide +kernel

/-- A word that lost a data bit in a crossing FIFO leaves it poisoned (R50). -/
theorem test_fifo_poisons : (after (.fabricWordTransfer (.pop 23 1)) (base.setFifo 23 [produceWord 6 false 0])).stage 23 =
    some { produceWord 6 false 0 with data := 7, poison := true } := by decide +kernel

/-- A write of the log consumer register moves consumed (R607). -/
theorem test_log_consumed :
    (after (.logConsWrite (fw [(INTEG_LOG_CONS_cons, 5)])) (base.wr INTEG_LOG_STATUS_written 6)).rd INTEG_LOG_STATUS_consumed =
      5 := by decide +kernel

end Sys2Proof.Tests
end

