-- ==== Sys2Proof/Tests/WitnessAccesses.lean ====
section
/-! SUPPORT. Witnesses for the completion statements of the register accesses, windows and doorbells. -/

set_option Elab.async false

namespace Sys2Proof.Tests
open Sys2Proof Sys2Proof.Machine Sys2Proof.Machine.Reg

set_option maxRecDepth 20000 in
/-- A state and operands for each clause of PowerRequestsAndAccessesComplete. -/
theorem witness_PowerRequestsAndAccessesComplete :
    (∃ s : State, ∃ u : State, ∃ w : RegWord, (Landed s 0x1004 w u) ∧ (w.toNat / 65536 = 0x7E51) ∧ (w.toNat % 16 =
      1) ∧ (u.dozeRefusal = none)) ∧
    (∃ s : State, ∃ u : State, ∃ w : RegWord, ∃ st, ∃ reason, (Landed s 0x1004 w u) ∧ (w.toNat / 65536 = 0x7E51) ∧
      (w.toNat % 16 = 1) ∧ (u.dozeRefusal = some (st, reason))) ∧
    (∃ s : State, ∃ u : State, ∃ w : RegWord, (Landed s 0x1004 w u) ∧ (w.toNat / 65536 = 0x7E51) ∧ (w.toNat % 16 =
      2) ∧ (u.inSequence = false)) ∧
    (∃ s : State, ∃ u : State, ∃ w : RegWord, (Landed s 0x1004 w u) ∧ (w.toNat / 65536 = 0x7E51) ∧ (w.toNat % 16 =
      4) ∧ (u.inSequence = false) ∧ (u.alive = true)) ∧
    (∃ s : State, ∃ u : State, ∃ w : RegWord, (Landed s 0x1004 w u) ∧ (w.toNat / 65536 = 0x7E51) ∧ (w.toNat % 16 =
      8) ∧ ((u.inSequence && !u.atTrigger) = false)) ∧
    (∃ s : State, ∃ w : RegWord, ∃ off : Nat, (statClear off = true) ∧ (off ≠ 0x3160) ∧ (s.discards = false) ∧
      (w.getLsbD 31 = true)) ∧
    (∃ s : State, (s.discards = false)) ∧
    (∃ off : Nat, (off < 0x100000)) ∧
    (∃ off : Nat, (0x100000 ≤ off) ∧ (off < 0x200000)) ∧
    (∃ off : Nat, (0x200000 ≤ off)) :=
  ⟨⟨(claim 2 base), _, 0x7E510001, ⟨(by decide +kernel), (by decide +kernel), rfl⟩, (by decide +kernel)⟩,
    ⟨(claim 2 (base.wr PWR_STATE_state 2)), _, 0x7E510001, 7, 1, ⟨(by decide +kernel), (by decide +kernel), rfl⟩,
      (by decide +kernel)⟩,
    ⟨(claim 2 base), _, 0x7E510002, ⟨(by decide +kernel), (by decide +kernel), rfl⟩, (by decide +kernel)⟩,
    ⟨(claim 2 base), _, 0x7E510004, ⟨(by decide +kernel), (by decide +kernel), rfl⟩, (by decide +kernel)⟩,
    ⟨(claim 2 base), _, 0x7E510018, ⟨(by decide +kernel), (by decide +kernel), rfl⟩, (by decide +kernel)⟩,
    ⟨base, 0x80000000, 0x1018, (by decide +kernel)⟩,
    ⟨base, (by decide +kernel)⟩,
    ⟨0xFFFFC, (by decide +kernel)⟩,
    ⟨0x100000, (by decide +kernel)⟩,
    ⟨0x200000, (by decide +kernel)⟩⟩

set_option maxRecDepth 20000 in
/-- A state and operands for each clause of SearchRegisterWritesComplete. -/
theorem witness_SearchRegisterWritesComplete :
    (∃ s : State, ∃ u : State, ∃ w : RegWord, (Landed s 0x8044 w u) ∧ (fieldOf w SRCH_PROF_LOAD_load = 1) ∧ (fieldOf w
      SRCH_PROF_LOAD_delete = 0) ∧ ∃ p, ∃ d, (p = fieldOf w SRCH_PROF_LOAD_prof_id) ∧ (d = leBytes 1 p ++ (u.regBytes
      SRCH_PROF_STAGE_stage 24).drop 1) ∧ (profileBad d = none)) ∧
    (∃ s : State, ∃ u : State, ∃ w : RegWord, (Landed s 0x8044 w u) ∧ (fieldOf w SRCH_PROF_LOAD_delete = 1) ∧ (fieldOf w
      SRCH_PROF_LOAD_load = 0)) ∧
    (∃ s : State, ∃ u : State, ∃ w : RegWord, ∃ q : Fin 16, (Landed s (qCfgOff q.val) w u) ∧ (fieldOf w SRCH_Q_CFG_q_en =
      1) ∧ (u.qOpen q.val = false) ∧ (4 ≤ fieldOf w SRCH_Q_CFG_req_k) ∧ (fieldOf w SRCH_Q_CFG_req_k ≤ 12) ∧ (4 ≤ fieldOf
      w SRCH_Q_CFG_res_k) ∧ (fieldOf w SRCH_Q_CFG_res_k ≤ 12) ∧ (u.rdi SRCH_Q_REQ_LO_req_base_lo q.val % 4096 = 0) ∧
      (u.rdi SRCH_Q_RES_LO_res_base_lo q.val % 4096 = 0) ∧ (u.rdi SRCH_Q_WB_LO_wb_lo q.val % 8 = 0)) ∧
    (∃ s : State, ∃ u : State, ∃ w : RegWord, ∃ q : Fin 16, (Landed s (qCfgOff q.val) w u) ∧ (fieldOf w SRCH_Q_CFG_q_en =
      0) ∧ (u.qOpen q.val = true) ∧ ((u.pair q.val).closing = false)) :=
  ⟨⟨(claim (2 ^ 8) (regs4 SRCH_PROF_STAGE_stage (prof 31) base)), _, fw [(SRCH_PROF_LOAD_load, 1),
      (SRCH_PROF_LOAD_prof_id, 31)], ⟨(by decide +kernel), (by decide +kernel), rfl⟩, (by decide +kernel),
      (by decide +kernel), _, _, rfl, rfl, (by decide +kernel)⟩,
    ⟨(claim (2 ^ 8) base), _, fw [(SRCH_PROF_LOAD_delete, 1), (SRCH_PROF_LOAD_prof_id, 31)], ⟨(by decide +kernel),
      (by decide +kernel), rfl⟩, (by decide +kernel)⟩,
    ⟨(claim (2 ^ 8) base), _, fw [(SRCH_Q_CFG_q_en, 1), (SRCH_Q_CFG_req_k, 4), (SRCH_Q_CFG_res_k, 12)], 15,
      ⟨(by decide +kernel), (by decide +kernel), rfl⟩, (by decide +kernel)⟩,
    ⟨(claim (2 ^ 8) (base.wri SRCH_Q_CFG_q_en 15 1)), _, 0, 15, ⟨(by decide +kernel), (by decide +kernel), rfl⟩,
      (by decide +kernel)⟩⟩

set_option maxRecDepth 20000 in
/-- A state and operands for each clause of TernaryRegisterWritesComplete. -/
theorem witness_TernaryRegisterWritesComplete :
    (∃ s : State, ∃ u : State, ∃ w : RegWord, (Landed s 0x9030 w u) ∧ (fieldOf w TCAM_CASTLE_go = 1) ∧ ∃ v, ∃ a, ∃
      d, ∃ ply, (v = u.wrRW 0x9030 w) ∧ (a = v.rd TCAM_CASTLE_table_a) ∧ (d = v.rd TCAM_CASTLE_table_b) ∧ (ply =
      v.rd TCAM_CASTLE_AT_LO_at_lo + 2 ^ 32 * v.rd TCAM_CASTLE_AT_HI_at_hi) ∧ (a ≠ 63) ∧ (d ≠ 63) ∧ (v.castleOk a d
      = true) ∧ (v.tblOrphaned a = false) ∧ (v.tblOrphaned d = false) ∧ (v.plyOk ply = true) ∧ (v.tbl.castle =
      none) ∧ (v.tbl.guardCastle = false) ∧ (v.inSequence = false)) ∧
    (∃ s : State, ∃ u : State, ∃ w : RegWord, (Landed s 0x91B0 w u) ∧ (fieldOf w TCAM_UPD_CMD_go = 1) ∧ (u.rd
      TCAM_UPD_STATUS_busy ≠ 1) ∧ ∃ f, ∃ o, (f = fieldOf w TCAM_UPD_CMD_slot) ∧ (u.slotRefusal f = none) ∧ (o =
      u.slotOwner f) ∧ (u.castling o = false) ∧ (fieldOf w TCAM_UPD_CMD_op = 1)) ∧
    (∃ s : State, ∃ u : State, ∃ w : RegWord, (Landed s 0x91B0 w u) ∧ (fieldOf w TCAM_UPD_CMD_go = 1) ∧ (u.rd
      TCAM_UPD_STATUS_busy ≠ 1) ∧ ∃ f, ∃ o, (f = fieldOf w TCAM_UPD_CMD_slot) ∧ (u.slotRefusal f = none) ∧ (o =
      u.slotOwner f) ∧ (u.castling o = false) ∧ (fieldOf w TCAM_UPD_CMD_op = 2)) ∧
    (∃ s : State, ∃ u : State, ∃ w : RegWord, (Landed s 0x91B0 w u) ∧ (fieldOf w TCAM_UPD_CMD_go = 1) ∧ (u.rd
      TCAM_UPD_STATUS_busy ≠ 1) ∧ ∃ f, ∃ o, (f = fieldOf w TCAM_UPD_CMD_slot) ∧ (u.slotRefusal f = none) ∧ (o =
      u.slotOwner f) ∧ (u.castling o = false) ∧ (fieldOf w TCAM_UPD_CMD_op = 3)) ∧
    (∃ s : State, ∃ u : State, ∃ w : RegWord, ∃ b : Fin 256, (Landed s (blkOff b.val) w u) ∧ (fieldOf w
      TCAM_BLK_CTRL_owned = 1) ∧ (fieldOf w TCAM_BLK_CTRL_gate_req = 0) ∧ (b.val < 248) ∧ (u.blk b.val ≠ blkOwned)
      ∧ (u.inSequence = false) ∧ ∃ o, (o = fieldOf w TCAM_BLK_CTRL_owner) ∧ (o ≠ 63) ∧ (u.tblIs o engTcam = true) ∧
      (u.tblOrphaned o = false) ∧ (u.blocksAnswer [b.val] = none)) ∧
    (∃ s : State, ∃ u : State, ∃ w : RegWord, ∃ b : Fin 256, (Landed s (blkOff b.val) w u) ∧ (fieldOf w
      TCAM_BLK_CTRL_owned = 0) ∧ (fieldOf w TCAM_BLK_CTRL_gate_req = 0) ∧ (b.val < 248) ∧ (u.blk b.val = blkOwned)
      ∧ (u.foreignOwner w = false) ∧ (u.rdi TCAM_BLK_CTRL_owner b.val = fieldOf w TCAM_BLK_CTRL_owner) ∧
      ((u.blkValid b.val).isEmpty = true)) ∧
    (∃ s : State, ∃ u : State, ∃ w : RegWord, ∃ b : Fin 256, (Landed s (blkOff b.val) w u) ∧ (fieldOf w
      TCAM_BLK_CTRL_gate_req = 1) ∧ (fieldOf w TCAM_BLK_CTRL_ungate_req = 0) ∧ (fieldOf w TCAM_BLK_CTRL_owned = 0)
      ∧ (b.val < 248) ∧ (u.blk b.val = blkFree) ∧ (u.reserved.contains b.val = false) ∧ (u.foreignOwner w = false)) ∧
    (∃ s : State, ∃ u : State, ∃ w : RegWord, ∃ b : Fin 256, (Landed s (blkOff b.val) w u) ∧ (fieldOf w
      TCAM_BLK_CTRL_ungate_req = 1) ∧ (fieldOf w TCAM_BLK_CTRL_gate_req = 0) ∧ (fieldOf w TCAM_BLK_CTRL_owned = 0)
      ∧ (b.val < 248) ∧ (u.foreignOwner w = false) ∧ (u.blk b.val ≠ blkOwned)) ∧
    (∃ s : State, ∃ u : State, ∃ w : RegWord, ∃ t : Fin 64, (Landed s (tcamTblOff t.val) w u) ∧ (fieldOf w
      TCAM_TBL_CFG_defined = 1) ∧ (t.val ≠ 63) ∧ (u.tblDefined t.val = false) ∧ (fieldOf w TCAM_TBL_CFG_slot_bind ≠
      2) ∧ (u.sweeping t.val = false)) ∧
    (∃ s : State, ∃ u : State, ∃ w : RegWord, ∃ t : Fin 64, (Landed s (tcamTblOff t.val) w u) ∧ (t.val ≠ 63) ∧ ∃ v,
      (v = u.noteBind (fieldOf w TCAM_TBL_CFG_slot_bind)) ∧ (fieldOf w TCAM_TBL_CFG_defined = 0) ∧ (v.tblDefined
      t.val = true) ∧ (v.tblIs t.val engTcam = true) ∧ ((v.tblBlocks t.val).isEmpty = true) ∧ (v.castling t.val =
      false)) ∧
    (∃ s : State, ∃ u : State, ∃ w : RegWord, ∃ t : Fin 64, (Landed s (tcamTblOff t.val) w u) ∧ (t.val ≠ 63) ∧ ∃ v,
      (v = u.noteBind (fieldOf w TCAM_TBL_CFG_slot_bind)) ∧ (fieldOf w TCAM_TBL_CFG_defined = 1) ∧ (v.tblIs t.val
      engTcam = true) ∧ (v.rdi TCAM_TBL_CFG_hidden t.val ≠ fieldOf w TCAM_TBL_CFG_hidden) ∧ (v.castling t.val =
      false)) :=
  ⟨⟨(claim (2 ^ 9) (tbl 1 1 (tbl 0 1 base))), _, fw [(TCAM_CASTLE_go, 1), (TCAM_CASTLE_table_b, 1)],
      ⟨(by decide +kernel), (by decide +kernel), rfl⟩, (by decide +kernel), _, _, _, _, rfl, rfl, rfl, rfl,
      (by decide +kernel)⟩,
    ⟨(claim (2 ^ 9) (own 0 247 (tbl 0 1 base))), _, fw [(TCAM_UPD_CMD_go, 1), (TCAM_UPD_CMD_op, 1),
      (TCAM_UPD_CMD_slot, 247 * 4096)], ⟨(by decide +kernel), (by decide +kernel), rfl⟩, (by decide +kernel),
      (by decide +kernel), _, _, rfl, (by decide +kernel), rfl, (by decide +kernel), (by decide +kernel)⟩,
    ⟨(claim (2 ^ 9) (own 0 247 (tbl 0 1 base))), _, fw [(TCAM_UPD_CMD_go, 1), (TCAM_UPD_CMD_op, 2),
      (TCAM_UPD_CMD_slot, 247 * 4096)], ⟨(by decide +kernel), (by decide +kernel), rfl⟩, (by decide +kernel),
      (by decide +kernel), _, _, rfl, (by decide +kernel), rfl, (by decide +kernel), (by decide +kernel)⟩,
    ⟨(claim (2 ^ 9) (own 0 247 (tbl 0 1 base))), _, fw [(TCAM_UPD_CMD_go, 1), (TCAM_UPD_CMD_op, 3),
      (TCAM_UPD_CMD_slot, 247 * 4096)], ⟨(by decide +kernel), (by decide +kernel), rfl⟩, (by decide +kernel),
      (by decide +kernel), _, _, rfl, (by decide +kernel), rfl, (by decide +kernel), (by decide +kernel)⟩,
    ⟨(claim (2 ^ 9) (tbl 0 1 base)), _, fw [(TCAM_BLK_CTRL_owned, 1)], 247, ⟨(by decide +kernel),
      (by decide +kernel), rfl⟩, (by decide +kernel), (by decide +kernel), (by decide +kernel),
      (by decide +kernel), (by decide +kernel), _, rfl, (by decide +kernel)⟩,
    ⟨(claim (2 ^ 9) (own 0 247 (tbl 0 1 base))), _, 0, 247, ⟨(by decide +kernel), (by decide +kernel), rfl⟩,
      (by decide +kernel)⟩,
    ⟨(claim (2 ^ 9) (base.wri TCAM_BLK_CTRL_pwr_state 247 blkFree)), _, fw [(TCAM_BLK_CTRL_gate_req, 1)], 247,
      ⟨(by decide +kernel), (by decide +kernel), rfl⟩, (by decide +kernel)⟩,
    ⟨(claim (2 ^ 9) (base)), _, fw [(TCAM_BLK_CTRL_ungate_req, 1)], 247, ⟨(by decide +kernel), (by decide +kernel),
      rfl⟩, (by decide +kernel)⟩,
    ⟨(claim (2 ^ 9) base), _, fw [(TCAM_TBL_CFG_defined, 1)], 62, ⟨(by decide +kernel), (by decide +kernel), rfl⟩,
      (by decide +kernel)⟩,
    ⟨(claim (2 ^ 9) (tbl 62 1 base)), _, 0, 62, ⟨(by decide +kernel), (by decide +kernel), rfl⟩,
      (by decide +kernel), _, rfl, (by decide +kernel)⟩,
    ⟨(claim (2 ^ 9) (tbl 62 1 base)), _, fw [(TCAM_TBL_CFG_defined, 1), (TCAM_TBL_CFG_hidden, 1)], 62,
      ⟨(by decide +kernel), (by decide +kernel), rfl⟩, (by decide +kernel), _, rfl, (by decide +kernel)⟩⟩

set_option maxRecDepth 20000 in
/-- A state and operands for each clause of ExactPrefixRegisterWritesComplete. -/
theorem witness_ExactPrefixRegisterWritesComplete :
    (∃ s : State, ∃ u : State, ∃ w : RegWord, (Landed s 0xA118 w u) ∧ (fieldOf w HASH_UPD_CMD_go = 1) ∧ (u.rd
      HASH_UPD_STATUS_busy ≠ 1) ∧ ∃ a, ∃ ty, ∃ key, (a = fieldOf w HASH_UPD_CMD_table) ∧ (ty = fieldOf w
      HASH_UPD_CMD_type) ∧ (ty ≠ 0) ∧ (key = u.regBytes HASH_UPD_KEY_key 4) ∧ (fieldOf w HASH_UPD_CMD_op = 1)) ∧
    (∃ s : State, ∃ u : State, ∃ w : RegWord, (Landed s 0xA118 w u) ∧ (fieldOf w HASH_UPD_CMD_go = 1) ∧ (u.rd
      HASH_UPD_STATUS_busy ≠ 1) ∧ ∃ a, ∃ ty, ∃ key, (a = fieldOf w HASH_UPD_CMD_table) ∧ (ty = fieldOf w
      HASH_UPD_CMD_type) ∧ (ty ≠ 0) ∧ (key = u.regBytes HASH_UPD_KEY_key 4) ∧ (fieldOf w HASH_UPD_CMD_op = 2)) ∧
    (∃ s : State, ∃ u : State, ∃ w : RegWord, (Landed s 0xA118 w u) ∧ (fieldOf w HASH_UPD_CMD_go = 1) ∧ (u.rd
      HASH_UPD_STATUS_busy ≠ 1) ∧ ∃ a, ∃ ty, ∃ key, (a = fieldOf w HASH_UPD_CMD_table) ∧ (ty = fieldOf w
      HASH_UPD_CMD_type) ∧ (ty ≠ 0) ∧ (key = u.regBytes HASH_UPD_KEY_key 4) ∧ (fieldOf w HASH_UPD_CMD_op = 3)) ∧
    (∃ s : State, ∃ u : State, ∃ w : RegWord, ∃ t : Fin 63, (Landed s (hashTblOff t.val) w u) ∧ (fieldOf w
      HASH_TBL_CFG_defined = 1) ∧ (u.tblDefined t.val = false) ∧ (u.sweeping t.val = false) ∧ (fieldOf w
      HASH_TBL_CFG_slot_bind ≠ 2) ∧ (fieldOf w HASH_TBL_CFG_types ≠ 0) ∧ (learnOk (fieldOf w HASH_TBL_CFG_learn)
      (fieldOf w HASH_TBL_CFG_slot_bind) = true)) ∧
    (∃ s : State, ∃ u : State, ∃ w : RegWord, ∃ t : Fin 63, (Landed s (hashTblOff t.val) w u) ∧ ∃ v, (v =
      u.noteBind (fieldOf w HASH_TBL_CFG_slot_bind)) ∧ (v.tblIs t.val engExact = true) ∧ (fieldOf w
      HASH_TBL_CFG_defined = 0)) ∧
    (∃ s : State, ∃ u : State, ∃ w : RegWord, ∃ t : Fin 63, (Landed s (hashTblOff t.val) w u) ∧ ∃ v, (v =
      u.noteBind (fieldOf w HASH_TBL_CFG_slot_bind)) ∧ (v.tblIs t.val engExact = true) ∧ (fieldOf w
      HASH_TBL_CFG_defined = 1) ∧ (learnOk (fieldOf w HASH_TBL_CFG_learn) (v.tblBind t.val) = true) ∧ ∃ x, (x =
      (v.wri HASH_TBL_CFG_learn t.val (fieldOf w HASH_TBL_CFG_learn)).cfgWritten [hashTblOff t.val])) ∧
    (∃ s : State, ∃ u : State, ∃ w : RegWord, (Landed s 0xB028 w u) ∧ (fieldOf w DIX_UPD_CMD_go = 1) ∧ (u.rd
      DIX_UPD_STATUS_busy ≠ 1)) ∧
    (∃ s : State, ∃ u : State, ∃ w : RegWord, (Landed s 0xB000 w u) ∧ (fieldOf w DIX_CFG_dix_limit ≤ 65536)) ∧
    (∃ s : State, ∃ u : State, ∃ w : RegWord, (Landed s 0xC20C w u) ∧ (fieldOf w LPM_UPD_CMD_go = 1) ∧ (u.rd
      LPM_UPD_STATUS_busy ≠ 1) ∧ ∃ a, ∃ len, ∃ pfx, (a = fieldOf w LPM_UPD_CMD_table) ∧ (len = fieldOf w
      LPM_UPD_CMD_length) ∧ (pfx = u.rd LPM_UPD_PFX_LO_lo + 2 ^ 32 * u.rd LPM_UPD_PFX_HI_hi) ∧ (len ≤ 64) ∧
      (prefixOk pfx len = true) ∧ (fieldOf w LPM_UPD_CMD_op = 1)) ∧
    (∃ s : State, ∃ u : State, ∃ w : RegWord, (Landed s 0xC20C w u) ∧ (fieldOf w LPM_UPD_CMD_go = 1) ∧ (u.rd
      LPM_UPD_STATUS_busy ≠ 1) ∧ ∃ a, ∃ len, ∃ pfx, (a = fieldOf w LPM_UPD_CMD_table) ∧ (len = fieldOf w
      LPM_UPD_CMD_length) ∧ (pfx = u.rd LPM_UPD_PFX_LO_lo + 2 ^ 32 * u.rd LPM_UPD_PFX_HI_hi) ∧ (len ≤ 64) ∧
      (prefixOk pfx len = true) ∧ (fieldOf w LPM_UPD_CMD_op = 2)) ∧
    (∃ s : State, ∃ u : State, ∃ w : RegWord, (Landed s 0xC20C w u) ∧ (fieldOf w LPM_UPD_CMD_go = 1) ∧ (u.rd
      LPM_UPD_STATUS_busy ≠ 1) ∧ ∃ a, ∃ len, ∃ pfx, (a = fieldOf w LPM_UPD_CMD_table) ∧ (len = fieldOf w
      LPM_UPD_CMD_length) ∧ (pfx = u.rd LPM_UPD_PFX_LO_lo + 2 ^ 32 * u.rd LPM_UPD_PFX_HI_hi) ∧ (len ≤ 64) ∧
      (prefixOk pfx len = true) ∧ (fieldOf w LPM_UPD_CMD_op = 3)) ∧
    (∃ s : State, ∃ u : State, ∃ w : RegWord, ∃ r : Fin 4, (Landed s (lpmRootOff r.val) w u) ∧ (fieldOf w
      LPM_ROOT_CFG_defined = 1) ∧ (u.rdi LPM_ROOT_CFG_defined r.val = 0) ∧ (u.rdi LPM_ROOT_CFG_sweep r.val = 0) ∧ ∃
      a, ∃ v, (a = fieldOf w LPM_ROOT_CFG_table) ∧ (u.tblDefined a = false) ∧ (u.sweeping a = false) ∧ (fieldOf w
      LPM_ROOT_CFG_slot_bind ≠ 2) ∧ (v = u.queueUpd .reg (.lpmCreate a (fieldOf w LPM_ROOT_CFG_hidden) (fieldOf w
      LPM_ROOT_CFG_slot_bind) (u.rdi LPM_ROOT_QUOTA_quota r.val) (some r.val)))) ∧
    (∃ s : State, ∃ u : State, ∃ w : RegWord, ∃ r : Fin 4, (Landed s (lpmRootOff r.val) w u) ∧ (fieldOf w
      LPM_ROOT_CFG_defined = 0) ∧ (u.rdi LPM_ROOT_CFG_defined r.val = 1) ∧ (fieldOf w LPM_ROOT_CFG_slot_bind ≠ 2) ∧
      (u.rootKept r.val w = true)) ∧
    (∃ s : State, ∃ u : State, ∃ w : RegWord, ∃ r : Fin 4, (Landed s (lpmRootOff r.val) w u) ∧ (fieldOf w
      LPM_ROOT_CFG_defined = 1) ∧ (u.rdi LPM_ROOT_CFG_defined r.val = 1) ∧ (u.rootKept r.val w = true) ∧ (u.rdi
      LPM_ROOT_CFG_hidden r.val ≠ fieldOf w LPM_ROOT_CFG_hidden)) ∧
    (∃ s : State, ∃ u : State, ∃ w : RegWord, ∃ r : Fin 4, (Landed s (lpmRootOff r.val) w u) ∧ (fieldOf w
      LPM_ROOT_CFG_defined = 1) ∧ (u.rdi LPM_ROOT_CFG_defined r.val = 1) ∧ (u.rootKept r.val w = true)) ∧
    (∃ s : State, ∃ u : State, ∃ w : RegWord, ∃ r : Fin 4, (Landed s (lpmRootOff r.val + 4) w u) ∧ (u.rdi
      LPM_ROOT_CFG_defined r.val = 1)) ∧
    (∃ s : State, ∃ u : State, ∃ w : RegWord, ∃ r : Fin 4, (Landed s (lpmRootOff r.val + 4) w u) ∧ (u.rdi
      LPM_ROOT_CFG_defined r.val ≠ 1)) :=
  ⟨⟨(claim (2 ^ 10) base), _, fw [(HASH_UPD_CMD_go, 1), (HASH_UPD_CMD_type, 1), (HASH_UPD_CMD_op, 1)],
      ⟨(by decide +kernel), (by decide +kernel), rfl⟩, (by decide +kernel), (by decide +kernel), _, _, _, rfl, rfl,
      (by decide +kernel), rfl, (by decide +kernel)⟩,
    ⟨(claim (2 ^ 10) base), _, fw [(HASH_UPD_CMD_go, 1), (HASH_UPD_CMD_type, 1), (HASH_UPD_CMD_op, 2)],
      ⟨(by decide +kernel), (by decide +kernel), rfl⟩, (by decide +kernel), (by decide +kernel), _, _, _, rfl, rfl,
      (by decide +kernel), rfl, (by decide +kernel)⟩,
    ⟨(claim (2 ^ 10) base), _, fw [(HASH_UPD_CMD_go, 1), (HASH_UPD_CMD_type, 1), (HASH_UPD_CMD_op, 3)],
      ⟨(by decide +kernel), (by decide +kernel), rfl⟩, (by decide +kernel), (by decide +kernel), _, _, _, rfl, rfl,
      (by decide +kernel), rfl, (by decide +kernel)⟩,
    ⟨(claim (2 ^ 10) base), _, fw [(HASH_TBL_CFG_defined, 1), (HASH_TBL_CFG_types, 7)], 62, ⟨(by decide +kernel),
      (by decide +kernel), rfl⟩, (by decide +kernel)⟩,
    ⟨(claim (2 ^ 10) (tbl 62 2 base)), _, 0, 62, ⟨(by decide +kernel), (by decide +kernel), rfl⟩, _, rfl,
      (by decide +kernel)⟩,
    ⟨(claim (2 ^ 10) (tbl 62 2 base)), _, fw [(HASH_TBL_CFG_defined, 1), (HASH_TBL_CFG_hidden, 1)], 62,
      ⟨(by decide +kernel), (by decide +kernel), rfl⟩, _, rfl, (by decide +kernel), (by decide +kernel),
      (by decide +kernel), _, rfl⟩,
    ⟨(claim (2 ^ 11) base), _, fw [(DIX_UPD_CMD_go, 1)], ⟨(by decide +kernel), (by decide +kernel), rfl⟩,
      (by decide +kernel)⟩,
    ⟨(claim (2 ^ 11) base), _, fw [(DIX_CFG_dix_limit, 65536)], ⟨(by decide +kernel), (by decide +kernel), rfl⟩,
      (by decide +kernel)⟩,
    ⟨(claim (2 ^ 12) base), _, fw [(LPM_UPD_CMD_go, 1), (LPM_UPD_CMD_op, 1), (LPM_UPD_CMD_length, 64)],
      ⟨(by decide +kernel), (by decide +kernel), rfl⟩, (by decide +kernel), (by decide +kernel), _, _, _, rfl, rfl,
      rfl, (by decide +kernel)⟩,
    ⟨(claim (2 ^ 12) base), _, fw [(LPM_UPD_CMD_go, 1), (LPM_UPD_CMD_op, 2), (LPM_UPD_CMD_length, 64)],
      ⟨(by decide +kernel), (by decide +kernel), rfl⟩, (by decide +kernel), (by decide +kernel), _, _, _, rfl, rfl,
      rfl, (by decide +kernel)⟩,
    ⟨(claim (2 ^ 12) base), _, fw [(LPM_UPD_CMD_go, 1), (LPM_UPD_CMD_op, 3), (LPM_UPD_CMD_length, 64)],
      ⟨(by decide +kernel), (by decide +kernel), rfl⟩, (by decide +kernel), (by decide +kernel), _, _, _, rfl, rfl,
      rfl, (by decide +kernel)⟩,
    ⟨(claim (2 ^ 12) base), _, fw [(LPM_ROOT_CFG_defined, 1)], 3, ⟨(by decide +kernel), (by decide +kernel), rfl⟩,
      (by decide +kernel), (by decide +kernel), (by decide +kernel), _, _, rfl, (by decide +kernel),
      (by decide +kernel), (by decide +kernel), rfl⟩,
    ⟨(claim (2 ^ 12) (base.wri LPM_ROOT_CFG_defined 3 1)), _, fw [(LPM_ROOT_CFG_slot_bind, base.rdi
      LPM_ROOT_CFG_slot_bind 3), (LPM_ROOT_CFG_table, base.rdi LPM_ROOT_CFG_table 3)], 3, ⟨(by decide +kernel),
      (by decide +kernel), rfl⟩, (by decide +kernel)⟩,
    ⟨(claim (2 ^ 12) (base.wri LPM_ROOT_CFG_defined 3 1)), _, fw [(LPM_ROOT_CFG_defined, 1), (LPM_ROOT_CFG_hidden,
      1), (LPM_ROOT_CFG_slot_bind, base.rdi LPM_ROOT_CFG_slot_bind 3), (LPM_ROOT_CFG_table, base.rdi
      LPM_ROOT_CFG_table 3)], 3, ⟨(by decide +kernel), (by decide +kernel), rfl⟩, (by decide +kernel)⟩,
    ⟨(claim (2 ^ 12) (base.wri LPM_ROOT_CFG_defined 3 1)), _, fw [(LPM_ROOT_CFG_defined, 1),
      (LPM_ROOT_CFG_dflt_valid, 1), (LPM_ROOT_CFG_slot_bind, base.rdi LPM_ROOT_CFG_slot_bind 3),
      (LPM_ROOT_CFG_table, base.rdi LPM_ROOT_CFG_table 3)], 3, ⟨(by decide +kernel), (by decide +kernel), rfl⟩,
      (by decide +kernel)⟩,
    ⟨(claim (2 ^ 12) (base.wri LPM_ROOT_CFG_defined 3 1)), _, 7, 3, ⟨(by decide +kernel), (by decide +kernel),
      rfl⟩, (by decide +kernel)⟩,
    ⟨(claim (2 ^ 12) base), _, 7, 3, ⟨(by decide +kernel), (by decide +kernel), rfl⟩, (by decide +kernel)⟩⟩

set_option maxRecDepth 20000 in
/-- A state and operands for each clause of ChainSlotRegisterWritesComplete. -/
theorem witness_ChainSlotRegisterWritesComplete :
    (∃ s : State, ∃ u : State, ∃ w : RegWord, (Landed s 0x7050 w u) ∧ (u.isHead = true) ∧ (mapStartsOk (u.rd
      CHN_MAP_STAGE_map_stage) = true) ∧ (fieldOf w CHN_CTRL_enumerate = 1) ∧ (fieldOf w CHN_CTRL_groups = 0) ∧
      (u.chain.enum = none)) ∧
    (∃ s : State, ∃ u : State, ∃ w : RegWord, (Landed s 0x7050 w u) ∧ (u.isHead = true) ∧ (mapStartsOk (u.rd
      CHN_MAP_STAGE_map_stage) = true) ∧ (fieldOf w CHN_CTRL_enumerate = 0) ∧ (fieldOf w CHN_CTRL_groups = 1) ∧ (u.rd
      CHN_STATUS_state = 2) ∧ (mapLastOk (u.rd CHN_MAP_STAGE_map_stage) u.members = true)) ∧
    (∃ s : State, ∃ u : State, ∃ w : RegWord, ∃ p : Port, ∃ i, (i = portIdx p) ∧ (Landed s (0xF010 + 0x100 * i) w u) ∧
      (fieldOf w SLOT_CTRL_power_on + fieldOf w SLOT_CTRL_power_off + fieldOf w SLOT_CTRL_eject + fieldOf w
      SLOT_CTRL_port_reset ≤ 1) ∧ (fieldOf w SLOT_CTRL_power_on = 1) ∧ (u.slotState i = slPresent ∨ u.slotState i =
      slFault)) ∧
    (∃ s : State, ∃ u : State, ∃ w : RegWord, ∃ p : Port, ∃ i, (i = portIdx p) ∧ (Landed s (0xF010 + 0x100 * i) w u) ∧
      (fieldOf w SLOT_CTRL_power_on + fieldOf w SLOT_CTRL_power_off + fieldOf w SLOT_CTRL_eject + fieldOf w
      SLOT_CTRL_port_reset ≤ 1) ∧ (fieldOf w SLOT_CTRL_power_off = 1) ∧ (u.slotState i = slPresent ∨ u.slotState i =
      slFault ∨ u.slotState i = slEmpty)) ∧
    (∃ s : State, ∃ u : State, ∃ w : RegWord, ∃ p : Port, ∃ i, (i = portIdx p) ∧ (Landed s (0xF010 + 0x100 * i) w u) ∧
      (fieldOf w SLOT_CTRL_power_on + fieldOf w SLOT_CTRL_power_off + fieldOf w SLOT_CTRL_eject + fieldOf w
      SLOT_CTRL_port_reset ≤ 1) ∧ (fieldOf w SLOT_CTRL_power_off = 1) ∧ (u.slotState i ≠ slPresent) ∧ (u.slotState i ≠
      slFault) ∧ (u.slotState i ≠ slEmpty)) ∧
    (∃ s : State, ∃ u : State, ∃ w : RegWord, ∃ p : Port, ∃ i, (i = portIdx p) ∧ (Landed s (0xF010 + 0x100 * i) w u) ∧
      (fieldOf w SLOT_CTRL_power_on + fieldOf w SLOT_CTRL_power_off + fieldOf w SLOT_CTRL_eject + fieldOf w
      SLOT_CTRL_port_reset ≤ 1) ∧ (fieldOf w SLOT_CTRL_eject = 1) ∧ (u.slotMounted i = false)) ∧
    (∃ s : State, ∃ u : State, ∃ w : RegWord, ∃ p : Port, ∃ i, (i = portIdx p) ∧ (Landed s (0xF010 + 0x100 * i) w u) ∧
      (fieldOf w SLOT_CTRL_power_on + fieldOf w SLOT_CTRL_power_off + fieldOf w SLOT_CTRL_eject + fieldOf w
      SLOT_CTRL_port_reset ≤ 1) ∧ (fieldOf w SLOT_CTRL_port_reset = 1) ∧ (u.slotMounted i = true) ∧ ((u.port i).portReset
      = none)) ∧
    (∃ s : State, ∃ u : State, ∃ w : RegWord, ∃ p : Port, ∃ i, ∃ t, (i = portIdx p) ∧ (Landed s (0xF040 + 0x100 * i) w u)
      ∧ (fieldOf w SLOT_OP_CMD_go = 1) ∧ (u.rdi SLOT_OP_STATUS_busy i ≠ 1) ∧ (u.rdi SLOT_STATUS_vcc_on i = 1) ∧ (u.rdi
      SLOT_STATUS_vccq_on i = 1) ∧ (fieldOf w SLOT_OP_CMD_die < 8) ∧ (t = u.wri SLOT_OP_STATUS_busy i 1) ∧ ∃ op : DieKind
      → DieOp, (op = (fun k =>
      { die := fieldOf w SLOT_OP_CMD_die, row := u.rdi SLOT_OP_ROW_row i, kind := k, use := .expert, ready := false })) ∧
      (fieldOf w SLOT_OP_CMD_op = 1)) ∧
    (∃ s : State, ∃ u : State, ∃ w : RegWord, ∃ p : Port, ∃ i, ∃ t, (i = portIdx p) ∧ (Landed s (0xF040 + 0x100 * i) w u)
      ∧ (fieldOf w SLOT_OP_CMD_go = 1) ∧ (u.rdi SLOT_OP_STATUS_busy i ≠ 1) ∧ (u.rdi SLOT_STATUS_vcc_on i = 1) ∧ (u.rdi
      SLOT_STATUS_vccq_on i = 1) ∧ (fieldOf w SLOT_OP_CMD_die < 8) ∧ (t = u.wri SLOT_OP_STATUS_busy i 1) ∧ ∃ op : DieKind
      → DieOp, (op = (fun k =>
      { die := fieldOf w SLOT_OP_CMD_die, row := u.rdi SLOT_OP_ROW_row i, kind := k, use := .expert, ready := false })) ∧
      (fieldOf w SLOT_OP_CMD_op = 2) ∧ (u.slotState i = slRaw)) ∧
    (∃ s : State, ∃ u : State, ∃ w : RegWord, ∃ p : Port, ∃ i, ∃ t, (i = portIdx p) ∧ (Landed s (0xF040 + 0x100 * i) w u)
      ∧ (fieldOf w SLOT_OP_CMD_go = 1) ∧ (u.rdi SLOT_OP_STATUS_busy i ≠ 1) ∧ (u.rdi SLOT_STATUS_vcc_on i = 1) ∧ (u.rdi
      SLOT_STATUS_vccq_on i = 1) ∧ (fieldOf w SLOT_OP_CMD_die < 8) ∧ (t = u.wri SLOT_OP_STATUS_busy i 1) ∧ ∃ op : DieKind
      → DieOp, (op = (fun k =>
      { die := fieldOf w SLOT_OP_CMD_die, row := u.rdi SLOT_OP_ROW_row i, kind := k, use := .expert, ready := false })) ∧
      (fieldOf w SLOT_OP_CMD_op = 3) ∧ (u.slotState i = slRaw)) ∧
    (∃ s : State, ∃ u : State, ∃ w : RegWord, ∃ p : Port, ∃ i, ∃ t, (i = portIdx p) ∧ (Landed s (0xF040 + 0x100 * i) w u)
      ∧ (fieldOf w SLOT_OP_CMD_go = 1) ∧ (u.rdi SLOT_OP_STATUS_busy i ≠ 1) ∧ (u.rdi SLOT_STATUS_vcc_on i = 1) ∧ (u.rdi
      SLOT_STATUS_vccq_on i = 1) ∧ (fieldOf w SLOT_OP_CMD_die < 8) ∧ (t = u.wri SLOT_OP_STATUS_busy i 1) ∧ ∃ op : DieKind
      → DieOp, (op = (fun k =>
      { die := fieldOf w SLOT_OP_CMD_die, row := u.rdi SLOT_OP_ROW_row i, kind := k, use := .expert, ready := false })) ∧
      (fieldOf w SLOT_OP_CMD_op = 4)) ∧
    (∃ s : State, ∃ u : State, ∃ w : RegWord, ∃ p : Port, ∃ i, ∃ t, (i = portIdx p) ∧ (Landed s (0xF040 + 0x100 * i) w u)
      ∧ (fieldOf w SLOT_OP_CMD_go = 1) ∧ (u.rdi SLOT_OP_STATUS_busy i ≠ 1) ∧ (u.rdi SLOT_STATUS_vcc_on i = 1) ∧ (u.rdi
      SLOT_STATUS_vccq_on i = 1) ∧ (fieldOf w SLOT_OP_CMD_die < 8) ∧ (t = u.wri SLOT_OP_STATUS_busy i 1) ∧ ∃ op : DieKind
      → DieOp, (op = (fun k =>
      { die := fieldOf w SLOT_OP_CMD_die, row := u.rdi SLOT_OP_ROW_row i, kind := k, use := .expert, ready := false })) ∧
      (fieldOf w SLOT_OP_CMD_op = 5)) ∧
    (∃ s : State, ∃ u : State, ∃ w : RegWord, ∃ p : Port, ∃ i, ∃ t, (i = portIdx p) ∧ (Landed s (0xF040 + 0x100 * i) w u)
      ∧ (fieldOf w SLOT_OP_CMD_go = 1) ∧ (u.rdi SLOT_OP_STATUS_busy i ≠ 1) ∧ (u.rdi SLOT_STATUS_vcc_on i = 1) ∧ (u.rdi
      SLOT_STATUS_vccq_on i = 1) ∧ (fieldOf w SLOT_OP_CMD_die < 8) ∧ (t = u.wri SLOT_OP_STATUS_busy i 1) ∧ ∃ op : DieKind
      → DieOp, (op = (fun k =>
      { die := fieldOf w SLOT_OP_CMD_die, row := u.rdi SLOT_OP_ROW_row i, kind := k, use := .expert, ready := false })) ∧
      (fieldOf w SLOT_OP_CMD_op = 6)) ∧
    (∃ s : State, ∃ p : Port, ∃ i, ∃ a, (i = portIdx p) ∧ (a = s.rdi SLOT_OP_PTR_ptr i)) ∧
    (∃ s : State, ∃ u : State, ∃ w : RegWord, ∃ p : Port, ∃ i, ∃ a, (i = portIdx p) ∧ (Landed s (0xF04C + 0x100 * i) w u)
      ∧ (a = s.rdi SLOT_OP_PTR_ptr i)) :=
  ⟨⟨(claim (2 ^ 7) ((head base).wr CHN_MAP_STAGE_map_stage 1)), _, fw [(CHN_CTRL_enumerate, 1)], ⟨(by decide +kernel),
      (by decide +kernel), rfl⟩, (by decide +kernel)⟩,
    ⟨(claim (2 ^ 7) ((head base).wr CHN_MAP_STAGE_map_stage 1)), _, fw [(CHN_CTRL_groups, 1)], ⟨(by decide +kernel),
      (by decide +kernel), rfl⟩, (by decide +kernel)⟩,
    ⟨(claim (2 ^ 15) (slot slPresent base)), _, fw [(SLOT_CTRL_power_on, 1)], .a, _, rfl, ⟨(by decide +kernel),
      (by decide +kernel), rfl⟩, (by decide +kernel)⟩,
    ⟨(claim (2 ^ 15) (slot slFault base)), _, fw [(SLOT_CTRL_power_off, 1)], .a, _, rfl, ⟨(by decide +kernel),
      (by decide +kernel), rfl⟩, (by decide +kernel)⟩,
    ⟨(claim (2 ^ 15) (slot slReady base)), _, fw [(SLOT_CTRL_power_off, 1)], .a, _, rfl, ⟨(by decide +kernel),
      (by decide +kernel), rfl⟩, (by decide +kernel)⟩,
    ⟨(claim (2 ^ 15) (slot slPresent base)), _, fw [(SLOT_CTRL_eject, 1)], .a, _, rfl, ⟨(by decide +kernel),
      (by decide +kernel), rfl⟩, (by decide +kernel)⟩,
    ⟨(claim (2 ^ 15) (slot slRaw base)), _, fw [(SLOT_CTRL_port_reset, 1)], .a, _, rfl, ⟨(by decide +kernel),
      (by decide +kernel), rfl⟩, (by decide +kernel)⟩,
    ⟨(claim (2 ^ 15) ((base.wri SLOT_STATUS_vcc_on 0 1).wri SLOT_STATUS_vccq_on 0 1)), _, fw [(SLOT_OP_CMD_go, 1),
      (SLOT_OP_CMD_op, 1), (SLOT_OP_CMD_die, 7)], .a, _, _, rfl, ⟨(by decide +kernel), (by decide +kernel), rfl⟩,
      (by decide +kernel), (by decide +kernel), (by decide +kernel), (by decide +kernel), (by decide +kernel), rfl, _,
      rfl, (by decide +kernel)⟩,
    ⟨(claim (2 ^ 15) (((slot slRaw base).wri SLOT_STATUS_vcc_on 0 1).wri SLOT_STATUS_vccq_on 0 1)), _, fw
      [(SLOT_OP_CMD_go, 1), (SLOT_OP_CMD_op, 2), (SLOT_OP_CMD_die, 7)], .a, _, _, rfl, ⟨(by decide +kernel),
      (by decide +kernel), rfl⟩, (by decide +kernel), (by decide +kernel), (by decide +kernel), (by decide +kernel),
      (by decide +kernel), rfl, _, rfl, (by decide +kernel)⟩,
    ⟨(claim (2 ^ 15) (((slot slRaw base).wri SLOT_STATUS_vcc_on 0 1).wri SLOT_STATUS_vccq_on 0 1)), _, fw
      [(SLOT_OP_CMD_go, 1), (SLOT_OP_CMD_op, 3), (SLOT_OP_CMD_die, 7)], .a, _, _, rfl, ⟨(by decide +kernel),
      (by decide +kernel), rfl⟩, (by decide +kernel), (by decide +kernel), (by decide +kernel), (by decide +kernel),
      (by decide +kernel), rfl, _, rfl, (by decide +kernel)⟩,
    ⟨(claim (2 ^ 15) ((base.wri SLOT_STATUS_vcc_on 0 1).wri SLOT_STATUS_vccq_on 0 1)), _, fw [(SLOT_OP_CMD_go, 1),
      (SLOT_OP_CMD_op, 4), (SLOT_OP_CMD_die, 7)], .a, _, _, rfl, ⟨(by decide +kernel), (by decide +kernel), rfl⟩,
      (by decide +kernel), (by decide +kernel), (by decide +kernel), (by decide +kernel), (by decide +kernel), rfl, _,
      rfl, (by decide +kernel)⟩,
    ⟨(claim (2 ^ 15) ((base.wri SLOT_STATUS_vcc_on 0 1).wri SLOT_STATUS_vccq_on 0 1)), _, fw [(SLOT_OP_CMD_go, 1),
      (SLOT_OP_CMD_op, 5), (SLOT_OP_CMD_die, 7)], .a, _, _, rfl, ⟨(by decide +kernel), (by decide +kernel), rfl⟩,
      (by decide +kernel), (by decide +kernel), (by decide +kernel), (by decide +kernel), (by decide +kernel), rfl, _,
      rfl, (by decide +kernel)⟩,
    ⟨(claim (2 ^ 15) ((base.wri SLOT_STATUS_vcc_on 0 1).wri SLOT_STATUS_vccq_on 0 1)), _, fw [(SLOT_OP_CMD_go, 1),
      (SLOT_OP_CMD_op, 6), (SLOT_OP_CMD_die, 7)], .a, _, _, rfl, ⟨(by decide +kernel), (by decide +kernel), rfl⟩,
      (by decide +kernel), (by decide +kernel), (by decide +kernel), (by decide +kernel), (by decide +kernel), rfl, _,
      rfl, (by decide +kernel)⟩,
    ⟨base, .b, _, _, rfl, rfl⟩,
    ⟨(claim (2 ^ 15) base), _, 0x01020304, .a, _, _, rfl, ⟨(by decide +kernel), (by decide +kernel), rfl⟩, rfl⟩⟩

set_option maxRecDepth 20000 in
/-- A state and operands for each clause of StreamIntegRegisterWritesComplete. -/
theorem witness_StreamIntegRegisterWritesComplete :
    (∃ s : State, ∃ u : State, ∃ w : RegWord, ∃ c : Fin 16, (Landed s (0xE118 + 0x40 * c.val) w u) ∧ (fieldOf w
      STRM_CH_CFG_en = 1) ∧ (u.chOpen c.val = false) ∧ (4 ≤ fieldOf w STRM_CH_CFG_req_k) ∧ (fieldOf w STRM_CH_CFG_req_k ≤
      12) ∧ (4 ≤ fieldOf w STRM_CH_CFG_cpl_k) ∧ (fieldOf w STRM_CH_CFG_cpl_k ≤ 12) ∧ (1 ≤ fieldOf w STRM_CH_CFG_deg_rate)
      ∧ (u.streamProfile (fieldOf w STRM_CH_CFG_profile) = true) ∧ (10 ≤ u.rdi STRM_CH_TMO_fetch_ms c.val) ∧ (u.rdi
      STRM_CH_REQ_LO_lo c.val % 4096 = 0) ∧ (u.rdi STRM_CH_CPL_LO_lo c.val % 4096 = 0) ∧ (fieldOf w STRM_CH_CFG_wb_en = 0
      ∨ u.rdi STRM_CH_WB_LO_lo c.val % 8 = 0)) ∧
    (∃ s : State, ∃ u : State, ∃ w : RegWord, ∃ c : Fin 16, (Landed s (0xE118 + 0x40 * c.val) w u) ∧ (fieldOf w
      STRM_CH_CFG_en = 0) ∧ (u.chOpen c.val = true) ∧ ((u.chan c.val).closing = false)) ∧
    (∃ s : State, ∃ u : State, ∃ w : RegWord, ∃ c : Fin 16, (Landed s (0xE128 + 0x40 * c.val) w u) ∧ (fieldOf w
      STRM_CH_STATUS_resume = 1) ∧ (u.resumable c.val = true)) ∧
    (∃ s : State, ∃ u : State, ∃ w : RegWord, (Landed s 0xD080 w u) ∧ (fieldOf w INTEG_SCRUB_CTRL_go = 1) ∧
      (u.integ.scrub = none) ∧ ∃ sid, ∃ a, ∃ n, (sid = fieldOf w INTEG_SCRUB_CTRL_scrub_sid) ∧ (a = u.rd
      INTEG_SCRUB_START_start) ∧ (n = u.rd INTEG_SCRUB_LEN_length) ∧ (scrubCheck sid a n = none)) ∧
    (∃ s : State, ∃ u : State, ∃ w : RegWord, (Landed s 0xD0D8 w u) ∧ (fieldOf w INTEG_AUD_CTRL_go = 1) ∧ (u.integ.audit
      = none) ∧ (fieldOf w INTEG_AUD_CTRL_table < 63 ∨ fieldOf w INTEG_AUD_CTRL_table = dixTable)) ∧
    (∃ s : State, ∃ u : State, ∃ w : RegWord, (Landed s 0xD110 w u) ∧ (u.rd INTEG_FLIP_SEL_flip_armed ≠ 1) ∧ (fieldOf w
      INTEG_FLIP_SEL_flip_armed = 1) ∧ (flipOk (fieldOf w INTEG_FLIP_SEL_flip_sid) (fieldOf w INTEG_FLIP_SEL_flip_copy)
      (fieldOf w INTEG_FLIP_SEL_flip_word) = true)) ∧
    (∃ s : State, ∃ w : RegWord, (s.discards = false) ∧ ∃ t, ∃ old, (t = s.touchLink.noteReserved 0xD204 w) ∧ (old = t.rd
      INTEG_LOG_STATUS_consumed) ∧ ((fieldOf w INTEG_LOG_CONS_cons + 65536 - old) % 65536 ≤ (t.rd
      INTEG_LOG_STATUS_written + 65536 - old) % 65536)) ∧
    (∃ s : State, ∃ w : RegWord, (s.discards = false) ∧ (fieldOf w INTEG_SEEN_CLR_seen_clr = 1)) ∧
    (∃ s : State, ∃ u : State, ∃ w : RegWord, (Landed s 0x14004 w u)) :=
  ⟨⟨(claim (2 ^ 14) ((base.commitProfile 0 (bytes (prof 0))).wri STRM_CH_TMO_fetch_ms 15 10)), _, fw [(STRM_CH_CFG_en,
      1), (STRM_CH_CFG_req_k, 4), (STRM_CH_CFG_cpl_k, 12), (STRM_CH_CFG_deg_rate, 1)], 15, ⟨(by decide +kernel),
      (by decide +kernel), rfl⟩, (by decide +kernel)⟩,
    ⟨(claim (2 ^ 14) (base.setBit STRM_STATUS_open 0 15 true)), _, 0, 15, ⟨(by decide +kernel), (by decide +kernel),
      rfl⟩, (by decide +kernel)⟩,
    ⟨(claim (2 ^ 14) ((base.setBit STRM_STATUS_halted 0 15 true).wri STRM_CH_STATUS_halt_reason 15 1)), _, fw
      [(STRM_CH_STATUS_resume, 1)], 15, ⟨(by decide +kernel), (by decide +kernel), rfl⟩, (by decide +kernel)⟩,
    ⟨(claim (2 ^ 13) (base.wr INTEG_SCRUB_LEN_length 32)), _, fw [(INTEG_SCRUB_CTRL_go, 1), (INTEG_SCRUB_CTRL_scrub_sid,
      1)], ⟨(by decide +kernel), (by decide +kernel), rfl⟩, (by decide +kernel), (by decide +kernel), _, _, _, rfl, rfl,
      rfl, (by decide +kernel)⟩,
    ⟨(claim (2 ^ 13) base), _, fw [(INTEG_AUD_CTRL_go, 1), (INTEG_AUD_CTRL_table, dixTable)], ⟨(by decide +kernel),
      (by decide +kernel), rfl⟩, (by decide +kernel)⟩,
    ⟨(claim (2 ^ 13) base), _, fw [(INTEG_FLIP_SEL_flip_armed, 1), (INTEG_FLIP_SEL_flip_sid, 0x10),
      (INTEG_FLIP_SEL_flip_copy, 3), (INTEG_FLIP_SEL_flip_word, 3)], ⟨(by decide +kernel), (by decide +kernel), rfl⟩,
      (by decide +kernel)⟩,
    ⟨(base.wr INTEG_LOG_STATUS_written 64), fw [(INTEG_LOG_CONS_cons, 64)], (by decide +kernel), _, _, rfl, rfl,
      (by decide +kernel)⟩,
    ⟨base, fw [(INTEG_SEEN_CLR_seen_clr, 1)], (by decide +kernel)⟩,
    ⟨(claim (2 ^ 20) base), _, 1, ⟨(by decide +kernel), (by decide +kernel), rfl⟩⟩⟩

set_option maxRecDepth 20000 in
/-- A state and operands for each clause of PinRegisterAccessesComplete. -/
theorem witness_PinRegisterAccessesComplete :
    (∃ s : State, ∃ u : State, ∃ w : RegWord, (Landed s 0x601C w u)) ∧
    (∃ s : State, ∃ u : State, ∃ w : RegWord, (Landed s 0x6020 w u)) ∧
    (∃ s : State, ∃ u : State, ∃ w : RegWord, (Landed s 0x6024 w u)) ∧
    (∃ s : State, ∃ u : State, ∃ w : RegWord, ∃ n : Fin 24, (Landed s (0x6100 + 4 * n.val) w u)) ∧
    (∃ s : State, ∃ u : State, ∃ w : RegWord, ∃ k : Fin 2, (Landed s (0x6210 + 0x20 * k.val) w u)) ∧
    (∃ s : State, ∃ k : Fin 2, ∃ r, (r = s.readReg (uartRxOff k.val))) ∧
    (∃ s : State, ∃ u : State, ∃ w : RegWord, (Landed s 0x6284 (w ||| 0x80000000) u)) :=
  ⟨⟨(claim (2 ^ 6) base), _, 0, ⟨(by decide +kernel), (by decide +kernel), rfl⟩⟩,
    ⟨(claim (2 ^ 6) base), _, 0, ⟨(by decide +kernel), (by decide +kernel), rfl⟩⟩,
    ⟨(claim (2 ^ 6) base), _, 0, ⟨(by decide +kernel), (by decide +kernel), rfl⟩⟩,
    ⟨(claim (2 ^ 6) base), _, 0, 23, ⟨(by decide +kernel), (by decide +kernel), rfl⟩⟩,
    ⟨(claim (2 ^ 6) base), _, 0, 1, ⟨(by decide +kernel), (by decide +kernel), rfl⟩⟩,
    ⟨(claim (2 ^ 6) base), 1, _, rfl⟩,
    ⟨(claim (2 ^ 6) base), _, 0, ⟨(by decide +kernel), (by decide +kernel), rfl⟩⟩⟩

set_option maxRecDepth 20000 in
/-- A state and operands for each clause of WindowsAndDoorbellsComplete. -/
theorem witness_WindowsAndDoorbellsComplete :
    (∃ s : State, ∃ lane : Fin 16, ∃ len : Nat, (8 ≤ len) ∧ (len ≤ 64) ∧ (s.isFollower = false) ∧ (s.bit
      SRCH_WIN_CFG_lane_en 0 lane.val = true)) ∧
    (∃ s : State, (s.isFollower = false)) ∧
    (∃ s : State, ∃ w : RegWord, (s.isFollower = false) ∧ ∃ t, ∃ old, (t = (s.noteDoorbell 0x3048 w).noteUpper w) ∧
      (old = t.rd MBX_EVT_STATUS_evt_consumed) ∧ (cntDist old (doorCount w) ≤ cntDist old (t.rd
      MBX_EVT_STATUS_evt_written))) ∧
    (∃ s : State, ∃ off : Nat, (countWord off = true) ∧ (s.isFollower = false)) ∧
    (∃ s : State, ∃ off : Nat, ∃ data : List (Option Byte), (0x10000 ≤ off) ∧ (off + data.length ≤ 0x90000) ∧
      (coversReq off data = true) ∧ (s.isFollower = false)) ∧
    (∃ s : State, ∃ off : Nat, ∃ t, (t = (s.touchLink.aerAdvisory .poisonedTlp).inc GLB_ERR_CNT_ep_rx) ∧
      (t.isFollower = false) ∧ (off < 0x100000)) ∧
    (∃ s : State, ∃ off : Nat, ∃ t, (t = (s.touchLink.aerAdvisory .poisonedTlp).inc GLB_ERR_CNT_ep_rx) ∧
      (t.isFollower = false) ∧ (0x100000 ≤ off)) ∧
    (∃ s : State, ∃ t, (t = (s.touchLink.aerAdvisory .poisonedTlp).inc GLB_ERR_CNT_ep_rx) ∧ (t.isFollower = true)) ∧
    (∃ s : State, ∃ t, (t = (s.touchLink.aerAdvisory .poisonedTlp).inc GLB_ERR_CNT_ep_rx)) :=
  ⟨⟨(base.wr SRCH_WIN_CFG_lane_en 0x8000), 15, 64, (by decide +kernel)⟩,
    ⟨base, (by decide +kernel)⟩,
    ⟨base, 0, (by decide +kernel), _, _, rfl, rfl, (by decide +kernel)⟩,
    ⟨base, 0x3040, (by decide +kernel)⟩,
    ⟨base, 0x8FFC0, (bytes (List.replicate 64 0)).map some, (by decide +kernel)⟩,
    ⟨base, 0xFFFF8, _, rfl, (by decide +kernel)⟩,
    ⟨base, 0x100000, _, rfl, (by decide +kernel)⟩,
    ⟨(base.wr CHN_STATUS_role 2), _, rfl, (by decide +kernel)⟩,
    ⟨base, _, rfl⟩⟩

end Sys2Proof.Tests
end

