-- ==== Sys2Proof/Tests/WitnessCommands.lean ====
section
/-! SUPPORT. Witnesses for the completion statements of the mailbox commands of power, system, profiles, tables, learning, the chain and the slots. -/

set_option Elab.async false

namespace Sys2Proof.Tests
open Sys2Proof Sys2Proof.Machine Sys2Proof.Machine.Reg

set_option maxRecDepth 20000 in
/-- A state and operands for each clause of PowerHeatCommandsComplete. -/
theorem witness_PowerHeatCommandsComplete :
    (∃ m : Mb, ∃ s : State, ∃ c : Cmd, (Ready s m 0x0220 c)) ∧
    (∃ m : Mb, ∃ s : State, ∃ c : Cmd, (Ready s m 0x0221 c) ∧ (102 ≤ c.u16 0) ∧ (c.u16 0 ≤ 254) ∧ (4 ≤ c.u16 2) ∧
      (c.u16 2 ≤ 64) ∧ (26 ≤ c.u16 4) ∧ (c.u16 4 + c.u16 2 + 1 ≤ c.u16 0) ∧ (c.u8 6 ≤ 56) ∧ (c.notZero 7 1 = none)) ∧
    (∃ m : Mb, ∃ s : State, ∃ c : Cmd, (Ready s m 0x0201 c)) ∧
    (∃ m : Mb, ∃ s : State, ∃ c : Cmd, (Ready s m 0x0202 c) ∧ (s.dozeRefusal = none)) ∧
    (∃ m : Mb, ∃ s : State, ∃ c : Cmd, (Ready s m 0x0203 c) ∧ (s.phase = .run)) ∧
    (∃ m : Mb, ∃ s : State, ∃ c : Cmd, (Ready s m 0x0203 c) ∧ (s.phase ≠ .run)) ∧
    (∃ m : Mb, ∃ s : State, ∃ c : Cmd, (Ready s m 0x0204 c) ∧ (c.u8 4 % 2 = 1 → 1 ≤ c.u32 0 ∧ c.u32 0 ≤ 4194303) ∧
      (1 ≤ c.u8 4) ∧ (c.u8 4 < 32) ∧ (c.u8 5 ≤ 1) ∧ (c.notZero 6 2 = none) ∧ (s.alive = true) ∧ ∃ t, (t = s.okResp
      m [])) ∧
    (∃ m : Mb, ∃ s : State, ∃ c : Cmd, (Ready s m 0x0205 c) ∧ (c.u8 0 = 0) ∧ (c.notZero 1 3 = none) ∧
      ((s.inSequence && !s.atTrigger) = false)) ∧
    (∃ m : Mb, ∃ s : State, ∃ c : Cmd, (Ready s m 0x0205 c) ∧ (c.u8 0 = 1) ∧ (c.notZero 1 3 = none) ∧
      ((s.inSequence && !s.atTrigger) = false)) ∧
    (∃ m : Mb, ∃ s : State, ∃ c : Cmd, (Ready s m 0x0206 c) ∧ (9000 ≤ c.u16 0) ∧ (c.u16 0 ≤ 60000) ∧ (c.u8 2 ≤ 1) ∧
      (c.notZero 3 1 = none)) ∧
    (∃ m : Mb, ∃ s : State, ∃ c : Cmd, (Ready s m 0x0301 c)) ∧
    (∃ m : Mb, ∃ s : State, ∃ c : Cmd, (Ready s m 0x0302 c) ∧ (60 ≤ c.u8 0) ∧ (c.u8 0 + 6 ≤ c.u8 1) ∧ (105 ≤ c.u8
      1) ∧ (c.u8 1 ≤ 118) ∧ (1 ≤ c.u8 2) ∧ (c.u8 2 ≤ 15) ∧ (1 ≤ c.u8 3) ∧ (c.u8 3 ≤ 15) ∧ (1 ≤ c.u16 4) ∧ (c.u16 4
      ≤ 10000) ∧ (1 ≤ c.u8 6) ∧ (c.notZero 7 1 = none)) ∧
    (∃ m : Mb, ∃ s : State, ∃ c : Cmd, (Ready s m 0x0303 c) ∧ ((∀ n < 3, 1 ≤ c.u16 (6 * n) ∧ c.u16 (6 * n) ≤ 400 ∧
      1 ≤ c.u16 (6 * n + 2) ∧ c.u16 (6 * n + 2) ≤ 1023 ∧ 1 ≤ c.u8 (6 * n + 4) ∧ c.u8 (6 * n + 4) ≤ 100 ∧ c.notZero
      (6 * n + 5) 1 = none)) ∧ ((∀ n < 2, c.u16 (6 * (n + 1)) ≤ c.u16 (6 * n) ∧ c.u16 (6 * (n + 1) + 2) ≤ c.u16 (6
      * n + 2) ∧ c.u8 (6 * (n + 1) + 4) ≤ c.u8 (6 * n + 4))) ∧ (s.rdi THM_LEVEL_adm_cap 3 ≤ c.u16 12) ∧ (s.rdi
      THM_LEVEL_strm_cap 3 ≤ c.u16 14) ∧ (s.rdi THM_LEVEL_media_pct 3 ≤ c.u8 16)) ∧
    (∃ m : Mb, ∃ s : State, ∃ c : Cmd, (Ready s m 0x0304 c)) :=
  ⟨⟨.urgent, has .urgent (wc 0x0220 []) base, wc 0x0220 [], (by decide +kernel)⟩,
    ⟨.urgent, has .urgent (wc 0x0221 [102, 0, 4, 0, 26, 0, 56, 0]) base, wc 0x0221 [102, 0, 4, 0, 26, 0, 56, 0],
      (by decide +kernel)⟩,
    ⟨.urgent, has .urgent (wc 0x0201 []) base, wc 0x0201 [], (by decide +kernel)⟩,
    ⟨.urgent, has .urgent (wc 0x0202 []) base, wc 0x0202 [], (by decide +kernel)⟩,
    ⟨.urgent, has .urgent (wc 0x0203 []) base, wc 0x0203 [], (by decide +kernel)⟩,
    ⟨.urgent, has .urgent (wc 0x0203 []) (base.wr PWR_STATE_state 2), wc 0x0203 [], (by decide +kernel)⟩,
    ⟨.urgent, has .urgent (wc 0x0204 [1, 0, 0, 0, 1, 0, 0, 0]) base, wc 0x0204 [1, 0, 0, 0, 1, 0, 0, 0],
      (by decide +kernel), (by decide +kernel), (by decide +kernel), (by decide +kernel), (by decide +kernel),
      (by decide +kernel), (by decide +kernel), _, rfl⟩,
    ⟨.urgent, has .urgent (wc 0x0205 [0, 0, 0, 0]) base, wc 0x0205 [0, 0, 0, 0], (by decide +kernel)⟩,
    ⟨.urgent, has .urgent (wc 0x0205 [1, 0, 0, 0]) base, wc 0x0205 [1, 0, 0, 0], (by decide +kernel)⟩,
    ⟨.urgent, has .urgent (wc 0x0206 [40, 35, 1, 0]) base, wc 0x0206 [40, 35, 1, 0], (by decide +kernel)⟩,
    ⟨.urgent, has .urgent (wc 0x0301 []) base, wc 0x0301 [], (by decide +kernel)⟩,
    ⟨.urgent, has .urgent (wc 0x0302 [60, 105, 1, 1, 1, 0, 1, 0]) base, wc 0x0302 [60, 105, 1, 1, 1, 0, 1, 0],
      (by decide +kernel)⟩,
    ⟨.urgent, has .urgent (wc 0x0303 [44, 1, 144, 1, 75, 0, 200, 0, 200, 0, 50, 0, 100, 0, 100, 0, 25, 0]) base, wc
      0x0303 [44, 1, 144, 1, 75, 0, 200, 0, 200, 0, 50, 0, 100, 0, 100, 0, 25, 0], (by decide +kernel)⟩,
    ⟨.urgent, has .urgent (wc 0x0304 []) base, wc 0x0304 [], (by decide +kernel)⟩⟩

set_option maxRecDepth 20000 in
/-- A state and operands for each clause of SysCommandsComplete. -/
theorem witness_SysCommandsComplete :
    (∃ m : Mb, ∃ s : State, ∃ c : Cmd, (Ready s m 0x0101 c)) ∧
    (∃ m : Mb, ∃ s : State, ∃ c : Cmd, (Ready s m 0x0102 c)) ∧
    (∃ m : Mb, ∃ s : State, ∃ c : Cmd, (Ready s m 0x0103 c) ∧ (c.u8 0 = 1) ∧ (c.notZero 1 3 = none) ∧ (s.inSequence
      = false)) ∧
    (∃ m : Mb, ∃ s : State, ∃ c : Cmd, (Ready s m 0x0103 c) ∧ (c.u8 0 = 2) ∧ (c.notZero 1 3 = none) ∧ (s.inSequence
      = false)) ∧
    (∃ m : Mb, ∃ s : State, ∃ c : Cmd, (Ready s m 0x0104 c) ∧ (c.u32 0 ≠ 0) ∧ (c.u32 0 < 2 ^ 21) ∧ (s.claimDenied
      (c.u32 0) = none) ∧ (s.claimBusy m (c.u32 0) = false) ∧ ∃ t, (t = s.setClaims (s.rd GLB_CLAIM_claimed |||
      c.u32 0))) ∧
    (∃ m : Mb, ∃ s : State, ∃ c : Cmd, (Ready s m 0x0104 c) ∧ (c.u32 0 ≠ 0) ∧ (c.u32 0 < 2 ^ 21) ∧ (s.claimDenied
      (c.u32 0) = none) ∧ (s.claimBusy m (c.u32 0) = true)) ∧
    (∃ m : Mb, ∃ s : State, ∃ c : Cmd, ∃ b, (Ready s m 0x0104 c) ∧ (c.u32 0 ≠ 0) ∧ (c.u32 0 < 2 ^ 21) ∧
      (s.claimDenied (c.u32 0) = some b)) ∧
    (∃ m : Mb, ∃ s : State, ∃ c : Cmd, (Ready s m 0x0104 c) ∧ (c.u32 0 % 2 = 1) ∧ (c.u32 0 < 2 ^ 21)) ∧
    (∃ m : Mb, ∃ s : State, ∃ c : Cmd, (Ready s m 0x0105 c) ∧ (c.u32 0 ≠ 0) ∧ (c.u32 0 % 2 = 0) ∧ (c.u32 0 < 2 ^
      21) ∧ ∃ t, (t = s.releaseClaims (c.u32 0))) ∧
    (∃ m : Mb, ∃ s : State, ∃ c : Cmd, (Ready s m 0x0106 c) ∧ (1 ≤ c.u8 0) ∧ (c.u8 0 ≤ 3) ∧ (c.notZero 1 1 = none)
      ∧ (s.cmdState (mbOf (c.u8 0)) (c.u16 2) = 1)) ∧
    (∃ m : Mb, ∃ s : State, ∃ c : Cmd, (Ready s m 0x0106 c) ∧ (1 ≤ c.u8 0) ∧ (c.u8 0 ≤ 3) ∧ (c.notZero 1 1 = none)
      ∧ (s.cmdState (mbOf (c.u8 0)) (c.u16 2) = 2) ∧ ∃ t, (t = s.stopCmd (mbOf (c.u8 0)) stAborted)) ∧
    (∃ m : Mb, ∃ s : State, ∃ c : Cmd, (Ready s m 0x0107 c)) ∧
    (∃ m : Mb, ∃ s : State, ∃ c : Cmd, (Ready s m 0x0108 c) ∧ (c.u8 0 < 2) ∧ (c.u8 1 < 2) ∧ (c.u16 2 < 1024)) :=
  ⟨⟨.urgent, has .urgent (wc 0x0101 []) base, wc 0x0101 [], (by decide +kernel)⟩,
    ⟨.urgent, has .urgent (wc 0x0102 []) base, wc 0x0102 [], (by decide +kernel)⟩,
    ⟨.urgent, has .urgent (wc 0x0103 [1, 0, 0, 0]) base, wc 0x0103 [1, 0, 0, 0], (by decide +kernel)⟩,
    ⟨.urgent, has .urgent (wc 0x0103 [2, 0, 0, 0]) base, wc 0x0103 [2, 0, 0, 0], (by decide +kernel)⟩,
    ⟨.urgent, has .urgent (wc 0x0104 [2, 0, 0, 0]) (base), wc 0x0104 [2, 0, 0, 0], (by decide +kernel),
      (by decide +kernel), (by decide +kernel), (by decide +kernel), (by decide +kernel), _, rfl⟩,
    ⟨.urgent, has .urgent (wc 0x0104 [2, 0, 0, 0]) (has .table (ww 0x0202 []) base), wc 0x0104 [2, 0, 0, 0],
      (by decide +kernel)⟩,
    ⟨.urgent, has .urgent (wc 0x0104 [1, 0, 0, 0]) (base), wc 0x0104 [1, 0, 0, 0], 0, (by decide +kernel)⟩,
    ⟨.urgent, has .urgent (wc 0x0104 [255, 255, 31, 0]) (base), wc 0x0104 [255, 255, 31, 0], (by decide +kernel)⟩,
    ⟨.urgent, has .urgent (wc 0x0105 [2, 0, 0, 0]) base, wc 0x0105 [2, 0, 0, 0], (by decide +kernel),
      (by decide +kernel), (by decide +kernel), (by decide +kernel), _, rfl⟩,
    ⟨.urgent, has .urgent (wc 0x0106 [1, 0, 0, 0]) (base.wri MBX_MB_STATUS_posted 1 1), wc 0x0106 [1, 0, 0, 0],
      (by decide +kernel)⟩,
    ⟨.urgent, has .urgent (wc 0x0106 [1, 0, 0, 0]) (has .table (ww 0x0701 []) (base.wri MBX_MB_STATUS_posted 1 1)),
      wc 0x0106 [1, 0, 0, 0], (by decide +kernel), (by decide +kernel), (by decide +kernel), (by decide +kernel),
      (by decide +kernel), _, rfl⟩,
    ⟨.urgent, has .urgent (wc 0x0107 [1, 2, 3, 4]) base, wc 0x0107 [1, 2, 3, 4], (by decide +kernel)⟩,
    ⟨.urgent, has .urgent (wc 0x0108 [1, 1, 63, 0]) base, wc 0x0108 [1, 1, 63, 0], (by decide +kernel)⟩⟩

set_option maxRecDepth 20000 in
/-- A state and operands for each clause of ProfileCommandsComplete. -/
theorem witness_ProfileCommandsComplete :
    (∃ m : Mb, ∃ s : State, ∃ c : Cmd, (Ready s m 0x0801 c) ∧ (profileBad (c.bytes 0 96) = none) ∧ ∃ t, (t =
      s.commitProfile (c.u8 0) (c.bytes 0 96))) ∧
    (∃ m : Mb, ∃ s : State, ∃ c : Cmd, (Ready s m 0x0802 c) ∧ (c.u8 0 < 32) ∧ (s.profDefined (c.u8 0) = true)) ∧
    (∃ m : Mb, ∃ s : State, ∃ c : Cmd, (Ready s m 0x0802 c) ∧ (c.u8 0 < 32) ∧ (s.profDefined (c.u8 0) = false)) ∧
    (∃ m : Mb, ∃ s : State, ∃ c : Cmd, (Ready s m 0x0803 c) ∧ (c.u8 0 < 32) ∧ (s.profDefined (c.u8 0) = true)) ∧
    (∃ m : Mb, ∃ s : State, ∃ c : Cmd, (Ready s m 0x0810 c) ∧ (c.u8 0 < 16) ∧ (4 ≤ c.u8 1) ∧ (c.u8 1 ≤ 12) ∧ (4 ≤
      c.u8 2) ∧ (c.u8 2 ≤ 12) ∧ (c.u8 3 < 8) ∧ ((List.range 32).any s.profDefined = true) ∧ (c.u64 8 % 4096 = 0) ∧
      (c.u64 16 % 4096 = 0) ∧ (4 ≤ c.u8 3 → c.u64 24 % 8 = 0) ∧ (s.qOpen (c.u8 0) = false) ∧ ∃ t, ∃ u, (t =
      (((((((s.wri SRCH_Q_CFG_req_k (c.u8 0) (c.u8 1)).wri SRCH_Q_CFG_res_k (c.u8 0) (c.u8 2)).wri
      SRCH_Q_CFG_req_128 (c.u8 0) (c.u8 3)).wri SRCH_Q_CFG_res_full (c.u8 0) (c.u8 3 / 2)).wri SRCH_Q_CFG_wb_en
      (c.u8 0) (c.u8 3 / 4)).wri SRCH_Q_PMASK_pmask (c.u8 0) (c.u32 4)).wr64 SRCH_Q_REQ_LO_req_base_lo
      SRCH_Q_REQ_HI_req_base_hi (c.u8 0) (c.u64 8)).wr64 SRCH_Q_RES_LO_res_base_lo SRCH_Q_RES_HI_res_base_hi (c.u8
      0) (c.u64 16)) ∧ (u = (if 4 ≤ c.u8 3 then t.wr64 SRCH_Q_WB_LO_wb_lo SRCH_Q_WB_HI_wb_hi (c.u8 0) (c.u64 24)
      else t))) ∧
    (∃ m : Mb, ∃ s : State, ∃ c : Cmd, (Ready s m 0x0811 c) ∧ (c.u8 0 < 16) ∧ (c.notZero 1 3 = none) ∧ (s.qOpen
      (c.u8 0) = true) ∧ ((s.pair (c.u8 0)).closing = false)) ∧
    (∃ m : Mb, ∃ s : State, ∃ c : Cmd, (Ready s m 0x0812 c) ∧ (c.notZero 2 2 = none)) :=
  ⟨⟨.urgent, has .urgent (wc 0x0801 (prof 31)) base, wc 0x0801 (prof 31), (by decide +kernel),
      (by decide +kernel), _, rfl⟩,
    ⟨.urgent, has .urgent (wc 0x0802 [31]) (base.wr SRCH_PROF_VALID_valid 0x80000000), wc 0x0802 [31],
      (by decide +kernel)⟩,
    ⟨.urgent, has .urgent (wc 0x0802 [31]) base, wc 0x0802 [31], (by decide +kernel)⟩,
    ⟨.urgent, has .urgent (wc 0x0803 [31]) (base.wr SRCH_PROF_VALID_valid 0x80000000), wc 0x0803 [31],
      (by decide +kernel)⟩,
    ⟨.urgent, has .urgent (wc 0x0810 [15, 4, 12, 7, 0, 0, 0, 0, 0, 16, 0, 0, 0, 0, 0, 0, 0, 32, 0, 0, 0, 0, 0, 0,
      8, 0, 0, 0, 0, 0, 0, 0]) (base.setBit SRCH_PROF_VALID_valid 0 31 true), wc 0x0810 [15, 4, 12, 7, 0, 0, 0, 0,
      0, 16, 0, 0, 0, 0, 0, 0, 0, 32, 0, 0, 0, 0, 0, 0, 8, 0, 0, 0, 0, 0, 0, 0], (by decide +kernel),
      (by decide +kernel), (by decide +kernel), (by decide +kernel), (by decide +kernel), (by decide +kernel),
      (by decide +kernel), (by decide +kernel), (by decide +kernel), (by decide +kernel), (by decide +kernel),
      (by decide +kernel), _, _, rfl, rfl⟩,
    ⟨.urgent, has .urgent (wc 0x0811 [15, 0, 0, 0]) (base.wri SRCH_Q_CFG_q_en 15 1), wc 0x0811 [15, 0, 0, 0],
      (by decide +kernel)⟩,
    ⟨.urgent, has .urgent (wc 0x0812 [255, 255, 0, 0]) base, wc 0x0812 [255, 255, 0, 0], (by decide +kernel)⟩⟩

set_option maxRecDepth 20000 in
/-- A state and operands for each clause of TableCommandsComplete. -/
theorem witness_TableCommandsComplete :
    (∃ m : Mb, ∃ s : State, ∃ c : Cmd, (Ready s m 0x0601 c) ∧ (c.u8 0 < 63) ∧ (c.u8 1 = 1) ∧ (c.u8 2 < 2) ∧ (c.u8 3
      ≤ 1 ∨ c.u8 3 = 0xFF) ∧ (c.u8 4 ≤ 3) ∧ (c.notZero 5 1 = none) ∧ (c.u16 6 ≤ 248) ∧ (s.tblDefined (c.u8 0) =
      false) ∧ (s.sweeping (c.u8 0) = false) ∧ ∃ bs, (bs = s.pickBlocks (c.u16 6)) ∧ (c.u16 6 ≤ bs.length) ∧
      (s.blocksAnswer bs = none)) ∧
    (∃ m : Mb, ∃ s : State, ∃ c : Cmd, (Ready s m 0x0601 c) ∧ (c.u8 0 < 63) ∧ (c.u8 1 = 1) ∧ (c.u8 2 = 2 ∨ c.u8 2 =
      3) ∧ (c.u8 3 ≤ 1 ∨ c.u8 3 = 0xFF) ∧ (c.u8 4 ≤ 3) ∧ (c.notZero 5 1 = none) ∧ (s.tblDefined (c.u8 0) = false) ∧
      (s.sweeping (c.u8 0) = false) ∧ ∃ bs, (bs = bitmapList (c.bytes 8 32) 256) ∧ (bs.all (· < 248) = true) ∧
      (s.blocksAnswer bs = none)) ∧
    (∃ m : Mb, ∃ s : State, ∃ c : Cmd, (Ready s m 0x0601 c) ∧ (c.u8 0 < 63) ∧ (c.u8 1 = 2) ∧ (c.u8 2 < 2) ∧ (c.u8 3
      ≤ 1 ∨ c.u8 3 = 0xFF) ∧ (1 ≤ c.u8 4) ∧ (c.u8 4 < 8) ∧ (c.u8 5 < 4) ∧ (c.u8 5 % 2 = 0 ∨ c.u8 3 ≤ 1) ∧
      (c.notZero 6 2 = none) ∧ (1 ≤ c.u32 8) ∧ (c.u32 8 ≤ 2113536) ∧ (c.notZero 12 28 = none) ∧ (s.tblDefined (c.u8
      0) = false) ∧ (s.sweeping (c.u8 0) = false)) ∧
    (∃ m : Mb, ∃ s : State, ∃ c : Cmd, (Ready s m 0x0601 c) ∧ (c.u8 0 < 63) ∧ (c.u8 1 = 4) ∧ (c.u8 2 < 2) ∧ (c.u8 3
      ≤ 1 ∨ c.u8 3 = 0xFF) ∧ (1 ≤ c.u32 4) ∧ (c.u32 4 ≤ 524288) ∧ (c.notZero 8 32 = none) ∧ (s.tblDefined (c.u8 0)
      = false) ∧ (s.sweeping (c.u8 0) = false) ∧ (s.freeRoot.isSome = true)) ∧
    (∃ m : Mb, ∃ s : State, ∃ c : Cmd, (Ready s m 0x0602 c) ∧ (c.u8 0 < 63) ∧ (c.notZero 1 3 = none) ∧
      (s.tblDefined (c.u8 0) = true) ∧ (s.castling (c.u8 0) = false)) ∧
    (∃ m : Mb, ∃ s : State, ∃ c : Cmd, (Ready s m 0x0603 c) ∧ (c.u8 0 < 63) ∧ (c.notZero 1 7 = none) ∧ ∃ bs, (bs =
      bitmapList (c.bytes 8 32) 256) ∧ (bs.all (· < 248) = true) ∧ (s.tblIs (c.u8 0) engTcam = true) ∧
      (s.tblOrphaned (c.u8 0) = false) ∧ (s.blocksAnswer bs = none)) ∧
    (∃ m : Mb, ∃ s : State, ∃ c : Cmd, (Ready s m 0x0604 c) ∧ (c.u8 0 < 63) ∧ (c.notZero 1 7 = none) ∧ ∃ bs, (bs =
      bitmapList (c.bytes 8 32) 256) ∧ (bs.all (· < 248) = true) ∧ (s.tblIs (c.u8 0) engTcam = true) ∧ (s.castling
      (c.u8 0) = true ∨ (bs.all (s.ownsBlk (c.u8 0)) = true ∧ bs.all (fun b => (s.blkValid b).isEmpty) = true))) ∧
    (∃ m : Mb, ∃ s : State, ∃ c : Cmd, (Ready s m 0x0605 c) ∧ (c.u8 0 ≤ 63)) ∧
    (∃ m : Mb, ∃ s : State, ∃ c : Cmd, (Ready s m 0x0606 c) ∧ (c.u8 0 < 63) ∧ (c.u8 1 < 63) ∧ (c.u8 1 ≠ c.u8 0) ∧
      (c.notZero 2 6 = none) ∧ (s.plyOk (c.u64 8) = true) ∧ (s.tblDefined (c.u8 0) = true) ∧ (s.tblDefined (c.u8 1)
      = true) ∧ (s.castleOk (c.u8 0) (c.u8 1) = true) ∧ (s.tblOrphaned (c.u8 0) = false) ∧ (s.tblOrphaned (c.u8 1)
      = false) ∧ (s.tbl.castle = none)) ∧
    (∃ m : Mb, ∃ s : State, ∃ c : Cmd, (Ready s m 0x0607 c) ∧ (c.u8 0 = 1) ∧ (c.notZero 1 7 = none) ∧ ((bitmapList
      (c.bytes 8 32) 256).all (· < 248) = true)) ∧
    (∃ m : Mb, ∃ s : State, ∃ c : Cmd, (Ready s m 0x0607 c) ∧ (c.u8 0 = 2) ∧ (c.notZero 1 7 = none) ∧ ∃ bs, (bs =
      bitmapList (c.bytes 8 32) 256) ∧ (bs.all (· < 248) = true) ∧ (bs.all (fun b => !(s.blk b == blkOwned || s.blk
      b == blkChanging || s.reserved.contains b)) = true)) ∧
    (∃ m : Mb, ∃ s : State, ∃ c : Cmd, (Ready s m 0x0608 c) ∧ (c.u8 0 = dixTable) ∧ (c.notZero 1 3 = none) ∧
      (c.refCheck 4 = none) ∧ (s.refPoison (c.ref 4) = false) ∧ ∃ recs, (imageParse 3 0 (s.refBytes (c.ref 4)) =
      some recs) ∧ (recs.all (fun r => recNat r 2 6 == 0) = true)) ∧
    (∃ m : Mb, ∃ s : State, ∃ c : Cmd, (Ready s m 0x0608 c) ∧ (c.u8 0 < 63) ∧ (c.notZero 1 3 = none) ∧ (c.refCheck
      4 = none) ∧ (s.imgEngine (c.u8 0) = 2) ∧ (s.tblOrphaned (c.u8 0) = false) ∧ (s.refPoison (c.ref 4) = false) ∧
      ∃ recs, (imageParse 2 0 (s.refBytes (c.ref 4)) = some recs) ∧ (recs.all (fun r => s.typeOk (c.u8 0) (recNat r
      24 1) && recNat r 25 1 < 2 && recNat r 26 6 == 0) = true)) ∧
    (∃ m : Mb, ∃ s : State, ∃ c : Cmd, (Ready s m 0x0608 c) ∧ (c.u8 0 < 63) ∧ (c.notZero 1 3 = none) ∧ (c.refCheck
      4 = none) ∧ (s.imgEngine (c.u8 0) = 1) ∧ (s.tblOrphaned (c.u8 0) = false) ∧ (s.refPoison (c.ref 4) = false) ∧
      ∃ recs, (imageParse 1 (s.rdi TCAM_TBL_CFG_width_code (c.u8 0)) (s.refBytes (c.ref 4)) = some recs) ∧
      (s.tcamImageStatus (c.u8 0) recs = none)) ∧
    (∃ m : Mb, ∃ s : State, ∃ c : Cmd, (Ready s m 0x0608 c) ∧ (c.u8 0 < 63) ∧ (c.notZero 1 3 = none) ∧ (c.refCheck
      4 = none) ∧ (s.imgEngine (c.u8 0) = 4) ∧ (s.tblOrphaned (c.u8 0) = false) ∧ (s.refPoison (c.ref 4) = false) ∧
      (s.sweeping (c.u8 0) = false) ∧ ∃ recs, (imageParse 4 0 (s.refBytes (c.ref 4)) = some recs) ∧ (recs.all (fun
      r => prefixOk (recPfx r) (recLen r) && recNat r 13 3 == 0) = true)) ∧
    (∃ m : Mb, ∃ s : State, ∃ c : Cmd, (Ready s m 0x0609 c) ∧ (c.u8 0 < 63 ∨ c.u8 0 = dixTable) ∧ (c.notZero 1 3 =
      none) ∧ (c.refCheck 4 = none) ∧ (16 ≤ (c.ref 4).2) ∧ ∃ e, ∃ w, ∃ wc, (e = s.imgEngine (c.u8 0)) ∧ (e ≠ 0) ∧
      (w = (if e = 1 then s.tblW (c.u8 0) else 1)) ∧ (wc = (if e = 1 then s.rdi TCAM_TBL_CFG_width_code (c.u8 0)
      else 0)) ∧ (e = 1 → c.u32 12 % w = 0) ∧ ∃ all, ∃ n, ∃ recs, ∃ srcs, (all = s.imageEntries (c.u8 0) (c.u32
      12)) ∧ (n = ((c.ref 4).2 - 16) / recSize e w) ∧ (recs = (all.take n).map (·.2)) ∧ (srcs = s.imageSrc (c.u8 0)
      (recSize e w) 16 (all.take n))) ∧
    (∃ m : Mb, ∃ s : State, ∃ c : Cmd, (Ready s m 0x060A c) ∧ (c.u8 0 < 63) ∧ (c.u8 1 ≤ 1) ∧ (c.notZero 2 2 = none)
      ∧ (s.tblDefined (c.u8 0) = true) ∧ (s.castling (c.u8 0) = false)) ∧
    (∃ m : Mb, ∃ s : State, ∃ c : Cmd, (Ready s m 0x060B c) ∧ (c.u8 0 < 63) ∧ (c.notZero 1 3 = none) ∧
      (s.tblDefined (c.u8 0) = true) ∧ (s.castling (c.u8 0) = false) ∧ (s.sweeping (c.u8 0) = false)) ∧
    (∃ m : Mb, ∃ s : State, ∃ c : Cmd, (Ready s m 0x060C c) ∧ (c.u32 0 ≤ 65536)) :=
  ⟨⟨.urgent, has .urgent (wc 0x0601 [62, 1, 0, 255, 3, 0, 248, 0, 0, 0, 0, 0, 0, 0, 0, 0, 0, 0, 0, 0, 0, 0, 0, 0,
      0, 0, 0, 0, 0, 0, 0, 0, 0, 0, 0, 0, 0, 0, 0, 0]) base, wc 0x0601 [62, 1, 0, 255, 3, 0, 248, 0, 0, 0, 0, 0, 0,
      0, 0, 0, 0, 0, 0, 0, 0, 0, 0, 0, 0, 0, 0, 0, 0, 0, 0, 0, 0, 0, 0, 0, 0, 0, 0, 0], (by decide +kernel),
      (by decide +kernel), (by decide +kernel), (by decide +kernel), (by decide +kernel), (by decide +kernel),
      (by decide +kernel), (by decide +kernel), (by decide +kernel), (by decide +kernel), _, rfl,
      (by decide +kernel)⟩,
    ⟨.urgent, has .urgent (wc 0x0601 [0, 1, 3, 0, 0, 0, 0, 0, 1, 0, 0, 0, 0, 0, 0, 0, 0, 0, 0, 0, 0, 0, 0, 0, 0, 0,
      0, 0, 0, 0, 0, 0, 0, 0, 0, 0, 0, 0, 0, 0]) base, wc 0x0601 [0, 1, 3, 0, 0, 0, 0, 0, 1, 0, 0, 0, 0, 0, 0, 0,
      0, 0, 0, 0, 0, 0, 0, 0, 0, 0, 0, 0, 0, 0, 0, 0, 0, 0, 0, 0, 0, 0, 0, 0], (by decide +kernel),
      (by decide +kernel), (by decide +kernel), (by decide +kernel), (by decide +kernel), (by decide +kernel),
      (by decide +kernel), (by decide +kernel), (by decide +kernel), _, rfl, (by decide +kernel)⟩,
    ⟨.urgent, has .urgent (wc 0x0601 [1, 2, 0, 0, 7, 1, 0, 0, 0, 64, 32, 0, 0, 0, 0, 0, 0, 0, 0, 0, 0, 0, 0, 0, 0,
      0, 0, 0, 0, 0, 0, 0, 0, 0, 0, 0, 0, 0, 0, 0]) base, wc 0x0601 [1, 2, 0, 0, 7, 1, 0, 0, 0, 64, 32, 0, 0, 0, 0,
      0, 0, 0, 0, 0, 0, 0, 0, 0, 0, 0, 0, 0, 0, 0, 0, 0, 0, 0, 0, 0, 0, 0, 0, 0], (by decide +kernel)⟩,
    ⟨.urgent, has .urgent (wc 0x0601 [2, 4, 0, 1, 1, 0, 0, 0, 0, 0, 0, 0, 0, 0, 0, 0, 0, 0, 0, 0, 0, 0, 0, 0, 0, 0,
      0, 0, 0, 0, 0, 0, 0, 0, 0, 0, 0, 0, 0, 0]) base, wc 0x0601 [2, 4, 0, 1, 1, 0, 0, 0, 0, 0, 0, 0, 0, 0, 0, 0,
      0, 0, 0, 0, 0, 0, 0, 0, 0, 0, 0, 0, 0, 0, 0, 0, 0, 0, 0, 0, 0, 0, 0, 0], (by decide +kernel)⟩,
    ⟨.urgent, has .urgent (wc 0x0602 [1, 0, 0, 0]) (tbl 1 2 base), wc 0x0602 [1, 0, 0, 0], (by decide +kernel)⟩,
    ⟨.urgent, has .urgent (wc 0x0603 [0, 0, 0, 0, 0, 0, 0, 0, 1, 0, 0, 0, 0, 0, 0, 0, 0, 0, 0, 0, 0, 0, 0, 0, 0, 0,
      0, 0, 0, 0, 0, 0, 0, 0, 0, 0, 0, 0, 0, 0]) (tbl 0 1 base), wc 0x0603 [0, 0, 0, 0, 0, 0, 0, 0, 1, 0, 0, 0, 0,
      0, 0, 0, 0, 0, 0, 0, 0, 0, 0, 0, 0, 0, 0, 0, 0, 0, 0, 0, 0, 0, 0, 0, 0, 0, 0, 0], (by decide +kernel),
      (by decide +kernel), (by decide +kernel), _, rfl, (by decide +kernel)⟩,
    ⟨.urgent, has .urgent (wc 0x0604 [0, 0, 0, 0, 0, 0, 0, 0, 1, 0, 0, 0, 0, 0, 0, 0, 0, 0, 0, 0, 0, 0, 0, 0, 0, 0,
      0, 0, 0, 0, 0, 0, 0, 0, 0, 0, 0, 0, 0, 0]) (own 0 0 (tbl 0 1 base)), wc 0x0604 [0, 0, 0, 0, 0, 0, 0, 0, 1, 0,
      0, 0, 0, 0, 0, 0, 0, 0, 0, 0, 0, 0, 0, 0, 0, 0, 0, 0, 0, 0, 0, 0, 0, 0, 0, 0, 0, 0, 0, 0],
      (by decide +kernel), (by decide +kernel), (by decide +kernel), _, rfl, (by decide +kernel)⟩,
    ⟨.urgent, has .urgent (wc 0x0605 [63]) base, wc 0x0605 [63], (by decide +kernel)⟩,
    ⟨.urgent, has .urgent (wc 0x0606 [0, 1, 0, 0, 0, 0, 0, 0, 32, 3, 0, 0, 0, 0, 0, 0]) (tbl 1 1 (tbl 0 1 base)),
      wc 0x0606 [0, 1, 0, 0, 0, 0, 0, 0, 32, 3, 0, 0, 0, 0, 0, 0], (by decide +kernel)⟩,
    ⟨.urgent, has .urgent (wc 0x0607 [1, 0, 0, 0, 0, 0, 0, 0, 1, 0, 0, 0, 0, 0, 0, 0, 0, 0, 0, 0, 0, 0, 0, 0, 0, 0,
      0, 0, 0, 0, 0, 0, 0, 0, 0, 0, 0, 0, 0, 0]) base, wc 0x0607 [1, 0, 0, 0, 0, 0, 0, 0, 1, 0, 0, 0, 0, 0, 0, 0,
      0, 0, 0, 0, 0, 0, 0, 0, 0, 0, 0, 0, 0, 0, 0, 0, 0, 0, 0, 0, 0, 0, 0, 0], (by decide +kernel)⟩,
    ⟨.urgent, has .urgent (wc 0x0607 [2, 0, 0, 0, 0, 0, 0, 0, 1, 0, 0, 0, 0, 0, 0, 0, 0, 0, 0, 0, 0, 0, 0, 0, 0, 0,
      0, 0, 0, 0, 0, 0, 0, 0, 0, 0, 0, 0, 0, 0]) base, wc 0x0607 [2, 0, 0, 0, 0, 0, 0, 0, 1, 0, 0, 0, 0, 0, 0, 0,
      0, 0, 0, 0, 0, 0, 0, 0, 0, 0, 0, 0, 0, 0, 0, 0, 0, 0, 0, 0, 0, 0, 0, 0], (by decide +kernel),
      (by decide +kernel), (by decide +kernel), _, rfl, (by decide +kernel)⟩,
    ⟨.urgent, has .urgent (wc 0x0608 [64, 0, 0, 0, 0, 0, 0, 0, 32, 0, 0, 0]) (img 0 3 (bytes [0, 0, 0, 0, 0, 0, 0,
      0, 7, 0, 0, 0, 0, 0, 0, 0]) base), wc 0x0608 [64, 0, 0, 0, 0, 0, 0, 0, 32, 0, 0, 0], (by decide +kernel),
      (by decide +kernel), (by decide +kernel), (by decide +kernel), (by decide +kernel), [bytes [0, 0, 0, 0, 0, 0,
      0, 0, 7, 0, 0, 0, 0, 0, 0, 0]], (by decide +kernel)⟩,
    ⟨.urgent, has .urgent (wc 0x0608 [1, 0, 0, 0, 0, 0, 0, 0, 48, 0, 0, 0]) (img 0 2 (bytes (List.replicate 24 5 ++
      [1, 0, 0, 0, 0, 0, 0, 0])) ((tbl 1 2 base).wri HASH_TBL_CFG_types 1 7)), wc 0x0608 [1, 0, 0, 0, 0, 0, 0, 0,
      48, 0, 0, 0], (by decide +kernel), (by decide +kernel), (by decide +kernel), (by decide +kernel),
      (by decide +kernel), (by decide +kernel), (by decide +kernel), [bytes (List.replicate 24 5 ++ [1, 0, 0, 0, 0,
      0, 0, 0])], (by decide +kernel)⟩,
    ⟨.urgent, has .urgent (wc 0x0608 [0, 0, 0, 0, 0, 0, 0, 0, 56, 0, 0, 0]) (img 0 1 (bytes ([0xFF, 0xFF, 0xFF,
      0xFF, 1, 0, 1, 0] ++ List.replicate 32 0)) ((own 0 0 (tbl 0 1 base)).wri TCAM_TBL_CFG_hidden 0 1)), wc 0x0608
      [0, 0, 0, 0, 0, 0, 0, 0, 56, 0, 0, 0], (by decide +kernel), (by decide +kernel), (by decide +kernel),
      (by decide +kernel), (by decide +kernel), (by decide +kernel), (by decide +kernel), [bytes ([0xFF, 0xFF,
      0xFF, 0xFF, 1, 0, 1, 0] ++ List.replicate 32 0)], (by decide +kernel)⟩,
    ⟨.urgent, has .urgent (wc 0x0608 [2, 0, 0, 0, 0, 0, 0, 0, 32, 0, 0, 0]) (img 0 4 (bytes ([0, 0, 0, 0, 0, 0, 0,
      0x80] ++ [9, 0, 0, 0, 1, 0, 0, 0])) (tbl 2 4 base)), wc 0x0608 [2, 0, 0, 0, 0, 0, 0, 0, 32, 0, 0, 0],
      (by decide +kernel), (by decide +kernel), (by decide +kernel), (by decide +kernel), (by decide +kernel),
      (by decide +kernel), (by decide +kernel), (by decide +kernel), [bytes ([0, 0, 0, 0, 0, 0, 0, 0x80] ++ [9, 0,
      0, 0, 1, 0, 0, 0])], (by decide +kernel)⟩,
    ⟨.urgent, has .urgent (wc 0x0609 [1, 0, 0, 0, 0, 0, 0, 0, 16, 0, 0, 0, 0, 0, 0, 0]) (tbl 1 2 base), wc 0x0609
      [1, 0, 0, 0, 0, 0, 0, 0, 16, 0, 0, 0, 0, 0, 0, 0], (by decide +kernel), (by decide +kernel),
      (by decide +kernel), (by decide +kernel), (by decide +kernel), _, _, _, rfl, (by decide +kernel), rfl, rfl,
      (by decide +kernel), _, _, _, _, rfl, rfl, rfl, rfl⟩,
    ⟨.urgent, has .urgent (wc 0x060A [1, 1, 0, 0]) (tbl 1 2 base), wc 0x060A [1, 1, 0, 0], (by decide +kernel)⟩,
    ⟨.urgent, has .urgent (wc 0x060B [1, 0, 0, 0]) (tbl 1 2 base), wc 0x060B [1, 0, 0, 0], (by decide +kernel)⟩,
    ⟨.urgent, has .urgent (wc 0x060C [0, 0, 1, 0]) base, wc 0x060C [0, 0, 1, 0], (by decide +kernel)⟩⟩

set_option maxRecDepth 20000 in
/-- A state and operands for each clause of EntryLearnCommandsComplete. -/
theorem witness_EntryLearnCommandsComplete :
    (∃ m : Mb, ∃ s : State, ∃ c : Cmd, (Ready s m 0x0701 c) ∧ (c.u8 0 < 63) ∧ (s.imgEngine (c.u8 0) = 1) ∧
      (c.params.length = 24 + 20 * s.tblW (c.u8 0)) ∧ (c.u8 1 < 8) ∧ ((bitOf (c.u8 1) 0 && bitOf (c.u8 1) 1) =
      false) ∧ (c.notZero 2 2 = none) ∧ (bitOf (c.u8 1) 0 = true ∨ s.castling (c.u8 0) = true ∨ s.inTable (c.u8 0)
      (c.u32 4) = true) ∧ (c.notZero 10 6 = none) ∧ (s.tblOrphaned (c.u8 0) = false)) ∧
    (∃ m : Mb, ∃ s : State, ∃ c : Cmd, (Ready s m 0x0701 c) ∧ (c.u8 0 < 63) ∧ (s.imgEngine (c.u8 0) = 2) ∧ (c.u8 1
      < 16) ∧ (bitOf (c.u8 1) 0 = false) ∧ ((bitOf (c.u8 1) 1 && bitOf (c.u8 1) 2) = false) ∧ (firstFail
      (exactChecks c 32) = none) ∧ (s.typeOk (c.u8 0) (c.u8 4) = true) ∧ (s.tblOrphaned (c.u8 0) = false)) ∧
    (∃ m : Mb, ∃ s : State, ∃ c : Cmd, (Ready s m 0x0701 c) ∧ (c.u8 0 = dixTable) ∧ (c.params.length = 16) ∧
      (c.notZero 1 3 = none) ∧ (c.notZero 6 2 = none)) ∧
    (∃ m : Mb, ∃ s : State, ∃ c : Cmd, (Ready s m 0x0701 c) ∧ (c.u8 0 < 63) ∧ (s.imgEngine (c.u8 0) = 4) ∧ (c.u8 1
      < 8) ∧ (bitOf (c.u8 1) 0 = false) ∧ ((bitOf (c.u8 1) 1 && bitOf (c.u8 1) 2) = false) ∧ (firstFail (lpmChecks
      c 24) = none) ∧ (c.notZero 20 4 = none) ∧ (s.lpmBusy (c.u8 0) = none) ∧ (s.tblOrphaned (c.u8 0) = false)) ∧
    (∃ m : Mb, ∃ s : State, ∃ c : Cmd, (Ready s m 0x0702 c) ∧ (c.u8 0 < 63) ∧ (s.imgEngine (c.u8 0) = 1) ∧
      (c.notZero 1 3 = none) ∧ (s.castling (c.u8 0) = true ∨ s.inTable (c.u8 0) (c.u32 4) = true)) ∧
    (∃ m : Mb, ∃ s : State, ∃ c : Cmd, (Ready s m 0x0702 c) ∧ (c.u8 0 < 63) ∧ (s.imgEngine (c.u8 0) = 2) ∧
      (c.notZero 1 1 = none) ∧ (firstFail (exactChecks c 24) = none) ∧ (s.typeOk (c.u8 0) (c.u8 4) = true)) ∧
    (∃ m : Mb, ∃ s : State, ∃ c : Cmd, (Ready s m 0x0702 c) ∧ (c.u8 0 = dixTable) ∧ (c.params.length = 8) ∧
      (c.notZero 1 3 = none) ∧ (c.notZero 6 2 = none)) ∧
    (∃ m : Mb, ∃ s : State, ∃ c : Cmd, (Ready s m 0x0702 c) ∧ (c.u8 0 < 63) ∧ (s.imgEngine (c.u8 0) = 4) ∧
      (c.notZero 1 1 = none) ∧ (firstFail (lpmChecks c 16) = none) ∧ (s.lpmBusy (c.u8 0) = none)) ∧
    (∃ m : Mb, ∃ s : State, ∃ c : Cmd, (Ready s m 0x0703 c) ∧ (c.u8 0 ≤ 63) ∧ (s.imgEngine (c.u8 0) = 1) ∧
      (c.notZero 1 3 = none) ∧ (s.inTable (c.u8 0) (c.u32 4) = true)) ∧
    (∃ m : Mb, ∃ s : State, ∃ c : Cmd, (Ready s m 0x0703 c) ∧ (c.u8 0 ≤ 63) ∧ (s.imgEngine (c.u8 0) = 2) ∧
      (c.notZero 1 1 = none) ∧ (firstFail (exactChecks c 24) = none) ∧ (s.typeOk (c.u8 0) (c.u8 4) = true) ∧ ∃ p, ∃
      u, (s.exactFind (c.u8 0) (2 ^ (c.u8 4 - 1)) (c.bytes 8 16) = some p) ∧ (u = s.unitBytesOf p) ∧ ((readWord
      s.mem p.sid (4 * p.unit + 2)).poison = false)) ∧
    (∃ m : Mb, ∃ s : State, ∃ c : Cmd, (Ready s m 0x0703 c) ∧ (c.u8 0 = dixTable) ∧ (c.params.length = 8) ∧
      (c.notZero 1 3 = none) ∧ (c.notZero 6 2 = none) ∧ ((readWord s.mem sidDix (c.u16 4)).poison = false)) ∧
    (∃ m : Mb, ∃ s : State, ∃ c : Cmd, (Ready s m 0x0703 c) ∧ (c.u8 0 ≤ 63) ∧ (s.imgEngine (c.u8 0) = 4) ∧
      (c.notZero 1 1 = none) ∧ (firstFail (lpmChecks c 16) = none) ∧ (0 < c.u8 4) ∧ ∃ j, (s.findRec (c.u8 0) (c.u64
      8) (c.u8 4) = some j) ∧ ((readWord s.mem (sidStage (stageOf (c.u8 4))) (recBase (stageOf (c.u8 4)) + 2 * j +
      1)).poison = false)) ∧
    (∃ m : Mb, ∃ s : State, ∃ c : Cmd, (Ready s m 0x0704 c) ∧ (c.u8 0 < 63) ∧ (s.imgEngine (c.u8 0) = 1) ∧
      (c.notZero 1 3 = none) ∧ (s.castling (c.u8 0) = true ∨ s.inTable (c.u8 0) (c.u32 4) = true) ∧ (s.tblOrphaned
      (c.u8 0) = false)) ∧
    (∃ m : Mb, ∃ s : State, ∃ c : Cmd, (Ready s m 0x0704 c) ∧ (c.u8 0 < 63) ∧ (s.imgEngine (c.u8 0) = 2) ∧
      (c.notZero 1 1 = none) ∧ (firstFail (exactChecks c 32) = none) ∧ (s.typeOk (c.u8 0) (c.u8 4) = true) ∧
      (s.tblOrphaned (c.u8 0) = false)) ∧
    (∃ m : Mb, ∃ s : State, ∃ c : Cmd, (Ready s m 0x0704 c) ∧ (c.u8 0 = dixTable) ∧ (c.params.length = 16) ∧
      (c.notZero 1 3 = none) ∧ (c.notZero 6 2 = none)) ∧
    (∃ m : Mb, ∃ s : State, ∃ c : Cmd, (Ready s m 0x0704 c) ∧ (c.u8 0 < 63) ∧ (s.imgEngine (c.u8 0) = 4) ∧
      (c.notZero 1 1 = none) ∧ (firstFail (lpmChecks c 24) = none) ∧ (c.notZero 20 4 = none) ∧ (s.lpmBusy (c.u8 0)
      = none) ∧ (s.tblOrphaned (c.u8 0) = false)) ∧
    (∃ m : Mb, ∃ s : State, ∃ c : Cmd, (Ready s m 0x0901 c) ∧ (c.u8 0 < 8) ∧ (c.notZero 1 3 = none) ∧ (10 ≤ c.u16
      4) ∧ (1 ≤ c.u16 6) ∧ (c.u32 12 ≤ 16384) ∧ (c.u32 8 = s.rd HASH_SEED_hash_seed ∨ s.seedFree = true)) ∧
    (∃ m : Mb, ∃ s : State, ∃ c : Cmd, (Ready s m 0x0902 c) ∧ ∃ l, (l = s.learn)) ∧
    (∃ m : Mb, ∃ s : State, ∃ c : Cmd, (Ready s m 0x0903 c) ∧ (c.u8 0 ≤ 62) ∧ (c.u8 1 ≤ 1) ∧ (c.notZero 2 2 = none)
      ∧ (c.refCheck 4 = none) ∧ ((c.ref 4).2 % 16 = 0) ∧ (16 ≤ (c.ref 4).2) ∧ ((c.ref 4).2 ≤ 16 * 32768) ∧ (s.tblIs
      (c.u8 0) engExact = true) ∧ (s.rd HASH_LEARN_CTRL_learn_en ≠ 0) ∧ (s.rdi HASH_TBL_CFG_learn (c.u8 0) % 2 = 1)
      ∧ (s.tblOrphaned (c.u8 0) = false) ∧ (s.slotState (s.tblBind (c.u8 0)) = slReady) ∧ (s.refPoison (c.ref 4) =
      false)) ∧
    (∃ m : Mb, ∃ s : State, ∃ c : Cmd, (Ready s m 0x0904 c) ∧ (c.u8 0 ≤ 62) ∧ (1 ≤ c.u8 1) ∧ (c.u8 1 ≤ 3) ∧
      (c.notZero 2 2 = none) ∧ (s.tblIs (c.u8 0) engExact = true)) :=
  ⟨⟨.urgent, has .urgent (wc 0x0701 [0, 1, 0, 0, 0, 0, 0, 0, 7, 0, 0, 0, 0, 0, 0, 0, 5, 0, 0, 0, 0, 0, 0, 0, 0, 0,
      0, 0, 0, 0, 0, 0, 0, 0, 0, 0, 0, 0, 0, 0, 0, 0, 0, 0]) (own 0 0 (tbl 0 1 base)), wc 0x0701 [0, 1, 0, 0, 0, 0,
      0, 0, 7, 0, 0, 0, 0, 0, 0, 0, 5, 0, 0, 0, 0, 0, 0, 0, 0, 0, 0, 0, 0, 0, 0, 0, 0, 0, 0, 0, 0, 0, 0, 0, 0, 0,
      0, 0], (by decide +kernel)⟩,
    ⟨.urgent, has .urgent (wc 0x0701 [1, 0, 0, 0, 1, 0, 0, 0, 1, 0, 0, 0, 0, 0, 0, 0, 0, 0, 0, 0, 0, 0, 0, 0, 5, 0,
      0, 0, 0, 0, 0, 0]) ((tbl 1 2 base).wri HASH_TBL_CFG_types 1 7), wc 0x0701 [1, 0, 0, 0, 1, 0, 0, 0, 1, 0, 0,
      0, 0, 0, 0, 0, 0, 0, 0, 0, 0, 0, 0, 0, 5, 0, 0, 0, 0, 0, 0, 0], (by decide +kernel)⟩,
    ⟨.urgent, has .urgent (wc 0x0701 [64, 0, 0, 0, 255, 255, 0, 0, 5, 0, 0, 0, 0, 0, 0, 0]) base, wc 0x0701 [64, 0,
      0, 0, 255, 255, 0, 0, 5, 0, 0, 0, 0, 0, 0, 0], (by decide +kernel)⟩,
    ⟨.urgent, has .urgent (wc 0x0701 [2, 0, 0, 0, 64, 0, 0, 0, 5, 0, 0, 0, 0, 0, 0, 0, 9, 0, 0, 0, 0, 0, 0, 0])
      (tbl 2 4 base), wc 0x0701 [2, 0, 0, 0, 64, 0, 0, 0, 5, 0, 0, 0, 0, 0, 0, 0, 9, 0, 0, 0, 0, 0, 0, 0],
      (by decide +kernel)⟩,
    ⟨.urgent, has .urgent (wc 0x0702 [0, 0, 0, 0, 255, 15, 0, 0]) (own 0 0 (tbl 0 1 base)), wc 0x0702 [0, 0, 0, 0,
      255, 15, 0, 0], (by decide +kernel)⟩,
    ⟨.urgent, has .urgent (wc 0x0702 [1, 0, 0, 0, 3, 0, 0, 0, 1, 0, 0, 0, 0, 0, 0, 0, 0, 0, 0, 0, 0, 0, 0, 0])
      ((tbl 1 2 base).wri HASH_TBL_CFG_types 1 7), wc 0x0702 [1, 0, 0, 0, 3, 0, 0, 0, 1, 0, 0, 0, 0, 0, 0, 0, 0, 0,
      0, 0, 0, 0, 0, 0], (by decide +kernel)⟩,
    ⟨.urgent, has .urgent (wc 0x0702 [64, 0, 0, 0, 0, 0, 0, 0]) base, wc 0x0702 [64, 0, 0, 0, 0, 0, 0, 0],
      (by decide +kernel)⟩,
    ⟨.urgent, has .urgent (wc 0x0702 [2, 0, 0, 0, 0, 0, 0, 0, 0, 0, 0, 0, 0, 0, 0, 0]) (tbl 2 4 base), wc 0x0702
      [2, 0, 0, 0, 0, 0, 0, 0, 0, 0, 0, 0, 0, 0, 0, 0], (by decide +kernel)⟩,
    ⟨.urgent, has .urgent (wc 0x0703 [0, 0, 0, 0, 0, 0, 0, 0]) (own 0 0 (tbl 0 1 base)), wc 0x0703 [0, 0, 0, 0, 0,
      0, 0, 0], (by decide +kernel)⟩,
    ⟨.urgent, has .urgent (wc 0x0703 [1, 0, 0, 0, 1, 0, 0, 0, 1, 0, 0, 0, 0, 0, 0, 0, 0, 0, 0, 0, 0, 0, 0, 0])
      (entry 1 1 (bytes [1]) 5 ((tbl 1 2 base).wri HASH_TBL_CFG_types 1 7)), wc 0x0703 [1, 0, 0, 0, 1, 0, 0, 0, 1,
      0, 0, 0, 0, 0, 0, 0, 0, 0, 0, 0, 0, 0, 0, 0], (by decide +kernel), (by decide +kernel), (by decide +kernel),
      (by decide +kernel), (by decide +kernel), (by decide +kernel), ⟨sidOverflow, 0⟩, _, (by decide +kernel), rfl,
      (by decide +kernel)⟩,
    ⟨.urgent, has .urgent (wc 0x0703 [64, 0, 0, 0, 0, 0, 0, 0]) base, wc 0x0703 [64, 0, 0, 0, 0, 0, 0, 0],
      (by decide +kernel)⟩,
    ⟨.urgent, has .urgent (wc 0x0703 [2, 0, 0, 0, 1, 0, 0, 0, 0, 0, 0, 0, 0, 0, 0, 128]) (lpmAt 2 (2 ^ 63) 1 9 (tbl
      2 4 base)), wc 0x0703 [2, 0, 0, 0, 1, 0, 0, 0, 0, 0, 0, 0, 0, 0, 0, 128], (by decide +kernel),
      (by decide +kernel), (by decide +kernel), (by decide +kernel), (by decide +kernel), (by decide +kernel), 0,
      (by decide +kernel)⟩,
    ⟨.urgent, has .urgent (wc 0x0704 [0, 0, 0, 0, 0, 0, 0, 0, 5, 0, 0, 0, 0, 0, 0, 0]) (own 0 0 (tbl 0 1 base)), wc
      0x0704 [0, 0, 0, 0, 0, 0, 0, 0, 5, 0, 0, 0, 0, 0, 0, 0], (by decide +kernel)⟩,
    ⟨.urgent, has .urgent (wc 0x0704 [1, 0, 0, 0, 2, 0, 0, 0, 1, 0, 0, 0, 0, 0, 0, 0, 0, 0, 0, 0, 0, 0, 0, 0, 5, 0,
      0, 0, 0, 0, 0, 0]) ((tbl 1 2 base).wri HASH_TBL_CFG_types 1 7), wc 0x0704 [1, 0, 0, 0, 2, 0, 0, 0, 1, 0, 0,
      0, 0, 0, 0, 0, 0, 0, 0, 0, 0, 0, 0, 0, 5, 0, 0, 0, 0, 0, 0, 0], (by decide +kernel)⟩,
    ⟨.urgent, has .urgent (wc 0x0704 [64, 0, 0, 0, 0, 0, 0, 0, 5, 0, 0, 0, 0, 0, 0, 0]) base, wc 0x0704 [64, 0, 0,
      0, 0, 0, 0, 0, 5, 0, 0, 0, 0, 0, 0, 0], (by decide +kernel)⟩,
    ⟨.urgent, has .urgent (wc 0x0704 [2, 0, 0, 0, 8, 0, 0, 0, 0, 0, 0, 0, 0, 0, 0, 1, 9, 0, 0, 0, 0, 0, 0, 0]) (tbl
      2 4 base), wc 0x0704 [2, 0, 0, 0, 8, 0, 0, 0, 0, 0, 0, 0, 0, 0, 0, 1, 9, 0, 0, 0, 0, 0, 0, 0],
      (by decide +kernel)⟩,
    ⟨.urgent, has .urgent (wc 0x0901 [7, 0, 0, 0, 10, 0, 1, 0, 5, 0, 0, 0, 0, 64, 0, 0]) base, wc 0x0901 [7, 0, 0,
      0, 10, 0, 1, 0, 5, 0, 0, 0, 0, 64, 0, 0], (by decide +kernel)⟩,
    ⟨.urgent, has .urgent (wc 0x0902 []) base, wc 0x0902 [], (by decide +kernel), _, rfl⟩,
    ⟨.urgent, has .urgent (wc 0x0903 [1, 1, 0, 0, 0, 0, 0, 0, 16, 0, 0, 0]) (slot slReady ((((tbl 1 2 base).wr
      HASH_LEARN_CTRL_learn_en 1).wri HASH_TBL_CFG_learn 1 1).wri TCAM_TBL_CFG_slot_bind 1 0)), wc 0x0903 [1, 1, 0,
      0, 0, 0, 0, 0, 16, 0, 0, 0], (by decide +kernel)⟩,
    ⟨.urgent, has .urgent (wc 0x0904 [1, 3, 0, 0]) (tbl 1 2 base), wc 0x0904 [1, 3, 0, 0], (by decide +kernel)⟩⟩

set_option maxRecDepth 20000 in
/-- A state and operands for each clause of ChainCommandsComplete. -/
theorem witness_ChainCommandsComplete :
    (∃ m : Mb, ∃ s : State, ∃ c : Cmd, (Ready s m 0x0501 c) ∧ (s.isHead = true) ∧ (mapStartsOk (c.u32 0) = true) ∧
      (c.notZero 4 4 = none) ∧ (s.chain.enum = none)) ∧
    (∃ m : Mb, ∃ s : State, ∃ c : Cmd, (Ready s m 0x0502 c) ∧ (s.isFollower = false) ∧ (c.u64 0 = 0)) ∧
    (∃ m : Mb, ∃ s : State, ∃ c : Cmd, (Ready s m 0x0502 c) ∧ (s.isFollower = false) ∧ (c.u64 0 ≠ 0) ∧ (c.refCheck 0 =
      none) ∧ (256 ≤ (c.ref 0).2) ∧ ∃ t, (t = (List.range (max 1 s.members)).foldl (fun s a => s.refPut (c.ref 0) (8 * a)
      (leBytes 8 (s.serialOf a))) s)) ∧
    (∃ m : Mb, ∃ s : State, ∃ c : Cmd, (Ready s m 0x0503 c) ∧ (s.isHead = true) ∧ (mapStartsOk (c.u32 0) = true) ∧ (s.rd
      CHN_STATUS_state = 2) ∧ (mapLastOk (c.u32 0) s.members = true)) ∧
    (∃ m : Mb, ∃ s : State, ∃ c : Cmd, (Ready s m 0x0504 c) ∧ (s.isHead = true) ∧ (1 ≤ c.u8 0) ∧ (c.u8 0 < s.members) ∧
      (c.u8 1 = 1 ∨ c.u8 1 = 2) ∧ (1 ≤ c.u8 2) ∧ (c.u8 2 ≤ 16) ∧ (c.notZero 3 1 = none) ∧ (c.u32 4 < 0x100000) ∧ (c.u32 4
      % 4 = 0) ∧ (s.reaches (c.u8 0) = true)) ∧
    (∃ m : Mb, ∃ s : State, ∃ c : Cmd, (Ready s m 0x0505 c) ∧ (s.isHead = true) ∧ (1 ≤ c.u8 0) ∧ (c.u8 0 < s.members) ∧
      (c.notZero 1 3 = none) ∧ (c.u8 8 = 2) ∧ (s.reaches (c.u8 0) = true)) :=
  ⟨⟨.urgent, has .urgent (wc 0x0501 [1, 0, 0, 0, 0, 0, 0, 0]) (head base), wc 0x0501 [1, 0, 0, 0, 0, 0, 0, 0],
      (by decide +kernel)⟩,
    ⟨.urgent, has .urgent (wc 0x0502 [0, 0, 0, 0, 0, 0, 0, 0]) base, wc 0x0502 [0, 0, 0, 0, 0, 0, 0, 0],
      (by decide +kernel)⟩,
    ⟨.urgent, has .urgent (wc 0x0502 [0, 0, 0, 0, 0, 1, 0, 0]) (head base), wc 0x0502 [0, 0, 0, 0, 0, 1, 0, 0],
      (by decide +kernel), (by decide +kernel), (by decide +kernel), (by decide +kernel), (by decide +kernel), _, rfl⟩,
    ⟨.urgent, has .urgent (wc 0x0503 [1]) (head base), wc 0x0503 [1], (by decide +kernel)⟩,
    ⟨.urgent, has .urgent (wc 0x0504 [1, 1, 16, 0, 0, 0, 0, 0]) (head base), wc 0x0504 [1, 1, 16, 0, 0, 0, 0, 0],
      (by decide +kernel)⟩,
    ⟨.urgent, has .urgent (wc 0x0505 [1, 0, 0, 0, 0, 0, 0, 0, 2, 0, 0, 0, 0, 0, 0, 0, 0, 0, 0, 0, 0, 0, 0, 0, 0, 0, 0, 0,
      0, 0, 0, 0, 0, 0, 0, 0]) (head base), wc 0x0505 [1, 0, 0, 0, 0, 0, 0, 0, 2, 0, 0, 0, 0, 0, 0, 0, 0, 0, 0, 0, 0, 0,
      0, 0, 0, 0, 0, 0, 0, 0, 0, 0, 0, 0, 0, 0], (by decide +kernel)⟩⟩

set_option maxRecDepth 20000 in
/-- A state and operands for each clause of SlotCommandsComplete. -/
theorem witness_SlotCommandsComplete :
    (∃ m : Mb, ∃ s : State, ∃ c : Cmd, (Ready s m 0x0A01 c) ∧ (c.u8 0 < 2)) ∧
    (∃ m : Mb, ∃ s : State, ∃ c : Cmd, (Ready s m 0x0A02 c) ∧ (s.guardRuns = true) ∧ (c.u8 0 < 2) ∧ (c.u8 1 ≤ 1) ∧
      (s.slotState (c.u8 0) = slPresent ∨ s.slotState (c.u8 0) = slFault) ∧ (c.u8 1 = 0 ∨ s.rawPermit = true)) ∧
    (∃ m : Mb, ∃ s : State, ∃ c : Cmd, (Ready s m 0x0A03 c) ∧ (c.u8 0 < 2) ∧ (s.slotMounted (c.u8 0) = true)) ∧
    (∃ m : Mb, ∃ s : State, ∃ c : Cmd, (Ready s m 0x0A04 c) ∧ (c.u8 0 < 2) ∧ (s.slotState (c.u8 0) ≠ slEmpty) ∧
      (s.slotMounted (c.u8 0) = true)) ∧
    (∃ m : Mb, ∃ s : State, ∃ c : Cmd, (Ready s m 0x0A04 c) ∧ (c.u8 0 < 2) ∧ (s.slotState (c.u8 0) ≠ slEmpty) ∧
      (s.slotMounted (c.u8 0) = false)) ∧
    (∃ m : Mb, ∃ s : State, ∃ c : Cmd, (Ready s m 0x0A05 c) ∧ (c.u8 0 < 2) ∧ (s.slotState (c.u8 0) ≠ slMounting) ∧
      (s.slotMounted (c.u8 0) = true) ∧ ((s.port (c.u8 0)).portReset = none)) ∧
    (∃ m : Mb, ∃ s : State, ∃ c : Cmd, (Ready s m 0x0A10 c) ∧ (c.u8 0 < 2) ∧ (s.slotState (c.u8 0) = slReady) ∧ (c.u8 1 <
      s.saveAreas (c.u8 0))) ∧
    (∃ m : Mb, ∃ s : State, ∃ c : Cmd, (Ready s m 0x0A11 c) ∧ (c.u8 0 < 2) ∧ (c.notZero 2 2 = none) ∧ (s.slotState (c.u8
      0) = slReady) ∧ (c.u8 1 < s.saveAreas (c.u8 0))) ∧
    (∃ m : Mb, ∃ s : State, ∃ c : Cmd, (Ready s m 0x0A12 c) ∧ (c.u8 0 < 2) ∧ (c.notZero 2 2 = none) ∧ (s.slotState (c.u8
      0) = slReady) ∧ (c.u8 1 < s.saveAreas (c.u8 0)) ∧ (1 ≤ c.u32 4) ∧ (c.u32 4 ≤ s.saveMax (c.u8 0) (c.u8 1)) ∧
      ((s.port (c.u8 0)).saves.all (fun r => !(r.job == .write && r.area == c.u8 1)) = true)) ∧
    (∃ m : Mb, ∃ s : State, ∃ c : Cmd, (Ready s m 0x0A20 c) ∧ (firstFail (s.pageParams c (if c.u8 2 = 1 then 128 + 16384
      else pageSize)) = none) ∧ (s.slotState (c.u8 0) ≠ slEmpty) ∧ (s.slotMounted (c.u8 0) = true)) ∧
    (∃ m : Mb, ∃ s : State, ∃ c : Cmd, (Ready s m 0x0A21 c) ∧ ∃ n, ∃ b, (n = (if c.u8 2 = 1 then 128 + 16384 else
      pageSize)) ∧ (firstFail (s.pageParams c n) = none) ∧ (s.refPoison ((c.ref 8).1, n) = false) ∧ (s.slotState (c.u8 0)
      = slRaw) ∧ (b = s.refBytes ((c.ref 8).1, n))) ∧
    (∃ m : Mb, ∃ s : State, ∃ c : Cmd, (Ready s m 0x0A22 c) ∧ (c.u8 0 < 2) ∧ (s.slotState (c.u8 0) = slRaw) ∧ ((s.port
      (c.u8 0)).dies.contains (c.u8 1) = true) ∧ (c.notZero 2 2 = none) ∧ (c.u32 4 < s.dieBlocks (c.u8 0))) :=
  ⟨⟨.urgent, has .urgent (wc 0x0A01 [1]) base, wc 0x0A01 [1], (by decide +kernel)⟩,
    ⟨.urgent, has .urgent (wc 0x0A02 [0, 0]) (slot slPresent base), wc 0x0A02 [0, 0], (by decide +kernel)⟩,
    ⟨.urgent, has .urgent (wc 0x0A03 [0]) (slot slReady base), wc 0x0A03 [0], (by decide +kernel)⟩,
    ⟨.urgent, has .urgent (wc 0x0A04 [0]) (slot slReady base), wc 0x0A04 [0], (by decide +kernel)⟩,
    ⟨.urgent, has .urgent (wc 0x0A04 [0]) (slot slPresent base), wc 0x0A04 [0], (by decide +kernel)⟩,
    ⟨.urgent, has .urgent (wc 0x0A05 [0]) (slot slReady base), wc 0x0A05 [0], (by decide +kernel)⟩,
    ⟨.urgent, has .urgent (wc 0x0A10 [0, 0]) (slot slReady base), wc 0x0A10 [0, 0], (by decide +kernel)⟩,
    ⟨.urgent, has .urgent (wc 0x0A11 [0, 0, 0, 0, 0, 0, 0, 0]) (slot slReady base), wc 0x0A11 [0, 0, 0, 0, 0, 0, 0, 0],
      (by decide +kernel)⟩,
    ⟨.urgent, has .urgent (wc 0x0A12 [0, 0, 0, 0, 0, 0, 1, 0]) (slot slReady base), wc 0x0A12 [0, 0, 0, 0, 0, 0, 1, 0],
      (by decide +kernel)⟩,
    ⟨.urgent, has .urgent (wc 0x0A20 [0, 0, 0, 0, 0, 0, 0, 0, 0, 0, 0, 0, 224, 68, 0, 0]) (slot slReady base), wc 0x0A20
      [0, 0, 0, 0, 0, 0, 0, 0, 0, 0, 0, 0, 224, 68, 0, 0], (by decide +kernel)⟩,
    ⟨.urgent, has .urgent (wc 0x0A21 [0, 0, 0, 0, 0, 0, 0, 0, 0, 0, 0, 0, 224, 68, 0, 0]) (slot slRaw base), wc 0x0A21
      [0, 0, 0, 0, 0, 0, 0, 0, 0, 0, 0, 0, 224, 68, 0, 0], (by decide +kernel), _, _, rfl, (by decide +kernel),
      (refPoison_empty (by decide +kernel) (by decide +kernel)), (by decide +kernel), rfl⟩,
    ⟨.urgent, has .urgent (wc 0x0A22 [0, 0, 0, 0, 255, 3, 0, 0]) (slot slRaw base), wc 0x0A22 [0, 0, 0, 0, 255, 3, 0, 0],
      (by decide +kernel)⟩⟩

end Sys2Proof.Tests
end

