-- ==== Sys2Proof/Tests/WitnessCommands2.lean ====
section
/-! SUPPORT. Witnesses for the completion statements of the mailbox commands of streams, guard, integrity, cores, caddy, OTP and pins. -/

set_option Elab.async false

namespace Sys2Proof.Tests
open Sys2Proof Sys2Proof.Machine Sys2Proof.Machine.Reg

set_option maxRecDepth 20000 in
/-- A state and operands for each clause of StreamGuardCommandsComplete. -/
theorem witness_StreamGuardCommandsComplete :
    (∃ m : Mb, ∃ s : State, ∃ c : Cmd, (Ready s m 0x0B01 c) ∧ (c.u8 0 < 16) ∧ (4 ≤ c.u8 1) ∧ (c.u8 1 ≤ 12) ∧ (4 ≤
      c.u8 2) ∧ (c.u8 2 ≤ 12) ∧ (c.u8 3 < 32) ∧ (s.streamProfile (c.u8 3) = true) ∧ (c.u8 4 < 2) ∧ (c.notZero 5 1 =
      none) ∧ (1 ≤ c.u16 6) ∧ (c.u16 6 ≤ 1023) ∧ (c.u64 8 % 4096 = 0) ∧ (c.u64 16 % 4096 = 0) ∧ (c.u8 4 = 1 → c.u64
      24 % 8 = 0) ∧ (10 ≤ c.u16 32) ∧ (c.notZero 34 2 = none) ∧ (s.chOpen (c.u8 0) = false) ∧ ∃ t, ∃ u, (t =
      (((((((s.wri STRM_CH_CFG_req_k (c.u8 0) (c.u8 1)).wri STRM_CH_CFG_cpl_k (c.u8 0) (c.u8 2)).wri
      STRM_CH_CFG_profile (c.u8 0) (c.u8 3)).wri STRM_CH_CFG_wb_en (c.u8 0) (c.u8 4)).wri STRM_CH_CFG_deg_rate
      (c.u8 0) (c.u16 6)).wri STRM_CH_TMO_fetch_ms (c.u8 0) (c.u16 32)).wr64 STRM_CH_REQ_LO_lo STRM_CH_REQ_HI_hi
      (c.u8 0) (c.u64 8)).wr64 STRM_CH_CPL_LO_lo STRM_CH_CPL_HI_hi (c.u8 0) (c.u64 16)) ∧ (u = (if c.u8 4 = 1 then
      t.wr64 STRM_CH_WB_LO_lo STRM_CH_WB_HI_hi (c.u8 0) (c.u64 24) else t))) ∧
    (∃ m : Mb, ∃ s : State, ∃ c : Cmd, (Ready s m 0x0B02 c) ∧ (c.u8 0 < 16) ∧ (s.chOpen (c.u8 0) = true) ∧ ((s.chan
      (c.u8 0)).closing = false)) ∧
    (∃ m : Mb, ∃ s : State, ∃ c : Cmd, (Ready s m 0x0B03 c) ∧ (c.u8 0 < 16) ∧ (s.resumable (c.u8 0) = true)) ∧
    (∃ m : Mb, ∃ s : State, ∃ c : Cmd, (Ready s m 0x0B04 c) ∧ (c.u8 0 < 16)) ∧
    (∃ m : Mb, ∃ s : State, ∃ c : Cmd, (Ready s m 0x0C01 c) ∧ (s.guardRuns = true)) ∧
    (∃ m : Mb, ∃ s : State, ∃ c : Cmd, (Ready s m 0x0C02 c) ∧ (s.guardRuns = true) ∧ (c.refCheck 0 = none) ∧
      (s.refPoison (c.ref 0) = false) ∧ ∃ old, ∃ l, ∃ t, (s.tbl.guardCastle = true → c.u32 8 + (c.ref 0).2 ≠ c.u32
      12) ∧ ((c.u32 8 = 0 ∧ old = []) ∨ (c.u32 8 ≠ 0 ∧ s.guard.load.map (fun l => (l.bytes, l.total)) = some (old,
      c.u32 12) ∧ old.length = c.u32 8)) ∧ (c.u32 8 + (c.ref 0).2 ≤ c.u32 12) ∧ (l =
      { total := c.u32 12, bytes := old ++ s.refBytes (c.ref 0), mb := none }) ∧ (∀ u, u =
      ({ s with guard := { s.guard with load := some l } } : State).wr SEC_STATUS_load_open 1 → t = if
      s.tbl.guardCastle then u else u.writeRules l.bytes old.length)) ∧
    (∃ m : Mb, ∃ s : State, ∃ c : Cmd, (Ready s m 0x0C03 c) ∧ (s.guardRuns = true) ∧ (c.u8 0 < 2)) ∧
    (∃ m : Mb, ∃ s : State, ∃ c : Cmd, (Ready s m 0x0C04 c) ∧ (s.guardRuns = true) ∧ (c.u8 0 < 2) ∧ (s.slotMounted
      (c.u8 0) = true) ∧ (s.rdi SEC_CTX_ctx_valid (c.u8 0) ≠ 0)) ∧
    (∃ m : Mb, ∃ s : State, ∃ c : Cmd, (Ready s m 0x0C05 c) ∧ (s.guardRuns = true) ∧ (c.u8 0 < 85) ∧ (1 ≤ c.u8 1) ∧
      (c.u8 1 ≤ 29) ∧ (c.u8 0 + c.u8 1 ≤ 85)) ∧
    (∃ m : Mb, ∃ s : State, ∃ c : Cmd, (Ready s m 0x0C06 c) ∧ (s.guardRuns = true) ∧ (c.u8 3 < 8) ∧ (c.u16 0 ≠ 0)) ∧
    (∃ m : Mb, ∃ s : State, ∃ c : Cmd, (Ready s m 0x0C06 c) ∧ (s.guardRuns = true) ∧ (c.u8 3 < 8) ∧ (c.u16 0 = 0) ∧
      ∃ t, (t = (((s.wr SEC_CFG_reauth_s 0).wr SEC_EVENT_EN_event_en (c.u8 2)).wri TAG_EVENT_EN_event_en 0 (c.u8
      3)).wri TAG_EVENT_EN_event_en 1 (c.u8 3))) ∧
    (∃ m : Mb, ∃ s : State, ∃ c : Cmd, (Ready s m 0x0C07 c) ∧ (s.guardRuns = true) ∧ (c.u8 0 < 2) ∧ (c.u8 1 = 1 ∨
      c.u8 1 = 2 ∨ c.u8 1 = 5) ∧ (c.notZero 2 2 = none) ∧ (c.u8 1 = 2 → 1 ≤ c.u16 6 ∧ c.u16 6 ≤ 512) ∧ (c.u8 1 ≠ 2
      → c.notZero 4 4 = none) ∧ (c.refCheck 8 = none) ∧ (s.rdi SLOT_STATUS_vcc_on (c.u8 0) ≠ 0) ∧ (s.slotState
      (c.u8 0) ≠ slMounting) ∧ ((s.tag (c.u8 0)).run = none) ∧ ((s.tag (c.u8 0)).auth = none)) :=
  ⟨⟨.urgent, has .urgent (wc 0x0B01 [15, 4, 12, 0, 1, 0, 255, 3, 0, 16, 0, 0, 0, 0, 0, 0, 0, 32, 0, 0, 0, 0, 0, 0,
      8, 0, 0, 0, 0, 0, 0, 0, 10, 0, 0, 0]) (base.commitProfile 0 (bytes (prof 0))), wc 0x0B01 [15, 4, 12, 0, 1, 0,
      255, 3, 0, 16, 0, 0, 0, 0, 0, 0, 0, 32, 0, 0, 0, 0, 0, 0, 8, 0, 0, 0, 0, 0, 0, 0, 10, 0, 0, 0],
      (by decide +kernel), (by decide +kernel), (by decide +kernel), (by decide +kernel), (by decide +kernel),
      (by decide +kernel), (by decide +kernel), (by decide +kernel), (by decide +kernel), (by decide +kernel),
      (by decide +kernel), (by decide +kernel), (by decide +kernel), (by decide +kernel), (by decide +kernel),
      (by decide +kernel), (by decide +kernel), (by decide +kernel), _, _, rfl, rfl⟩,
    ⟨.urgent, has .urgent (wc 0x0B02 [15]) (base.setBit STRM_STATUS_open 0 15 true), wc 0x0B02 [15],
      (by decide +kernel)⟩,
    ⟨.urgent, has .urgent (wc 0x0B03 [15]) ((base.setBit STRM_STATUS_halted 0 15 true).wri
      STRM_CH_STATUS_halt_reason 15 1), wc 0x0B03 [15], (by decide +kernel)⟩,
    ⟨.urgent, has .urgent (wc 0x0B04 [15]) base, wc 0x0B04 [15], (by decide +kernel)⟩,
    ⟨.urgent, has .urgent (wc 0x0C01 []) base, wc 0x0C01 [], (by decide +kernel)⟩,
    ⟨.urgent, has .urgent (wc 0x0C02 [0, 0, 0, 0, 64, 0, 0, 0, 0, 0, 0, 0, 64, 0, 0, 0]) base, wc 0x0C02 [0, 0, 0,
      0, 64, 0, 0, 0, 0, 0, 0, 0, 64, 0, 0, 0], (by decide +kernel), (by decide +kernel), (by decide +kernel),
      (by decide +kernel), [], _, _, (by decide +kernel), (by decide +kernel), (by decide +kernel), rfl, fun _ h =>
      by subst h; exact rfl⟩,
    ⟨.urgent, has .urgent (wc 0x0C03 [1]) base, wc 0x0C03 [1], (by decide +kernel)⟩,
    ⟨.urgent, has .urgent (wc 0x0C04 [0]) ((slot slReady base).wri SEC_CTX_ctx_valid 0 1), wc 0x0C04 [0],
      (by decide +kernel)⟩,
    ⟨.urgent, has .urgent (wc 0x0C05 [0, 29]) base, wc 0x0C05 [0, 29], (by decide +kernel)⟩,
    ⟨.urgent, has .urgent (wc 0x0C06 [1, 0, 3, 7]) base, wc 0x0C06 [1, 0, 3, 7], (by decide +kernel)⟩,
    ⟨.urgent, has .urgent (wc 0x0C06 [0, 0, 3, 7]) base, wc 0x0C06 [0, 0, 3, 7], (by decide +kernel),
      (by decide +kernel), (by decide +kernel), (by decide +kernel), _, rfl⟩,
    ⟨.urgent, has .urgent (wc 0x0C07 [0, 1, 0, 0, 0, 0, 0, 0, 0, 0, 0, 0, 0, 2, 0, 0]) (base.wri SLOT_STATUS_vcc_on
      0 1), wc 0x0C07 [0, 1, 0, 0, 0, 0, 0, 0, 0, 0, 0, 0, 0, 2, 0, 0], (by decide +kernel)⟩⟩

set_option maxRecDepth 20000 in
/-- A state and operands for each clause of IntegCommandsComplete. -/
theorem witness_IntegCommandsComplete :
    (∃ m : Mb, ∃ s : State, ∃ c : Cmd, (Ready s m 0x0D01 c)) ∧
    (∃ m : Mb, ∃ s : State, ∃ c : Cmd, (Ready s m 0x0D02 c) ∧ (c.u8 0 < 8) ∧ (c.notZero 1 1 = none) ∧ (1 ≤ c.u16 2) ∧
      (c.u16 2 ≤ 1023) ∧ ∃ t, (t = s.setSteep (c.u8 0 % 2) (c.u8 0 / 2 % 2) (c.u16 2))) ∧
    (∃ m : Mb, ∃ s : State, ∃ c : Cmd, (Ready s m 0x0D03 c) ∧ (0 < sidSize (c.u8 0)) ∧ (c.u8 1 < 2) ∧ (c.notZero 2 2 =
      none) ∧ (scrubCheck (c.u8 0) (c.u32 4) (c.u32 8) = none) ∧ (s.integ.scrub = none)) ∧
    (∃ m : Mb, ∃ s : State, ∃ c : Cmd, (Ready s m 0x0D04 c) ∧ (c.u8 0 < 63 ∨ c.u8 0 = dixTable) ∧ (c.u8 1 < 2) ∧
      (c.notZero 2 2 = none) ∧ (c.u64 8 % 8 = 0) ∧ (c.u64 16 % 8 = 0) ∧ (c.u32 24 % 16 = 0) ∧ (s.imgEngine (c.u8 0) ≠ 0)
      ∧ (s.integ.audit = none)) ∧
    (∃ m : Mb, ∃ s : State, ∃ c : Cmd, (Ready s m 0x0D05 c) ∧ ((sidIndex (c.u8 0)).isSome = true) ∧ (c.u8 0 ≠ 0x75) ∧ (1
      ≤ c.u8 1) ∧ (c.u8 1 ≤ 3) ∧ (flipOk (c.u8 0) (c.u8 1) (c.u8 2) = true) ∧ (c.notZero 3 1 = none) ∧ (c.notZero 13 3 =
      none) ∧ (s.rd INTEG_FLIP_SEL_flip_armed ≠ 1)) ∧
    (∃ m : Mb, ∃ s : State, ∃ c : Cmd, (Ready s m 0x0D06 c) ∧ (1 ≤ c.u8 0) ∧ (c.u8 0 ≤ 7) ∧ (c.u8 1 < 4) ∧ ∃ first, ∃ n,
      ∃ t, (first = s.rd INTEG_LOG_STATUS_consumed) ∧ (n = min (c.u8 0) ((s.rd INTEG_LOG_STATUS_written + 65536 - first)
      % 65536)) ∧ (t = (if bitOf (c.u8 1) 0 then s.wr INTEG_LOG_STATUS_consumed ((first + n) % 65536) else s))) :=
  ⟨⟨.urgent, has .urgent (wc 0x0D01 []) base, wc 0x0D01 [], (by decide +kernel)⟩,
    ⟨.urgent, has .urgent (wc 0x0D02 [7, 0, 255, 3]) base, wc 0x0D02 [7, 0, 255, 3], (by decide +kernel),
      (by decide +kernel), (by decide +kernel), (by decide +kernel), (by decide +kernel), _, rfl⟩,
    ⟨.urgent, has .urgent (wc 0x0D03 [114, 1, 0, 0, 0, 0, 1, 0, 0, 0, 8, 0]) base, wc 0x0D03 [114, 1, 0, 0, 0, 0, 1, 0,
      0, 0, 8, 0], (by decide +kernel)⟩,
    ⟨.urgent, has .urgent (wc 0x0D04 [64, 1, 0, 0, 0, 0, 0, 0, 8, 0, 0, 0, 0, 0, 0, 0, 16, 0, 0, 0, 0, 0, 0, 0, 16, 0, 0,
      0]) base, wc 0x0D04 [64, 1, 0, 0, 0, 0, 0, 0, 8, 0, 0, 0, 0, 0, 0, 0, 16, 0, 0, 0, 0, 0, 0, 0, 16, 0, 0, 0],
      (by decide +kernel)⟩,
    ⟨.urgent, has .urgent (wc 0x0D05 [114, 1, 0, 0, 0, 0, 0, 0, 0, 0, 0, 0, 0, 0, 0, 0]) base, wc 0x0D05 [114, 1, 0, 0,
      0, 0, 0, 0, 0, 0, 0, 0, 0, 0, 0, 0], (by decide +kernel)⟩,
    ⟨.urgent, has .urgent (wc 0x0D06 [7, 3]) base, wc 0x0D06 [7, 3], (by decide +kernel), (by decide +kernel),
      (by decide +kernel), (by decide +kernel), _, _, _, rfl, rfl, rfl⟩⟩

set_option maxRecDepth 20000 in
/-- A state and operands for each clause of CoreCaddyCommandsComplete. -/
theorem witness_CoreCaddyCommandsComplete :
    (∃ m : Mb, ∃ s : State, ∃ c : Cmd, (Ready s m 0x1001 c)) ∧
    (∃ m : Mb, ∃ s : State, ∃ c : Cmd, (Ready s m 0x1002 c) ∧ (c.refCheck 0 = none) ∧ (c.u8 16 ≤ 1) ∧ (c.notZero 17
      3 = none) ∧ (s.refPoison (c.ref 0) = false) ∧ (s.rd CORE_STATUS_fw_source ≠ c.u8 16) ∧ ∃ old, ∃ l : StoreRun,
      ((c.u32 8 = 0 ∧ old = []) ∨ (c.u32 8 ≠ 0 ∧ s.cores.store = some
      { slot := c.u8 16, total := c.u32 12, bytes := old } ∧ old.length = c.u32 8)) ∧ (c.u32 8 + (c.ref 0).2 ≤
      c.u32 12) ∧ (l = {
      slot := c.u8 16, total := c.u32 12, bytes := old ++ s.refBytes (c.ref 0) })) ∧
    (∃ m : Mb, ∃ s : State, ∃ c : Cmd, (Ready s m 0x1003 c) ∧ (c.u8 0 ≤ 1) ∧ (c.u8 1 ≤ 1) ∧ (c.notZero 2 2 = none)
      ∧ (s.slotValid (c.u8 0) = true) ∧ ∃ t, (t = (s.cadPut 0 (leBytes 1 (c.u8 0))).okResp m (leBytes 1 (c.u8 0)))) ∧
    (∃ m : Mb, ∃ s : State, ∃ c : Cmd, (Ready s m 0x1101 c)) ∧
    (∃ m : Mb, ∃ s : State, ∃ c : Cmd, (Ready s m 0x1102 c) ∧ (c.u8 0 = 1) ∧ (c.notZero 1 1 = none) ∧ (10 ≤ c.u16
      2) ∧ (c.u16 2 ≤ 10000) ∧ (s.rd CADDY_STATUS_warm_run ≠ 1) ∧ ∃ t, (t = s.wr CADDY_JRNL_CFG_commit_ms (c.u16
      2))) ∧
    (∃ m : Mb, ∃ s : State, ∃ c : Cmd, (Ready s m 0x1102 c) ∧ (c.u8 0 = 0) ∧ (c.notZero 1 1 = none) ∧ (10 ≤ c.u16
      2) ∧ (c.u16 2 ≤ 10000) ∧ (s.rd CADDY_STATUS_warm_run ≠ 1) ∧ ∃ t, (t = s.wr CADDY_JRNL_CFG_commit_ms (c.u16
      2))) ∧
    (∃ m : Mb, ∃ s : State, ∃ c : Cmd, (Ready s m 0x1103 c) ∧ (c.u8 0 ≤ 1) ∧ (s.jrnlOn = true) ∧ ∃ t, (t =
      s.jrnlCommit) ∧ (t.rd CADDY_STATUS_jrnl_full ≠ 1)) ∧
    (∃ m : Mb, ∃ s : State, ∃ c : Cmd, (Ready s m 0x1104 c)) ∧
    (∃ m : Mb, ∃ s : State, ∃ c : Cmd, (Ready s m 0x1105 c) ∧ (s.rd CADDY_STATUS_jrnl_en ≠ 1) ∧ (s.cores.warm =
      none) ∧ ∃ off, ∃ q, ∃ l, ∃ tabs, ∃ bad, ∃ t, ∃ p, ∃ seq, (s.anchor = some (off, q)) ∧ (s.jrnlReplay = some l)
      ∧ (tabs = jrnlTablesOf l) ∧ (bad = s.replayPoison off q) ∧ (bad = false) ∧ ((s.warmBlocks c).find? s.claimed
      = none) ∧ (t = s.cadRead cadRing (l.foldl (fun n r => n + r.bytes.length) 0)) ∧ (p = t.warmTables tabs bad
      (c.u64 0) (List.range 64)) ∧ (seq = (l.filter (fun r => r.type == 5)).foldl (fun n r => max n r.seq) 0)) ∧
    (∃ m : Mb, ∃ s : State, ∃ c : Cmd, (Ready s m 0x1106 c) ∧ (firstFail (scratchChecks c) = none) ∧ ∃ src, (src =
      cadScratch + c.u32 0) ∧ (((c.ref 4).2 != 0 && s.rangePoison sidCaddy src (c.ref 4).2) = false)) ∧
    (∃ m : Mb, ∃ s : State, ∃ c : Cmd, (Ready s m 0x1107 c) ∧ (firstFail (scratchChecks c) = none) ∧ (s.refPoison
      (c.ref 4) = false)) ∧
    (∃ m : Mb, ∃ s : State, ∃ c : Cmd, (Ready s m 0x0F01 c) ∧ (c.u64 0 % 8 = 0) ∧ (c.u64 0 = 0 ∨ 909696 ≤ c.u32 8)) ∧
    (∃ m : Mb, ∃ s : State, ∃ c : Cmd, (Ready s m 0x0F02 c)) ∧
    (∃ m : Mb, ∃ s : State, ∃ c : Cmd, (Ready s m 0x0F03 c) ∧ (s.cores.dump = none)) ∧
    (∃ m : Mb, ∃ s : State, ∃ c : Cmd, (Ready s m 0x0F04 c) ∧ (s.dumpHeld = true) ∧ (s.dumpSeq = c.u64 0)) :=
  ⟨⟨.urgent, has .urgent (wc 0x1001 []) base, wc 0x1001 [], (by decide +kernel)⟩,
    ⟨.urgent, has .urgent (wc 0x1002 [0, 0, 0, 0, 64, 0, 0, 0, 0, 0, 0, 0, 64, 0, 0, 0, 1, 0, 0, 0]) base, wc
      0x1002 [0, 0, 0, 0, 64, 0, 0, 0, 0, 0, 0, 0, 64, 0, 0, 0, 1, 0, 0, 0], (by decide +kernel),
      (by decide +kernel), (by decide +kernel), (by decide +kernel), (by decide +kernel), (by decide +kernel), [],
      _, (by decide +kernel), (by decide +kernel), rfl⟩,
    ⟨.urgent, has .urgent (wc 0x1003 [1, 1, 0, 0]) (slotRec 1 0 0 0 base), wc 0x1003 [1, 1, 0, 0],
      (by decide +kernel), (by decide +kernel), (by decide +kernel), (by decide +kernel), (by decide +kernel), _,
      rfl⟩,
    ⟨.urgent, has .urgent (wc 0x1101 []) base, wc 0x1101 [], (by decide +kernel)⟩,
    ⟨.urgent, has .urgent (wc 0x1102 [1, 0, 16, 39]) base, wc 0x1102 [1, 0, 16, 39], (by decide +kernel),
      (by decide +kernel), (by decide +kernel), (by decide +kernel), (by decide +kernel), (by decide +kernel), _,
      rfl⟩,
    ⟨.urgent, has .urgent (wc 0x1102 [0, 0, 10, 0]) base, wc 0x1102 [0, 0, 10, 0], (by decide +kernel),
      (by decide +kernel), (by decide +kernel), (by decide +kernel), (by decide +kernel), (by decide +kernel), _,
      rfl⟩,
    ⟨.urgent, has .urgent (wc 0x1103 [1]) (base.wr CADDY_STATUS_jrnl_en 1), wc 0x1103 [1], (by decide +kernel),
      (by decide +kernel), (by decide +kernel), _, rfl, (by decide +kernel)⟩,
    ⟨.urgent, has .urgent (wc 0x1104 []) base, wc 0x1104 [], (by decide +kernel)⟩,
    ⟨.urgent, has .urgent (wc 0x1105 [255, 255, 255, 255, 255, 255, 255, 255]) (anchored base), wc 0x1105 [255,
      255, 255, 255, 255, 255, 255, 255], (by decide +kernel), (by decide +kernel), (by decide +kernel), 64, 1, [],
      _, _, _, _, _, (by decide +kernel), (by decide +kernel), rfl, rfl, (by decide +kernel), (by decide +kernel),
      rfl, rfl, rfl⟩,
    ⟨.urgent, has .urgent (wc 0x1106 [192, 255, 15, 0, 0, 0, 0, 0, 64, 0, 0, 0]) base, wc 0x1106 [192, 255, 15, 0,
      0, 0, 0, 0, 64, 0, 0, 0], (by decide +kernel), (by decide +kernel), _, rfl, (by decide +kernel)⟩,
    ⟨.urgent, has .urgent (wc 0x1107 [0, 0, 0, 0, 0, 0, 0, 0, 64, 0, 0, 0]) base, wc 0x1107 [0, 0, 0, 0, 0, 0, 0,
      0, 64, 0, 0, 0], (by decide +kernel)⟩,
    ⟨.urgent, has .urgent (wc 0x0F01 [8, 0, 0, 0, 0, 0, 0, 0, 128, 225, 13, 0]) base, wc 0x0F01 [8, 0, 0, 0, 0, 0,
      0, 0, 128, 225, 13, 0], (by decide +kernel)⟩,
    ⟨.urgent, has .urgent (wc 0x0F02 []) base, wc 0x0F02 [], (by decide +kernel)⟩,
    ⟨.urgent, has .urgent (wc 0x0F03 []) base, wc 0x0F03 [], (by decide +kernel)⟩,
    ⟨.urgent, has .urgent (wc 0x0F04 [0, 0, 0, 0, 0, 0, 0, 0]) (base.cadPut cadDump (leBytes 4 0x54384450)), wc
      0x0F04 [0, 0, 0, 0, 0, 0, 0, 0], (by decide +kernel)⟩⟩

set_option maxRecDepth 20000 in
/-- A state and operands for each clause of OtpCommandsComplete. -/
theorem witness_OtpCommandsComplete :
    (∃ m : Mb, ∃ s : State, ∃ c : Cmd, (Ready s m 0x0401 c)) ∧
    (∃ m : Mb, ∃ s : State, ∃ c : Cmd, (Ready s m 0x0402 c) ∧ (s.otp = none) ∧ (c.refCheck 0 = none) ∧ (56 ≤ (c.ref
      0).2) ∧ (s.refPoison (c.ref 0) = false) ∧ ∃ body, (workbench ((s.refBytes (c.ref 0)).take 56) 1 40 = some
      body) ∧ (settingsBody body = true) ∧ (s.otpNext ≠ 4)) ∧
    (∃ m : Mb, ∃ s : State, ∃ c : Cmd, (Ready s m 0x0403 c) ∧ (s.otp = none) ∧ (c.refCheck 0 = none) ∧ (s.refPoison
      (c.ref 0) = false) ∧ ∃ body, (workbench ((s.refBytes (c.ref 0)).take 84) 2 68 = some body) ∧ (recNat body 1 3
      = 0) ∧ (s.otpBlank 0x60 64 = true)) ∧
    (∃ m : Mb, ∃ s : State, ∃ c : Cmd, (Ready s m 0x0404 c) ∧ (s.otp = none) ∧ (c.u32 0 = 0x4C4F434B) ∧ (s.secGood
      = true)) ∧
    (∃ s : State, ∃ w, ∃ u, (Landed s 0x4028 w u) ∧ (w.getLsbD 31 = true) ∧ (u.otp = none) ∧ (u.otpAllowed (u.rd
      OTP_PROG_ADDR_word) = true)) ∧
    (∃ s : State, ∃ j, ∃ a, ∃ data, ∃ rest, ∃ v : BitVec 32, (s.otp = some j) ∧ (j.words = (a, data) :: rest) ∧
      (v.toNat &&& s.otpWord a = s.otpWord a) ∧ (v.toNat ||| (s.otpWord a ||| data) = s.otpWord a ||| data)) :=
  ⟨⟨.urgent, has .urgent (wc 0x0401 []) base, wc 0x0401 [], (by decide +kernel)⟩,
    ⟨.urgent, has .urgent (wc 0x0402 [0, 0, 0, 0, 56, 0, 0, 0]) (wbench 1 (bytes (1 :: List.replicate 39 0)) base),
      wc 0x0402 [0, 0, 0, 0, 56, 0, 0, 0], (by decide +kernel), (by decide +kernel), (by decide +kernel),
      (by decide +kernel), (by decide +kernel), bytes (1 :: List.replicate 39 0), (by decide +kernel)⟩,
    ⟨.urgent, has .urgent (wc 0x0403 [0, 0, 0, 0, 84, 0, 0, 0]) (wbench 2 (bytes (1 :: List.replicate 67 0)) base),
      wc 0x0403 [0, 0, 0, 0, 84, 0, 0, 0], (by decide +kernel), (by decide +kernel), (by decide +kernel),
      (by decide +kernel), bytes (1 :: List.replicate 67 0), (by decide +kernel)⟩,
    ⟨.urgent, has .urgent (wc 0x0404 [75, 67, 79, 76]) (base.wr OTP_STATUS_sec_state 1), wc 0x0404 [75, 67, 79,
      76], (by decide +kernel)⟩,
    ⟨(claim 0x10 (base.wr OTP_PROG_ADDR_word 0xC0)), 0x80000000, _, ⟨(by decide +kernel), (by decide +kernel),
      rfl⟩, (by decide +kernel)⟩,
    ⟨({ base with
      otp := some { who := .expert, words := [(0xC0, 5)], retried := false, stop := none } } : State), ⟨.expert,
      [(0xC0, 5)], false, none⟩, 0xC0, 5, [], 5, (by decide +kernel)⟩⟩

set_option maxRecDepth 20000 in
/-- A state and operands for each clause of PinCommandsComplete. -/
theorem witness_PinCommandsComplete :
    (∃ m : Mb, ∃ s : State, ∃ c : Cmd, (Ready s m 0x0E01 c) ∧ (1 ≤ c.u8 0) ∧ (c.u8 0 ≤ 24) ∧ (c.notZero 1 3 = none)
      ∧ (firstFail ((List.range (c.u8 0)).flatMap (padEntryChecks c)) = none) ∧ ∃ t, (t = (padEntries c).foldl (fun
      s e => s.wrRW (0x6100 + 4 * e.1) e.2) s)) ∧
    (∃ m : Mb, ∃ s : State, ∃ c : Cmd, (Ready s m 0x0E02 c)) ∧
    (∃ m : Mb, ∃ s : State, ∃ c : Cmd, (Ready s m 0x0E03 c) ∧ (c.u32 0 < 2 ^ 24) ∧ (c.u32 4 < 2 ^ 24) ∧ (c.u32 0
      &&& c.u32 4 = 0) ∧ (c.u32 8 < 2 ^ 24) ∧ (c.u32 8 &&& (c.u32 0 ||| c.u32 4) = 0) ∧ ∃ v, (v = gpioOut (s.rd
      PIN_OUT_out) (c.u32 0) (c.u32 4) (c.u32 8))) ∧
    (∃ m : Mb, ∃ s : State, ∃ c : Cmd, (Ready s m 0x0E04 c) ∧ (c.u32 4 < 2 ^ 16)) ∧
    (∃ m : Mb, ∃ s : State, ∃ c : Cmd, (Ready s m 0x0E05 c) ∧ ((∀ k < 8, wakeEntryCheck c k = none))) ∧
    (∃ m : Mb, ∃ s : State, ∃ c : Cmd, (Ready s m 0x0E06 c) ∧ (0x08 ≤ c.u8 0) ∧ (c.u8 0 ≤ 0x77) ∧ (c.u8 0 ≠ 0x0C) ∧
      (c.u8 1 < 4) ∧ (c.notZero 3 1 = none)) ∧
    (∃ m : Mb, ∃ s : State, ∃ c : Cmd, (Ready s m 0x0E07 c) ∧ ∃ regs, (unitRegs (c.u8 0) = some regs) ∧ (c.notZero
      1 3 = none) ∧ ((∀ r ∈ regs.zipIdx, pinRangeOk r.1 (BitVec.ofNat 32 (c.u32 (4 + 4 * r.2))) = true ∧
      (BitVec.ofNat 32 (c.u32 (4 + 4 * r.2))).toNat &&& (2 ^ 32 - 1 - rwMask r.1) = 0))) ∧
    (∃ m : Mb, ∃ s : State, ∃ c : Cmd, (Ready s m 0x0E08 c) ∧ (c.u8 0 = 1 ∨ c.u8 0 = 2) ∧ (c.u8 1 ≤ 1) ∧ (c.u16 2 ≤
      232) ∧ (c.notZero 4 4 = none) ∧ ∃ u, ∃ k, ∃ t, ∃ x, (u = c.u8 0 - 1) ∧ (s.rdi PIN_Uu_CFG_en u ≠ 0) ∧ (k = min
      (c.u16 2) (64 - (s.uart u).tx.length)) ∧ (t = s.uartPush u ((c.bytes 8 (c.u16 2)).take k) false) ∧ (x =
      t.uart u)) ∧
    (∃ m : Mb, ∃ s : State, ∃ c : Cmd, (Ready s m 0x0E09 c) ∧ (c.u8 0 < 128) ∧ (c.u8 1 ≤ 64) ∧ (c.u8 2 ≤ 64) ∧
      (c.notZero 3 1 = none) ∧ (s.rd PIN_I2C_CFG_en ≠ 0) ∧ ∃ r : I2cRun, (r = {
      mb := some m, addr := c.u8 0, wr := c.bytes 4 (c.u8 1), rd := c.u8 2 }) ∧ (s.pins.i2c = none)) ∧
    (∃ m : Mb, ∃ s : State, ∃ c : Cmd, (Ready s m 0x0E09 c) ∧ (c.u8 0 < 128) ∧ (c.u8 1 ≤ 64) ∧ (c.u8 2 ≤ 64) ∧
      (c.notZero 3 1 = none) ∧ (s.rd PIN_I2C_CFG_en ≠ 0) ∧ ∃ r : I2cRun, (r = {
      mb := some m, addr := c.u8 0, wr := c.bytes 4 (c.u8 1), rd := c.u8 2 }) ∧ (s.pins.i2c.isSome = true)) :=
  ⟨⟨.urgent, has .urgent (wc 0x0E01 [1, 0, 0, 0, 23, 0, 0, 0, 0, 0, 0, 0]) base, wc 0x0E01 [1, 0, 0, 0, 23, 0, 0,
      0, 0, 0, 0, 0], (by decide +kernel), (by decide +kernel), (by decide +kernel), (by decide +kernel),
      (by decide +kernel), _, rfl⟩,
    ⟨.urgent, has .urgent (wc 0x0E02 []) base, wc 0x0E02 [], (by decide +kernel)⟩,
    ⟨.urgent, has .urgent (wc 0x0E03 [1, 0, 0, 0, 2, 0, 0, 0, 0, 0, 128, 0]) base, wc 0x0E03 [1, 0, 0, 0, 2, 0, 0,
      0, 0, 0, 128, 0], (by decide +kernel), (by decide +kernel), (by decide +kernel), (by decide +kernel),
      (by decide +kernel), (by decide +kernel), _, rfl⟩,
    ⟨.urgent, has .urgent (wc 0x0E04 [0, 0, 0, 0, 255, 255, 0, 0]) base, wc 0x0E04 [0, 0, 0, 0, 255, 255, 0, 0],
      (by decide +kernel)⟩,
    ⟨.urgent, has .urgent (wc 0x0E05 [0, 0, 0, 0, 0, 0, 0, 0, 0, 0, 0, 0, 0, 0, 0, 0, 0, 0, 0, 0, 0, 0, 0, 0, 0, 0,
      0, 0, 0, 0, 0, 0]) base, wc 0x0E05 [0, 0, 0, 0, 0, 0, 0, 0, 0, 0, 0, 0, 0, 0, 0, 0, 0, 0, 0, 0, 0, 0, 0, 0,
      0, 0, 0, 0, 0, 0, 0, 0], (by decide +kernel)⟩,
    ⟨.urgent, has .urgent (wc 0x0E06 [119, 3, 0, 0]) base, wc 0x0E06 [119, 3, 0, 0], (by decide +kernel)⟩,
    ⟨.urgent, has .urgent (wc 0x0E07 [17, 0, 0, 0, 0, 0, 0, 0, 0, 0, 0, 0]) base, wc 0x0E07 [17, 0, 0, 0, 0, 0, 0,
      0, 0, 0, 0, 0], (by decide +kernel), [0x6308, 0x630C], (by decide +kernel)⟩,
    ⟨.urgent, has .urgent (wc 0x0E08 [2, 1, 232, 0, 0, 0, 0, 0]) (base.wri PIN_Uu_CFG_en 1 1), wc 0x0E08 [2, 1,
      232, 0, 0, 0, 0, 0], (by decide +kernel), (by decide +kernel), (by decide +kernel), (by decide +kernel),
      (by decide +kernel), _, _, _, _, rfl, (by decide +kernel), rfl, rfl, rfl⟩,
    ⟨.urgent, has .urgent (wc 0x0E09 [127, 64, 64, 0]) (base.wr PIN_I2C_CFG_en 1), wc 0x0E09 [127, 64, 64, 0],
      (by decide +kernel), (by decide +kernel), (by decide +kernel), (by decide +kernel), (by decide +kernel),
      (by decide +kernel), _, rfl, (by decide +kernel)⟩,
    ⟨.urgent, has .urgent (wc 0x0E09 [127, 64, 64, 0]) ({ base.wr PIN_I2C_CFG_en 1 with
      pins := { base.pins with i2c := some { mb := none, addr := 0, wr := [], rd := 0 } } }), wc 0x0E09 [127, 64,
      64, 0], (by decide +kernel), (by decide +kernel), (by decide +kernel), (by decide +kernel),
      (by decide +kernel), (by decide +kernel), _, rfl, (by decide +kernel)⟩⟩

end Sys2Proof.Tests
end

