-- ==== Sys2Proof/Tests/WitnessEvents.lean ====
section
/-! SUPPORT. Witnesses for the completion statements of the events of the host link, searches, clocks, power, heat, mailboxes, cores and tables. -/

set_option Elab.async false

namespace Sys2Proof.Tests
open Sys2Proof Sys2Proof.Machine Sys2Proof.Machine.Reg

set_option maxRecDepth 20000 in
/-- A state and operands for each clause of HostLinkEventsComplete. -/
theorem witness_HostLinkEventsComplete :
    (∃ s : State, (s.host.cfg.d3hot = false) ∧ ∃ t : State, (t = { s with
      host := { s.host with tx := [], cfg := { s.host.cfg with d3hot := true }, inL1 := false } })) ∧
    (∃ s : State, (s.isFollower = false)) ∧
    (∃ s : State, (s.isFollower = true)) ∧
    (∃ s : State, ∃ t, (t = s.touchLink)) ∧
    (∃ s : State, ∃ v : Fin 32, (s.host.holdoff.contains v.val = true) ∧ ∃ t : State, (t = { s with
      host := { s.host with holdoff := s.host.holdoff.filter (· != v.val), heldMsg := s.host.heldMsg.filter (· != v.val) } })) ∧
    (∃ s : State, ∃ up, (up = (s.alive || s.inSequence))) ∧
    (∃ s : State, ∃ width, ∃ speed, ∃ rev : Bool, ∃ t, ∃ u, (s.host.training = true) ∧ (linkWidthOk width = true) ∧
      (linkSpeedOk speed = true) ∧ (t = (if s.rd GLB_LINK_link_up = 1 then s.inc GLB_LINK_CNT_retrain_count else
      s)) ∧ (u = (((t.wr GLB_LINK_width width).wr GLB_LINK_speed speed).wr GLB_LINK_lanes_reversed (b2n rev)).wr
      GLB_LINK_link_up 1)) ∧
    (∃ s : State, (s.host.cfg.aspmL1 = true) ∧ (s.rd GLB_LINK_link_up = 1) ∧ (s.host.tx = []) ∧ (s.host.reads = [])
      ∧ (s.host.heldMsg = []) ∧ (s.rd MSIX_PBA_pending = 0)) ∧
    (∃ s : State, ∃ tag : Nat, ∃ r, (s.host.reads.find? (fun r => r.tag == tag) = some r)) ∧
    (∃ s : State, ∃ tag : Nat, (s.host.reads.find? (fun r => r.tag == tag) = none)) ∧
    (∃ s : State, ∃ tag : Nat, ∃ r, (s.host.reads.find? (fun r => r.tag == tag) = some r) ∧
      (s.host.cfg.cplTimeoutDisable = false)) ∧
    (∃ s : State, ∃ t : State, (t = s.touchLink) ∧ ∃ set : ConfigSpace → State, (set = (fun c =>
      { t with host := { t.host with cfg := c } }))) ∧
    (∃ s : State, ∃ t, (t = s.touchLink)) ∧
    (∃ s : State, ∃ t : State, (t = s.touchLink) ∧ ∃ e : AerError, (∃ k, (e, k) ∈ aerUncorr)) ∧
    (∃ s : State, ∃ t : State, (t = s.touchLink) ∧ ∃ e : AerError, (∀ k, (e, k) ∉ aerUncorr)) ∧
    (∃ p : Unserved × AerError, (p ∈ [(Unserved.receiverError, AerError.receiverError), (.badTlp, .badTlp),
      (.badDllp, .badDllp), (.replayRollover, .replayRollover), (.replayTimeout, .replayTimeout), (.dlpError,
      .dlpError), (.flowControl, .flowControl), (.receiverOverflow, .receiverOverflow), (.malformedTlp,
      .malformedTlp)])) :=
  ⟨⟨base, (by decide +kernel), _, rfl⟩,
    ⟨base, (by decide +kernel)⟩,
    ⟨(base.wr CHN_STATUS_role 2), (by decide +kernel)⟩,
    ⟨base, _, rfl⟩,
    ⟨({ base with host := { base.host with holdoff := [5] } } : State), 5, (by decide +kernel), _, rfl⟩,
    ⟨base, _, rfl⟩,
    ⟨({ base with host := { base.host with training := true } } : State), 4, 3, false, _, _, (by decide +kernel),
      (by decide +kernel), (by decide +kernel), rfl, rfl⟩,
    ⟨({ base with
      host := { base.host with cfg := { base.host.cfg with aspmL1 := true } } } : State), (by decide +kernel)⟩,
    ⟨({ base with host := { base.host with reads := [⟨5, 0, 64, 0, 0⟩] } } : State), 5, ⟨5, 0, 64, 0, 0⟩,
      (by decide +kernel)⟩,
    ⟨base, 5, (by decide +kernel)⟩,
    ⟨({ base with host := { base.host with reads := [⟨5, 0, 64, 0, 0⟩] } } : State), 5, ⟨5, 0, 64, 0, 0⟩,
      (by decide +kernel)⟩,
    ⟨base, _, rfl, _, rfl⟩,
    ⟨base, _, rfl⟩,
    ⟨base, _, rfl, .internal, 22, (by decide)⟩,
    ⟨base, _, rfl, .advisory, fun k h => by simp [aerUncorr] at h⟩,
    ⟨(.malformedTlp, .malformedTlp), (by decide)⟩⟩

set_option maxRecDepth 20000 in
/-- A state and operands for each clause of SearchClockEventsComplete. -/
theorem witness_SearchClockEventsComplete :
    (∃ s : State, (s.powered = true) ∧ (s.phase ≠ .start) ∧ ∃ a, ∃ b, ∃ c, ∃ d, (a =
      s.deliverDue.stopPoisoned.pastStep1) ∧ (b = ({ a with clk := { a.clk with ply := (a.clk.ply + 1) % 2 ^ 64 } }
      : State).wr CLK_ADMIT_PTR_admit_ptr ((a.rd CLK_ADMIT_PTR_admit_ptr + 1) % 3)) ∧ (c =
      b.startDue.commitGroups.runArriving) ∧ (d = (if c.1.allOffers.any (fun o => c.1.isGroupSearch o.desc o.mask
      && !(c.1.groupWindow c.2)) then c.1.inc CHN_ADM_WAIT_wait_plies else c.1)) ∧ (c.1.admitting = false)) ∧
    (∃ s : State, (s.powered = true) ∧ (s.phase ≠ .start) ∧ ∃ a, ∃ b, ∃ c, ∃ d, (a =
      s.deliverDue.stopPoisoned.pastStep1) ∧ (b = ({ a with clk := { a.clk with ply := (a.clk.ply + 1) % 2 ^ 64 } }
      : State).wr CLK_ADMIT_PTR_admit_ptr ((a.rd CLK_ADMIT_PTR_admit_ptr + 1) % 3)) ∧ (c =
      b.startDue.commitGroups.runArriving) ∧ (d = (if c.1.allOffers.any (fun o => c.1.isGroupSearch o.desc o.mask
      && !(c.1.groupWindow c.2)) then c.1.inc CHN_ADM_WAIT_wait_plies else c.1)) ∧ (c.1.admitting = true) ∧ ∃ o,
      (c.1.pickOffer c.2 ((a.rd CLK_ADMIT_PTR_admit_ptr + 1) % 3) = some o)) ∧
    (∃ s : State, (s.powered = true) ∧ (s.phase ≠ .start) ∧ ∃ a, ∃ b, ∃ c, ∃ d, (a =
      s.deliverDue.stopPoisoned.pastStep1) ∧ (b = ({ a with clk := { a.clk with ply := (a.clk.ply + 1) % 2 ^ 64 } }
      : State).wr CLK_ADMIT_PTR_admit_ptr ((a.rd CLK_ADMIT_PTR_admit_ptr + 1) % 3)) ∧ (c =
      b.startDue.commitGroups.runArriving) ∧ (d = (if c.1.allOffers.any (fun o => c.1.isGroupSearch o.desc o.mask
      && !(c.1.groupWindow c.2)) then c.1.inc CHN_ADM_WAIT_wait_plies else c.1)) ∧ (c.1.admitting = true) ∧
      (c.1.pickOffer c.2 ((a.rd CLK_ADMIT_PTR_admit_ptr + 1) % 3) = none)) ∧
    (∃ s : State, ∃ tag : Nat, ∃ k, ∃ f, (s.srch.inFlight.findIdx? (fun f => f.tag == tag && !f.arrived) = some k)
      ∧ (s.srch.inFlight[k]? = some f)) ∧
    (∃ s : State, ∃ tag : Nat, ∃ k, ∃ f, (s.srch.late.findIdx? (fun f => f.tag == tag) = some k) ∧ (s.srch.late[k]?
      = some f)) ∧
    (∃ s : State, ∃ i : Fin 24, ((s.fifo i.val).length < s.rdi CLK_FIFO_STATUS_depth i.val)) ∧
    (∃ s : State, ∃ i : Fin 24, ∃ lost : Word, ∃ w, ∃ ws, ∃ v, (s.fifo i.val = w :: ws) ∧ (s.stage i.val = none) ∧
      (v = { w with data := w.data ^^^ lost })) ∧
    (∃ s : State, ∃ i : Fin 24, (s.capWaits i.val = false)) ∧
    (∃ s : State, ∃ r, ∃ d, (s.rd CHN_LINK_OUT_driving = 1) ∧ (s.windowPos = 0) ∧ (r = s.forwardFrame) ∧ (d =
      (frameBits r.1).data)) ∧
    (∃ s : State, ∃ f, (f = s.chain.back.head?.getD .idle) ∧ ((s.isFollower = true ∧ s.windowPos = 0 ∧
      (s.chainServes && s.statusSends) = false) ∨ (s.isFollower = false ∧ f = .train ∧ (s.rd CHN_STATUS_role = 0 ∨
      s.windowPos = 0)))) ∧
    (∃ s : State, ∃ t, (s.isFollower = true) ∧ (s.windowPos = 0) ∧ (s.chainServes = true) ∧ (s.statusSends = true)
      ∧ (t = s.putStatus s.statusBase)) ∧
    (∃ s : State, ∃ arb : Arbiter, ∃ who : Requester, ∃ q, (q = s.arb arb) ∧ (arbServes arb who = true) ∧ (q.any
      (fun r => r.who == who) = false)) ∧
    (∃ s : State, ∃ arb : Arbiter, ∃ who : Requester, ∃ q, (q = s.arb arb) ∧ (q.any (fun r => r.who == who) = true)
      ∧ (q.all (fun r => r.who == who || !r.passedBy.contains who) = true)) ∧
    (∃ s : State, ∃ arb : Arbiter, ∃ who : Requester, ∃ q, (q = s.arb arb) ∧ (q.any (fun r => r.who != who &&
      r.passedBy.contains who) = true)) ∧
    (∃ s : State, ∃ i : Fin 24, ((s.fifo i.val).isEmpty = false)) ∧
    (∃ s : State, (s.powered = true) ∧ (s.phase ≠ .start) ∧ (s.phase ≠ .doze) ∧ (s.clk.gated = false)) ∧
    (∃ s : State, ∃ c, (s.clk.canary = some c)) ∧
    (∃ s : State, (s.clk.awaitSlack = true)) ∧
    (∃ s : State, (s.rd CHN_LINK_IN_locked ≠ 0)) ∧
    (∃ s : State, (s.isFollower = true) ∧ (s.rd CHN_LINK_IN_locked = 0) ∧ ∃ t, (t = s.leaveChain.changeRole 0 0
      true)) ∧
    (∃ s : State, ∃ isl, (s.powered = true) ∧ (s.rd (islandLock isl) = 1)) :=
  ⟨⟨({ base with clk := { base.clk with admitStop := true } } : State), (by decide +kernel), (by decide +kernel),
      _, _, _, _, rfl, rfl, rfl, rfl, (by decide +kernel)⟩,
    ⟨({ base with srch := { base.srch with window := [⟨3, 32⟩] } } : State), (by decide +kernel),
      (by decide +kernel), _, _, _, _, rfl, rfl, rfl, rfl, (by decide +kernel), ⟨1, .window 3 32, base.laneDesc 3,
      base.rd SRCH_WIN_PMASK_win_pmask⟩, (by decide +kernel)⟩,
    ⟨base, (by decide +kernel), (by decide +kernel), _, _, _, _, rfl, rfl, rfl, rfl, (by decide +kernel)⟩,
    ⟨({ base with srch := { base.srch with inFlight := [flight 7] } } : State), 7, 0, flight 7,
      (by decide +kernel)⟩,
    ⟨({ base with srch := { base.srch with late := [flight 7] } } : State), 7, 0, flight 7, (by decide +kernel)⟩,
    ⟨base, 23, (by decide +kernel)⟩,
    ⟨(base.setFifo 23 [⟨0, 0, false, 0⟩]), 23, 5, ⟨0, 0, false, 0⟩, [], _, (by decide +kernel),
      (by decide +kernel), rfl⟩,
    ⟨base, 7, (by decide +kernel)⟩,
    ⟨(base.wr CHN_LINK_OUT_driving 1), _, _, (by decide +kernel), (by decide +kernel), rfl, rfl⟩,
    ⟨(base.wr CHN_STATUS_role 2), _, rfl, (by decide +kernel)⟩,
    ⟨atPly 24 (follower 2), _, (by decide +kernel), (by decide +kernel), (by decide +kernel), (by decide +kernel),
      rfl⟩,
    ⟨base, .bar2, .guard, _, rfl, (by decide +kernel)⟩,
    ⟨({ base with clk := { base.clk with arbiters := [[⟨.results, []⟩]] } } : State), .dmaWrite, .results, _, rfl,
      (by decide +kernel)⟩,
    ⟨({ base with
      clk := { base.clk with arbiters := [[⟨.control, [.results]⟩]] } } : State), .dmaWrite, .results, _, rfl,
      (by decide +kernel)⟩,
    ⟨(base.setFifo 23 [⟨0, 0, false, 0⟩]), 23, (by decide +kernel)⟩,
    ⟨base, (by decide +kernel)⟩,
    ⟨({ base with clk := { base.clk with canary := some ⟨0, 0, 0, 0, 0⟩ } } : State), ⟨0, 0, 0, 0, 0⟩,
      (by decide +kernel)⟩,
    ⟨({ base with clk := { base.clk with awaitSlack := true } } : State), (by decide +kernel)⟩,
    ⟨(base.wr CHN_LINK_IN_locked 1), (by decide +kernel)⟩,
    ⟨(base.wr CHN_STATUS_role 2), (by decide +kernel), (by decide +kernel), _, rfl⟩,
    ⟨(base.wr CLK_ISL_STATUS_chn_lock 1), .chn, (by decide +kernel)⟩⟩

set_option maxRecDepth 20000 in
/-- A state and operands for each clause of PowerEventsComplete. -/
theorem witness_PowerEventsComplete :
    (∃ s : State, ∃ t, (t = (if s.phase = .off then s else s.dark .off))) ∧
    (∃ s : State, ((s.phase = .off ∧ s.pwr.armed = true) ∨ s.phase = .start)) ∧
    (∃ s : State, (s.phase = .start)) ∧
    (∃ s : State, (s.phase ≠ .start)) ∧
    (∃ s : State, (s.inSequence = true) ∧ (s.rd PWR_STATE_shdn_step = 1 ∨ s.rd PWR_STATE_shdn_step = 2) ∧
      (s.inFlightEmpty = true) ∧ ∃ t, (t = s.abortAll.abortFetches)) ∧
    (∃ s : State, (s.atStep 3 = true) ∧ ∃ on, ∃ t, ∃ u, (on = (s.rd CADDY_STATUS_jrnl_en == 1)) ∧ (t = (if on &&
      s.claimed 19 then s.conflict 19 2 1 else s)) ∧ (u = t.jrnlCommit)) ∧
    (∃ s : State, (s.atStep 4 = true)) ∧
    (∃ s : State, (s.atStep 5 = true)) ∧
    (∃ s : State, ∃ us, ∃ d, (s.atStep 6 = true) ∧ (s.phase ≠ .standbyEntry) ∧ (d = (s.putShutdown 2 us).dark
      .off)) ∧
    (∃ s : State, ∃ us, ∃ t, ∃ d, (s.atStep 6 = true) ∧ (s.phase = .standbyEntry) ∧ (t = s.putShutdown 2 us) ∧ (d =
      t.keepWake (t.dark .standby))) ∧
    (∃ s : State, (s.phase ≠ .off)) ∧
    (∃ s : State, ∃ p, ∃ i, ∃ t, (i = portIdx p) ∧ (s.rdi SLOT_STATUS_vcc_on i ≠ 0) ∧ (t = s.slotGone i slFault 7)) ∧
    (∃ s : State, ∃ r : Fin 6, ∃ t, (t = s.setBit PWR_RAIL_STATUS_rail_pg 0 r.val false) ∧ (s.alive = true)) ∧
    (∃ s : State, ∃ r : Fin 6, ∃ t, (t = s.setBit PWR_RAIL_STATUS_rail_pg 0 r.val false) ∧ (s.alive = false) ∧
      (s.inSequence = true)) ∧
    (∃ s : State, (s.dozeEntering = true) ∧ (s.inFlightEmpty = true) ∧ ∃ code, ∃ t, ∃ u, (code = s.rd
      CLK_MARGIN_LIMIT_margin_code_min) ∧ (t = ((({ s with
      clk := { s.clk with gated := true, canary := none }, pwr := { s.pwr with exitPending := false } } :
      State).setPhase .doze).wr CLK_MARGIN_STATUS_margin_code code).wr CLK_MARGIN_STATUS_rail_mv (620 + 5 * code))
      ∧ (u = (t.waiters 0x0202).foldl (fun s m => s.okResp m []) t)) ∧
    (∃ s : State, (s.phase = .leavingDoze) ∧ (s.clk.gated = true)) ∧
    (∃ s : State, ∃ src : Fin 5, (src.val ≠ 4 ∨ s.padWakes = true)) ∧
    (∃ s : State, (s.phase = .standby)) :=
  ⟨⟨base, _, rfl⟩,
    ⟨(base.wr PWR_STATE_state 6), (by decide +kernel)⟩,
    ⟨(base.wr PWR_STATE_state 6), (by decide +kernel)⟩,
    ⟨base, (by decide +kernel)⟩,
    ⟨((base.wr PWR_STATE_state 4).wr PWR_STATE_shdn_step 1), (by decide +kernel), (by decide +kernel),
      (by decide +kernel), _, rfl⟩,
    ⟨((base.wr PWR_STATE_state 4).wr PWR_STATE_shdn_step 3), (by decide +kernel), _, _, _, rfl, rfl, rfl⟩,
    ⟨((base.wr PWR_STATE_state 4).wr PWR_STATE_shdn_step 4), (by decide +kernel)⟩,
    ⟨((base.wr PWR_STATE_state 4).wr PWR_STATE_shdn_step 5), (by decide +kernel)⟩,
    ⟨((base.wr PWR_STATE_state 4).wr PWR_STATE_shdn_step 6), 9, _, (by decide +kernel), (by decide +kernel), rfl⟩,
    ⟨((base.wr PWR_STATE_state 5).wr PWR_STATE_shdn_step 6), 9, _, _, (by decide +kernel), (by decide +kernel),
      rfl, rfl⟩,
    ⟨base, (by decide +kernel)⟩,
    ⟨(base.wri SLOT_STATUS_vcc_on 1 1), .b, _, _, rfl, (by decide +kernel), rfl⟩,
    ⟨base, 3, _, rfl, (by decide +kernel)⟩,
    ⟨((base.wr PWR_STATE_state 4).wr PWR_STATE_shdn_step 1), 3, _, rfl, (by decide +kernel)⟩,
    ⟨({ base with clk := { base.clk with admitStop := true } } : State), (by decide +kernel), (by decide +kernel),
      _, _, _, rfl, rfl, rfl⟩,
    ⟨({ base.wr PWR_STATE_state 3 with
      clk := { base.clk with gated := true } } : State), (by decide +kernel)⟩,
    ⟨base, 0, (by decide +kernel)⟩,
    ⟨(base.wr PWR_STATE_state 7), (by decide +kernel)⟩⟩

set_option maxRecDepth 20000 in
/-- A state and operands for each clause of HeatEventsComplete. -/
theorem witness_HeatEventsComplete :
    (∃ s : State, ∃ ps : PowerIn, ∃ iin, ∃ pin, ∃ t, ∃ u, (s.powered = true) ∧ (iin =
      (match ps.selfTest with | some _ => ps.iinMa - 100 | none => ps.iinMa)) ∧ (pin = centiwatts ps.vinMv iin) ∧
      (t = s.measurements ps iin pin) ∧ (u = t.strmWindow) ∧ (ps.selfTest = none)) ∧
    (∃ s : State, ∃ ps : PowerIn, ∃ iin, ∃ pin, ∃ t, ∃ u, (s.powered = true) ∧ (iin =
      (match ps.selfTest with | some _ => ps.iinMa - 100 | none => ps.iinMa)) ∧ (pin = centiwatts ps.vinMv iin) ∧
      (t = s.measurements ps iin pin) ∧ (u = t.strmWindow) ∧ ∃ inc, (ps.selfTest = some inc)) ∧
    (∃ s : State, ∃ raw : BitVec 12, ∃ conv : Int, ∃ op, ∃ sh, ∃ a, ∃ b, ∃ c, ∃ d, (s.powered = true) ∧ (op = (if
      conv < -640 then min 10 (s.heat.openRun + 1) else 0)) ∧ (sh = (if 2400 < conv then min 10 (s.heat.shortRun +
      1) else 0)) ∧ (a = ({
      s with heat := { s.heat with openRun := op, shortRun := sh, ntcOpen := op == 10, ntcShort := sh == 10, enforceTotalMs := if s.thm = 2 then countUp 32 s.heat.enforceTotalMs else s.heat.enforceTotalMs } }
      : State)) ∧ (b = (a.wr THM_NTC_t_ntc (enc16 (max (-640) (min 2400 conv)))).wr THM_NTC_ntc_raw raw.toNat) ∧ (c
      = (if s.thm = 2 then b.inc THM_ENF_COUNT_enforce_ms else b)) ∧ (d = (if c.thm = 1 then c.wr
      THM_GRACE_grace_left_ms (c.rd THM_GRACE_grace_ms - c.graceMs) else c)) ∧ (d.heat.ntcOpen = false) ∧
      (d.heat.ntcShort = false)) ∧
    (∃ s : State, ∃ raw : BitVec 12, ∃ conv : Int, ∃ op, ∃ sh, ∃ a, ∃ b, ∃ c, ∃ d, (s.powered = true) ∧ (op = (if
      conv < -640 then min 10 (s.heat.openRun + 1) else 0)) ∧ (sh = (if 2400 < conv then min 10 (s.heat.shortRun +
      1) else 0)) ∧ (a = ({
      s with heat := { s.heat with openRun := op, shortRun := sh, ntcOpen := op == 10, ntcShort := sh == 10, enforceTotalMs := if s.thm = 2 then countUp 32 s.heat.enforceTotalMs else s.heat.enforceTotalMs } }
      : State)) ∧ (b = (a.wr THM_NTC_t_ntc (enc16 (max (-640) (min 2400 conv)))).wr THM_NTC_ntc_raw raw.toNat) ∧ (c
      = (if s.thm = 2 then b.inc THM_ENF_COUNT_enforce_ms else b)) ∧ (d = (if c.thm = 1 then c.wr
      THM_GRACE_grace_left_ms (c.rd THM_GRACE_grace_ms - c.graceMs) else c)) ∧ (d.heat.ntcOpen = true) ∧
      ((d.sensorFault 0).heat.ntcShort = false)) ∧
    (∃ s : State, ∃ raw : BitVec 12, ∃ conv : Int, ∃ op, ∃ sh, ∃ a, ∃ b, ∃ c, ∃ d, (s.powered = true) ∧ (op = (if
      conv < -640 then min 10 (s.heat.openRun + 1) else 0)) ∧ (sh = (if 2400 < conv then min 10 (s.heat.shortRun +
      1) else 0)) ∧ (a = ({
      s with heat := { s.heat with openRun := op, shortRun := sh, ntcOpen := op == 10, ntcShort := sh == 10, enforceTotalMs := if s.thm = 2 then countUp 32 s.heat.enforceTotalMs else s.heat.enforceTotalMs } }
      : State)) ∧ (b = (a.wr THM_NTC_t_ntc (enc16 (max (-640) (min 2400 conv)))).wr THM_NTC_ntc_raw raw.toNat) ∧ (c
      = (if s.thm = 2 then b.inc THM_ENF_COUNT_enforce_ms else b)) ∧ (d = (if c.thm = 1 then c.wr
      THM_GRACE_grace_left_ms (c.rd THM_GRACE_grace_ms - c.graceMs) else c)) ∧ (d.heat.ntcOpen = false) ∧
      (d.heat.ntcShort = true)) ∧
    (∃ s : State, (s.thm = 1)) ∧
    (∃ s : State, ∃ l, ∃ t, (l = s.rd THM_STATUS_level) ∧ (s.thm = 2) ∧ (s.rd THM_STATUS_sensor_fault = 0) ∧
      (s.heat.holdRun = true) ∧ (t = ({
      s with heat := { s.heat with holdRun := s.band s.heat.tEst < l - 1 } } : State))) ∧
    (∃ s : State, (s.powered = true)) ∧
    (∃ s : State, (s.rd THM_STATUS_sensor_fault = 1) ∧ (s.faultPresent = false)) :=
  ⟨⟨base, ⟨12000, 1000, 0, 0, 0, 0, none⟩, _, _, _, _, (by decide +kernel), rfl, rfl, rfl, rfl,
      (by decide +kernel)⟩,
    ⟨base, ⟨12000, 1000, 0, 0, 0, 0, some 5⟩, _, _, _, _, (by decide +kernel), rfl, rfl, rfl, rfl, 5,
      (by decide +kernel)⟩,
    ⟨base, 5, 0, _, _, _, _, _, _, (by decide +kernel), rfl, rfl, rfl, rfl, rfl, rfl, (by decide +kernel)⟩,
    ⟨({ base with heat := { base.heat with openRun := 9 } } : State), 5, -700, _, _, _, _, _, _,
      (by decide +kernel), rfl, rfl, rfl, rfl, rfl, rfl, (by decide +kernel)⟩,
    ⟨({ base with heat := { base.heat with shortRun := 9 } } : State), 5, 2500, _, _, _, _, _, _,
      (by decide +kernel), rfl, rfl, rfl, rfl, rfl, rfl, (by decide +kernel)⟩,
    ⟨(base.wr THM_STATUS_state 1), (by decide +kernel)⟩,
    ⟨({
      (base.wr THM_STATUS_state 2) with heat := { base.heat with holdRun := true } } : State), _, _, rfl,
      (by decide +kernel), (by decide +kernel), (by decide +kernel), rfl⟩,
    ⟨base, (by decide +kernel)⟩,
    ⟨(base.wr THM_STATUS_sensor_fault 1), (by decide +kernel)⟩⟩

set_option maxRecDepth 20000 in
/-- A state and operands for each clause of MailboxCoreEventsComplete. -/
theorem witness_MailboxCoreEventsComplete :
    (∃ s : State, ∃ m : Mb, (m ≠ .relay) ∧ (s.isFollower = true)) ∧
    (∃ s : State, ∃ m : Mb, (m = .relay ∨ s.isFollower = false) ∧ (s.fatal = true)) ∧
    (∃ s : State, ∃ m : Mb, (m = .relay ∨ s.isFollower = false) ∧ (s.fatal = false) ∧ (s.rd PWR_STATE_fw_state =
      3)) ∧
    (∃ s : State, ∃ m : Mb, (m = .relay ∨ s.isFollower = false) ∧ (s.fatal = false) ∧ (s.rd PWR_STATE_fw_state ≠ 3)
      ∧ (s.serving = true) ∧ (s.takesNext m = true)) ∧
    (∃ s : State, ∃ m : Mb, ∃ c, ((s.mbx m).taken = some c) ∧ (c.stage = .waiting) ∧ (c.opcode = 0x0104 ∨ (c.opcode
      = 0x0C02 ∧ s.rd SEC_STATUS_castle_wait = 1))) ∧
    (∃ s : State, ∃ m : Mb, ∃ c, ((s.mbx m).taken = some c) ∧ (¬(c.stage = .waiting ∧ (c.opcode = 0x0104 ∨
      (c.opcode = 0x0C02 ∧ s.rd SEC_STATUS_castle_wait = 1))))) ∧
    (∃ s : State, ∃ m : Mb, ∃ c, (s.waiters 0x0104 = [m]) ∧ ((s.mbx m).taken = some c) ∧ (s.claimBusy m (c.u32 0) =
      false)) ∧
    (∃ s : State, (s.stopsRun = false) ∧ (s.rd PWR_STATE_fw_state = 1) ∧ (s.rd CORE_STATUS_ctl_state = 2) ∧ (s.rd
      DBG_HALT_ctl_halt ≠ 1) ∧ ∃ t, ∃ u, (t = ((((s.wr PWR_STATE_fw_state 2).wr GLB_STATUS_fw_ready 1).wr
      GLB_STATUS_fatal 0).wr CORE_STATUS_fatal 0).smbCause 4) ∧ (u = t.postFw 0x0101 0xFF (leBytes 4
      s.eupex.ctlFwVersion ++ leBytes 4 s.eupex.grdFwVersion))) ∧
    (∃ s : State, (s.rd CORE_STATUS_ctl_state ≠ 0) ∧ (s.cores.ctlDead = false)) ∧
    (∃ s : State, (s.guardUp = true) ∧ (s.cores.grdDead = false)) ∧
    (∃ s : State, (s.guardUp = false) ∧ (s.rd PWR_STATE_fw_state = 1 ∨ s.rd PWR_STATE_fw_state = 2) ∧
      (s.cores.grdDead = false) ∧ ∃ t, ∃ u, (t = (s.wr SEC_STATUS_guard_running 1).wr CORE_STATUS_grd_state 2) ∧ (u
      = t.loadDevice)) ∧
    (∃ s : State, ∃ c, ∃ f : FaultIn, ∃ t, ∃ u, (s.coreTraps c = true) ∧ (t = s.capture c f.cause.toNat f) ∧ (u =
      (if f.cause.toNat = 1 ∨ f.cause.toNat = 3 then t.reportRead
      (match c with | .control => 0x50 | .guard => 0x51) (f.addr.toNat / 8) (2 + coreNo c) 0xFFFF else t))) ∧
    (∃ s : State, ∃ f : FaultIn, (s.coreTraps .control = true) ∧ (s.rd DBG_HALT_ctl_halt ≠ 1) ∧ (s.cores.ctlWdog =
      true) ∧ (f.cause.toNat ≠ 5)) ∧
    (∃ s : State, ∃ f : FaultIn, (s.coreTraps .control = true) ∧ (s.rd DBG_HALT_ctl_halt ≠ 1) ∧ (s.cores.ctlWdog =
      false ∨ f.cause.toNat = 5) ∧ ∃ t, (t = s.capture .control 5 f)) ∧
    (∃ s : State, ∃ f : FaultIn, (s.coreTraps .guard = true) ∧ (s.rd DBG_HALT_grd_halt ≠ 1) ∧ (s.cores.grdWdog =
      true) ∧ (f.cause.toNat ≠ 5)) ∧
    (∃ s : State, ∃ f : FaultIn, (s.coreTraps .guard = true) ∧ (s.rd DBG_HALT_grd_halt ≠ 1) ∧ (s.cores.grdWdog =
      false ∨ f.cause.toNat = 5) ∧ ∃ t, (t = s.capture .guard 5 f)) ∧
    (∃ s : State, ∃ d, ∃ t, (s.cores.dump = some d) ∧ (t = ((({ s with cores := { s.cores with dump := none } } :
      State).writeDump d).dumpReport (2 + d.writer)).nextFree) ∧ (d.kind = 1) ∧ (d.mb = none)) ∧
    (∃ s : State, ∃ d, ∃ t, (s.cores.dump = some d) ∧ (t = ((({ s with cores := { s.cores with dump := none } } :
      State).writeDump d).dumpReport (2 + d.writer)).nextFree) ∧ (d.kind = 2) ∧ (d.mb = none)) ∧
    (∃ s : State, ∃ d, ∃ t, (s.cores.dump = some d) ∧ (t = ((({ s with cores := { s.cores with dump := none } } :
      State).writeDump d).dumpReport (2 + d.writer)).nextFree) ∧ (d.kind = 3) ∧ ∃ n, (d.mb = some n)) ∧
    (∃ s : State, (s.otp.any (fun j => j.stop.isSome) = false) ∧ (s.inSequence = false) ∧ (s.cores.caddyBoot =
      true)) ∧
    (∃ s : State, (s.otp.any (fun j => j.stop.isSome) = false) ∧ (s.inSequence = false) ∧ (s.cores.caddyBoot =
      false) ∧ ∃ r, (s.cores.boot = some r) ∧ (r.bytes.length = r.len) ∧ ∃ d, (s.imageFail r.bytes = some d)) ∧
    (∃ s : State, (s.otp.any (fun j => j.stop.isSome) = false) ∧ (s.inSequence = false) ∧ (s.cores.caddyBoot =
      false) ∧ ∃ r, (s.cores.boot = some r) ∧ (r.bytes.length = r.len) ∧ (s.imageFail r.bytes = none) ∧ (r.request
      = 3) ∧ (s.claimed 19 = true)) ∧
    (∃ s : State, (s.otp.any (fun j => j.stop.isSome) = false) ∧ (s.inSequence = false) ∧ (s.cores.caddyBoot =
      false) ∧ ∃ r, (s.cores.boot = some r) ∧ (r.bytes.length = r.len) ∧ (s.imageFail r.bytes = none) ∧ (r.request
      = 3) ∧ (s.claimed 19 = false)) ∧
    (∃ s : State, (s.otp.any (fun j => j.stop.isSome) = false) ∧ (s.inSequence = false) ∧ (s.cores.caddyBoot =
      false) ∧ ∃ r, (s.cores.boot = some r) ∧ (r.bytes.length = r.len) ∧ (s.imageFail r.bytes = none) ∧ (r.request
      ≠ 3)) ∧
    (∃ s : State, (s.jrnl.pending ≠ 0) ∧ (¬(s.rd CADDY_STATUS_jrnl_en = 1 ∧ s.claimed 19 = true))) ∧
    (∃ s : State, (s.jrnl.pending ≠ 0) ∧ (s.rd CADDY_STATUS_jrnl_en = 1) ∧ (s.claimed 19 = true)) :=
  ⟨⟨(base.wr CHN_STATUS_role 2), .urgent, (by decide +kernel)⟩,
    ⟨(base.wr CORE_STATUS_fatal 1), .urgent, (by decide +kernel)⟩,
    ⟨(base.wr PWR_STATE_fw_state 3), .urgent, (by decide +kernel)⟩,
    ⟨(base.wri MBX_MB_STATUS_posted 0 1), .urgent, (by decide +kernel)⟩,
    ⟨(has .urgent (ww 0x0104 [1, 0, 0, 0]) base), .urgent, ww 0x0104 [1, 0, 0, 0], (by decide +kernel)⟩,
    ⟨(has .urgent (wc 1 []) base), .urgent, wc 1 [], (by decide +kernel)⟩,
    ⟨(has .urgent (ww 0x0104 [1, 0, 0, 0]) base), .urgent, ww 0x0104 [1, 0, 0, 0], (by decide +kernel)⟩,
    ⟨(base.wr PWR_STATE_fw_state 1), (by decide +kernel), (by decide +kernel), (by decide +kernel),
      (by decide +kernel), _, _, rfl, rfl⟩,
    ⟨base, (by decide +kernel)⟩,
    ⟨base, (by decide +kernel)⟩,
    ⟨(base.wr SEC_STATUS_guard_running 0), (by decide +kernel), (by decide +kernel), (by decide +kernel), _, _,
      rfl, rfl⟩,
    ⟨base, .control, ⟨1, 0, 0, 0, [], false⟩, _, _, (by decide +kernel), rfl, rfl⟩,
    ⟨({ base with cores := { base.cores with ctlWdog := true } } : State), ⟨6, 0, 0, 0, [], false⟩,
      (by decide +kernel)⟩,
    ⟨base, ⟨1, 0, 0, 0, [], false⟩, (by decide +kernel), (by decide +kernel), (by decide +kernel), _, rfl⟩,
    ⟨({ base with cores := { base.cores with grdWdog := true } } : State), ⟨6, 0, 0, 0, [], false⟩,
      (by decide +kernel)⟩,
    ⟨base, ⟨1, 0, 0, 0, [], false⟩, (by decide +kernel), (by decide +kernel), (by decide +kernel), _, rfl⟩,
    ⟨({ base with cores := { base.cores with dump := some ⟨1, 1, none, 5⟩ } } : State), ⟨1, 1, none, 5⟩, _,
      (by decide +kernel), rfl, (by decide +kernel)⟩,
    ⟨({ base with cores := { base.cores with dump := some ⟨2, 1, none, 5⟩ } } : State), ⟨2, 1, none, 5⟩, _,
      (by decide +kernel), rfl, (by decide +kernel)⟩,
    ⟨({ base with
      cores := { base.cores with dump := some ⟨3, 1, some .urgent, 5⟩ } } : State), ⟨3, 1, some .urgent, 5⟩, _,
      (by decide +kernel), rfl, (by decide +kernel), .urgent, (by decide +kernel)⟩,
    ⟨({ base with cores := { base.cores with caddyBoot := true } } : State), (by decide +kernel)⟩,
    ⟨({ base with
      cores := { base.cores with boot := some ⟨1, 0, 0, 0, []⟩, caddyBoot := false } } : State),
      (by decide +kernel), (by decide +kernel), (by decide +kernel), ⟨1, 0, 0, 0, []⟩, (by decide +kernel),
      (by decide +kernel), 1, (by decide +kernel)⟩,
    ⟨({ otpRoot (claim (2 ^ 19) base) with
      cores := { base.cores with boot := some ⟨3, 0, 0, 704, fwImage⟩, caddyBoot := false } } : State),
      (by decide +kernel), (by decide +kernel), (by decide +kernel), ⟨3, 0, 0, 704, fwImage⟩, (by decide +kernel)⟩,
    ⟨({ otpRoot base with
      cores := { base.cores with boot := some ⟨3, 0, 0, 704, fwImage⟩, caddyBoot := false } } : State),
      (by decide +kernel), (by decide +kernel), (by decide +kernel), ⟨3, 0, 0, 704, fwImage⟩, (by decide +kernel)⟩,
    ⟨({ otpRoot base with
      cores := { base.cores with boot := some ⟨1, 0, 0, 704, fwImage⟩, caddyBoot := false } } : State),
      (by decide +kernel), (by decide +kernel), (by decide +kernel), ⟨1, 0, 0, 704, fwImage⟩, (by decide +kernel)⟩,
    ⟨({ base with jrnl := { base.jrnl with pending := 1 } } : State), (by decide +kernel)⟩,
    ⟨({ (base.wr CADDY_STATUS_jrnl_en 1).wr GLB_CLAIM_claimed (2 ^ 19) with
      jrnl := { base.jrnl with pending := 1 } } : State), (by decide +kernel)⟩⟩

set_option maxRecDepth 20000 in
/-- A state and operands for each clause of TableEventsComplete. -/
theorem witness_TableEventsComplete :
    (∃ s : State, (s.portFree = true) ∧ (s.castleDue = false) ∧ ∃ u, (s.tryHost s.tbl.queue.length 0 = (u, true))) ∧
    (∃ s : State, (s.portFree = true) ∧ (s.castleDue = false) ∧ ∃ u, ∃ v, (s.tryHost s.tbl.queue.length 0 = (u,
      false)) ∧ (u.tryGuard = (v, true))) ∧
    (∃ s : State, (s.portFree = true) ∧ (s.castleDue = false) ∧ ∃ u, ∃ v, (s.tryHost s.tbl.queue.length 0 = (u,
      false)) ∧ (u.tryGuard = (v, false)) ∧ ∃ x, (State.tryLearn v.learn.updates.length v = (x, true))) ∧
    (∃ s : State, (s.portFree = true) ∧ (s.castleDue = false) ∧ ∃ u, ∃ v, (s.tryHost s.tbl.queue.length 0 = (u,
      false)) ∧ (u.tryGuard = (v, false)) ∧ ∃ x, ∃ y, (State.tryLearn v.learn.updates.length v = (x, false)) ∧
      (x.trySweep = (y, true))) ∧
    (∃ s : State, (s.portFree = true) ∧ (s.castleDue = false) ∧ ∃ u, ∃ v, (s.tryHost s.tbl.queue.length 0 = (u,
      false)) ∧ (u.tryGuard = (v, false)) ∧ ∃ x, ∃ y, (State.tryLearn v.learn.updates.length v = (x, false)) ∧
      (x.trySweep = (y, false))) ∧
    (∃ s : State, ∃ c, ∃ u, (s.tbl.castle = some c) ∧ (s.castleDue = true) ∧ (s.portFree = true) ∧ ∃ v, (v =
      ((((s.exchange c.a c.b).stamp c.a).stamp c.b).setCastle none)) ∧ (u = ((((v.wr TCAM_CASTLE_PLY_castle_ply
      v.clk.ply).inc TCAM_CASTLE_COUNT_castlings).raise TCAM_EVENT_castle_done).usePly).jrnlCastle c.a c.b)) ∧
    (∃ s : State, ∃ l, (s.guard.due = some l) ∧ (s.tbl.guardCastle = true) ∧ (s.tbl.guardQ = []) ∧
      (s.tbl.castle.all (·.behind) = true) ∧ (s.portFree = true)) ∧
    (∃ s : State, ∃ b : Fin 256, (s.clk.gated = false) ∧ ∃ rest, ∃ u, (s.tbl.ungating.contains b.val = true) ∧
      (rest = s.tbl.ungating.filter (· != b.val)) ∧ (u = (s.clearBlk b.val).setBlk b.val blkFree)) ∧
    (∃ s : State, ∃ b : Fin 256, (s.clk.gated = false) ∧ ∃ u, (s.tbl.invalidating.contains b.val = true) ∧ (u =
      (s.invalidateBlks [b.val]).setBlk b.val blkFree)) ∧
    (∃ s : State, ∃ t : Fin 64, (s.clk.gated = false) ∧ (t.val < 63) ∧ (s.rdi HASH_TBL_CFG_sweep t.val = 1) ∧
      ((s.stale t.val).isEmpty = true) ∧ ∃ u, (u = ((s.wri HASH_TBL_CFG_sweep t.val 0).cfgWritten [hashTblOff t.val]).raise HASH_EVENT_sweep_done)
      ∧ (((List.range 4).find? (fun r => u.rdi LPM_ROOT_CFG_table r == t.val && u.rdi LPM_ROOT_CFG_sweep r == 1)) =
      none)) ∧
    (∃ s : State, ∃ t : Fin 64, (s.clk.gated = false) ∧ (s.rdi HASH_TBL_CFG_sweep t.val ≠ 1) ∧ ∃ r, (((List.range
      4).find? (fun r => s.rdi LPM_ROOT_CFG_table r == t.val && s.rdi LPM_ROOT_CFG_sweep r == 1)) = some r)) ∧
    (∃ s : State, (s.clk.gated = false) ∧ (s.rd LPM_OVL_CTRL_armed = 1)) ∧
    (∃ s : State, (s.clk.gated = false) ∧ (s.rd LPM_STATUS_rebuild = 1)) ∧
    (∃ s : State, ∃ i, ∃ w, ∃ r, ∃ u, ∃ v, (s.learn.walks[i]? = some w) ∧ (w.result = some r) ∧ (r.found = none) ∧
      (r.failed = false) ∧ (u = (({ s with
      learn := { s.learn with notFound := countUp 32 s.learn.notFound } } : State).inc
      HASH_WALK_NF_walk_not_found).endWalk i) ∧ (v = w.walkers.foldl (fun s x => s.walkerEnds r x) u)) ∧
    (∃ s : State, ∃ i, ∃ w, ∃ r, ∃ d, ∃ u, ∃ v, (s.learn.walks[i]? = some w) ∧ (w.result = some r) ∧ (r.found =
      some d) ∧ (u = s.endWalk i) ∧ (v = (if r.failed then u else u.queueInsert {
      table := w.table, type := 1, key := w.key, result := d, startPly := w.startPly,
      mbs := w.walkers.filterMap (fun x => match x with | .cmd m => some m | _ => none),
      first := match w.walkers with | .cmd _ :: _ => true | _ => false }))) ∧
    (∃ s : State, (s.rd HASH_LEARN_CTRL_ager_en ≠ 0) ∧ (s.clk.gated = false) ∧ (s.inSequence = false) ∧ (s.fatal =
      false) ∧ (s.agerQueued ≠ 0)) ∧
    (∃ s : State, (s.rd HASH_LEARN_CTRL_ager_en ≠ 0) ∧ (s.clk.gated = false) ∧ (s.inSequence = false) ∧ (s.fatal =
      false) ∧ (s.agerQueued = 0)) :=
  ⟨⟨({ base with
      tbl := { base.tbl with queue := [⟨.reg, .dixLimit 5, [], false⟩] } } : State), (by decide +kernel),
      (by decide +kernel), _, (Prod.ext rfl (by decide +kernel))⟩,
    ⟨({ base with tbl := { base.tbl with guardQ := [.guardClear 0] } } : State), (by decide +kernel),
      (by decide +kernel), _, _, (Prod.ext rfl (by decide +kernel)), (Prod.ext rfl (by decide +kernel))⟩,
    ⟨({ learned with
      learn := { base.learn with updates := [.age (learned.visited ⟨sidOverflow, 0⟩) 5] } } : State),
      (by decide +kernel), (by decide +kernel), _, _, (Prod.ext rfl (by decide +kernel)), (Prod.ext rfl
      (by decide +kernel)), _, (Prod.ext rfl (by decide +kernel))⟩,
    ⟨((learned.wri HASH_TBL_CFG_epoch 1 1).wri HASH_TBL_CFG_sweep 1 1), (by decide +kernel), (by decide +kernel),
      _, _, (Prod.ext rfl (by decide +kernel)), (Prod.ext rfl (by decide +kernel)), _, _, (Prod.ext rfl
      (by decide +kernel)), (Prod.ext rfl (by decide +kernel))⟩,
    ⟨base, (by decide +kernel), (by decide +kernel), _, _, (Prod.ext rfl (by decide +kernel)), (Prod.ext rfl
      (by decide +kernel)), _, _, (Prod.ext rfl (by decide +kernel)), (Prod.ext rfl (by decide +kernel))⟩,
    ⟨({ base with
      tbl := { base.tbl with castle := some ⟨0, 1, 0, none, false⟩ } } : State), ⟨0, 1, 0, none, false⟩, _,
      (by decide +kernel), (by decide +kernel), (by decide +kernel), _, rfl, rfl⟩,
    ⟨({ base with
      tbl := { base.tbl with guardCastle := true, castle := some ⟨0, 1, 0, none, true⟩ },
      guard := { base.guard with due := some ⟨0, [], none⟩ } } : State), ⟨0, [], none⟩, (by decide +kernel)⟩,
    ⟨({ base with tbl := { base.tbl with ungating := [255] } } : State), 255, (by decide +kernel), _, _,
      (by decide +kernel), rfl, rfl⟩,
    ⟨({ base with tbl := { base.tbl with invalidating := [255] } } : State), 255, (by decide +kernel), _,
      (by decide +kernel), rfl⟩,
    ⟨((tbl 1 2 base).wri HASH_TBL_CFG_sweep 1 1), 1, (by decide +kernel), (by decide +kernel), (by decide +kernel),
      (by decide +kernel), _, rfl, (by decide +kernel)⟩,
    ⟨((base.wri LPM_ROOT_CFG_sweep 3 1).wri LPM_ROOT_CFG_table 3 2), 2, (by decide +kernel), (by decide +kernel),
      3, (by decide +kernel)⟩,
    ⟨(base.wr LPM_OVL_CTRL_armed 1), (by decide +kernel)⟩,
    ⟨(base.wr LPM_STATUS_rebuild 1), (by decide +kernel)⟩,
    ⟨({ base with
      learn := { base.learn with walks := [⟨1, [], 0, 0, [], none, none, some ⟨none, false⟩⟩] } } : State), 0, ⟨1,
      [], 0, 0, [], none, none, some ⟨none, false⟩⟩, ⟨none, false⟩, _, _, (by decide +kernel), (by decide +kernel),
      (by decide +kernel), (by decide +kernel), rfl, rfl⟩,
    ⟨({ base with
      learn := { base.learn with walks := [⟨1, [], 0, 0, [], none, none, some ⟨some 5, false⟩⟩] } } : State), 0,
      ⟨1, [], 0, 0, [], none, none, some ⟨some 5, false⟩⟩, ⟨some 5, false⟩, 5, _, _, (by decide +kernel),
      (by decide +kernel), (by decide +kernel), rfl, rfl⟩,
    ⟨({ base.wr HASH_LEARN_CTRL_ager_en 1 with
      learn := { base.learn with updates := [.age ⟨0, 0, 0, [], 0⟩ 0] } } : State), (by decide +kernel)⟩,
    ⟨(base.wr HASH_LEARN_CTRL_ager_en 1), (by decide +kernel)⟩⟩

end Sys2Proof.Tests
end

