-- ==== Sys2Proof/Tests/WitnessEvents2.lean ====
section
/-! SUPPORT. Witnesses for the completion statements of the events of the chain, media, fetches, guard, pins, SMBus and TAP. -/

set_option Elab.async false

namespace Sys2Proof.Tests
open Sys2Proof Sys2Proof.Machine Sys2Proof.Machine.Reg

set_option maxRecDepth 20000 in
/-- A state and operands for each clause of ChainLinkEventsComplete. -/
theorem witness_ChainLinkEventsComplete :
    (∃ s : State, (s.alive = true) ∧ (s.rd CHN_STATUS_role = 0) ∧ (s.rd GLB_LINK_link_up = 1) ∧ (s.chain.heard =
      false) ∧ ∃ t, (t = s.changeRole 1 0 s.chain.released)) ∧
    (∃ s : State, (s.chain.training = true) ∧ ∃ t : State, (t =
      { s with chain := { s.chain with training := false } })) ∧
    (∃ s : State, ∃ count : BitVec 6, ∃ serial : BitVec 64, ∃ seq : BitVec 8, (s.alive = true) ∧ (s.hears .fromUp =
      true) ∧ (s.ownToken serial.toNat seq.toNat = true) ∧ (1 ≤ count.toNat) ∧ (count.toNat ≤ 32)) ∧
    (∃ s : State, ∃ count : BitVec 6, ∃ serial : BitVec 64, ∃ seq : BitVec 8, (s.alive = true) ∧ (s.hears .fromUp =
      true) ∧ (s.ownToken serial.toNat seq.toNat = true) ∧ (count.toNat = 0 ∨ 32 < count.toNat)) ∧
    (∃ s : State, ∃ serial : BitVec 64, ∃ seq : BitVec 8, (s.alive = true) ∧ (s.hears .fromUp = true) ∧ (s.ownToken
      serial.toNat seq.toNat = false) ∧ (s.isHead = true) ∧ (serial.toNat = s.moduleSerial)) ∧
    (∃ s : State, ∃ count : BitVec 6, ∃ serial : BitVec 64, ∃ seq : BitVec 8, (s.alive = true) ∧ (s.hears .fromUp =
      true) ∧ (s.ownToken serial.toNat seq.toNat = false) ∧ (¬(s.isHead = true ∧ serial.toNat = s.moduleSerial)) ∧
      (1 ≤ count.toNat) ∧ (count.toNat ≤ 31)) ∧
    (∃ s : State, ∃ count : BitVec 6, ∃ serial : BitVec 64, ∃ seq : BitVec 8, (s.alive = true) ∧ (s.hears .fromUp =
      true) ∧ (s.ownToken serial.toNat seq.toNat = false) ∧ (¬(s.isHead = true ∧ serial.toNat = s.moduleSerial)) ∧
      (count.toNat = 0 ∨ 31 < count.toNat)) ∧
    (∃ s : State, (s.isHead = true) ∧ (s.chain.enum.isSome = true) ∧ (s.chain.startAt = none) ∧ (s.chain.training =
      false) ∧ (s.chain.tokenIn = false)) ∧
    (∃ s : State, (s.isFollower = true) ∧ (s.rd CHN_STATUS_state = 1) ∧ (s.rd GLB_LINK_link_up = 1)) ∧
    (∃ s : State, (s.isFollower = true) ∧ (s.rd CHN_STATUS_state = 1) ∧ (s.rd GLB_LINK_link_up ≠ 1)) ∧
    (∃ s : State, ∃ key : BitVec 112, ∃ t, (s.hears .fromUp = true) ∧ (s.alive = true) ∧ (s.isFollower = true) ∧
      (s.chainServes = true) ∧ (s.rd CHN_LINK_IN_in_ok = 1) ∧ (t = s.goodIn.crossFifo 8 (produceWord (key.setWidth
      64) false 0))) ∧
    (∃ s : State, (s.hears .fromDown = true) ∧ (s.rd CHN_LINK_OUT_back_ok = 1)) ∧
    (∃ s : State, (s.hears .fromDown = true) ∧ (s.rd CHN_LINK_OUT_back_ok ≠ 1)) ∧
    (∃ s : State, ∃ d : StatusIn, ∃ alive, ∃ fault, ∃ heat, ∃ c, ∃ t, (s.alive = true) ∧ (s.chainServes = true) ∧
      (s.statusWindow = true) ∧ (s.hears .fromDown = true) ∧ (s.rd CHN_LINK_OUT_back_ok = 1) ∧ (alive =
      d.alive.toNat ||| 2 ^ s.ownAddr) ∧ (fault = (if s.linkFault then d.fault.toNat ||| 2 ^ s.ownAddr else
      d.fault.toNat)) ∧ (heat = (if s.nextInGroup then max (s.rd THM_STATUS_level) d.heat.toNat else s.rd
      THM_STATUS_level)) ∧ (c = s.goodOut.crossFifo 8 (produceWord (d.alive.setWidth 64) false 0)) ∧ (t =
      (({ c with chain := { c.chain with statusIn := d } } : State).putStatus d))) ∧
    (∃ s : State, ∃ d : StatusIn, ∃ alive, ∃ fault, ∃ heat, ∃ c, ∃ t, (s.alive = true) ∧ (s.chainServes = true) ∧
      (s.statusWindow = true) ∧ (s.hears .fromDown = true) ∧ (s.rd CHN_LINK_OUT_back_ok = 1) ∧ (alive =
      d.alive.toNat ||| 2 ^ s.ownAddr) ∧ (fault = (if s.linkFault then d.fault.toNat ||| 2 ^ s.ownAddr else
      d.fault.toNat)) ∧ (heat = (if s.nextInGroup then max (s.rd THM_STATUS_level) d.heat.toNat else s.rd
      THM_STATUS_level)) ∧ (c = s.goodOut.crossFifo 8 (produceWord (d.alive.setWidth 64) false 0)) ∧ (t =
      (({ c with chain := { c.chain with statusIn := d } } : State).putStatus d)) ∧ (s.isHead = true) ∧ ∃ u, (u =
      t.noteLost alive)) ∧
    (∃ s : State, ∃ d : StatusIn, ∃ alive, ∃ fault, ∃ heat, ∃ c, ∃ t, (s.alive = true) ∧ (s.chainServes = true) ∧
      (s.statusWindow = true) ∧ (s.hears .fromDown = true) ∧ (s.rd CHN_LINK_OUT_back_ok = 1) ∧ (alive =
      d.alive.toNat ||| 2 ^ s.ownAddr) ∧ (fault = (if s.linkFault then d.fault.toNat ||| 2 ^ s.ownAddr else
      d.fault.toNat)) ∧ (heat = (if s.nextInGroup then max (s.rd THM_STATUS_level) d.heat.toNat else s.rd
      THM_STATUS_level)) ∧ (c = s.goodOut.crossFifo 8 (produceWord (d.alive.setWidth 64) false 0)) ∧ (t =
      (({ c with chain := { c.chain with statusIn := d } } : State).putStatus d)) ∧ (s.isHead = false)) ∧
    (∃ s : State, ∃ due, (due = s.chain.groupsPend.filter (fun g => s.plyReached g.2))) ∧
    (∃ s : State, (s.isHead = true) ∧ (s.chain.enum.isSome = true) ∧ (s.chain.upBack = true) ∧ ∃ t, (t = (((s.wr
      CHN_STATUS_state 2).wr CHN_GROUP_MAP_group_map s.chain.enumMap).raise CHN_EVENT_enum_done).deleteOwners)) ∧
    (∃ s : State, ∃ t, (s.alive = true) ∧ (s.hears .fromUp = true) ∧ (t = (if s.isHead then (s.goodIn.wr
      CHN_LINK_IN_locked 1).wr CLK_ISL_STATUS_chn_lock 1 else ((s.goodIn.wr CHN_LINK_IN_locked 1).wr
      CLK_ISL_STATUS_chn_lock 1).wr CLK_ISL_STATUS_sic_src 1))) ∧
    (∃ s : State, (s.alive = true) ∧ (s.rd CHN_LINK_OUT_driving = 1) ∧ (s.chain.training = true) ∧ (s.hears
      .fromDown = true)) ∧
    (∃ s : State, ∃ bits : FrameBits, ∃ n, ∃ t, (frameValid bits .fromUp = false) ∧ (s.samples .fromUp = true) ∧ (n
      = (if s.clk.ply ≤ s.chain.badInAt + 8 then s.chain.badIn + 1 else 1)) ∧ (t = (({ s with
      chain := { s.chain with heard := true, badIn := n, badInAt := s.clk.ply } } : State).inc
      CHN_LINK_IN_in_errors).raise CHN_EVENT_frame_error)) ∧
    (∃ s : State, ∃ bits : FrameBits, ∃ n, ∃ t, ∃ u, (frameValid bits .fromDown = false) ∧ (s.samples .fromDown =
      true) ∧ (n = (if s.clk.ply ≤ s.chain.badOutAt + 8 then s.chain.badOut + 1 else 1)) ∧ (t = ((s.takeDown
      none).inc CHN_LINK_OUT_out_errors).raise CHN_EVENT_frame_error) ∧ (u =
      { t with chain := { t.chain with badOut := n, badOutAt := s.clk.ply } })) :=
  ⟨⟨(base.wr CHN_STATUS_role 0), (by decide +kernel), (by decide +kernel), (by decide +kernel),
      (by decide +kernel), _, rfl⟩,
    ⟨({ base with chain := { base.chain with training := true } } : State), (by decide +kernel), _, rfl⟩,
    ⟨(atPly 7 { head base with
      chain := { base.chain with enum := some none, enumSeq := 0, upBack := true } }), 32, 0, 0,
      (by decide +kernel)⟩,
    ⟨(atPly 7 { head base with
      chain := { base.chain with enum := some none, enumSeq := 0, upBack := true } }), 33, 0, 0,
      (by decide +kernel)⟩,
    ⟨(atPly 7 (head base)), BitVec.ofNat 64 base.moduleSerial, 0, (by decide +kernel)⟩,
    ⟨base, 31, 0, 0, (by decide +kernel)⟩,
    ⟨base, 32, 0, 0, (by decide +kernel)⟩,
    ⟨({ head base with
      chain := { base.chain with enum := some none, enumSeq := 0, upBack := true } } : State), (by decide +kernel)⟩,
    ⟨((base.wr CHN_STATUS_role 2).wr CHN_STATUS_state 1), (by decide +kernel)⟩,
    ⟨(((base.wr CHN_STATUS_role 2).wr CHN_STATUS_state 1).wr GLB_LINK_link_up 0), (by decide +kernel)⟩,
    ⟨(follower 2).wr CHN_LINK_IN_in_ok 1, 0, _, (by decide +kernel), (by decide +kernel), (by decide +kernel),
      (by decide +kernel), (by decide +kernel), rfl⟩,
    ⟨(atPly 7 ((head base).wr CHN_LINK_OUT_back_ok 1)), (by decide +kernel)⟩,
    ⟨(atPly 7 ((head base).wr CHN_LINK_OUT_back_ok 0)), (by decide +kernel)⟩,
    ⟨(atPly 31 ((head base).wr CHN_LINK_OUT_back_ok 1)), ⟨3, 0, 0⟩, _, _, _, _, _, (by decide +kernel),
      (by decide +kernel), (by decide +kernel), (by decide +kernel), (by decide +kernel), rfl, rfl, rfl, rfl, rfl⟩,
    ⟨(atPly 31 ((head base).wr CHN_LINK_OUT_back_ok 1)), ⟨3, 0, 0⟩, _, _, _, _, _, (by decide +kernel),
      (by decide +kernel), (by decide +kernel), (by decide +kernel), (by decide +kernel), rfl, rfl, rfl, rfl, rfl,
      (by decide +kernel), _, rfl⟩,
    ⟨(atPly 31 (((follower 2).wr CHN_STATUS_members 2).wr CHN_LINK_OUT_back_ok 1)), ⟨3, 0, 0⟩, _, _, _, _, _,
      (by decide +kernel), (by decide +kernel), (by decide +kernel), (by decide +kernel), (by decide +kernel), rfl,
      rfl, rfl, rfl, rfl, (by decide +kernel)⟩,
    ⟨base, _, rfl⟩,
    ⟨({ head base with
      chain := { base.chain with enum := some none, enumSeq := 0, upBack := true } } : State), (by decide +kernel),
      (by decide +kernel), (by decide +kernel), _, rfl⟩,
    ⟨base, _, (by decide +kernel), (by decide +kernel), rfl⟩,
    ⟨({ atPly 7 ((head base).wr CHN_LINK_OUT_driving 1) with
      chain := { base.chain with training := true } } : State), (by decide +kernel)⟩,
    ⟨base, ⟨1, 0⟩, _, _, (by decide +kernel), (by decide +kernel), rfl, rfl⟩,
    ⟨(atPly 7 (head base)), ⟨1, 0⟩, _, _, _, (by decide +kernel), (by decide +kernel), rfl, rfl, rfl⟩⟩

set_option maxRecDepth 20000 in
/-- A state and operands for each clause of ChainPacketsComplete. -/
theorem witness_ChainPacketsComplete :
    (∃ s : State, ∃ t : State, ∃ p : Packet, (s.portLive = true) ∧ (p.dst = s.ownAddr) ∧ (t = (s.enterPkt p).inc
      CHN_PKT_pkt_in) ∧ (t.fatal = false) ∧ (t.rd PWR_STATE_fw_state ≠ 3) ∧ (t.inSequence = false)) ∧
    (∃ s : State, ∃ t : State, ∃ p : Packet, (s.portLive = true) ∧ (p.dst = s.ownAddr) ∧ (t = (s.enterPkt p).inc
      CHN_PKT_pkt_in) ∧ ∃ m, ∃ c, ∃ u, (t.answered p (fun c => c.relayed) = some (m, c, u))) ∧
    (∃ s : State, ∃ t : State, ∃ p : Packet, (s.portLive = true) ∧ (p.dst = s.ownAddr) ∧ (t = (s.enterPkt p).inc
      CHN_PKT_pkt_in) ∧ (t.isFollower = false)) ∧
    (∃ s : State, ∃ t : State, ∃ p : Packet, (s.portLive = true) ∧ (p.dst = s.ownAddr) ∧ (t = (s.enterPkt p).inc
      CHN_PKT_pkt_in) ∧ ∃ u, (u = t.exitDoze) ∧ (u.fatal = false) ∧ (u.inSequence = false) ∧ ((remoteReq p).len ≠
      0) ∧ (u.streamProfile (remoteReq p).profile = true) ∧ ((8 ≤ u.remoteBusy && 64 ≤ u.strm.remoteQ.length) =
      false)) ∧
    (∃ s : State, ∃ t : State, ∃ p : Packet, (s.portLive = true) ∧ (p.dst = s.ownAddr) ∧ (t = (s.enterPkt p).inc
      CHN_PKT_pkt_in) ∧ ∃ f, (t.remoteOf p = some f)) ∧
    (∃ s : State, ∃ t : State, ∃ p : Packet, (s.portLive = true) ∧ (p.dst = s.ownAddr) ∧ (t = (s.enterPkt p).inc
      CHN_PKT_pkt_in) ∧ ∃ f, (t.remoteOf p = some f) ∧ (fieldAt p.payload 8 1 ≠ stBusy)) ∧
    (∃ s : State, ∃ t : State, ∃ p : Packet, (s.portLive = true) ∧ (p.dst = s.ownAddr) ∧ (t = (s.enterPkt p).inc
      CHN_PKT_pkt_in) ∧ ∃ f, (t.remoteOf p = some f) ∧ (fieldAt p.payload 8 1 = stBusy)) ∧
    (∃ s : State, ∃ t : State, ∃ p : Packet, (s.portLive = true) ∧ (p.dst = s.ownAddr) ∧ (t = (s.enterPkt p).inc
      CHN_PKT_pkt_in) ∧ (t.isFollower = true) ∧ ∃ r, (r = State.portAccesses (p.fields.toNat / 2 ^ 32 % 256 == 2)
      (p.fields.toNat / 2 ^ 40 % 32) (p.fields.toNat % 2 ^ 32) p.payload t)) ∧
    (∃ s : State, ∃ t : State, ∃ p : Packet, (s.portLive = true) ∧ (p.dst = s.ownAddr) ∧ (t = (s.enterPkt p).inc
      CHN_PKT_pkt_in) ∧ ∃ m, ∃ c, ∃ u, (t.answered p (fun c => c.opcode == 0x0504 && !c.relayed) = some (m, c, u))) ∧
    (∃ s : State, ∃ t : State, ∃ p : Packet, (s.portLive = true) ∧ (p.dst = s.ownAddr) ∧ (t = (s.enterPkt p).inc
      CHN_PKT_pkt_in) ∧ (fieldAt p.payload 4 1 = 2) ∧ ∃ u, (u = (t.bar2Put bootRec (padTo 32
      p.payload)).bootServe)) ∧
    (∃ s : State, ∃ t : State, ∃ p : Packet, (s.portLive = true) ∧ (p.dst = s.ownAddr) ∧ (t = (s.enterPkt p).inc
      CHN_PKT_pkt_in) ∧ ∃ m, ∃ c, ∃ u, (t.answered p (fun c => c.opcode == 0x0505 && !c.relayed) = some (m, c, u))) ∧
    (∃ s : State, ∃ t : State, ∃ p : Packet, (s.portLive = true) ∧ (p.dst ≠ s.ownAddr) ∧ (t = (s.enterPkt p).passOn
      p)) ∧
    (∃ s : State, ∃ t : State, ∃ p : Packet, (s.portLive = true) ∧ (p.src = s.ownAddr) ∧ (t = (s.enterPkt p).inc
      CHN_PKT_pkt_in)) ∧
    (∃ s : State, ∃ t : State, ∃ p : Packet, (s.portLive = true) ∧ (p.src = s.ownAddr) ∧ (t = (s.enterPkt p).inc
      CHN_PKT_pkt_in) ∧ (t.chain.enum.isSome = true)) ∧
    (∃ s : State, ∃ t : State, ∃ p : Packet, (s.portLive = true) ∧ ∃ u, (u = s.enterPkt p) ∧ (p.src ≠ s.ownAddr) ∧
      (u.isFollower = true) ∧ (t = { u with chain := { u.chain with upLate := false } })) ∧
    (∃ s : State, ∃ t : State, ∃ p : Packet, (s.portLive = true) ∧ ∃ u, (u = s.enterPkt p) ∧ (p.src ≠ s.ownAddr) ∧
      (u.isFollower = true) ∧ (t = { u with
      chain := { u.chain with groupsPend := u.chain.groupsPend ++ [(fieldAt p.payload 0 4, fieldAt p.payload 4 8)] } })) ∧
    (∃ s : State, (s.portLive = true) ∧ ∃ id, ∃ f, ∃ a, (s.fetch id = some f) ∧ (f.stage = .retry a)) :=
  ⟨⟨(head (atPly 7 base)), _, ⟨0, 1, 0, 7, 0, []⟩, (by decide +kernel), (by decide +kernel), rfl, (by decide +kernel)⟩,
    ⟨(awaiting (wr' 0x0107 []) (head (atPly 7 base))), _, ⟨0, 1, 0, 7, 0, []⟩, (by decide +kernel), (by decide +kernel), rfl,
      _, wr' 0x0107 [], _, (answered_of (a := ⟨7, 1, .urgent⟩) (by decide +kernel) (by decide +kernel)
      (by decide +kernel))⟩,
    ⟨(head (atPly 7 base)), _, ⟨0, 1, 0, 7, 0, []⟩, (by decide +kernel), (by decide +kernel), rfl, (by decide +kernel)⟩,
    ⟨((head (atPly 7 base)).commitProfile 0 (bytes (prof 0))), _, ⟨0, 1, 0, 7, 0, bytes (List.replicate 28 0 ++ [1, 0, 0,
      0])⟩, (by decide +kernel), (by decide +kernel), rfl, _, rfl, (by decide +kernel)⟩,
    ⟨(fetching (.chan 0 0) (.remote 1) (head (atPly 7 base))), _, ⟨0, 1, 0, 7, 0, []⟩, (by decide +kernel),
      (by decide +kernel), rfl, aFetch 7 (.chan 0 0) (.remote 1), (by decide +kernel)⟩,
    ⟨(fetching (.chan 0 0) (.remote 1) (head (atPly 7 base))), _, ⟨0, 1, 0, 7, 0, []⟩, (by decide +kernel),
      (by decide +kernel), rfl, aFetch 7 (.chan 0 0) (.remote 1), (by decide +kernel)⟩,
    ⟨(fetching (.chan 0 0) (.remote 1) (head (atPly 7 base))), _, ⟨0, 1, 0, 7, 0, bytes [0, 0, 0, 0, 0, 0, 0, 0, stBusy]⟩,
      (by decide +kernel), (by decide +kernel), rfl, aFetch 7 (.chan 0 0) (.remote 1), (by decide +kernel)⟩,
    ⟨follower 2, _, ⟨0, 1, 0, 7, 0, []⟩, (by decide +kernel), (by decide +kernel), rfl, (by decide +kernel), _,
      rfl⟩,
    ⟨(awaiting (wc 0x0504 [1, 1, 16, 0, 0, 0, 0, 0]) (head (atPly 7 base))), _, ⟨0, 1, 0, 7, 0, []⟩, (by decide +kernel),
      (by decide +kernel), rfl, _, wc 0x0504 [1, 1, 16, 0, 0, 0, 0, 0], _, (answered_of (a := ⟨7, 1, .urgent⟩)
      (by decide +kernel) (by decide +kernel) (by decide +kernel))⟩,
    ⟨(head (atPly 7 base)), _, ⟨0, 1, 0, 7, 0, bytes [0, 0, 0, 0, 2]⟩, (by decide +kernel), (by decide +kernel), rfl,
      (by decide +kernel), _, rfl⟩,
    ⟨(awaiting (wc 0x0505 [1]) (head (atPly 7 base))), _, ⟨0, 1, 0, 7, 0, []⟩, (by decide +kernel), (by decide +kernel), rfl,
      _, wc 0x0505 [1], _, (answered_of (a := ⟨7, 1, .urgent⟩) (by decide +kernel) (by decide +kernel)
      (by decide +kernel))⟩,
    ⟨(head (atPly 7 base)), _, ⟨1, 0, 0, 7, 0, []⟩, (by decide +kernel), (by decide +kernel), rfl⟩,
    ⟨(head (atPly 7 base)), _, ⟨0, 0, 0, 7, 0, []⟩, (by decide +kernel), (by decide +kernel), rfl⟩,
    ⟨({ head (atPly 7 base) with
      chain := { base.chain with enum := some none, enumSeq := 0, upBack := true } } : State), _, ⟨0, 0, 0, 7, 0,
      []⟩, (by decide +kernel), (by decide +kernel), rfl, (by decide +kernel)⟩,
    ⟨follower 1, _, ⟨0, 1, 0, 7, 0, []⟩, (by decide +kernel), _, rfl, (by decide +kernel), (by decide +kernel),
      rfl⟩,
    ⟨follower 1, _, ⟨0, 1, 0, 7, 0, []⟩, (by decide +kernel), _, rfl, (by decide +kernel), (by decide +kernel),
      rfl⟩,
    ⟨(fetching (.chan 0 0) (.retry 1) (head (atPly 7 base))), (by decide +kernel), 7, aFetch 7 (.chan 0 0) (.retry 1), 1,
      (by decide +kernel)⟩⟩

set_option maxRecDepth 20000 in
/-- A state and operands for each clause of MediaEventsComplete. -/
theorem witness_MediaEventsComplete :
    (∃ s : State, ∃ p : Port, ∃ i : Nat, (i = portIdx p) ∧ (s.alive = true) ∧ (s.scanOwns = false) ∧ (s.slotState i
      = slEmpty)) ∧
    (∃ s : State, ∃ p : Port, ∃ i : Nat, (i = portIdx p) ∧ (s.scanOwns = false) ∧ (s.slotState i ≠ slEmpty)) ∧
    (∃ s : State, ∃ p : Port, ∃ i : Nat, (i = portIdx p) ∧ (s.pwr.vccPending.getD i false = true)) ∧
    (∃ s : State, ∃ p : Port, ∃ i : Nat, (i = portIdx p) ∧ ∃ l, ∃ t, ((s.port i).pulse = some l) ∧ (t = (s.updPort
      i (fun x => { x with pulse := none })).raisei SLOT_EVENT_eject_done i)) ∧
    (∃ s : State, ∃ p : Port, ∃ i : Nat, (i = portIdx p) ∧ ((s.port i).drain.isSome = true) ∧ (s.slotState i =
      slUnmounting) ∧ (s.slotDrained i = true) ∧ (s.tbl.orphans.any (fun e => e.unmount && e.slot == i) = false)) ∧
    (∃ s : State, ∃ p : Port, ∃ i : Nat, (i = portIdx p) ∧ ∃ e, ∃ es, ∃ o : State, (s.tbl.orphans = e :: es) ∧
      (e.slot = i) ∧ (o = ({ s with
      tbl := { s.tbl with orphans := es, lastPly := some s.clk.ply } } : State).commitOrphan i) ∧ (e.unmount =
      false)) ∧
    (∃ s : State, ∃ p : Port, ∃ i : Nat, (i = portIdx p) ∧ ∃ e, ∃ es, ∃ o : State, ∃ d, ∃ t, (s.tbl.orphans = e ::
      es) ∧ (e.slot = i) ∧ (o = ({ s with
      tbl := { s.tbl with orphans := es, lastPly := some s.clk.ply } } : State).commitOrphan i) ∧ (e.unmount =
      true) ∧ ((o.port i).drain = some d) ∧ (t = ((o.updPort i (fun x => { x with drain := none })).slotOff
      i).setSlotState i slPresent)) ∧
    (∃ s : State, ∃ p : Port, ∃ i : Nat, (i = portIdx p) ∧ ∃ die : Fin 8, ∃ k, ∃ o, ∃ a, ∃ r, ∃ behind, ∃ t, (r =
      s.dieSees a) ∧ ((s.port i).array die.val = some k) ∧ ((s.port i).ops[k]? = some o) ∧ (o.moves = 0 ∨ s.busFree
      i = true) ∧ (s.lateFinal i o = false) ∧ (behind = ((s.port i).first die.val != some k)) ∧ (o.use ≠ .expert) ∧
      (t = (s.busMoves i o.moves).issue i die.val ((s.port i).cmdsOf o behind)) ∧ (o.kind = .read) ∧ (o.use =
      .mount)) ∧
    (∃ s : State, ∃ p : Port, ∃ i : Nat, (i = portIdx p) ∧ ∃ die : Fin 8, ∃ k, ∃ o, ∃ a, ∃ r, ∃ behind, ∃ t, (r =
      s.dieSees a) ∧ ((s.port i).array die.val = some k) ∧ ((s.port i).ops[k]? = some o) ∧ (o.moves = 0 ∨ s.busFree
      i = true) ∧ (s.lateFinal i o = false) ∧ (behind = ((s.port i).first die.val != some k)) ∧ (o.use ≠ .expert) ∧
      (t = (s.busMoves i o.moves).issue i die.val ((s.port i).cmdsOf o behind)) ∧ ∃ m, ∃ page : List Byte, (o.kind
      = .program page) ∧ (o.use = .page m)) ∧
    (∃ s : State, ∃ p : Port, ∃ i : Nat, (i = portIdx p) ∧ ∃ die : Fin 8, ∃ k, ∃ o, ∃ a, ∃ r, ∃ behind, ∃ t, (r =
      s.dieSees a) ∧ ((s.port i).array die.val = some k) ∧ ((s.port i).ops[k]? = some o) ∧ (o.moves = 0 ∨ s.busFree
      i = true) ∧ (s.lateFinal i o = false) ∧ (behind = ((s.port i).first die.val != some k)) ∧ (o.use ≠ .expert) ∧
      (t = (s.busMoves i o.moves).issue i die.val ((s.port i).cmdsOf o behind)) ∧ ∃ m, (o.kind = .erase) ∧ (o.use =
      .save m)) ∧
    (∃ s : State, ∃ p : Port, ∃ i : Nat, (i = portIdx p) ∧ ∃ die : Fin 8, ∃ k, ∃ o, ∃ a, ∃ r, ∃ behind, ∃ t, (r =
      s.dieSees a) ∧ ((s.port i).array die.val = some k) ∧ ((s.port i).ops[k]? = some o) ∧ (o.moves = 0 ∨ s.busFree
      i = true) ∧ (s.lateFinal i o = false) ∧ (behind = ((s.port i).first die.val != some k)) ∧ (o.use ≠ .expert) ∧
      (t = (s.busMoves i o.moves).issue i die.val ((s.port i).cmdsOf o behind)) ∧ (o.kind = .param) ∧ (o.use =
      .mount)) ∧
    (∃ s : State, ∃ p : Port, ∃ i : Nat, (i = portIdx p) ∧ ∃ die : Fin 8, ∃ k, ∃ o, ∃ data : List Byte, ∃ page :
      List Byte, ∃ t, (page = s.pageSees data) ∧ (s.dieRuns i die.val = some k) ∧ ((s.port i).ops[k]? = some o) ∧
      (o.kind = .read) ∧ (o.ready = true) ∧ (s.busFree i = true) ∧ (t = (((s.issue i die.val (s.dataCmds i
      o)).dropOp i k).addi SLOT_READS_reads i 1).busMoves i page.length) ∧ (o.use = .mount)) ∧
    (∃ s : State, ∃ p : Port, ∃ i : Nat, (i = portIdx p) ∧ ∃ die : Fin 8, ∃ k, ∃ o, ∃ data : List Byte, ∃ page :
      List Byte, ∃ t, (page = s.pageSees data) ∧ (s.dieRuns i die.val = some k) ∧ ((s.port i).ops[k]? = some o) ∧
      (o.kind = .read) ∧ (o.ready = true) ∧ (s.busFree i = true) ∧ (t = (((s.issue i die.val (s.dataCmds i
      o)).dropOp i k).addi SLOT_READS_reads i 1).busMoves i page.length) ∧ ∃ id, ∃ f, (o.use = .fetch id) ∧
      (t.fetch id = some f) ∧ (f.stage = .media)) ∧
    (∃ s : State, ∃ p : Port, ∃ i : Nat, (i = portIdx p) ∧ ∃ die : Fin 8, ∃ k, ∃ o, ∃ data : List Byte, ∃ page :
      List Byte, ∃ t, (page = s.pageSees data) ∧ (s.dieRuns i die.val = some k) ∧ ((s.port i).ops[k]? = some o) ∧
      (o.kind = .read) ∧ (o.ready = true) ∧ (s.busFree i = true) ∧ (t = (((s.issue i die.val (s.dataCmds i
      o)).dropOp i k).addi SLOT_READS_reads i 1).busMoves i page.length) ∧ ∃ m, (o.use = .save m)) ∧
    (∃ s : State, ∃ p : Port, ∃ i : Nat, (i = portIdx p) ∧ ∃ die : Fin 8, ∃ k, ∃ o, ∃ data : List Byte, ∃ page :
      List Byte, ∃ t, (page = s.pageSees data) ∧ (s.dieRuns i die.val = some k) ∧ ((s.port i).ops[k]? = some o) ∧
      (o.kind = .read) ∧ (o.ready = true) ∧ (s.busFree i = true) ∧ (t = (((s.issue i die.val (s.dataCmds i
      o)).dropOp i k).addi SLOT_READS_reads i 1).busMoves i page.length) ∧ (o.use = .expert)) ∧
    (∃ s : State, ∃ p : Port, ∃ i : Nat, (i = portIdx p) ∧ ∃ r, ∃ reply : List Byte, ∃ frame : List Byte, ∃ n,
      ((s.tag i).run = some r) ∧ (frame = s.tagSees reply) ∧ (n = fieldAt frame 1 2) ∧ (n ≤ 512) ∧ (frame.length =
      n + 7) ∧ (crc32 (frame.take (n + 3)) = fieldAt frame (n + 3) 4) ∧ (fieldAt frame 0 1 ≤ 3)) ∧
    (∃ s : State, ∃ p : Port, ∃ i : Nat, (i = portIdx p) ∧ ∃ a, ((s.tag i).auth = some a) ∧ (a.stage = .pause) ∧
      ((s.tag i).run = none)) ∧
    (∃ s : State, ∃ p : Port, ∃ i : Nat, (i = portIdx p) ∧ (s.rdi SLOT_STATUS_vcc_on i ≠ 0) ∧
      (s.pwr.vccPending.getD i false = false) ∧ ((s.port i).mount = none) ∧ ((s.port i).vccGood = false)) ∧
    (∃ s : State, ∃ p : Port, ∃ i : Nat, (i = portIdx p) ∧ (s.rdi SLOT_STATUS_vcc_on i ≠ 0) ∧
      (s.pwr.vccPending.getD i false = false) ∧ ((s.port i).mount = none) ∧ ((s.port i).vccGood = true)) ∧
    (∃ s : State, ∃ p : Port, ∃ i : Nat, (i = portIdx p) ∧ (s.rdi SLOT_STATUS_vcc_on i ≠ 0) ∧
      (s.pwr.vccPending.getD i false = false) ∧ ∃ r, ((s.port i).mount = some r) ∧ (r.step = 1)) ∧
    (∃ s : State, ∃ p : Port, ∃ i : Nat, (i = portIdx p) ∧ (s.rdi SLOT_STATUS_vcc_on i ≠ 0) ∧
      (s.pwr.vccPending.getD i false = false) ∧ ∃ r, ((s.port i).mount = some r) ∧ (r.step = 3)) :=
  ⟨⟨base, .b, _, rfl, (by decide +kernel)⟩,
    ⟨(slot slReady base), .a, _, rfl, (by decide +kernel)⟩,
    ⟨({ base with pwr := { base.pwr with vccPending := [false, true] } } : State), .b, _, rfl, (by decide +kernel)⟩,
    ⟨(port0 { upPort with pulse := some [(none, 5)] } base), .a, _, rfl, [(none, 5)], _, (by decide +kernel), rfl⟩,
    ⟨((port0 { upPort with drain := some ⟨none, false⟩ } base).wri SLOT_STATUS_state 0 slUnmounting), .a, _, rfl,
      (by decide +kernel)⟩,
    ⟨({ base with tbl := { base.tbl with orphans := [⟨1, 0, false⟩] } } : State), .b, _, rfl, ⟨1, 0, false⟩, [], _,
      (by decide +kernel), (by decide +kernel), rfl, (by decide +kernel)⟩,
    ⟨({ port0 { upPort with drain := some ⟨none, false⟩ } base with
      tbl := { base.tbl with orphans := [⟨0, 0, true⟩] } } : State), .a, _, rfl, ⟨0, 0, true⟩, [], _, ⟨none,
      false⟩, _, (by decide +kernel), (by decide +kernel), rfl, (by decide +kernel), (by decide +kernel), rfl⟩,
    ⟨(dieRun .read .mount base), .a, _, rfl, 7, 0, ⟨7, 0, .read, .mount, false, false⟩, ⟨0, [], false, none⟩, _, _,
      _, rfl, (by decide +kernel), (by decide +kernel), (by decide +kernel), (by decide +kernel), rfl,
      (by decide +kernel), rfl, (by decide +kernel)⟩,
    ⟨(dieRun (.program []) (.page .media) base), .a, _, rfl, 7, 0, ⟨7, 0, .program [], .page .media, false, false⟩,
      ⟨0, [], false, none⟩, _, _, _, rfl, (by decide +kernel), (by decide +kernel), (by decide +kernel),
      (by decide +kernel), rfl, (by decide +kernel), rfl, .media, [], (by decide +kernel)⟩,
    ⟨(dieRun .erase (.save .media) base), .a, _, rfl, 7, 0, ⟨7, 0, .erase, .save .media, false, false⟩, ⟨0, [],
      false, none⟩, _, _, _, rfl, (by decide +kernel), (by decide +kernel), (by decide +kernel),
      (by decide +kernel), rfl, (by decide +kernel), rfl, .media, (by decide +kernel)⟩,
    ⟨(dieRun .param .mount base), .a, _, rfl, 7, 0, ⟨7, 0, .param, .mount, false, false⟩, ⟨0, [], false, none⟩, _,
      _, _, rfl, (by decide +kernel), (by decide +kernel), (by decide +kernel), (by decide +kernel), rfl,
      (by decide +kernel), rfl, (by decide +kernel)⟩,
    ⟨(dieRead .mount base), .a, _, rfl, 7, 0, ⟨7, 0, .read, .mount, true, false⟩, [], _, _, rfl,
      (by decide +kernel), (by decide +kernel), (by decide +kernel), (by decide +kernel), (by decide +kernel), rfl,
      (by decide +kernel)⟩,
    ⟨(dieRead (.fetch 7) (fetchIs (aFetch 7 (.chan 0 0) .media) base)), .a, _, rfl, 7, 0, ⟨7, 0, .read, .fetch 7,
      true, false⟩, [], _, _, rfl, (by decide +kernel), (by decide +kernel), (by decide +kernel),
      (by decide +kernel), (by decide +kernel), rfl, 7, aFetch 7 (.chan 0 0) .media, (by decide +kernel)⟩,
    ⟨(dieRead (.save .media) base), .a, _, rfl, 7, 0, ⟨7, 0, .read, .save .media, true, false⟩, [], _, _, rfl,
      (by decide +kernel), (by decide +kernel), (by decide +kernel), (by decide +kernel), (by decide +kernel), rfl,
      .media, (by decide +kernel)⟩,
    ⟨(dieRead .expert base), .a, _, rfl, 7, 0, ⟨7, 0, .read, .expert, true, false⟩, [], _, _, rfl,
      (by decide +kernel), (by decide +kernel), (by decide +kernel), (by decide +kernel), (by decide +kernel), rfl,
      (by decide +kernel)⟩,
    ⟨(base.updTag 0 (fun t => { t with run := some ⟨1, [], 0, none⟩ })), .a, _, rfl, ⟨1, [], 0, none⟩, bytes [3, 0,
      0] ++ leBytes 4 (crc32 (bytes [3, 0, 0])), _, _, (by decide +kernel), rfl, rfl, (by decide +kernel)⟩,
    ⟨(base.updTag 0 (fun t => { t with auth := some ⟨.mount, [], .pause, [], 0, false⟩ })), .a, _, rfl, ⟨.mount,
      [], .pause, [], 0, false⟩, (by decide +kernel)⟩,
    ⟨((port0 { upPort with vccGood := false } base).wri SLOT_STATUS_vcc_on 0 1), .a, _, rfl, (by decide +kernel)⟩,
    ⟨((port0 upPort base).wri SLOT_STATUS_vcc_on 0 1), .a, _, rfl, (by decide +kernel)⟩,
    ⟨((port0 { upPort with mount := some ⟨.media, false, 0, 1, [], [], []⟩ } base).wri SLOT_STATUS_vcc_on 0 1), .a,
      _, rfl, (by decide +kernel), (by decide +kernel), ⟨.media, false, 0, 1, [], [], []⟩, (by decide +kernel)⟩,
    ⟨((port0 { upPort with mount := some ⟨.media, false, 0, 3, [], [], []⟩ } base).wri SLOT_STATUS_vcc_on 0 1), .a,
      _, rfl, (by decide +kernel), (by decide +kernel), ⟨.media, false, 0, 3, [], [], []⟩, (by decide +kernel)⟩⟩

set_option maxRecDepth 20000 in
/-- A state and operands for each clause of FetchGuardIntegEventsComplete. -/
theorem witness_FetchGuardIntegEventsComplete :
    (∃ s : State, ∃ id : Nat, ∃ f : Fetch, ∃ k, ∃ x, ∃ ch, ∃ n, (s.fetch id = some f) ∧ (f.keySlot = some k) ∧
      (f.owner = .chan ch n) ∧ (f.sectors.find? (fun x => x.index == f.next) = some x) ∧ (f.stage = .media) ∧
      (f.held = []) ∧ (s.keyBad k = false) ∧ (x.poison.contains true = false)) ∧
    (∃ s : State, ∃ id : Nat, ∃ f : Fetch, ∃ k, ∃ x, ∃ ch, ∃ n, (s.fetch id = some f) ∧ (f.keySlot = some k) ∧
      (f.owner = .chan ch n) ∧ (f.sectors.find? (fun x => x.index == f.next) = some x) ∧ (f.stage = .media) ∧
      (f.held = []) ∧ (s.keyBad k = true ∨ x.poison.contains true = true) ∧ ∃ bad, (bad = (fun w => s.keyBad k ||
      x.poison.getD (w / 128) false))) ∧
    (∃ s : State, ∃ c : Fin 16, ∃ f : Fetch, (s.headFetch c.val = some f) ∧ (f.stage = .ended) ∧ (s.cplRoom c.val =
      true) ∧ (s.dmaOk = true)) ∧
    (∃ s : State, ∃ c : Fin 16, ∃ f : Fetch, ∃ e, ∃ t, ∃ a, ∃ b, ((s.chan c.val).entry = some e) ∧ (s.chOpen c.val
      = true) ∧ (s.chHalted c.val = false) ∧ ((s.chan c.val).closing = false) ∧ (s.inSequence = false) ∧ (s.chBusy
      c.val < 4) ∧ (s.chanFails c.val = false) ∧ (t = s.rdi STRM_CH_REQ_CNT_taken c.val) ∧ (a = (s.setChan c.val
      { s.chan c.val with entry := none }).wri STRM_CH_REQ_CNT_taken c.val (t + 1)) ∧ (f = entryFetch s.strm.nextId
      c.val t (s.rdi STRM_CH_CFG_profile c.val) e) ∧ (b = ({ a with
      strm := { a.strm with fetches := a.strm.fetches ++ [f], nextId := a.strm.nextId + 1 } } : State))) ∧
    (∃ s : State, ∃ id : Nat, ∃ f : Fetch, ∃ r, (s.fetch id = some f) ∧ (f.stage = .media) ∧ (f.keySlot = none) ∧
      (s.guardRuns = true) ∧ (r = s.bindExtent (extSlot (f.desc.getD 0)) (extId (f.desc.getD 0)))) ∧
    (∃ s : State, ∃ id : Nat, ∃ f : Fetch, (s.fetch id = some f) ∧ (f.stage ≠ .ended)) ∧
    (∃ s : State, ∃ p, ∃ i, ∃ m, ∃ r, ∃ k, ∃ o, (i = portIdx p) ∧ (s.saveRun i m = some r) ∧ (s.dieRuns i 0 = some
      k) ∧ ((s.port i).ops[k]? = some o) ∧ (o.use = .save m) ∧ (r.phase = .final) ∧ (s.busFree i = true) ∧
      (r.issued = true ∨ ¬ s.inSequence = true)) ∧
    (∃ s : State, ∃ p, ∃ i, (i = portIdx p) ∧ (s.rd SEC_CFG_reauth_s ≠ 0) ∧ (s.rdi SEC_CTX_ctx_valid i = 1) ∧
      (s.rdi SEC_CTX_tag_state i < 8)) ∧
    (∃ s : State, ∃ p, 8 ≤ s.rdi SEC_CTX_tag_state (portIdx p)) ∧
    (∃ s : State, ∃ k : Fin 85, (s.rd SEC_STATUS_guard_running = 1) ∧ (s.keyValid k.val = true) ∧ (s.keyBad k.val =
      true) ∧ (s.keyBound k.val = false)) ∧
    (∃ s : State, (s.steepRuns = true) ∧ ∃ sid, ∃ w, (s.steepFrom 20 (s.rd INTEG_STEEP_POS_pos_sid) (s.rd
      INTEG_STEEP_POS_pos_word) = some (sid, w)) ∧ (s.steepRoom sid = true)) ∧
    (∃ s : State, (s.steepRuns = true) ∧ ∃ sid, ∃ w, (s.steepFrom 20 (s.rd INTEG_STEEP_POS_pos_sid) (s.rd
      INTEG_STEEP_POS_pos_word) = some (sid, w)) ∧ (s.steepRoom sid = false)) ∧
    (∃ s : State, (s.steepRuns = true) ∧ (s.steepFrom 20 (s.rd INTEG_STEEP_POS_pos_sid) (s.rd
      INTEG_STEEP_POS_pos_word) = none)) ∧
    (∃ s : State, ∃ r, ∃ t, (s.integ.scrub = some r) ∧ (t = (if r.read then s else s.scrubRead r)) ∧
      (t.integ.repairs.any (·.scrub) = true)) ∧
    (∃ s : State, ∃ r, ∃ t, ∃ u, (s.integ.scrub = some r) ∧ (t = (if r.read then s else s.scrubRead r)) ∧
      (t.integ.repairs.any (·.scrub) = false) ∧ (u = t.dropScrub.raise INTEG_EVENT_scrub_done)) ∧
    (∃ s : State, ∃ a, ∃ img, (s.integ.audit = some a) ∧ (a.shadow = some img)) :=
  ⟨⟨(fetchIs { aFetch 7 (.chan 0 0) .media with
      keySlot := some 3, sectors := [⟨0, [], []⟩] } base), 7, { aFetch 7 (.chan 0 0) .media with
      keySlot := some 3, sectors := [⟨0, [], []⟩] }, 3, ⟨0, [], []⟩, 0, 0, (by decide +kernel)⟩,
    ⟨(fetchIs { aFetch 7 (.chan 0 0) .media with
      keySlot := some 3, sectors := [⟨0, [], [true]⟩] } base), 7, { aFetch 7 (.chan 0 0) .media with
      keySlot := some 3, sectors := [⟨0, [], [true]⟩] }, 3, ⟨0, [], [true]⟩, 0, 0, (by decide +kernel),
      (by decide +kernel), (by decide +kernel), (by decide +kernel), (by decide +kernel), (by decide +kernel),
      (by decide +kernel), _, rfl⟩,
    ⟨(fetchIs (aFetch 7 (.chan 15 0) .ended) base), 15, aFetch 7 (.chan 15 0) .ended, (by decide +kernel)⟩,
    ⟨((base.setBit STRM_STATUS_open 0 15 true).setChan 15 { Channel.empty with entry := some [] }), 15, _, [], _,
      _, _, (by decide +kernel), (by decide +kernel), (by decide +kernel), (by decide +kernel),
      (by decide +kernel), (by decide +kernel), (by decide +kernel), rfl, rfl, rfl, rfl⟩,
    ⟨(fetchIs (aFetch 7 (.chan 0 0) .media) base), 7, aFetch 7 (.chan 0 0) .media, _, (by decide +kernel),
      (by decide +kernel), (by decide +kernel), (by decide +kernel), rfl⟩,
    ⟨(fetchIs (aFetch 7 (.chan 0 0) .media) base), 7, aFetch 7 (.chan 0 0) .media, (by decide +kernel)⟩,
    ⟨(port0 { upPort with
      saves := [⟨.media, .write, 0, 0, 0, .final, [], [], false⟩],
      ops := [⟨0, 0, .program [], .save .media, false, false⟩] } base), .a, _, .media, ⟨.media, .write, 0, 0, 0,
      .final, [], [], false⟩, 0, ⟨0, 0, .program [], .save .media, false, false⟩, rfl, (by decide +kernel)⟩,
    ⟨((base.wr SEC_CFG_reauth_s 5).wri SEC_CTX_ctx_valid 0 1), .a, _, rfl, (by decide +kernel)⟩,
    ⟨(base.wri SEC_CTX_tag_state 0 8), .a, (by decide +kernel)⟩,
    ⟨((base.storePoison sidKey (keyOff 84 / 8) (List.replicate 8 0)).wri SEC_KEY_META_valid 84 1), 84,
      (by decide +kernel)⟩,
    ⟨((own 0 0 (tbl 0 1 base)).wr INTEG_STEEP_CTRL_steep_en 1), (by decide +kernel), 1, 0, (by decide +kernel),
      (by decide +kernel)⟩,
    ⟨((own 0 0 (tbl 0 1 ({ base with integ := { base.integ with steepBytes := 256000 } } : State))).wr
      INTEG_STEEP_CTRL_steep_en 1), (by decide +kernel), 1, 0, (by decide +kernel), (by decide +kernel)⟩,
    ⟨(((base.wr INTEG_STEEP_CTRL_steep_en 1).wr INTEG_STEEP_POS_pos_sid 0x73).wr INTEG_STEEP_POS_pos_word
      0xFFFFFF), (by decide +kernel)⟩,
    ⟨({ base with
      integ := { base.integ with scrub := some ⟨0x10, 0, 32, true, none, true⟩, repairs := [⟨0x10, 0, 1, [], true⟩] } }
      : State), ⟨0x10, 0, 32, true, none, true⟩, _, (by decide +kernel), rfl, (by decide +kernel)⟩,
    ⟨({ base with
      integ := { base.integ with scrub := some ⟨0x10, 0, 32, true, none, false⟩ } } : State), ⟨0x10, 0, 32, true,
      none, false⟩, _, _, (by decide +kernel), rfl, (by decide +kernel), rfl⟩,
    ⟨({ base with
      integ := { base.integ with audit := some ⟨0, false, 0, 0, 0, 0, none, 0, some [], false⟩ } } : State), ⟨0,
      false, 0, 0, 0, 0, none, 0, some [], false⟩, [], (by decide +kernel)⟩⟩

set_option maxRecDepth 20000 in
/-- A state and operands for each clause of PinEventsComplete. -/
theorem witness_PinEventsComplete :
    (∃ s : State, ∃ n : Fin 24, ∃ l : Bool, (s.padsLive = true) ∧ (s.padCanShow n.val l = true)) ∧
    (∃ s : State, ∃ n : Fin 24, (s.wakeSampled n.val = true)) ∧
    (∃ s : State, ∃ n : Fin 24, ∃ l : Bool, ∃ t, (t = s.filterShows n.val l)) ∧
    (∃ s : State, ∃ n : Fin 24, ∃ l : Bool, ∃ t, (t = s.filterShows n.val l) ∧ (s.rdi PIN_PAD_CFG_debounce_ms n.val
      = 0)) ∧
    (∃ s : State, ∃ n : Fin 24, ∃ l : Bool, ∃ t, (t = s.filterShows n.val l) ∧ (s.rdi PIN_PAD_CFG_debounce_ms n.val
      ≠ 0)) ∧
    (∃ s : State, (s.padsLive = true)) ∧
    (∃ s : State, ∃ u : Fin 2, (s.padsLive = true) ∧ (s.scanOwns = false) ∧ (s.rdi PIN_Uu_CFG_en u.val = 1) ∧
      (s.carried (1 + 5 * u.val) = true)) ∧
    (∃ s : State, ∃ u : Fin 2, (s.padsLive = true) ∧ (s.scanOwns = false) ∧ (s.rdi PIN_Uu_CFG_en u.val = 1) ∧
      (s.carried (1 + 5 * u.val) = true) ∧ (64 ≤ (s.uart u.val).rx.length)) ∧
    (∃ s : State, ∃ u : Fin 2, ∃ b : Byte, ∃ t, (s.padsLive = true) ∧ (s.scanOwns = false) ∧ (s.rdi PIN_Uu_CFG_en
      u.val = 1) ∧ (s.carried (1 + 5 * u.val) = true) ∧ ((s.uart u.val).rx.length < 64) ∧ (t = (s.setUart u.val
      { s.uart u.val with
      rx := (s.uart u.val).rx ++ [if s.rdi PIN_Uu_CFG_bits7 u.val = 1 then b &&& 0x7F else b] }).raise (if u.val =
      0 then PIN_EVENT_u1_rx else PIN_EVENT_u2_rx))) ∧
    (∃ s : State, ∃ u : Fin 2, ∃ t, ((s.uart u.val).cur.isSome = true) ∧ (t = (s.setUart u.val
      { s.uart u.val with cur := none }).uartPump u.val) ∧ ((t.uart u.val).cur.isSome = true)) ∧
    (∃ s : State, ∃ u : Fin 2, ∃ t, ((s.uart u.val).cur.isSome = true) ∧ (t = (s.setUart u.val
      { s.uart u.val with cur := none }).uartPump u.val) ∧ ((t.uart u.val).cur = none) ∧ ((t.uart u.val).tx = [])) ∧
    (∃ s : State, ∃ u : Fin 2, ((s.uart u.val).de = true) ∧ ((s.uart u.val).cur = none) ∧ ((s.uart u.val).tx = [])) ∧
    (∃ s : State, ∃ r, ∃ m, ∃ o : Fin 6, ∃ wr, ∃ data, ∃ t, (s.pins.i2c = some r) ∧ (r.mb = some m) ∧ (s.i2cCan r
      o.val wr data = true) ∧ (t = ((((({ s with
      pins := { s.pins with i2c := none, i2cBus := i2cActs r o.val wr data } } : State).wr PIN_I2C_STATUS_busy
      0).wr PIN_STATUS_i2c_busy 0).wr PIN_I2C_STATUS_outcome o.val).wr PIN_I2C_STATUS_count (wr + data.length)))) ∧
    (∃ s : State, ∃ k : Fin 4, (s.rdi PIN_PWM_PER_en k.val = 1)) ∧
    (∃ s : State, ∃ hit : Nat → Bool, (hit = (fun k => s.rdi PIN_PWM_PER_en k == 1 && s.rdi
      PIN_PWM_PER_kill_en k == 1 && !(s.pwm k).killed)) ∧ (s.sigIn 17 = false) ∧ ((List.range 4).any hit = true)) ∧
    (∃ s : State, ∃ v, ∃ left, ∃ t, (s.padsLive = true) ∧ (s.rd PIN_TMR_CTRL_en = 1) ∧ ((s.rd PIN_TMR_CTRL_clk_sel
      = 0 ∧ left = s.pins.tclk) ∨ (s.rd PIN_TMR_CTRL_clk_sel = 1 ∧ s.pins.tclk = left + (s.rd PIN_TMR_CTRL_prescale
      + 1))) ∧ (v = (s.rd PIN_TMR_COUNT_count + 1) % 2 ^ 32) ∧ (t =
      (({ s with pins := { s.pins with tcmp := s.tcmpNext v, tclk := left } } : State).wr PIN_TMR_COUNT_count v))) ∧
    (∃ s : State, ∃ l : Bool, ∃ e : Fin 8, (s.edgeOn (18 + e.val) (s.rdi PIN_TCFG_cap_edge e.val) l = true)) ∧
    (∃ s : State, ∃ u : Fin 2, ∃ gap, ∃ gaps, ∃ t, (s.padsLive = true) ∧ (s.scanOwns = false) ∧ (s.fanOn u.val =
      true) ∧ (s.carried (37 + u.val) = true) ∧ (s.sigIn (37 + u.val) = false) ∧ ((s.fan u.val).seen = true) ∧ (0 <
      gap) ∧ (gap ≤ 25000000) ∧ (gaps = ((s.fan u.val).gaps ++ [gap]).drop ((s.fan u.val).gaps.length + 1 - 8)) ∧
      (t = ({ s with
      pins := { s.pins with fans := listSet s.pins.fans u.val { seen := true, gaps := gaps } } } : State))) ∧
    (∃ s : State, ∃ u : Fin 2, (s.padsLive = true) ∧ (s.scanOwns = false) ∧ (s.fanOn u.val = true) ∧ (s.carried (37
      + u.val) = true) ∧ (s.sigIn (37 + u.val) = false) ∧ ((s.fan u.val).seen = false)) ∧
    (∃ s : State, ∃ u : Fin 2, (s.fanOn u.val = true) ∧ ((s.fan u.val).seen = true ∨ s.rdi PIN_FAN_stalled u.val =
      0)) ∧
    (∃ s : State, ∃ l : Bool, ∃ e : Fin 8, (s.edgeOn (39 + e.val) (bitsOf (s.rd PIN_UIN_CFG_uin_edge) (2 * e.val)
      2) l = true)) :=
  ⟨⟨base, 23, true, (by decide +kernel)⟩,
    ⟨(base.wr PWR_STATE_state 7).wri PIN_WAKE_en 0 1, 0, (by decide +kernel)⟩,
    ⟨base, 23, true, _, rfl⟩,
    ⟨base, 23, true, _, rfl, (by decide +kernel)⟩,
    ⟨base.wri PIN_PAD_CFG_debounce_ms 23 255, 23, true, _, rfl, (by decide +kernel)⟩,
    ⟨base, (by decide +kernel)⟩,
    ⟨(sig 0 6 (uart2 ⟨[], [], none, false, []⟩ base)), 1, (by decide +kernel)⟩,
    ⟨(sig 0 6 (uart2 ⟨[], List.replicate 64 0, none, false, []⟩ base)), 1, (by decide +kernel)⟩,
    ⟨(sig 0 6 (uart2 ⟨[], List.replicate 63 0, none, false, []⟩ base)), 1, 0x80, _, (by decide +kernel),
      (by decide +kernel), (by decide +kernel), (by decide +kernel), (by decide +kernel), rfl⟩,
    ⟨(sig 0 6 (uart2 ⟨[5], [], some [true], false, []⟩ base)), 1, _, (by decide +kernel), rfl, (by decide +kernel)⟩,
    ⟨(sig 0 6 (uart2 ⟨[], [], some [true], false, []⟩ base)), 1, _, (by decide +kernel), rfl, (by decide +kernel)⟩,
    ⟨(sig 0 6 (uart2 ⟨[], [], none, true, []⟩ base)), 1, (by decide +kernel)⟩,
    ⟨({ sig 0 11 base with
      pins := { base.pins with i2c := some ⟨some .media, 0x50, [], 1⟩ } } : State), ⟨some .media, 0x50, [], 1⟩,
      .media, 5, 0, [], _, (by decide +kernel), (by decide +kernel), (by decide +kernel), rfl⟩,
    ⟨(base.wri PIN_PWM_PER_en 3 1), 3, (by decide +kernel)⟩,
    ⟨(sig 0 17 ((base.wri PIN_PWM_PER_en 3 1).wri PIN_PWM_PER_kill_en 3 1)), _, rfl, (by decide +kernel)⟩,
    ⟨(base.wr PIN_TMR_CTRL_en 1), _, _, _, (by decide +kernel), (by decide +kernel), Or.inl ⟨(by decide +kernel),
      rfl⟩, rfl, rfl⟩,
    ⟨(sig 0 25 (base.wri PIN_TCFG_cap_edge 7 2)), false, 7, (by decide +kernel)⟩,
    ⟨({ sig 0 38 (base.wr PIN_FAN_CFG_en1 1) with
      pins := { base.pins with fans := [⟨false, []⟩, ⟨true, [5]⟩] } } : State), 1, 25000000, _, _,
      (by decide +kernel), (by decide +kernel), (by decide +kernel), (by decide +kernel), (by decide +kernel),
      (by decide +kernel), (by decide +kernel), (by decide +kernel), rfl, rfl⟩,
    ⟨({ sig 0 38 (base.wr PIN_FAN_CFG_en1 1) with
      pins := { base.pins with fans := [⟨false, []⟩, ⟨false, [5]⟩] } } : State), 1, (by decide +kernel)⟩,
    ⟨({ sig 0 38 (base.wr PIN_FAN_CFG_en1 1) with
      pins := { base.pins with fans := [⟨false, []⟩, ⟨true, [5]⟩] } } : State), 1, (by decide +kernel)⟩,
    ⟨(sig 0 46 (base.wr PIN_UIN_CFG_uin_edge 0x8000)), false, 7, (by decide +kernel)⟩⟩

set_option maxRecDepth 20000 in
/-- A state and operands for each clause of SmbusTapTransactionsComplete. -/
theorem witness_SmbusTapTransactionsComplete :
    (∃ s : State, (s.smbAnswers = true) ∧ ∃ answer : Nat → List Byte → State, (answer = (fun code data =>
      (s.smbSend (some (data ++ if s.rd PIN_SMB_CFG_pec_en = 1 then [pecOf 0 ([s.smbAddr 0, BitVec.ofNat 8 code,
      s.smbAddr 1] ++ data)] else []))).inc PIN_SMB_COUNT_transactions))) ∧
    (∃ s : State, (s.smbAnswers = true) ∧ ∃ answer : Nat → List Byte → State, (answer = (fun code data =>
      (s.smbSend (some (data ++ if s.rd PIN_SMB_CFG_pec_en = 1 then [pecOf 0 ([s.smbAddr 0, BitVec.ofNat 8 code,
      s.smbAddr 1] ++ data)] else []))).inc PIN_SMB_COUNT_transactions)) ∧ ∃ mask : BitVec 8, ∃ pec, (s.rd
      PIN_SMB_CFG_pec_en ≠ 1 ∨ pec = some (pecOf 0 ([s.smbAddr 0, 0x07] ++ [mask])))) ∧
    (∃ s : State, (s.smbAnswers = true) ∧ ∃ answer : Nat → List Byte → State, (answer = (fun code data =>
      (s.smbSend (some (data ++ if s.rd PIN_SMB_CFG_pec_en = 1 then [pecOf 0 ([s.smbAddr 0, BitVec.ofNat 8 code,
      s.smbAddr 1] ++ data)] else []))).inc PIN_SMB_COUNT_transactions)) ∧ ∃ off : BitVec 32, ∃ pec, (off.toNat <
      0x100000) ∧ (off.toNat % 4 = 0) ∧ (s.rd PIN_SMB_CFG_pec_en ≠ 1 ∨ pec = some (pecOf 0 ([s.smbAddr 0, 0x10] ++
      smbBlock (leBytes 4 off.toNat))))) ∧
    (∃ s : State, (s.smbAnswers = true) ∧ ∃ answer : Nat → List Byte → State, (answer = (fun code data =>
      (s.smbSend (some (data ++ if s.rd PIN_SMB_CFG_pec_en = 1 then [pecOf 0 ([s.smbAddr 0, BitVec.ofNat 8 code,
      s.smbAddr 1] ++ data)] else []))).inc PIN_SMB_COUNT_transactions)) ∧ ∃ t, (s.pins.smbAlert = true) ∧ (t =
      s.smbSend (some ([s.smbAddr 0] ++ if s.rd PIN_SMB_CFG_pec_en = 1 then [pecOf 0 [0x19, s.smbAddr 0]] else
      [])))) ∧
    (∃ s : State, (s.padsLive = true)) ∧
    (∃ s : State, ∃ levels : BitVec 24, (s.padsLive = true) ∧ ∃ t, (t = s.tapLoad .idcode none levels)) ∧
    (∃ s : State, ∃ cells : BitVec 486, ∃ levels : BitVec 24, (s.padsLive = true) ∧ ∃ c, ∃ t, (t = s.tapShift c
      (some cells) levels)) ∧
    (∃ s : State, ∃ i : Nat, ∃ l : Land, (s.pins.tap = .extest ∨ s.pins.tap = .clamp) ∧ (l.inputOnly = true ∨ cell
      s.pins.boundary (3 * i + 2) = false)) ∧
    (∃ s : State, ∃ i : Nat, ∃ l : Land, (s.pins.tap = .extest ∨ s.pins.tap = .clamp) ∧ (l.inputOnly = false) ∧
      (cell s.pins.boundary (3 * i + 2) = true) ∧ (l.openDrain = true) ∧ (cell s.pins.boundary (3 * i + 1) = true)) ∧
    (∃ s : State, ∃ i : Nat, ∃ l : Land, (s.pins.tap = .extest ∨ s.pins.tap = .clamp) ∧ (l.inputOnly = false) ∧
      (cell s.pins.boundary (3 * i + 2) = true) ∧ (l.openDrain = false ∨ cell s.pins.boundary (3 * i + 1) = false)) :=
  ⟨⟨(base.wr PIN_SMB_CFG_en 1), (by decide +kernel), _, rfl⟩,
    ⟨(base.wr PIN_SMB_CFG_en 1), (by decide +kernel), _, rfl, 3, none, (by decide +kernel)⟩,
    ⟨(base.wr PIN_SMB_CFG_en 1), (by decide +kernel), _, rfl, 0xFFFFC, none, (by decide +kernel)⟩,
    ⟨({ base.wr PIN_SMB_CFG_en 1 with
      pins := { base.pins with smbAlert := true } } : State), (by decide +kernel), _, rfl, _, (by decide +kernel),
      rfl⟩,
    ⟨base, (by decide +kernel)⟩,
    ⟨base, 0, (by decide +kernel), _, rfl⟩,
    ⟨base, 0, 0, (by decide +kernel), 0, _, rfl⟩,
    ⟨({ base with pins := { base.pins with tap := .extest, boundary := 0 } } : State), 0, .chain true 0,
      (by decide +kernel)⟩,
    ⟨({ base with pins := { base.pins with tap := .extest, boundary := 6 } } : State), 0, .tagDat 0,
      (by decide +kernel)⟩,
    ⟨({ base with pins := { base.pins with tap := .extest, boundary := 6 } } : State), 0, .chain true 0,
      (by decide +kernel)⟩⟩

end Sys2Proof.Tests
end

