-- ==== Sys2Proof/Tests/WitnessRaise.lean ====
section
/-! SUPPORT. The witness of the completion statement of OTP.SV_RAISE. -/

set_option Elab.async false

namespace Sys2Proof.Tests
open Sys2Proof Sys2Proof.Machine Sys2Proof.Machine.Reg

/-! ### A state in which both slots of the caddy hold an image that verifies -/

theorem fwImage_length : fwImage.length = 704 := by decide +kernel

theorem fwRec_length : fwRec.length = 64 := by decide +kernel

theorem rootHash_length : (sha256 ((rootCert.drop 32).take 64)).length = 32 := by decide +kernel

theorem otpRoot_mem : (otpRoot base).mem = putBytes [] sidOtp 0x188 ((sha256 ((rootCert.drop 32).take 64)).map some) := by
  have h : base.mem = [] := by decide +kernel
  unfold otpRoot
  dsimp only
  rw [h]

theorem twoImages_mem : twoImages.mem = withRecs.mem := by
  unfold twoImages
  rfl

theorem twoImages_regs : twoImages.regs = (otpRoot base).regs := by
  unfold twoImages
  dsimp only
  unfold withRecs withRec0 withImages withImage0 cad
  rfl

theorem cad_get (s : State) (off : Nat) (bs : List Byte) (h : off + bs.length ≤ regionSize) :
    (cad off bs s).cadGet off bs.length = bs := putBytes_read _ _ _ _ (by decide) h

theorem cad_apart (s : State) (off o n : Nat) (bs : List Byte) (h1 : off + bs.length + 7 ≤ regionSize)
    (h2 : o + n ≤ regionSize) (h : o + n ≤ off ∨ off + bs.length ≤ o) : (cad off bs s).cadGet o n = s.cadGet o n :=
  putBytes_apart _ _ _ _ _ _ (by decide) (by simpa using h1) h2 (by simpa using h)

theorem cad_otp (s : State) (off o n : Nat) (bs : List Byte) (h1 : off + bs.length + 7 ≤ regionSize)
    (h2 : o + n ≤ regionSize) : (cad off bs s).otpBytes o n = s.otpBytes o n :=
  putBytes_elsewhere _ _ _ _ _ _ _ (by decide) (by decide) (by simpa using h1) h2

theorem twoImages_otp (o n : Nat) (h : o + n ≤ regionSize) : twoImages.otpBytes o n = (otpRoot base).otpBytes o n := by
  have e : twoImages.otpBytes o n = withRecs.otpBytes o n := by
    unfold State.otpBytes
    rw [twoImages_mem]
  have l1 := fwRec_length
  have l2 := fwImage_length
  rw [e, withRecs, cad_otp _ _ _ _ _ (by rw [l1]; decide) h, withRec0, cad_otp _ _ _ _ _ (by rw [l1]; decide) h,
    withImages, cad_otp _ _ _ _ _ (by rw [l2]; decide) h, withImage0, cad_otp _ _ _ _ _ (by rw [l2]; decide) h]

theorem cad_fresh (s : State) (off : Nat) (bs : List Byte) (ho : off + bs.length ≤ regionSize)
    (h : parityFresh s.mem sidCaddy) : parityFresh (cad off bs s).mem sidCaddy :=
  parityFresh_putBytes _ _ (by decide) (by simpa using ho) h

theorem twoImages_fresh : parityFresh twoImages.mem sidCaddy := by
  have l1 := fwRec_length
  have l2 := fwImage_length
  rw [twoImages_mem, withRecs, withRec0, withImages, withImage0]
  refine cad_fresh _ _ _ (by rw [l1]; decide) (cad_fresh _ _ _ (by rw [l1]; decide) (cad_fresh _ _ _ (by rw [l2]; decide)
    (cad_fresh _ _ _ (by rw [l2]; decide) ?_)))
  rw [otpRoot_mem]
  exact parityFresh_other _ _ (by decide) (by decide) (by rw [List.length_map, rootHash_length]; decide)
    (parityFresh_nil _ (by decide))

theorem twoImages_rec (i : Nat) (hi : i < 2) : twoImages.slotRec i = fwRec := by
  have l1 := fwRec_length
  have e : twoImages.slotRec i = withRecs.cadGet (cadSlotRec i) 64 := by
    unfold State.slotRec State.cadGet
    rw [twoImages_mem]
  rw [e]
  have : i = 0 ∨ i = 1 := by omega
  rcases this with rfl | rfl
  · rw [withRecs, cad_apart _ _ _ _ _ (by rw [l1]; decide) (by decide) (by rw [l1]; decide), withRec0]
    have := cad_get withImages (cadSlotRec 0) fwRec (by rw [l1]; decide)
    rwa [l1] at this
  · have := cad_get withRec0 (cadSlotRec 1) fwRec (by rw [l1]; decide)
    rwa [l1] at this

set_option maxRecDepth 20000 in
theorem fwRec_says : recNat fwRec 0 1 = 1 ∧ recNat fwRec 4 4 = 704 ∧ recNat fwRec 16 4 = 1 ∧
    recNat fwRec 28 4 = crc32 fwImage ∧ recNat fwRec 60 4 = crc32 (fwRec.take 60) := by decide +kernel

theorem twoImages_image (i : Nat) (hi : i < 2) : twoImages.slotImage i = fwImage := by
  have l1 := fwRec_length
  have l2 := fwImage_length
  unfold State.slotImage
  rw [twoImages_rec i hi, fwRec_says.2.1]
  have e : twoImages.cadGet (cadSlot i) 704 = withRecs.cadGet (cadSlot i) 704 := by
    unfold State.cadGet
    rw [twoImages_mem]
  rw [e]
  have : i = 0 ∨ i = 1 := by omega
  rcases this with rfl | rfl
  · rw [withRecs, cad_apart _ _ _ _ _ (by rw [l1]; decide) (by decide) (by rw [l1]; decide), withRec0,
      cad_apart _ _ _ _ _ (by rw [l1]; decide) (by decide) (by rw [l1]; decide), withImages,
      cad_apart _ _ _ _ _ (by rw [l2]; decide) (by decide) (by rw [l2]; decide)]
    have := cad_get (otpRoot base) (cadSlot 0) fwImage (by rw [l2]; decide)
    rwa [l2] at this
  · rw [withRecs, cad_apart _ _ _ _ _ (by rw [l1]; decide) (by decide) (by rw [l1]; decide), withRec0,
      cad_apart _ _ _ _ _ (by rw [l1]; decide) (by decide) (by rw [l1]; decide)]
    have := cad_get withImage0 (cadSlot 1) fwImage (by rw [l2]; decide)
    rwa [l2] at this

theorem fwImage_verifies : (otpRoot base).imageFail fwImage = none := by decide +kernel

theorem twoImages_verifies : twoImages.imageFail fwImage = none := by
  have h : twoImages.imageFail fwImage = (otpRoot base).imageFail fwImage := by
    unfold State.imageFail State.rootCheck
    dsimp only
    rw [twoImages_otp _ _ (by decide)]
    unfold State.rd State.rdi
    rw [twoImages_regs]
  rw [h, fwImage_verifies]

theorem twoImages_slot (i : Nat) (hi : i < 2) :
    twoImages.slotVerifies i = true ∧ 1 ≤ recNat (twoImages.slotRec i) 16 4 := by
  have two : i = 0 ∨ i = 1 := by omega
  have hv : twoImages.slotValid i = true := by
    have p := rangePoison_fresh (s := twoImages) (cadSlotRec i) 64 (by rcases two with rfl | rfl <;> decide) twoImages_fresh
    unfold State.slotValid
    dsimp only
    rw [twoImages_rec i hi, fwRec_says.1, fwRec_says.2.1, fwRec_says.2.2.2.2, p]
    simp
  have hp : twoImages.slotPoison i = false := by
    have p := rangePoison_fresh (s := twoImages) (cadSlot i) 704 (by rcases two with rfl | rfl <;> decide) twoImages_fresh
    unfold State.slotPoison
    rw [twoImages_rec i hi, fwRec_says.2.1, p]
    simp
  refine ⟨?_, by rw [twoImages_rec i hi, fwRec_says.2.2.1]⟩
  unfold State.slotVerifies
  rw [hv, hp, twoImages_image i hi, twoImages_rec i hi, fwRec_says.2.2.2.1, twoImages_verifies]
  simp

/-- The command OTP.SV_RAISE to 1, taken with those images in the caddy. -/
def raising : State := has .bulk (wc 0x0405 [1]) twoImages

theorem raising_mem : raising.mem = twoImages.mem := by
  unfold raising has State.setMbx
  rfl

theorem raising_regs : raising.regs = twoImages.regs := by
  unfold raising has State.setMbx
  rfl

theorem otpBytes_congr {s t : State} (h : s.mem = t.mem) (o n : Nat) : s.otpBytes o n = t.otpBytes o n := by
  unfold State.otpBytes
  rw [h]

theorem slot_congr {s t : State} (hm : s.mem = t.mem) (hr : s.regs = t.regs) (i : Nat) :
    s.slotVerifies i = t.slotVerifies i ∧ s.slotRec i = t.slotRec i := by
  unfold State.slotVerifies State.slotPoison State.slotValid State.factorySlot State.slotImage State.slotRec
    State.cadGet State.rangePoison State.imageFail State.rootCheck State.otpBytes State.rd State.rdi
  rw [hm, hr]
  exact ⟨rfl, rfl⟩

theorem otpSv_congr {s t : State} (h : ∀ o, o + 4 ≤ regionSize → s.otpBytes o 4 = t.otpBytes o 4) : s.otpSv = t.otpSv := by
  unfold State.otpSv State.otpWord
  rw [h _ (by decide), h _ (by decide)]

theorem raising_slot (i : Nat) (hi : i < 2) :
    raising.slotVerifies i = true ∧ 1 ≤ recNat (raising.slotRec i) 16 4 := by
  rw [(slot_congr raising_mem raising_regs i).1, (slot_congr raising_mem raising_regs i).2]
  exact twoImages_slot i hi

theorem raising_sv : raising.otpSv = 0 := by
  have h : raising.otpSv = (otpRoot base).otpSv :=
    otpSv_congr (fun o ho => (otpBytes_congr raising_mem o 4).trans (twoImages_otp o 4 ho))
  have z (o : Nat) (ho : 0x1A8 ≤ o) (hr : o + 4 ≤ regionSize) :
      (otpRoot base).otpBytes o 4 = memBytes [] (dataBase sidOtp 0 + o) 4 := by
    unfold State.otpBytes
    rw [otpRoot_mem, putBytes_apart _ _ _ _ _ _ (by decide) (by rw [List.length_map, rootHash_length]; decide) hr
      (Or.inr (by rw [List.length_map, rootHash_length]; exact ho))]
  rw [h]
  unfold State.otpSv State.otpWord
  rw [z _ (by decide) (by decide), z _ (by decide) (by decide)]
  decide +kernel

theorem raising_taken : raising.takenCmd .bulk 0x0405 = some (wc 0x0405 [1]) := by decide +kernel

theorem raising_held : raising.heldBlock (wc 0x0405 [1]) = none := by decide +kernel

theorem raising_otp : raising.otp = none := by decide +kernel

theorem raising_version : raising.cores.securityVersion = 1 := by decide +kernel

/-- OTP.SV_RAISE: the clause of OtpCommandsComplete about it has a state and operands that meet its hypotheses. -/
theorem witness_OtpCommandsComplete_svRaise : ∃ (m : Mb) (s : State) (c : Cmd), Ready s m 0x0405 c ∧ s.otp = none ∧
    s.otpSv < c.u8 0 ∧ c.u8 0 ≤ 64 ∧ c.u8 0 ≤ s.cores.securityVersion ∧
    ∀ i < 2, s.slotVerifies i = true ∧ c.u8 0 ≤ recNat (s.slotRec i) 16 4 := by
  have u : (wc 0x0405 [1]).u8 0 = 1 := by decide
  refine ⟨.bulk, raising, wc 0x0405 [1], ⟨raising_taken, raising_held⟩, raising_otp, ?_⟩
  rw [u, raising_sv, raising_version]
  exact ⟨by decide, by decide, by decide, raising_slot⟩

end Sys2Proof.Tests
end

