-- ==== Sys2Proof/Tests/WitnessRules.lean ====
section
/-! SUPPORT. Witnesses for the statements of rules: states and operands that meet the hypotheses of every clause. -/

set_option Elab.async false

namespace Sys2Proof.Tests
open Sys2Proof Sys2Proof.Machine Sys2Proof.Machine.Reg

/-- A valid frame from each side, a data frame of 15 bytes, frames that go back, and the last bit of a frame. -/
theorem witness_FramesCarryTheirCheck :
    (∃ (b : FrameBits) (side : LinkSide), frameValid b side = true ∧ side = .fromUp) ∧
    (∃ (b : FrameBits) (side : LinkSide), frameValid b side = true ∧ side = .fromDown) ∧
    (∃ f : Frame, f ≠ .idle ∧ ∀ n d, f = .pktData n d → d.length ≤ 15) ∧
    (∃ f : Frame, f ≠ .idle ∧ match f with | .idle | .train | .answer _ | .status .. => True | _ => False) ∧
    (∃ k : Nat, k = 127 ∧ k < 128) :=
  ⟨⟨frameBits .train, .fromUp, by decide +kernel, rfl⟩, ⟨frameBits (.status 31 5 6 4), .fromDown, by decide +kernel, rfl⟩,
    ⟨.pktData 31 (List.replicate 15 0xFF), by decide, fun n d h => by cases h; decide⟩, ⟨.train, by decide, trivial⟩,
    ⟨127, by decide⟩⟩

/-- A state with an empty queue, and one with a command in front. -/
theorem witness_StepRunsFrontCommand : ∃ s : State, s.pending = [] := ⟨base, by decide +kernel⟩

/-- A state of the invariant whose step answers a next state. -/
theorem witness_StepKeepsInvariant : ∃ s t : State, s.Inv ∧ s.pending ≠ [] ∧ step s = .next t :=
  ⟨{ base with pending := [.perstNDeassert] }, _, ⟨by decide +kernel, by decide +kernel⟩, by decide +kernel, rfl⟩

/-- A command of a claimed block: a profile command, an OTP command and SLOT.MOUNT; and a command that is not held. -/
theorem witness_ClaimedBlockHoldsCommands :
    (∃ p ∈ mailboxCommands, ∃ (m : Mb) (s : State) (c : Cmd) (b : Nat), p.1 = 0x0803 ∧ s.takenCmd m p.1 = some c ∧
      s.heldBlock c = some b) ∧
    (∃ p ∈ mailboxCommands, ∃ (m : Mb) (s : State) (c : Cmd) (b : Nat), p.1 = 0x0405 ∧ s.takenCmd m p.1 = some c ∧
      s.heldBlock c = some b ∧ s.otp = none) ∧
    (∃ p ∈ mailboxCommands, ∃ (m : Mb) (s : State) (c : Cmd) (b : Nat), p.1 = 0x0A02 ∧ s.takenCmd m p.1 = some c ∧
      s.heldBlock c = some b ∧ s.guardRuns = true) ∧
    (∃ p ∈ mailboxCommands, ∃ (m : Mb) (s : State) (c : Cmd), p.1 = 0x0107 ∧ s.takenCmd m p.1 = some c ∧
      s.heldBlock c = none) :=
  ⟨⟨(0x0803, .profileDelete), by simp [mailboxCommands], .table, claim (2 ^ 8) (has .table (wc 0x0803 [31]) base),
      wc 0x0803 [31], 8, by decide +kernel⟩,
    ⟨(0x0405, .otpSvRaise), by simp [mailboxCommands], .bulk, claim (2 ^ 4) (has .bulk (wc 0x0405 []) base), wc 0x0405 [], 4,
      by decide +kernel⟩,
    ⟨(0x0A02, .slotMount), by simp [mailboxCommands], .media, claim (2 ^ 15) (has .media (wc 0x0A02 [0, 0]) base),
      wc 0x0A02 [0, 0], 15, by decide +kernel⟩,
    ⟨(0x0107, .sysNop), by simp [mailboxCommands], .relay, has .relay (wc 0x0107 []) base, wc 0x0107 [], by decide +kernel⟩⟩

/-- A register write in a block that the host has not claimed: with and without a field for RW values, and at an update port. -/
theorem witness_BasicControlOfRegisterWrites :
    (∃ p ∈ controlWrites, ∃ (s u : State) (w : RegWord), p.1 = 0x601C ∧ Basic s p.1 w u) ∧
    (∃ p ∈ controlWrites, ∃ (s u : State) (w : RegWord), p.1 = 0xB000 ∧ hasAcc p.1 .rw = true ∧ Basic s p.1 w u) ∧
    (∃ p ∈ updateWrites, ∃ (s u : State) (w : RegWord), Basic s p.1 w u ∧ fieldOf w p.2.1 = p.2.2.1) :=
  ⟨⟨(0x601C, .pinSet), by simp [controlWrites], base, _, 5, rfl, by decide +kernel, by decide +kernel, rfl⟩,
    ⟨(0xB000, .dixLimitWrite), by simp [controlWrites], base, _, 7, rfl, by decide +kernel, by decide +kernel,
      by decide +kernel, rfl⟩,
    ⟨(0xC20C, LPM_UPD_CMD_op, 3, .lpmUpdResultChange), by simp [updateWrites], base, _, fw [(LPM_UPD_CMD_op, 3)],
      ⟨by decide +kernel, by decide +kernel, rfl⟩, by decide +kernel⟩⟩

/-- A follower, a control write, an update write, a write at the top of BAR0, and reads: of 4 and of 8 bytes, of another form,
and of a poisoned word of the keep buffers. -/
theorem witness_FollowerServesReadsAndDiscardsWrites :
    (∃ s : State, s.discards = true ∧ (∃ p ∈ controlWrites, p.1 = 0x601C) ∧
      (∃ p ∈ updateWrites, ∃ w : RegWord, fieldOf w p.2.1 = p.2.2.1) ∧
      (∃ (off len n : Nat) (u : State), off = 0xFFFFC ∧ off < 0x100000 ∧ len = 4 ∧ off = off / 4 * 4 ∧ u = s.touchLink ∧
        n = (off % 4 + len + 3) / 4 ∧ ∀ k < n, u.regPoison (off / 4 * 4 + 4 * k) = false) ∧
      (∃ (off len n : Nat) (u : State), off = 0xFFFF8 ∧ off < 0x100000 ∧ len = 8 ∧ off % 8 = 0 ∧ u = s.touchLink ∧
        n = (off % 4 + len + 3) / 4 ∧ ∀ k < n, u.regPoison (off / 4 * 4 + 4 * k) = false) ∧
      (∃ (off len n : Nat) (u : State), off = 0xFFFFF ∧ off < 0x100000 ∧ len ≤ 8 ∧ regForm off len true = false ∧
        u = s.touchLink ∧ n = (off % 4 + len + 3) / 4 ∧ ∀ k < n, u.regPoison (off / 4 * 4 + 4 * k) = false)) ∧
    (∃ (s : State) (off len n : Nat) (u : State), s.discards = true ∧ off = 0xE024 ∧ len = 8 ∧ u = s.touchLink ∧
      n = (off % 4 + len + 3) / 4 ∧ ∃ k < n, u.regPoison (off / 4 * 4 + 4 * k) = true) :=
  ⟨⟨base.wr CHN_STATUS_role 2, by decide +kernel, ⟨(0x601C, .pinSet), by simp [controlWrites], rfl⟩,
      ⟨(0xC20C, LPM_UPD_CMD_op, 3, .lpmUpdResultChange), by simp [updateWrites], fw [(LPM_UPD_CMD_op, 3)], by decide +kernel⟩,
      ⟨_, 4, 1, _, rfl, by decide, rfl, by decide, rfl, by decide, by decide +kernel⟩,
      ⟨_, 8, 2, _, rfl, by decide, rfl, by decide, rfl, by decide, by decide +kernel⟩,
      ⟨_, 8, 3, _, rfl, by decide, by decide, by decide, rfl, by decide, by decide +kernel⟩⟩,
    ⟨{ base.wr CHN_STATUS_role 2 with mem := putPoison [] 0x74 0 (List.replicate 8 0) }, _, _, 2, _, by decide +kernel, rfl, rfl,
      rfl, by decide, by decide +kernel⟩⟩

/-- A taken command with a full response, a SYS.NOP that is ready, and the same with the control core halted. -/
theorem witness_CompletionWritesTheSlot : ∃ (m : Mb) (s : State) (c : Cmd) (resp : List Byte) (j : Nat), m ≠ .relay ∧
    (s.mbx m).taken = some c ∧ (s.mbx m).marked = [] ∧ s.isFollower = false ∧ s.rd INTEG_FLIP_SEL_flip_armed ≠ 1 ∧
    s.haltHolds c = false ∧ resp.length = 239 ∧ resp.length ≤ j ∧ j < 240 ∧ Ready s m 0x0107 c ∧
    (s.wr DBG_HALT_ctl_halt 1).haltHolds c = true :=
  ⟨.bulk, has .bulk (wc 0x0107 [1, 2]) base, wc 0x0107 [1, 2], List.replicate 239 0, 239, by decide +kernel⟩

/-- A module that is no follower, with a query ready and a response of 240 bytes. -/
theorem witness_CompletionTouchesOnlyItsSlot : ∃ (m : Mb) (s : State) (resp : List Byte), m ≠ .relay ∧ s.isFollower = false ∧
    resp.length = 240 :=
  ⟨.bulk, has .bulk (wc 0x0101 []) base, List.replicate 240 0, by decide +kernel⟩

/-- A producer doorbell value 8 beyond posted and done, across the wrap of the count, one 9 beyond, and a mailbox with 8
commands posted and not done. -/
theorem witness_MailboxDoorbellCounts :
    (∃ (s : State) (m : Fin 4), s.isFollower = false ∧ s.inSequence = false ∧ s.rd INTEG_FLIP_SEL_flip_armed ≠ 1 ∧
      (∃ (w : RegWord) (d k : Nat), d = doorCount w ∧ cntDist (s.doneCnt (mbOf m.val)) d ≤ 8 ∧
        cntDist (s.posted (mbOf m.val)) d ≤ 8 ∧ k = 7 ∧ k < cntDist (s.posted (mbOf m.val)) d) ∧
      (∃ (w : RegWord) (d : Nat), d = doorCount w ∧
        ¬(cntDist (s.doneCnt (mbOf m.val)) d ≤ 8 ∧ cntDist (s.posted (mbOf m.val)) d ≤ 8))) ∧
    (∃ (s : State) (m : Fin 4), s.isFollower = false ∧ s.inSequence = false ∧ s.rd INTEG_FLIP_SEL_flip_armed ≠ 1 ∧
      cntDist (s.doneCnt (mbOf m.val)) (s.posted (mbOf m.val)) = 8) :=
  ⟨⟨(base.wri MBX_MB_STATUS_posted 3 0xFFFF).wri MBX_MB_STATUS_done 3 0xFFFF, 3, by decide +kernel, by decide +kernel,
      by decide +kernel, ⟨7, 7, 7, by decide +kernel⟩, ⟨8, 8, by decide +kernel⟩⟩,
    ⟨base.wri MBX_MB_STATUS_posted 3 8, 3, by decide +kernel⟩⟩

/-- A count word of the doorbell area, and a consumer doorbell value one beyond the events written. -/
theorem witness_CountAndConsumerWritesChecked :
    (∃ (s : State) (off : Nat), countWord off = true ∧ s.isFollower = false) ∧
    (∃ (s : State) (w : RegWord), s.isFollower = false ∧
      cntDist (s.rd MBX_EVT_STATUS_evt_consumed) (s.rd MBX_EVT_STATUS_evt_written) <
        cntDist (s.rd MBX_EVT_STATUS_evt_consumed) (doorCount w)) :=
  ⟨⟨base, 0x3004, by decide +kernel⟩, ⟨base.wr MBX_EVT_STATUS_evt_written 5, 6, by decide +kernel⟩⟩

/-- An event ring with one free place, and a full one. -/
theorem witness_EventRingHasRoom :
    (∃ s : State, s.isFollower = false ∧ s.eupex.evtHeld = [] ∧ s.eupex.evtDropped = 0 ∧
      s.rd INTEG_FLIP_SEL_flip_armed ≠ 1 ∧ s.rd MBX_EVT_STATUS_evt_consumed < 65536 ∧
      s.rd MBX_EVT_STATUS_evt_written = 65535 ∧
      cntDist (s.rd MBX_EVT_STATUS_evt_consumed) (s.rd MBX_EVT_STATUS_evt_written) < 64) ∧
    (∃ s : State, s.isFollower = false ∧ s.eupex.evtHeld = [] ∧ s.eupex.evtDropped = 0 ∧
      s.rd INTEG_FLIP_SEL_flip_armed ≠ 1 ∧ s.rd MBX_EVT_STATUS_evt_consumed < 65536 ∧
      s.rd MBX_EVT_STATUS_evt_written < 65536 ∧
      64 ≤ cntDist (s.rd MBX_EVT_STATUS_evt_consumed) (s.rd MBX_EVT_STATUS_evt_written)) :=
  ⟨⟨(base.wr MBX_EVT_STATUS_evt_written 65535).wr MBX_EVT_STATUS_evt_consumed 65472, by decide +kernel⟩,
    ⟨base.wr MBX_EVT_STATUS_evt_written 64, by decide +kernel⟩⟩

/-- A masked vector of an interrupt source; a vector that can be unmasked; a pending vector under the function mask. -/
theorem witness_MaskedVectorPends :
    (∃ (s : State) (i v : Nat), v = s.rdi GLB_VEC_SRC_vector i ∧ v < 32 ∧
      (s.rdi MSIX_TBL_CTRL_mask v = 1 ∨ s.host.cfg.msixFuncMask = true)) ∧
    (∃ (s : State) (v : Fin 32), s.isFollower = false ∧ s.host.cfg.msixEnable = true ∧ s.host.cfg.msixFuncMask = false ∧
      s.dmaOk = true ∧ s.host.holdoff.contains v.val = false) ∧
    (∃ (s : State) (v : Nat), v < 32 ∧ s.host.cfg.msixEnable = true ∧ s.rdi MSIX_TBL_CTRL_mask v = 0 ∧ s.dmaOk = true ∧
      s.host.holdoff = [] ∧ s.bit MSIX_PBA_pending 0 v = true) :=
  ⟨⟨(base.wri GLB_VEC_SRC_vector 33 31).wri MSIX_TBL_CTRL_mask 31 1, 33, 31, by decide +kernel⟩,
    ⟨base, 31, by decide +kernel⟩,
    ⟨(base.wri MSIX_TBL_CTRL_mask 31 0).setBit MSIX_PBA_pending 0 31 true, 31, by decide +kernel⟩⟩

/-- An unmasked vector with a source whose holdoff is the longest, outside its holdoff and within it. -/
theorem witness_HoldoffJoinsMessages :
    (∃ (s : State) (v : Fin 32), s.vecMasked v.val = false ∧
      (∃ i < 34, s.rdi GLB_VEC_SRC_vector i = v.val) ∧ s.vecHoldoff v.val ≠ 0 ∧ s.host.holdoff.contains v.val = false) ∧
    (∃ (s : State) (v : Fin 32), s.vecMasked v.val = false ∧ s.host.holdoff.contains v.val = true) :=
  ⟨⟨((base.wri GLB_VEC_SRC_vector 33 31).wri GLB_VEC_SRC_holdoff_us 33 255).wri MSIX_TBL_CTRL_mask 31 0, 31, by decide +kernel,
      ⟨33, by decide +kernel⟩, by decide +kernel, by decide +kernel⟩,
    ⟨{ (base.wri MSIX_TBL_CTRL_mask 31 0) with host := { base.host with holdoff := [31] } }, 31, by decide +kernel,
      by decide +kernel⟩⟩

/-- A producer doorbell value that runs too far ahead, of a queue pair and of a stream channel that has halted on a bad size,
and one behind the accepted count. -/
theorem witness_RingDoorbellDiscarded : ∃ (s : State) (q : Fin 16), s.isFollower = false ∧ s.qOpen q.val = true ∧
    s.chOpen q.val = true ∧ s.chHalted q.val = true ∧
    (s.chHalted q.val = true → s.rdi STRM_CH_STATUS_halt_reason q.val ≠ 4 ∧ s.rdi STRM_CH_STATUS_halt_reason q.val ≠ 6) ∧
    (∃ (w : RegWord) (d : Nat), d = doorCount w ∧
      2 ^ s.rdi SRCH_Q_CFG_req_k q.val < cntDist (s.rdi SRCH_Q_REQ_CNT_req_admitted q.val) d ∧
      2 ^ s.rdi STRM_CH_CFG_req_k q.val < cntDist (s.rdi STRM_CH_REQ_CNT_taken q.val) d) ∧
    (∃ (w : RegWord) (d : Nat), d = doorCount w ∧
      cntDist (s.rdi SRCH_Q_REQ_CNT_req_admitted q.val) d <
        cntDist (s.rdi SRCH_Q_REQ_CNT_req_admitted q.val) (s.rdi SRCH_Q_REQ_CNT_req_accepted q.val) ∧
      cntDist (s.rdi STRM_CH_REQ_CNT_taken q.val) d <
        cntDist (s.rdi STRM_CH_REQ_CNT_taken q.val) (s.rdi STRM_CH_REQ_CNT_accepted q.val)) :=
  ⟨((((((base.wri SRCH_Q_CFG_q_en 15 1).wri SRCH_Q_CFG_req_k 15 4).wri SRCH_Q_REQ_CNT_req_accepted 15 3).setBit
      STRM_STATUS_open 0 15 true).wri STRM_CH_CFG_req_k 15 4).wri STRM_CH_REQ_CNT_accepted 15 3).haltChan 15 2, 15,
    by decide +kernel, by decide +kernel, by decide +kernel, by decide +kernel, by decide +kernel, ⟨17, 17, by decide +kernel⟩, ⟨2, 2, by decide +kernel⟩⟩

/-- A report of each kind that is on the seen list, one of each kind that is new, with one free place in the log, and a new one
with the log full. -/
theorem witness_SeenListJudgesEvents :
    (∀ k ∈ [1, 2, 3, 4, 5], ∃ (s : State) (r : Report), r.kind = k ∧ s.integ.seen.contains ⟨r.sid, r.offset, r.kind⟩ = true) ∧
    (∀ k ∈ [1, 2, 3, 4, 5], ∃ (s : State) (r : Report), r.kind = k ∧ s.integ.seen.contains ⟨r.sid, r.offset, r.kind⟩ = false ∧
      s.rd INTEG_LOG_STATUS_written < 65536 ∧ s.rd INTEG_LOG_STATUS_consumed < 65536 ∧
      (s.rd INTEG_LOG_STATUS_written + 65536 - s.rd INTEG_LOG_STATUS_consumed) % 65536 = 63 ∧
      cntDist (s.rd INTEG_LOG_STATUS_consumed) (s.rd INTEG_LOG_STATUS_written) ≤ 64 ∧ sidIndex r.sid = some 20) ∧
    (∃ (s : State) (r : Report), r.kind = 5 ∧ s.integ.seen.contains ⟨r.sid, r.offset, r.kind⟩ = false ∧
      (s.rd INTEG_LOG_STATUS_written + 65536 - s.rd INTEG_LOG_STATUS_consumed) % 65536 = 64) :=
  ⟨fun k _ => ⟨{ base with integ := { base.integ with seen := [⟨0x75, 5, k⟩] } }, ⟨0x75, k, 1, 0, 5, 0, 0, 0⟩, rfl, by simp⟩,
    fun k _ => ⟨(base.wr INTEG_LOG_STATUS_written 62).wr INTEG_LOG_STATUS_consumed 65535, ⟨0x75, k, 1, 0, 5, 0, 0, 0⟩, rfl, rfl,
      by decide +kernel, by decide +kernel, by decide +kernel, by decide +kernel, rfl⟩,
    ⟨base.wr INTEG_LOG_STATUS_written 64, ⟨0x75, 5, 1, 0, 5, 0, 0, 0⟩, by decide +kernel⟩⟩

/-- A word of mailbox data RAM at the end of the range, and another word; a host write of the last word. -/
theorem witness_PoisonIsStored :
    (∃ (sid wi wj : Nat) (d : List Byte), unit32 sid = false ∧ d.length = 8 ∧ wi < 2 ^ 24 ∧ wj < 2 ^ 24 ∧ wj ≠ wi ∧
      ∃ c, c ∈ copies sid) ∧
    (∃ (s : State) (k : Nat) (d : List Byte), k < 65536 ∧ d.length = 8 ∧ s.isFollower = false ∧
      s.rd INTEG_FLIP_SEL_flip_armed ≠ 1) :=
  ⟨⟨sidBar2, 2 ^ 24 - 1, 0, List.replicate 8 0xFF, by decide, by decide, by decide, by decide, by decide, 0, by decide⟩,
    ⟨base, 65535, List.replicate 8 0xFF, by decide +kernel⟩⟩

/-- A paired word that passes in both copies, in copy B only, and in neither. -/
theorem witness_PairedReadUsesAPassingCopy : ∃ sid : Nat, paired sid = true ∧
    (∃ (m : Memory) (wi : Nat), (readRaw m sid 0 wi).syn = 0) ∧
    (∃ (m : Memory) (wi : Nat), (readRaw m sid 0 wi).syn ≠ 0 ∧ (readRaw m sid 1 wi).syn = 0) ∧
    (∃ (m : Memory) (wi : Nat), (readRaw m sid 0 wi).syn ≠ 0 ∧ (readRaw m sid 1 wi).syn ≠ 0) :=
  ⟨sidResult, by decide, ⟨[], 0, by decide +kernel⟩, ⟨[⟨dataBase sidResult 0 + 40, 1⟩], 5, by decide +kernel⟩,
    ⟨putPoison [] sidResult 5 (List.replicate 8 0), 5, by decide +kernel⟩⟩

/-- A table with one entry: its key hits, and another key misses. -/
theorem witness_TernaryLookupAnswersBestMatch : ∃ (s : State) (t : Nat) (k1 k2 : List Byte),
    k1.length = 80 ∧ k2.length = 80 ∧ s.tblGate t engTcam = none ∧ s.rdi TCAM_TBL_CFG_width_code t ≤ 3 ∧
    (∀ i ∈ listedUnits s.mem sidArray, i < 1048576) ∧ (s.tcamLookup t k1).outcome = outHit ∧
    (s.tcamLookup t k2).outcome = outMiss :=
  ⟨oneRule, 0, List.replicate 80 0x55, List.replicate 80 0x54, by decide +kernel, by decide +kernel, by decide +kernel,
    by decide +kernel, by decide +kernel, by decide +kernel, by decide +kernel⟩

/-- A lookup that finds an entry, and one that finds none. -/
theorem witness_ExactLookupPrefersContent :
    (∃ (s : State) (t mask : Nat) (key : List Byte) (p : Place), s.exactFind t mask key = some p) ∧
    (∃ (s : State) (t mask : Nat) (key : List Byte), s.exactFind t mask key = none) :=
  ⟨⟨entry 1 1 (bytes [1]) 5 ((tbl 1 2 base).wri HASH_TBL_CFG_types 1 7), 1, 7, bytes ([1] ++ List.replicate 15 0),
      ⟨sidOverflow, 0⟩, by decide +kernel⟩,
    ⟨(tbl 1 2 base).wri HASH_TBL_CFG_types 1 7, 1, 2, bytes ([1] ++ List.replicate 15 0), by decide +kernel⟩⟩

/-- A PIN_SET, a PIN_CLR and a PIN_TGL write under a claim of PIN, and another register. -/
theorem witness_PinOutWritesTouchOnlyPinOut :
    (∀ (i : RegWord → Instr) (off : Nat), (off, i) ∈ [(0x601C, Instr.pinSet), (0x6020, .pinClr), (0x6024, .pinTgl)] →
      ∃ (s u : State) (w : RegWord), Landed s off w u) ∧
    (∃ k, k ≠ fldKey PIN_OUT_out 0 ∧ k / 131072 ≠ 0 ∧ k / 131072 ≠ 0x21) :=
  ⟨fun i off h => by
      simp only [List.mem_cons, Prod.mk.injEq, List.not_mem_nil, or_false] at h
      rcases h with ⟨rfl, -⟩ | ⟨rfl, -⟩ | ⟨rfl, -⟩ <;>
        exact ⟨claim (2 ^ 6) base, _, 0x800001, by decide +kernel, by decide +kernel, rfl⟩,
    131072, by decide +kernel⟩

/-- A command of each clause that answers a next state. -/
theorem witness_EventsTouchOnlyTheirPart :
    (∃ s t : State, exec .timerCount s = .next t) ∧ (∃ s t : State, exec (.msixHoldoffExpiry 31) s = .next t) ∧
    (∃ s t : State, exec .sensorFaultClear s = .next t) ∧ (∃ s t : State, exec .canaryLaunch s = .next t) ∧
    (∃ s t : State, exec (.fifoStall 23) s = .next t) ∧ (∃ s t : State, exec .canaryMiss s = .next t) ∧
    (∃ s t : State, exec (.slotInsertion .b) s = .next t) ∧ (∃ s t : State, exec (.reauthDue .b) s = .next t) ∧
    (∃ s t : State, exec (.trainFrame .fromUp 1) s = .next t) ∧ (∃ s t : State, exec .lpmRebuildDone s = .next t) :=
  ⟨⟨base.wr PIN_TMR_CTRL_en 1, next_of (by decide +kernel)⟩,
    ⟨{ base with host := { base.host with holdoff := [31] } }, next_of (by decide +kernel)⟩,
    ⟨base.wr THM_STATUS_sensor_fault 1, next_of (by decide +kernel)⟩, ⟨base, next_of (by decide +kernel)⟩,
    ⟨base.setFifo 23 [⟨0, 0, false, 0⟩], next_of (by decide +kernel)⟩,
    ⟨{ base with clk := { base.clk with canary := some ⟨0, 0, 0, 0, 0⟩ } }, next_of (by decide +kernel)⟩,
    ⟨base, next_of (by decide +kernel)⟩, ⟨slot slReady base, next_of (by decide +kernel)⟩,
    ⟨base, next_of (by decide +kernel)⟩, ⟨base, next_of (by decide +kernel)⟩⟩

/-- A measurement that runs with the code at its greatest value and with its least value there too, and admission that waits. -/
theorem witness_MarginCodeStaysInRange :
    (∃ (s : State) (c : CanaryRun), s.clk.canary = some c ∧ c.minCode = 56 ∧ s.rd CLK_MARGIN_STATUS_margin_code = 56) ∧
    (∃ (s : State) (c : CanaryRun), s.clk.canary = some c ∧ c.minCode ≤ 56 ∧ s.rd CLK_MARGIN_STATUS_margin_code = 0) ∧
    (∃ s : State, s.clk.awaitSlack = true) :=
  ⟨⟨{ base.wr CLK_MARGIN_STATUS_margin_code 56 with clk := { base.clk with canary := some ⟨63, 0, 0, 0, 56⟩ } }, ⟨63, 0, 0, 0, 56⟩,
      by decide +kernel⟩,
    ⟨{ base.wr CLK_MARGIN_STATUS_margin_code 0 with clk := { base.clk with canary := some ⟨0, 0, 0, 0, 0⟩ } }, ⟨0, 0, 0, 0, 0⟩,
      by decide +kernel⟩,
    ⟨{ base with clk := { base.clk with awaitSlack := true } }, rfl⟩⟩

/-- A read of each kind that answers a next state, at the ends of its range. -/
theorem witness_ReadsLeaveMemory :
    ∀ i ∈ [Instr.rcRead .bar0 0xFFFFC 4 true, .rcRead .bar2 0x7FFC 4 true, .rcRead .bar2 0x9000 4 true, .windowRead 7 0 8,
        .configurationRequest (.read 0xFFC), .plyLoRead, .uartRxPop 1, .slotOpDataAccess .b none],
      ∃ s t : State, exec i s = .next t := by
  intro i h
  refine ⟨base, next_of ?_⟩
  revert i h
  decide +kernel

/-- An exact table with one entry. -/
def exactOne : State := entry 1 1 (bytes [1]) 5 (((tbl 1 2 base).wri HASH_TBL_CFG_types 1 7).wri HASH_TBL_QUOTA_quota 1 2)

/-- An update of each kind that is done, and a key slot that is zeroised. -/
theorem witness_UpdatesTouchOnlyTheirEntry :
    (∃ (s u : State) (resp : List Byte), s.rd INTEG_FLIP_SEL_flip_armed ≠ 1 ∧ s.rdi TCAM_TBL_CFG_width_code 0 = 0 ∧
      s.commitTcamWrite 0 none 0 5 (List.replicate 10 0) (List.replicate 10 0) false false = .done u resp) ∧
    (∃ (s u : State) (resp : List Byte), s.rd INTEG_FLIP_SEL_flip_armed ≠ 1 ∧ s.rdi TCAM_TBL_CFG_width_code 0 = 3 ∧
      s.commitTcamWrite 0 (some 0xF7FF8) 0 5 (List.replicate 80 0) (List.replicate 80 0) false false = .done u resp) ∧
    (∃ (s u : State) (resp : List Byte), s.commitTcamDelete 0 0 = .done u resp) ∧
    (∃ (s u : State) (resp : List Byte), s.commitTcamResult 0 0 7 true = .done u resp) ∧
    (∃ (s u : State) (resp : List Byte), s.commitExactWrite 1 1 (bytes ([1] ++ List.replicate 15 0)) 7 false true false = .done u resp) ∧
    (∃ (s u : State) (resp : List Byte), s.commitExactWrite 1 1 (bytes ([2] ++ List.replicate 15 0)) 7 false false true = .done u resp) ∧
    (∃ (s u : State) (resp : List Byte), s.commitExactDelete 1 1 (bytes ([1] ++ List.replicate 15 0)) = .done u resp ∧
      (s.exactFind 1 1 (bytes ([1] ++ List.replicate 15 0))).isSome = true) ∧
    (∃ (s u : State) (resp : List Byte), s.commitExactDelete 1 1 (bytes ([2] ++ List.replicate 15 0)) = .done u resp ∧
      s.exactFind 1 1 (bytes ([2] ++ List.replicate 15 0)) = none) ∧
    (∃ (s u : State) (resp : List Byte), s.commitExactResult 1 1 (bytes ([1] ++ List.replicate 15 0)) 7 = .done u resp) ∧
    (∃ (s u : State) (resp : List Byte), s.commitDix 131071 7 = .done u resp) ∧
    (∃ s u : State, exec (.keySlotZeroise 84) s = .next u ∧ s.keyValid 84 = true ∧ s.keyBad 84 = true) := by
  refine ⟨⟨own 0 0 (tbl 0 1 base), ?_⟩, ⟨(own 0 247 (tbl 0 1 base)).wri TCAM_TBL_CFG_width_code 0 3, ?_⟩, ⟨oneRule, ?_⟩,
    ⟨oneRule, ?_⟩, ⟨exactOne, ?_⟩, ⟨exactOne, ?_⟩, ⟨exactOne, ?_⟩, ⟨exactOne, ?_⟩, ⟨exactOne, ?_⟩, ⟨base, ?_⟩,
    ⟨base.putKey 84 (List.replicate 32 1) 0 0 0 true, ?_⟩⟩
  · obtain ⟨u, r, h⟩ := done_of (r := (own 0 0 (tbl 0 1 base)).commitTcamWrite 0 none 0 5 (List.replicate 10 0)
      (List.replicate 10 0) false false) (by decide +kernel)
    exact ⟨u, r, by decide +kernel, by decide +kernel, h⟩
  · obtain ⟨u, r, h⟩ := done_of (r := ((own 0 247 (tbl 0 1 base)).wri TCAM_TBL_CFG_width_code 0 3).commitTcamWrite 0
      (some 0xF7FF8) 0 5 (List.replicate 80 0) (List.replicate 80 0) false false) (by decide +kernel)
    exact ⟨u, r, by decide +kernel, by decide +kernel, h⟩
  · exact done_of (by decide +kernel)
  · exact done_of (by decide +kernel)
  · exact done_of (by decide +kernel)
  · exact done_of (by decide +kernel)
  · obtain ⟨u, r, h⟩ := done_of (r := exactOne.commitExactDelete 1 1 (bytes ([1] ++ List.replicate 15 0))) (by decide +kernel)
    exact ⟨u, r, h, by decide +kernel⟩
  · obtain ⟨u, r, h⟩ := done_of (r := exactOne.commitExactDelete 1 1 (bytes ([2] ++ List.replicate 15 0))) (by decide +kernel)
    exact ⟨u, r, h, by decide +kernel⟩
  · exact done_of (by decide +kernel)
  · exact done_of (by decide +kernel)
  · obtain ⟨u, h⟩ := next_of (o := exec (.keySlotZeroise 84) (base.putKey 84 (List.replicate 32 1) 0 0 0 true)) (by decide +kernel)
    exact ⟨u, h, by decide +kernel, by decide +kernel⟩

end Sys2Proof.Tests
end

/-! Proofs of the statements of chapter 0: an event counter stops at its all-ones value (R13). -/

namespace Sys2Proof.Machine
open Reg

@[simp] theorem State.aerBit_regs (s : State) (e : AerError) : (s.aerBit e).regs = s.regs := by
  unfold State.aerBit; split <;> rfl

@[simp] theorem State.aerAdvisory_regs (s : State) (e : AerError) : (s.aerAdvisory e).regs = s.regs := by
  unfold State.aerAdvisory
  split
  · exact (State.aer_regs _ _).trans (State.aerBit_regs s e)
  · exact State.aer_regs s e

/-- A counter with one instance after one more event: it stays at its all-ones value (R13). -/
theorem State.rd_inc_same (s : State) (f : Fld) : (s.inc f).rd f = min (s.rd f + 1) (2 ^ f.width - 1) :=
  s.rdi_addi_same f 0 1

/-- UNSUPPORTED_REQUEST for a non-posted request: signalled, counted in ur_sent and completed (R202). -/
theorem completes_unsupportedRequest_nonPosted (s : State) :
    Completes (.unsupportedRequest (.request false)) s
      (((s.touchLink.aerAdvisory .unsupported).inc GLB_CPL_CNT_ur_sent).reply [] false .unsupported) := rfl

/-- Signalling and completing the request leave the register file as it was, so ur_sent alone decides its next value. -/
theorem rd_urSent_of_unsupportedReply (s : State) :
    (((s.touchLink.aerAdvisory .unsupported).inc GLB_CPL_CNT_ur_sent).reply [] false .unsupported).rd GLB_CPL_CNT_ur_sent =
      min (s.rd GLB_CPL_CNT_ur_sent + 1) (2 ^ GLB_CPL_CNT_ur_sent.width - 1) := by
  have signalled : (s.touchLink.aerAdvisory .unsupported).rd GLB_CPL_CNT_ur_sent = s.rd GLB_CPL_CNT_ur_sent :=
    State.rdi_congr (by simp) _ 0
  calc
    _ = ((s.touchLink.aerAdvisory .unsupported).inc GLB_CPL_CNT_ur_sent).rd GLB_CPL_CNT_ur_sent :=
      State.rdi_congr (State.reply_regs ..) _ 0
    _ = min (s.rd GLB_CPL_CNT_ur_sent + 1) (2 ^ GLB_CPL_CNT_ur_sent.width - 1) := by rw [State.rd_inc_same, signalled]

/-- Settles O53: `addi` bounds the sum before it writes it, so the write cuts nothing off, and UNSUPPORTED_REQUEST advances
ur_sent by `addi` alone. -/
theorem eventCountersSaturate : Obligations.EventCountersSaturate :=
  ⟨State.rdi_addi_same, fun s => ⟨_, completes_unsupportedRequest_nonPosted s, rd_urSent_of_unsupportedReply s⟩⟩

end Sys2Proof.Machine

/-! Proofs of the statements of *Time without clocks*: the range of the margin code and the rail voltage that follows it
(R63 to R69). -/

namespace Sys2Proof.Machine
open Reg

/-! ### The margin controller's table -/

theorem minCode_le_nextCode (code slack : Nat) (c : CanaryRun) : c.minCode ≤ nextCode code slack c :=
  Nat.le_max_left ..

/-- Each row of R63 steps to at most 56, and R88 raises to a minimum that is at most 56 itself. -/
theorem nextCode_le {code : Nat} (slack : Nat) {c : CanaryRun} (hmin : c.minCode ≤ 56) (hcode : code ≤ 56) :
    nextCode code slack c ≤ 56 := by
  unfold nextCode
  dsimp only
  refine Nat.max_le.2 ⟨hmin, ?_⟩
  split_ifs <;> omega

/-- Only one row of R63 lowers the code, by one; the rows that raise it stop at 56, which it has not passed. -/
theorem le_nextCode_add_one {code : Nat} (slack : Nat) (c : CanaryRun) (hcode : code ≤ 56) :
    code ≤ nextCode code slack c + 1 := by
  unfold nextCode
  dsimp only
  refine Nat.le_trans ?_ (Nat.succ_le_succ (Nat.le_max_right ..))
  split_ifs <;> omega

/-! ### The code and its rail voltage in CLK_MARGIN_STATUS -/

/-- CLK_MARGIN_STATUS shows `code` and the rail voltage that R64 gives it. -/
def State.ShowsCode (s : State) (code : Nat) : Prop :=
  s.rd CLK_MARGIN_STATUS_margin_code = code ∧ s.rd CLK_MARGIN_STATUS_rail_mv = 620 + 5 * code

/-- A field of the registers other than margin_code and rail_mv. -/
abbrev ApartFromCode (f : Fld) : Prop :=
  fldKey CLK_MARGIN_STATUS_margin_code 0 ≠ fldKey f 0 ∧ fldKey CLK_MARGIN_STATUS_rail_mv 0 ≠ fldKey f 0

/-- Neither field is cut: a code of at most 56 fits in 6 bits, and its voltage of at most 900 mV in 10. -/
theorem showsCode_setCode (s : State) {code : Nat} (h : code ≤ 56) : (s.setCode code).ShowsCode code := by
  constructor
  · calc (s.setCode code).rd CLK_MARGIN_STATUS_margin_code
        = (s.wr CLK_MARGIN_STATUS_margin_code code).rd CLK_MARGIN_STATUS_margin_code := State.rd_wr_other _ _ (by decide)
      _ = code % 2 ^ 6 := State.rd_wr_same ..
      _ = code := Nat.mod_eq_of_lt (by omega)
  · calc (s.setCode code).rd CLK_MARGIN_STATUS_rail_mv
        = (620 + 5 * code) % 2 ^ 10 := State.rd_wr_same ..
      _ = 620 + 5 * code := Nat.mod_eq_of_lt (by omega)

namespace State.ShowsCode

variable {s : State} {code : Nat} (h : s.ShowsCode code)
include h

theorem wr {f : Fld} (v : Nat) (hf : ApartFromCode f) : (s.wr f v).ShowsCode code :=
  ⟨(State.rd_wr_other s v hf.1).trans h.1, (State.rd_wr_other s v hf.2).trans h.2⟩

theorem inc {f : Fld} (hf : ApartFromCode f) : (s.inc f).ShowsCode code := h.wr _ hf

theorem raise {f : Fld} (hf : ApartFromCode f) : (s.raise f).ShowsCode code :=
  ⟨(raise_rdi hf.1 (by decide)).trans h.1, (raise_rdi hf.2 (by decide)).trans h.2⟩

/-- A frame that leaves the CLK block leaves the code. -/
theorem of_frame {P : List Part} {R : Nat → Bool} {lo hi : Nat} {t : State} (k : Frame P R lo hi s t) (hR : R 3 = false) :
    t.ShowsCode code :=
  ⟨(congrArg (· ^^^ _) (k.regs _ hR)).trans h.1, (congrArg (· ^^^ _) (k.regs _ hR)).trans h.2⟩

theorem resumeAdmission : s.resumeAdmission.ShowsCode code := h.of_frame frame_resumeAdmission rfl

theorem noteFloor (c : CanaryRun) (slack : Nat) : (s.noteFloor c slack).ShowsCode code := by
  unfold State.noteFloor
  split
  · have counting : ({ s with clk := { s.clk with floorTotal := countUp 32 s.clk.floorTotal } } : State).ShowsCode code := h
    exact (counting.inc (by decide)).raise (by decide)
  · exact h

theorem noteExhausted (before : Nat) (good : Bool) : (s.noteExhausted before good).ShowsCode code := by
  unfold State.noteExhausted
  split
  · exact (h.wr 1 (by decide)).raise (by decide)
  · split
    · exact h.wr 0 (by decide)
    · exact h

end State.ShowsCode

theorem showsCode_stepCode (s : State) (before : Nat) {code : Nat} (h : code ≤ 56) :
    (s.stepCode before code).ShowsCode code := by
  have hset := showsCode_setCode s h
  unfold State.stepCode
  dsimp only
  split
  · exact hset.inc (by decide)
  · split
    · exact hset.inc (by decide)
    · exact hset

/-! ### The controller's actions -/

/-- After a measurement CLK_MARGIN_STATUS shows the code of R63, and the counts and events of the measurement leave it. -/
theorem showsCode_measure {s : State} {c : CanaryRun} (slack : Nat) (hmin : c.minCode ≤ 56)
    (hcode : s.rd CLK_MARGIN_STATUS_margin_code ≤ 56) :
    (s.measure c slack).ShowsCode (nextCode (s.rd CLK_MARGIN_STATUS_margin_code) slack c) := by
  have stepped := ((showsCode_stepCode (s.noteSlack slack) (s.rd CLK_MARGIN_STATUS_margin_code)
    (nextCode_le slack hmin hcode)).noteFloor c slack).noteExhausted (s.rd CLK_MARGIN_STATUS_margin_code)
      (c.target ≤ slack + c.hyst)
  unfold State.measure
  dsimp only
  split
  · exact stepped.resumeAdmission
  · exact stepped

/-- What a controller's action keeps when it shows the next code of R63: the range and the rail voltage of R64, and the single
step down of R66. -/
theorem codeRange_of_showsCode {s t : State} {c : CanaryRun} {slack : Nat} (hmin : c.minCode ≤ 56)
    (hcode : s.rd CLK_MARGIN_STATUS_margin_code ≤ 56)
    (h : t.ShowsCode (nextCode (s.rd CLK_MARGIN_STATUS_margin_code) slack c)) :
    c.minCode ≤ t.rd CLK_MARGIN_STATUS_margin_code ∧ t.rd CLK_MARGIN_STATUS_margin_code ≤ 56 ∧
      t.rd CLK_MARGIN_STATUS_rail_mv = 620 + 5 * t.rd CLK_MARGIN_STATUS_margin_code ∧
      s.rd CLK_MARGIN_STATUS_margin_code ≤ t.rd CLK_MARGIN_STATUS_margin_code + 1 := by
  obtain ⟨shown, rail⟩ := h
  rw [shown]
  exact ⟨minCode_le_nextCode .., nextCode_le slack hmin hcode, rail, le_nextCode_add_one slack c hcode⟩

theorem completes_canaryMeasurement {s : State} {c : CanaryRun} (taps : Nat) (h : s.clk.canary = some c) :
    Completes (.canaryMeasurement taps) s (s.measure c (slackOf taps c.cal)) := by
  show execCanaryMeasurement taps s = _
  simp only [execCanaryMeasurement, h, ok_eq]

theorem completes_canaryMiss {s : State} {c : CanaryRun} (h : s.clk.canary = some c) :
    Completes .canaryMiss s ((s.measure c 0).raise CLK_EVENT_canary_miss) := by
  show execCanaryMiss s = _
  simp only [execCanaryMiss, h, ok_eq]

theorem completes_marginQualifyTimeout {s : State} (h : s.clk.awaitSlack = true) :
    Completes .marginQualifyTimeout s (s.setCode 56).resumeAdmission := by
  show execMarginQualifyTimeout s = _
  simp only [execMarginQualifyTimeout, h, if_true, ok_eq]

/-- Settles O58: a measurement and a miss both show the next code of R63, whose table keeps the range and steps down by one, and
the timeout of R69 shows 56. -/
theorem marginCodeStaysInRange : Obligations.MarginCodeStaysInRange := by
  refine fun s => ⟨fun c taps i hc hi hmin hcode => ?_, fun hawait => ?_⟩
  · have measured (slack : Nat) := showsCode_measure (c := c) slack hmin hcode
    simp only [List.mem_cons, List.not_mem_nil, or_false] at hi
    obtain rfl | rfl := hi
    · exact ⟨_, completes_canaryMeasurement taps hc, codeRange_of_showsCode hmin hcode (measured _)⟩
    · exact ⟨_, completes_canaryMiss hc, codeRange_of_showsCode hmin hcode ((measured 0).raise (by decide))⟩
  · exact ⟨_, completes_marginQualifyTimeout hawait, (showsCode_setCode s (Nat.le_refl 56)).resumeAdmission⟩

end Sys2Proof.Machine

/-! Proofs of the statements of *Host link*: the pending bit of a masked vector (R210), and the messages of a vector in its
holdoff (R209). -/

namespace Sys2Proof.Machine
open Reg

/-! ### Bits of a field -/

theorem bitOf_eq_testBit (v k : Nat) : bitOf v k = v.testBit k := by
  rw [Nat.testBit_eq_decide_div_mod_eq]
  rfl

/-- A bit of a field after a bit of it was set: the other bits stay. -/
theorem State.bit_setBit (s : State) (f : Fld) (i k : Nat) (b : Bool) {j : Nat} (hj : j < f.width) :
    (s.setBit f i k b).bit f i j = if k = j then b else s.bit f i j := by
  have others : (2 ^ f.width - 1 - 2 ^ k % 2 ^ f.width).testBit j = !decide (k = j) := by
    rw [Nat.sub_sub, Nat.add_comm 1, Nat.testBit_two_pow_sub_succ (Nat.mod_lt _ (Nat.two_pow_pos _)),
      Nat.testBit_mod_two_pow, Nat.testBit_two_pow]
    simp [hj]
  unfold State.bit State.setBit
  rw [State.rdi_wri_same, bitOf_eq_testBit, bitOf_eq_testBit, Nat.testBit_mod_two_pow]
  cases b with
  | true => by_cases h : k = j <;> simp [hj, h]
  | false =>
    rw [if_neg Bool.false_ne_true, Nat.testBit_and, others]
    by_cases h : k = j <;> simp [hj, h]

/-! ### Masks -/

/-- A field of the registers other than the pending bits of MSI-X. -/
abbrev ApartFromPending (f : Fld) (i : Nat) : Prop := fldKey f i ≠ fldKey MSIX_PBA_pending 0

theorem mask_apartFromPending (v : Nat) : ApartFromPending MSIX_TBL_CTRL_mask v := by
  simp only [ApartFromPending, fldKey, MSIX_TBL_CTRL_mask, MSIX_PBA_pending]
  omega

theorem linkUp_apartFromPending : ApartFromPending GLB_LINK_link_up 0 := by decide

theorem State.vecMasked_eq_false_iff {s : State} {v : Nat} :
    s.vecMasked v = false ↔ s.host.cfg.msixEnable = true ∧ s.host.cfg.msixFuncMask = false ∧
      s.rdi MSIX_TBL_CTRL_mask v ≠ 1 ∧ s.dmaOk = true := by
  simp [State.vecMasked, and_assoc]

theorem dmaOk_congr {s t : State} (cfg : t.host.cfg = s.host.cfg) (link : t.rd GLB_LINK_link_up = s.rd GLB_LINK_link_up) :
    t.dmaOk = s.dmaOk := by
  simp only [State.dmaOk, cfg, link]

/-- What decides whether a vector is masked: its mask, the link and the configuration space. -/
theorem State.vecMasked_congr {s t : State} {v : Nat} (cfg : t.host.cfg = s.host.cfg)
    (mask : t.rdi MSIX_TBL_CTRL_mask v = s.rdi MSIX_TBL_CTRL_mask v)
    (link : t.rd GLB_LINK_link_up = s.rd GLB_LINK_link_up) : t.vecMasked v = s.vecMasked v := by
  simp only [State.vecMasked, dmaOk_congr cfg link, cfg, mask]

@[simp] theorem State.vecMasked_setPending (s : State) (u v : Nat) (b : Bool) :
    (s.setBit MSIX_PBA_pending 0 u b).vecMasked v = s.vecMasked v :=
  State.vecMasked_congr rfl (State.rdi_setBit_other _ _ _ (mask_apartFromPending v))
    (State.rdi_setBit_other _ _ _ linkUp_apartFromPending)

/-! ### A message on a vector -/

section
variable {s : State} {v : Nat}

theorem sendVector_of_masked (h : s.vecMasked v = true) : s.sendVector v = s.setBit MSIX_PBA_pending 0 v true :=
  if_pos h

theorem sendVector_of_holdoff (h : s.vecMasked v = false) (hh : s.host.holdoff.contains v = true) :
    s.sendVector v = { s with host := { s.host with
      heldMsg := if s.host.heldMsg.contains v then s.host.heldMsg else s.host.heldMsg ++ [v] } } := by
  simp only [State.sendVector, h, hh, if_true, Bool.false_eq_true, if_false]

theorem sendVector_of_free (h : s.vecMasked v = false) (hh : s.host.holdoff.contains v = false) :
    s.sendVector v = { s with host := { s.host with
      tx := s.host.tx ++ [.msix v], inL1 := false
      holdoff := if s.vecHoldoff v = 0 then s.host.holdoff else s.host.holdoff ++ [v] } } := by
  simp only [State.sendVector, h, hh, Bool.false_eq_true, if_false]

/-- A message on a vector that is not masked changes no register. -/
theorem regs_sendVector_of_unmasked (h : s.vecMasked v = false) : (s.sendVector v).regs = s.regs := by
  cases hh : s.host.holdoff.contains v with
  | true => rw [sendVector_of_holdoff h hh]
  | false => rw [sendVector_of_free h hh]

theorem tx_sendVector_of_free (h : s.vecMasked v = false) (hh : s.host.holdoff.contains v = false) :
    (s.sendVector v).host.tx = s.host.tx ++ [.msix v] := by rw [sendVector_of_free h hh]

end

/-- What a message on vector `v` leaves as it was: the configuration space, and each other vector's holdoff; what has gone
out stays. -/
structure State.SendKeeps (v : Nat) (s t : State) : Prop where
  cfg : t.host.cfg = s.host.cfg
  tx : s.host.tx ⊆ t.host.tx
  holdoff : ∀ u ≠ v, t.host.holdoff.contains u = s.host.holdoff.contains u
  fields : ∀ f i, ApartFromPending f i → t.rdi f i = s.rdi f i
  pending : ∀ u ≠ v, u < 32 → t.bit MSIX_PBA_pending 0 u = s.bit MSIX_PBA_pending 0 u

namespace State.SendKeeps

theorem refl (v : Nat) (s : State) : SendKeeps v s s :=
  ⟨rfl, fun _ h => h, fun _ _ => rfl, fun _ _ _ => rfl, fun _ _ _ => rfl⟩

theorem trans {v : Nat} {s t u : State} (h : SendKeeps v s t) (k : SendKeeps v t u) : SendKeeps v s u where
  cfg := k.cfg.trans h.cfg
  tx := List.Subset.trans h.tx k.tx
  holdoff w hw := (k.holdoff w hw).trans (h.holdoff w hw)
  fields f i hf := (k.fields f i hf).trans (h.fields f i hf)
  pending w hw hlt := (k.pending w hw hlt).trans (h.pending w hw hlt)

theorem setPending (s : State) (v : Nat) (b : Bool) : SendKeeps v s (s.setBit MSIX_PBA_pending 0 v b) where
  cfg := rfl
  tx _ h := h
  holdoff _ _ := rfl
  fields _ _ hf := State.rdi_setBit_other _ _ _ hf
  pending u hu hlt := by rw [State.bit_setBit _ _ _ _ _ hlt, if_neg hu.symm]

/-- A change of the host link's part leaves every register. -/
theorem of_host {v : Nat} {s : State} {x : HostLink} (cfg : x.cfg = s.host.cfg) (tx : s.host.tx ⊆ x.tx)
    (holdoff : ∀ u ≠ v, x.holdoff.contains u = s.host.holdoff.contains u) : SendKeeps v s { s with host := x } :=
  ⟨cfg, tx, holdoff, fun _ _ _ => rfl, fun _ _ _ => rfl⟩

theorem sendVector (s : State) (v : Nat) : SendKeeps v s (s.sendVector v) := by
  cases hm : s.vecMasked v with
  | true => rw [sendVector_of_masked hm]; exact setPending s v true
  | false =>
    cases hh : s.host.holdoff.contains v with
    | true => rw [sendVector_of_holdoff hm hh]; exact of_host rfl (fun _ h => h) (fun _ _ => rfl)
    | false =>
      rw [sendVector_of_free hm hh]
      refine of_host rfl (List.subset_append_left _ _) fun u hu => ?_
      dsimp only
      split
      · rfl
      · simp [hu]

theorem sendPending (s : State) (v : Nat) : SendKeeps v s (s.sendPending v) := by
  unfold State.sendPending
  split
  · exact (setPending s v false).trans (sendVector _ v)
  · exact refl v s

theorem vecMasked {v u : Nat} {s t : State} (h : SendKeeps v s t) : t.vecMasked u = s.vecMasked u :=
  State.vecMasked_congr h.cfg (h.fields _ _ (mask_apartFromPending u)) (h.fields _ _ linkUp_apartFromPending)

end State.SendKeeps

/-! ### A pending message of a vector whose mask is cleared -/

theorem sendPending_of_not_pending {s : State} {v : Nat} (h : s.bit MSIX_PBA_pending 0 v = false) : s.sendPending v = s := by
  simp [State.sendPending, h]

theorem sendPending_of_pending {s : State} {v : Nat} (hm : s.vecMasked v = false) (h : s.bit MSIX_PBA_pending 0 v = true) :
    s.sendPending v = (s.setBit MSIX_PBA_pending 0 v false).sendVector v := by
  simp [State.sendPending, h, hm]

/-- The message of an unmasked vector outside its holdoff goes out if it is pending, and is pending no more (R210). -/
theorem sendPending_of_free {s : State} {v : Nat} (hv : v < 32) (hm : s.vecMasked v = false)
    (hh : s.host.holdoff.contains v = false) :
    (s.sendPending v).bit MSIX_PBA_pending 0 v = false ∧
      (s.sendPending v).host.tx = s.host.tx ++ (if s.bit MSIX_PBA_pending 0 v = true then [.msix v] else []) := by
  cases hp : s.bit MSIX_PBA_pending 0 v with
  | false => rw [sendPending_of_not_pending hp]; exact ⟨hp, by simp⟩
  | true =>
    have hm' : (s.setBit MSIX_PBA_pending 0 v false).vecMasked v = false := by simpa using hm
    rw [sendPending_of_pending hm hp]
    constructor
    · calc _ = (s.setBit MSIX_PBA_pending 0 v false).bit MSIX_PBA_pending 0 v :=
            congrArg (bitOf · v) (State.rdi_congr (regs_sendVector_of_unmasked hm') _ 0)
        _ = false := by rw [State.bit_setBit _ _ _ _ _ hv, if_pos rfl]
    · exact tx_sendVector_of_free hm' hh

/-- The message of vector `v` waits only for its turn among the pending ones. -/
structure State.Waits (v : Nat) (s : State) : Prop where
  unmasked : s.vecMasked v = false
  free : s.host.holdoff.contains v = false
  pending : s.bit MSIX_PBA_pending 0 v = true

/-- The message of vector `v` has gone out, and its pending bit is clear. -/
structure State.Sent (v : Nat) (s : State) : Prop where
  tx : s.host.tx.contains (.msix v) = true
  clear : s.bit MSIX_PBA_pending 0 v = false

section
variable {s : State} {v : Nat} (hv : v < 32)
include hv

theorem State.Waits.sendPending_other (h : s.Waits v) {u : Nat} (hu : v ≠ u) : (s.sendPending u).Waits v :=
  have keeps := State.SendKeeps.sendPending s u
  ⟨keeps.vecMasked.trans h.unmasked, (keeps.holdoff v hu).trans h.free, (keeps.pending v hu hv).trans h.pending⟩

theorem State.Waits.sendPending_same (h : s.Waits v) : (s.sendPending v).Sent v := by
  obtain ⟨clear, tx⟩ := sendPending_of_free hv h.unmasked h.free
  exact ⟨by simp [tx, h.pending], clear⟩

theorem State.Sent.sendPending (h : s.Sent v) (u : Nat) : (s.sendPending u).Sent v := by
  by_cases hu : v = u
  · subst hu
    rwa [sendPending_of_not_pending h.clear]
  · have keeps := State.SendKeeps.sendPending s u
    exact ⟨List.contains_iff_mem.2 (keeps.tx (List.contains_iff_mem.1 h.tx)), (keeps.pending v hu hv).trans h.clear⟩

/-- A waiting message goes out at its vector's turn: the turns before leave it waiting, and those after leave it sent. -/
theorem State.Waits.sent_foldl {l : List Nat} (hl : v ∈ l) (h : s.Waits v) :
    (l.foldl (fun s u => s.sendPending u) s).Sent v := by
  induction l generalizing s with
  | nil => simp at hl
  | cons u l ih =>
    by_cases hu : v = u
    · subst hu
      exact List.foldlRecOn l _ (h.sendPending_same hv) fun _ sent w _ => sent.sendPending hv w
    · exact ih ((List.mem_cons.1 hl).resolve_left hu) (h.sendPending_other hv hu)

theorem State.Waits.sent_sendAllPending (h : s.Waits v) : s.sendAllPending.Sent v :=
  h.sent_foldl hv (List.mem_range.2 hv)

end

/-! ### MSIX_UNMASK -/

/-- The host link's traffic ends L1, and nothing else of its part changes (R176). -/
theorem touchLink_host (s : State) : ∃ b, s.touchLink.host = { s.host with inL1 := b } := by
  unfold State.touchLink
  split
  · exact ⟨s.host.inL1, rfl⟩
  · exact ⟨false, rfl⟩

@[simp] theorem touchLink_cfg (s : State) : s.touchLink.host.cfg = s.host.cfg := by
  obtain ⟨b, h⟩ := touchLink_host s; rw [h]

@[simp] theorem touchLink_tx (s : State) : s.touchLink.host.tx = s.host.tx := by
  obtain ⟨b, h⟩ := touchLink_host s; rw [h]

@[simp] theorem touchLink_holdoff (s : State) : s.touchLink.host.holdoff = s.host.holdoff := by
  obtain ⟨b, h⟩ := touchLink_host s; rw [h]

@[simp] theorem touchLink_rdi (s : State) (f : Fld) (i : Nat) : s.touchLink.rdi f i = s.rdi f i :=
  State.rdi_congr (touchLink_regs s) f i

@[simp] theorem touchLink_rd (s : State) (f : Fld) : s.touchLink.rd f = s.rd f := touchLink_rdi s f 0

/-- The state in which MSIX_UNMASK looks at the pending bit of the vector whose mask it clears. -/
def State.unmaskVector (s : State) (v : Nat) : State := s.touchLink.wri MSIX_TBL_CTRL_mask v 0

/-- The state in which MSIX_UNMASK looks at the pending bits once it has cleared the function mask. -/
def State.unmaskFunction (s : State) : State :=
  { s.touchLink with host := { s.touchLink.host with cfg := { s.touchLink.host.cfg with msixFuncMask := false } } }

theorem completes_msixUnmask_vector {s : State} (v : Fin 32) (h : s.isFollower = false) :
    Completes (.msixUnmask (some v)) s ((s.unmaskVector v).sendPending v) := by
  have role : s.touchLink.isFollower = false := by simpa [State.isFollower] using h
  show execMsixUnmask (some v) s = _
  simp only [execMsixUnmask, role, Bool.false_eq_true, if_false, ok_eq, State.unmaskVector]

theorem completes_msixUnmask_function (s : State) : Completes (.msixUnmask none) s s.unmaskFunction.sendAllPending := rfl

theorem rdi_mask_unmaskVector (s : State) (v : Nat) : (s.unmaskVector v).rdi MSIX_TBL_CTRL_mask v = 0 :=
  State.rdi_wri_same ..

theorem link_apartFromMask (v : Nat) : fldKey GLB_LINK_link_up 0 ≠ fldKey MSIX_TBL_CTRL_mask v := by
  simp only [fldKey, GLB_LINK_link_up, MSIX_TBL_CTRL_mask]
  omega

theorem vecMasked_unmaskVector {s : State} (v : Nat) (enable : s.host.cfg.msixEnable = true)
    (func : s.host.cfg.msixFuncMask = false) (dma : s.dmaOk = true) : (s.unmaskVector v).vecMasked v = false := by
  have cfg : (s.unmaskVector v).host.cfg = s.host.cfg := touchLink_cfg s
  have link : (s.unmaskVector v).rd GLB_LINK_link_up = s.rd GLB_LINK_link_up :=
    (State.rdi_wri_other _ _ (link_apartFromMask v)).trans (touchLink_rd s _)
  rw [State.vecMasked_eq_false_iff, cfg, rdi_mask_unmaskVector, dmaOk_congr cfg link]
  exact ⟨enable, func, by decide, dma⟩

theorem bit_pending_unmaskVector (s : State) (v : Nat) :
    (s.unmaskVector v).bit MSIX_PBA_pending 0 v = s.bit MSIX_PBA_pending 0 v :=
  congrArg (bitOf · v) ((State.rdi_wri_other _ _ (mask_apartFromPending v).symm).trans (touchLink_rdi s _ 0))

/-- With the function mask clear, a pending message of a vector that MSI-X, its own mask and the link let out waits for its
turn. -/
theorem waits_unmaskFunction {s : State} {v : Nat} (enable : s.host.cfg.msixEnable = true)
    (mask : s.rdi MSIX_TBL_CTRL_mask v = 0) (dma : s.dmaOk = true) (free : s.host.holdoff = [])
    (pending : s.bit MSIX_PBA_pending 0 v = true) : s.unmaskFunction.Waits v where
  unmasked := by
    have mask' : s.unmaskFunction.rdi MSIX_TBL_CTRL_mask v = 0 := (touchLink_rdi s _ v).trans mask
    have dma' : s.unmaskFunction.dmaOk = true := (dmaOk_congr (touchLink_cfg s) (touchLink_rd s _)).trans dma
    rw [State.vecMasked_eq_false_iff, mask', dma']
    exact ⟨by simpa [State.unmaskFunction] using enable, rfl, by decide, rfl⟩
  free := by simp [State.unmaskFunction, free]
  pending := (congrArg (bitOf · v) (touchLink_rdi s _ 0)).trans pending

/-- Settles O47: a masked vector's message sets its pending bit alone; MSIX_UNMASK leaves the vector unmasked, so that
`sendPending` sends what is pending, for one vector or for each in its turn. -/
theorem maskedVectorPends : Obligations.MaskedVectorPends := by
  refine ⟨?pend, ?vector, ?function⟩
  case pend =>
    rintro s i v rfl hv hmask t rfl
    have masked : s.vecMasked (s.rdi GLB_VEC_SRC_vector i) = true := by
      obtain h | h := hmask <;> simp [State.vecMasked, h]
    rw [State.raiseSource, sendVector_of_masked masked]
    exact ⟨by rw [State.bit_setBit _ _ _ _ _ hv, if_pos rfl], rfl⟩
  case vector =>
    intro s v role enable func dma free
    have free' : (s.unmaskVector v).host.holdoff.contains v.val = false := by simpa [State.unmaskVector] using free
    obtain ⟨clear, tx⟩ := sendPending_of_free v.isLt (vecMasked_unmaskVector v enable func dma) free'
    have keeps := State.SendKeeps.sendPending (s.unmaskVector v) v
    refine ⟨_, completes_msixUnmask_vector v role, ?_, clear, ?_⟩
    · rw [keeps.fields _ _ (mask_apartFromPending v), rdi_mask_unmaskVector]
    · rw [tx, bit_pending_unmaskVector]
      simp [State.unmaskVector]
  case function =>
    intro s v hv enable mask dma free pending
    have sent := (waits_unmaskFunction enable mask dma free pending).sent_sendAllPending hv
    exact ⟨_, completes_msixUnmask_function s, sent.tx, sent.clear⟩

/-! ### The holdoff of a vector -/

/-- The holdoff times of the sources that are mapped to a vector. -/
def State.mappedHoldoffs (s : State) (v : Nat) : List Nat :=
  ((List.range 34).filter (fun i => s.rdi GLB_VEC_SRC_vector i = v)).map (s.rdi GLB_VEC_SRC_holdoff_us)

theorem mem_mappedHoldoffs {s : State} {v n : Nat} :
    n ∈ s.mappedHoldoffs v ↔ ∃ i < 34, s.rdi GLB_VEC_SRC_vector i = v ∧ s.rdi GLB_VEC_SRC_holdoff_us i = n := by
  simp [State.mappedHoldoffs, and_assoc]

theorem vecHoldoff_eq (s : State) (v : Nat) : s.vecHoldoff v = (s.mappedHoldoffs v).max?.getD 0 := by
  calc s.vecHoldoff v = (s.mappedHoldoffs v).foldl max 0 := by
        simp [State.vecHoldoff, State.mappedHoldoffs, List.foldl_map, List.foldl_filter]
    _ = (s.mappedHoldoffs v).max?.getD 0 := by rw [List.foldl_max, Nat.zero_max]

theorem le_vecHoldoff {s : State} {v i : Nat} (hi : i < 34) (h : s.rdi GLB_VEC_SRC_vector i = v) :
    s.rdi GLB_VEC_SRC_holdoff_us i ≤ s.vecHoldoff v := by
  rw [vecHoldoff_eq]
  exact List.le_max?_getD_of_mem (mem_mappedHoldoffs.2 ⟨i, hi, h, rfl⟩)

/-- The greatest holdoff is that of a source mapped to the vector, where one is. -/
theorem vecHoldoff_attained (s : State) (v : Nat) : s.vecHoldoff v = 0 ∨
    ∃ i < 34, s.rdi GLB_VEC_SRC_vector i = v ∧ s.rdi GLB_VEC_SRC_holdoff_us i = s.vecHoldoff v := by
  rw [vecHoldoff_eq]
  cases h : (s.mappedHoldoffs v).max? with
  | none => exact .inl rfl
  | some n => exact .inr (mem_mappedHoldoffs.1 (List.max?_mem h))

/-! ### The end of a holdoff -/

/-- Vector `v` out of its holdoff, with no event waiting. -/
def State.endHoldoff (s : State) (v : Nat) : State :=
  { s with host := { s.host with holdoff := s.host.holdoff.filter (· != v), heldMsg := s.host.heldMsg.filter (· != v) } }

/-- The state after MSIX_HOLDOFF_EXPIRY for a vector in its holdoff. -/
def State.expireHoldoff (s : State) (v : Nat) : State :=
  if s.host.heldMsg.contains v then (s.endHoldoff v).sendVector v else s.endHoldoff v

theorem completes_msixHoldoffExpiry {s : State} {v : Fin 32} (h : s.host.holdoff.contains v.val = true) :
    Completes (.msixHoldoffExpiry v) s (s.expireHoldoff v) := by
  show execMsixHoldoffExpiry v s = _
  simp only [execMsixHoldoffExpiry, h, if_true, State.expireHoldoff, State.endHoldoff]
  split <;> rfl

theorem contains_filter_bne_self (l : List Nat) (v : Nat) : (l.filter (· != v)).contains v = false := by simp

/-- At the end of a holdoff an unmasked vector sends one message if an event waited, and none waits any more (R209). -/
theorem expireHoldoff_sends {s : State} {v : Nat} (h : s.vecMasked v = false) :
    (s.expireHoldoff v).host.tx = s.host.tx ++ (if s.host.heldMsg.contains v = true then [.msix v] else []) ∧
      (s.expireHoldoff v).host.heldMsg.contains v = false := by
  have unmasked : (s.endHoldoff v).vecMasked v = false := h
  have free : (s.endHoldoff v).host.holdoff.contains v = false := contains_filter_bne_self _ v
  have nothingHeld : (s.endHoldoff v).host.heldMsg.contains v = false := contains_filter_bne_self _ v
  unfold State.expireHoldoff
  split
  · rw [sendVector_of_free unmasked free]
    exact ⟨rfl, nothingHeld⟩
  · exact ⟨(List.append_nil _).symm, nothingHeld⟩

/-- Settles O48: outside its holdoff an unmasked vector sends and enters its holdoff, within it an event only waits, and the
expiry sends one message for all that waited. -/
theorem holdoffJoinsMessages : Obligations.HoldoffJoinsMessages := by
  intro s v unmasked
  refine ⟨fun i hi h => le_vecHoldoff hi h, vecHoldoff_attained s v, ?free, ?held, ?expiry⟩
  case free =>
    rintro free t rfl
    rw [sendVector_of_free unmasked free]
    exact ⟨rfl, fun h => by simp [h]⟩
  case held =>
    rintro held t rfl
    rw [sendVector_of_holdoff unmasked held]
    refine ⟨rfl, ?_, rfl⟩
    dsimp only
    split
    · assumption
    · simp
  case expiry =>
    intro held
    exact ⟨_, completes_msixHoldoffExpiry held, expireHoldoff_sends unmasked⟩

end Sys2Proof.Machine

/-! Proofs of the statements of *Eupex mailboxes*: host writes to the doorbell area that the module discards (R263,
R271). -/

namespace Sys2Proof.Machine
open Reg

/-! ### Events of the blocks that post no record -/

/-- A field of a block whose event bits post no record and do not move ALERT_N. -/
abbrev Fld.PostsNothing (f : Fld) : Prop := [1, 2, 3, 6, 7, 16].contains (f.base / 4096) = false

/-- A bit set in a one-bit field: the field reads 1. -/
theorem State.rd_setBit_one (s : State) {f : Fld} (one : f.width = 1) : (s.setBit f 0 0 true).rd f = 1 := by
  calc (s.setBit f 0 0 true).rd f = (s.rdi f 0 ||| 2 ^ 0) % 2 ^ f.width := State.rdi_wri_same ..
    _ = 1 := by rw [one]; exact Nat.or_mod_two_eq_one.2 (.inr rfl)

/-- A message leaves the doorbells as they were last written. -/
theorem doorbells_sendVector (s : State) (v : Nat) : (s.sendVector v).host.doorbells = s.host.doorbells := by
  unfold State.sendVector
  split
  · rfl
  · split <;> rfl

section
variable {s : State} {f : Fld} (hf : f.PostsNothing)
include hf

/-- An event that posts no record is its bit, and a message where the module interrupt rises (R208). -/
theorem raise_of_postsNothing :
    s.raise f = s.setBit f 0 0 true ∨ ∃ v, s.raise f = (s.setBit f 0 0 true).sendVector v := by
  have notPwr : f.base ≠ 0x1030 := fun h => by simp [Fld.PostsNothing, h] at hf
  have bare : s.raise f = s.setEvent f 0 0 := by
    simp only [State.raise, State.raiseAt, notPwr, if_false, Nat.add_zero, postsRecord_quiet _ hf, Bool.false_eq_true, ite_self]
  rw [bare]
  unfold State.setEvent State.irqFrom
  split
  · exact .inr ⟨_, rfl⟩
  · exact .inl rfl

/-- What its message leaves of the registers: every field but the pending bits of MSI-X. -/
theorem rdi_raise_of_postsNothing {g : Fld} {j : Nat} (hg : ApartFromPending g j) :
    (s.raise f).rdi g j = (s.setBit f 0 0 true).rdi g j := by
  obtain h | ⟨v, h⟩ := raise_of_postsNothing (s := s) hf <;> rw [h]
  exact (State.SendKeeps.sendVector _ v).fields g j hg

theorem rd_raise_other {g : Fld} (h : fldKey g 0 ≠ fldKey f 0) (hg : ApartFromPending g 0) : (s.raise f).rd g = s.rd g :=
  (rdi_raise_of_postsNothing hf hg).trans (State.rdi_setBit_other _ _ _ h)

theorem rd_raise_same (one : f.width = 1) (pending : ApartFromPending f 0) : (s.raise f).rd f = 1 :=
  (rdi_raise_of_postsNothing hf pending).trans (s.rd_setBit_one one)

theorem doorbells_raise : (s.raise f).host.doorbells = s.host.doorbells := by
  obtain h | ⟨v, h⟩ := raise_of_postsNothing (s := s) hf <;> rw [h]
  · rfl
  · exact doorbells_sendVector _ v

theorem frame_raise_of_postsNothing : Frame [.host] [fldKey f 0 / 131072, 0x21].contains 0 0 s (s.raise f) :=
  frame_quiet (i := 0) rfl (by simp) (by simp) (fun h => by simp [Fld.PostsNothing, h] at hf) (postsRecord_quiet _ hf)

end

/-! ### A count word of the doorbell area (R271) -/

theorem completes_countWordWrite {s : State} {off : Nat} (w : RegWord) (role : s.isFollower = false)
    (count : countWord off = true) : Completes (.doorbellCountWordWrite off w) s s.touchLink.badWrite := by
  have role' : s.touchLink.isFollower = false := by simpa [State.isFollower] using role
  show execDoorbellCountWordWrite off w s = _
  simp [execDoorbellCountWordWrite, count, role', ok_eq]

@[simp] theorem touchLink_doorbells (s : State) : s.touchLink.host.doorbells = s.host.doorbells := by
  obtain ⟨b, h⟩ := touchLink_host s; rw [h]

/-- A write that only signals bad_write keeps every byte of memory, every register outside GLB and the pending bits of MSI-X,
and the doorbells. -/
theorem touchLink_badWrite_keeps (s : State) : s.touchLink.badWrite.rd GLB_STATUS_bad_write = 1 ∧
    Frame [.host] [0, 0x21].contains 0 0 s s.touchLink.badWrite ∧
    s.touchLink.badWrite.host.doorbells = s.host.doorbells :=
  ⟨rd_raise_same (by decide) rfl (by decide),
    (frame_touchLink rfl).trans (frame_raise_of_postsNothing (f := GLB_STATUS_bad_write) (by decide)),
    (doorbells_raise (by decide)).trans (touchLink_doorbells s)⟩

/-! ### The event consumer doorbell (R263) -/

/-- The state in which EVENT_CONSUMER_DOORBELL judges the count that it carries. -/
def State.consumerDoorbellSeen (s : State) (w : RegWord) : State := (s.noteDoorbell 0x3048 w).noteUpper w

/-- A doorbell's upper half reaches no register but bad_write and the pending bits of MSI-X (R220). -/
theorem rd_noteUpper_other (s : State) (w : RegWord) {g : Fld} (h : fldKey g 0 ≠ fldKey GLB_STATUS_bad_write 0)
    (hg : ApartFromPending g 0) : (s.noteUpper w).rd g = s.rd g := by
  unfold State.noteUpper
  split
  · rfl
  · exact rd_raise_other (by decide) h hg

theorem frame_noteUpper (s : State) (w : RegWord) : Frame [.host] [0, 0x21].contains 0 0 s (s.noteUpper w) := by
  unfold State.noteUpper
  split
  · exact .refl
  · exact frame_raise_of_postsNothing (f := GLB_STATUS_bad_write) (by decide)

theorem rd_consumerDoorbellSeen (s : State) (w : RegWord) {g : Fld} (h : fldKey g 0 ≠ fldKey GLB_STATUS_bad_write 0)
    (hg : ApartFromPending g 0) : (s.consumerDoorbellSeen w).rd g = s.rd g :=
  rd_noteUpper_other (s.noteDoorbell 0x3048 w) w h hg

/-- The fault of a discarded value is all that the event adds (R263). -/
theorem rd_discardedConsumerDoorbell (s : State) (w : RegWord) {g : Fld} (h : fldKey g 0 ≠ fldKey GLB_STATUS_bad_write 0)
    (hf : fldKey g 0 ≠ fldKey MBX_EVENT_evt_ring_fault 0) (hg : ApartFromPending g 0) :
    ((s.consumerDoorbellSeen w).raise MBX_EVENT_evt_ring_fault).rd g = s.rd g :=
  (rd_raise_other (by decide) hf hg).trans (rd_consumerDoorbellSeen s w h hg)

theorem memKept_discardedConsumerDoorbell (s : State) (w : RegWord) :
    MemKept s ((s.consumerDoorbellSeen w).raise MBX_EVENT_evt_ring_fault) 0 0 := fun a h1 h2 =>
  ((frame_raise_of_postsNothing (by decide)).mem a h1 h2).trans
    ((frame_noteUpper (s.noteDoorbell 0x3048 w) w).mem a h1 h2)

theorem completes_eventConsumerDoorbell_discarded {s : State} {w : RegWord} (role : s.isFollower = false)
    (outside : cntDist (s.rd MBX_EVT_STATUS_evt_consumed) (s.rd MBX_EVT_STATUS_evt_written) <
      cntDist (s.rd MBX_EVT_STATUS_evt_consumed) (doorCount w)) :
    Completes (.eventConsumerDoorbell w) s ((s.consumerDoorbellSeen w).raise MBX_EVENT_evt_ring_fault) := by
  rw [← rd_consumerDoorbellSeen s w (g := MBX_EVT_STATUS_evt_consumed) (by decide) (by decide),
    ← rd_consumerDoorbellSeen s w (g := MBX_EVT_STATUS_evt_written) (by decide) (by decide)] at outside
  show execEventConsumerDoorbell w s = _
  exact (if_neg (Bool.eq_false_iff.1 role)).trans (if_neg (Nat.not_le.2 outside))

/-- Settles O45: both writes end in an event that posts no record, so the event's own bit is all they set beside GLB's bad_write
and the pending bits of MSI-X. -/
theorem countAndConsumerWritesChecked : Obligations.CountAndConsumerWritesChecked := by
  intro s w role
  refine ⟨fun off count => ?count, fun outside => ?consumer⟩
  case count =>
    obtain ⟨badWrite, frame, doorbells⟩ := touchLink_badWrite_keeps s
    exact ⟨_, completes_countWordWrite w role count, badWrite, frame.mem, frame.regs, doorbells⟩
  case consumer =>
    exact ⟨_, completes_eventConsumerDoorbell_discarded role outside, rd_raise_same (by decide) rfl (by decide),
      rd_discardedConsumerDoorbell s w (by decide) (by decide) (by decide),
      rd_discardedConsumerDoorbell s w (by decide) (by decide) (by decide), memKept_discardedConsumerDoorbell s w⟩

end Sys2Proof.Machine

/-! Proofs of the statements of *The ternary array*: the entry that a lookup answers with (R321 to R323). -/

namespace Sys2Proof.Machine
open Reg

/-! ### The listed units of the array -/

theorem mem_insertNat_iff {l : List Nat} {k x : Nat} : x ∈ insertNat l k ↔ x = k ∨ x ∈ l := by
  refine ⟨mem_insertNat, fun h => ?_⟩
  induction l with
  | nil => simpa [insertNat] using h
  | cons y l ih =>
    rw [insertNat]
    split
    · exact List.mem_cons.2 h
    · split
      · rename_i hk
        exact h.elim (fun e => List.mem_cons.2 (.inl (e.trans hk))) id
      · rw [List.mem_cons] at h ⊢
        tauto

theorem mem_sortNat_iff {l : List Nat} {x : Nat} : x ∈ sortNat l ↔ x ∈ l := by
  have go (l acc : List Nat) : x ∈ l.foldl insertNat acc ↔ x ∈ l ∨ x ∈ acc := by
    induction l generalizing acc with
    | nil => simp
    | cons y l ih => rw [List.foldl_cons, ih, mem_insertNat_iff, List.mem_cons]; tauto
  exact (go l []).trans (by simp)

theorem mem_of_storeGet?_eq_some {α : Type} {st : Store α} {k : Nat} {v : α} (h : storeGet? st k = some v) :
    (k, v) ∈ st := by
  induction st with
  | nil => cases h
  | cons e st ih =>
    obtain ⟨k', v'⟩ := e
    rw [storeGet?_cons] at h
    split at h
    · next hk => cases h; exact hk ▸ List.mem_cons_self
    · exact List.mem_cons_of_mem _ (ih h)

/-- A byte that differs from the fill is listed. -/
theorem exists_cell_of_ne_fill {m : Memory} {a : Nat} (h : memByte m a ≠ Memory.fill a) : ∃ v, (a, v) ∈ m := by
  unfold memByte storeGetD at h
  cases hg : storeGet? m a with
  | none => rw [hg] at h; exact absurd rfl h
  | some v => exact ⟨v, mem_of_storeGet?_eq_some hg⟩

/-- A unit of 32 bytes that holds a byte other than the fill in its first copy is listed. -/
theorem mem_listedUnits_of_ne_fill {m : Memory} {sid i k : Nat} (hs : unit32 sid = true) (hk : k < 32) (hi : i < 2 ^ 22)
    (h : memByte m (dataBase sid 0 + (32 * i + k)) ≠ Memory.fill (dataBase sid 0 + (32 * i + k))) :
    i ∈ listedUnits m sid := by
  have hR : regionSize = 2 ^ 27 := rfl
  obtain ⟨v, hv⟩ := exists_cell_of_ne_fill h
  have copyA : 0 ∈ copies sid := by unfold copies; split <;> simp
  have inRegion : (decide (dataBase sid 0 ≤ dataBase sid 0 + (32 * i + k)) &&
      decide (dataBase sid 0 + (32 * i + k) < dataBase sid 0 + regionSize)) = true := by
    simp only [Bool.and_eq_true, decide_eq_true_eq]; omega
  have unitOf : (dataBase sid 0 + (32 * i + k) - dataBase sid 0) / unitBytes sid = i := by
    rw [unitBytes, if_pos hs]; omega
  exact mem_sortNat_iff.2 (List.mem_flatMap.2
    ⟨0, copyA, List.mem_filterMap.2 ⟨_, hv, (if_pos inRegion).trans (congrArg some unitOf)⟩⟩)

/-- The fill leaves the ctrl byte of every array slot 0 (R628). -/
theorem fill_slotCtrl {i : Nat} (hi : i < 2 ^ 22) : Memory.fill (dataBase sidArray 0 + (32 * i + 0x0C)) = 0 := by
  have hR : regionSize = 2 ^ 27 := rfl
  obtain ⟨region, offset⟩ := data_region sidArray (32 * i + 0x0C) (by omega)
  have place : (32 * i + 0x0C) % 32 = 0x0C := by omega
  unfold Memory.fill
  dsimp only
  rw [region, offset, place]
  rfl

@[simp] theorem State.slot_length (s : State) (i : Nat) : (s.slot i).length = 32 := memBytes_length _ _ _

theorem slotValid_slot (s : State) (i : Nat) :
    slotValid (s.slot i) = (memByte s.mem (dataBase sidArray 0 + (32 * i + 0x0C))).getLsbD 0 := by
  unfold slotValid
  rw [List.getD_eq_getElem _ _ (by simp : 0x0C < (s.slot i).length)]
  exact congrArg (fun b : Byte => b.getLsbD 0) ((memBytes_get ..).trans (congrArg _ (by omega)))

/-- A valid array slot is listed, since the fill leaves valid clear. -/
theorem mem_listedUnits_of_slotValid {s : State} {i : Nat} (hi : i < 2 ^ 22) (h : slotValid (s.slot i) = true) :
    i ∈ listedUnits s.mem sidArray := by
  refine mem_listedUnits_of_ne_fill (k := 0x0C) rfl (by decide) hi (fun e => ?_)
  rw [slotValid_slot, e, fill_slotCtrl hi] at h
  exact absurd h (by decide)

/-! ### The compared bits (R321, R322) -/

theorem maskedByteEqual_iff (v k m : Byte) :
    ((v ^^^ k) &&& m == 0) = true ↔ ∀ j < 8, m.getLsbD j = true → v.getLsbD j = k.getLsbD j := by
  have bit (j : Nat) : ((v ^^^ k) &&& m).getLsbD j = false ↔ (m.getLsbD j = true → v.getLsbD j = k.getLsbD j) := by
    rw [BitVec.getLsbD_and, BitVec.getLsbD_xor]
    cases v.getLsbD j <;> cases k.getLsbD j <;> cases m.getLsbD j <;> decide
  rw [beq_iff_eq]
  constructor
  · exact fun h j _ => (bit j).1 (by rw [h]; exact BitVec.getLsbD_zero)
  · exact fun h => BitVec.eq_of_getLsbD_eq fun j hj => ((bit j).2 (h j hj)).trans BitVec.getLsbD_zero.symm

theorem listBit_eq {l : List Byte} {k : Nat} (h : k / 8 < l.length) : listBit l k = (l[k / 8]).getLsbD (k % 8) := by
  rw [listBit, List.getD_eq_getElem _ _ h]

/-- A value and mask match a key exactly when every compared bit of the value is the key's. -/
theorem ternaryMatch_iff {value mask key : List Byte} (hm : mask.length = value.length) (hk : value.length ≤ key.length) :
    ternaryMatch value mask key = true ↔
      ∀ k < 8 * value.length, listBit mask k = true → listBit value k = listBit key k := by
  have length : ((value.zip mask).zip key).length = value.length := by simp [hm, hk]
  unfold ternaryMatch
  rw [List.all_eq_true, List.forall_mem_iff_getElem]
  constructor
  · intro h k hlt
    have byte := h (k / 8) (by omega)
    simp only [List.getElem_zip] at byte
    rw [listBit_eq (by omega), listBit_eq (by omega), listBit_eq (by omega)]
    exact (maskedByteEqual_iff _ _ _).1 byte _ (Nat.mod_lt _ (by decide))
  · intro h i hi
    simp only [List.getElem_zip]
    refine (maskedByteEqual_iff _ _ _).2 fun j hj => ?_
    have bit := h (8 * i + j) (by omega)
    have byte : (8 * i + j) / 8 = i := by omega
    have place : (8 * i + j) % 8 = j := by omega
    rw [listBit_eq (by omega), listBit_eq (by omega), listBit_eq (by omega)] at bit
    simpa only [byte, place] using bit

@[simp] theorem slotValue_slot_length (s : State) (i : Nat) : (slotValue (s.slot i)).length = 10 := by simp [slotValue]

@[simp] theorem slotMask_slot_length (s : State) (i : Nat) : (slotMask (s.slot i)).length = 10 := by simp [slotMask]

theorem entryValue_length (s : State) (f w : Nat) : (s.entryValue f w).length = 10 * w := by
  simp [State.entryValue, State.entrySlots, List.flatMap_map, List.length_flatMap, Nat.mul_comm]

theorem entryMask_length (s : State) (f w : Nat) : (s.entryMask f w).length = 10 * w := by
  simp [State.entryMask, State.entrySlots, List.flatMap_map, List.length_flatMap, Nat.mul_comm]

/-! ### The priority tree (R323) -/

/-- Priority `a.1` at first slot `a.2` wins against `b`, or is `b` itself. -/
def Beats (a b : Nat × Nat) : Prop := a.1 < b.1 ∨ (a.1 = b.1 ∧ a.2 ≤ b.2)

theorem Beats.refl (a : Nat × Nat) : Beats a a := .inr ⟨rfl, le_rfl⟩

theorem Beats.trans {a b c : Nat × Nat} (h : Beats a b) (k : Beats b c) : Beats a c := by
  unfold Beats at *; omega

theorem beats_of_not_beats {a b : Nat × Nat} (h : ¬Beats a b) : Beats b a := by
  unfold Beats at *; omega

theorem bestEntry_eq_none {l : List (Nat × Nat)} : bestEntry l = none ↔ l = [] := by
  cases l with
  | nil => simp [bestEntry]
  | cons e l =>
    rw [bestEntry]
    split
    · simp
    · split <;> simp

/-- The entry of the tree is one of those it was given, and beats each of them. -/
theorem bestEntry_spec {l : List (Nat × Nat)} {e : Nat × Nat} (h : bestEntry l = some e) : e ∈ l ∧ ∀ x ∈ l, Beats e x := by
  induction l generalizing e with
  | nil => cases h
  | cons a l ih =>
    rw [bestEntry] at h
    split at h
    · next rest =>
      cases h
      simp [bestEntry_eq_none.1 rest, Beats.refl]
    · next p f rest =>
      obtain ⟨mem, beats⟩ := ih rest
      split at h
      · next wins =>
        have wins : Beats a (p, f) := wins
        cases h
        exact ⟨List.mem_cons_self, List.forall_mem_cons.2 ⟨.refl _, fun x hx => Beats.trans wins (beats x hx)⟩⟩
      · next loses =>
        cases h
        exact ⟨List.mem_cons_of_mem _ mem, List.forall_mem_cons.2 ⟨beats_of_not_beats loses, beats⟩⟩

/-! ### Entry positions -/

/-- The numbers of array slots that an entry may have. -/
abbrev IsWidth (w : Nat) : Prop := w = 1 ∨ w = 2 ∨ w = 4 ∨ w = 8

section
variable {s : State} {t : Nat}

theorem isWidth_tblW (h : s.rdi TCAM_TBL_CFG_width_code t ≤ 3) : IsWidth (s.tblW t) := by
  unfold State.tblW
  interval_cases s.rdi TCAM_TBL_CFG_width_code t <;> decide

/-- An entry position and all its array slots stand in one block. -/
theorem slot_of_position {w f k : Nat} (hw : IsWidth w) (hf : f % w = 0) (hk : k < w) :
    (f + k) / w * w = f ∧ (f + k) / 4096 = f / 4096 := by
  rcases hw with rfl | rfl | rfl | rfl <;> omega

theorem position_of_slot {w : Nat} (hw : IsWidth w) (i : Nat) :
    (i / w * w) % w = 0 ∧ i / w * w ≤ i ∧ i < i / w * w + w ∧ i / w * w / 4096 = i / 4096 := by
  rcases hw with rfl | rfl | rfl | rfl <;> omega

theorem mem_positions_live {f : Nat} : f ∈ s.positions t true ↔
    ∃ i ∈ listedUnits s.mem sidArray, s.servesBlk t (i / 4096) = true ∧ i / s.tblW t * s.tblW t = f := by
  simp [State.positions, mem_sortNat_iff]

theorem entryValid_iff {f w : Nat} : s.entryValid f w = true ↔ ∀ k < w, slotValid (s.slot (f + k)) = true := by
  simp [State.entryValid, State.entrySlots]

/-! ### What a ternary lookup answers -/

/-- The listed array slots of the blocks that serve lookups of a table, those that fail parity alone. -/
def State.badSlots (s : State) (t : Nat) : List Nat :=
  ((listedUnits s.mem sidArray).filter (fun i => s.servesBlk t (i / 4096))).filter (fun i => slotBad (s.slot i))

/-- The positions whose entries a lookup finds to match its key. -/
def State.matching (s : State) (t : Nat) (key : List Byte) : List Nat :=
  (s.positions t true).filter (fun f => s.entryValid f (s.tblW t) &&
    (s.badSlots t).all (fun i => i / s.tblW t * s.tblW t != f) &&
    ternaryMatch (s.entryValue f (s.tblW t)) (s.entryMask f (s.tblW t)) key)

/-- The priority and the position that the tree keeps for a key. -/
def State.bestMatch (s : State) (t : Nat) (key : List Byte) : Option (Nat × Nat) :=
  bestEntry ((s.matching t key).map (fun f => (slotPrio (s.slot f), f)))

theorem mem_badSlots {i : Nat} : i ∈ s.badSlots t ↔
    i ∈ listedUnits s.mem sidArray ∧ s.servesBlk t (i / 4096) = true ∧ slotBad (s.slot i) = true := by
  rw [State.badSlots, List.mem_filter, List.mem_filter, and_assoc]

/-- Of the slots of a valid entry in a serving block none is among the bad ones exactly when each passes parity. -/
theorem badSlots_avoid_iff {f : Nat} (hw : IsWidth (s.tblW t)) (hf : f < 1048576)
    (aligned : f % s.tblW t = 0) (serves : s.servesBlk t (f / 4096) = true)
    (valid : ∀ k < s.tblW t, slotValid (s.slot (f + k)) = true) :
    ((s.badSlots t).all (fun i => i / s.tblW t * s.tblW t != f)) = true ↔
      ∀ k < s.tblW t, slotBad (s.slot (f + k)) = false := by
  simp only [List.all_eq_true, bne_iff_ne, mem_badSlots]
  constructor
  · intro h k hk
    obtain ⟨position, block⟩ := slot_of_position hw aligned hk
    have listed := mem_listedUnits_of_slotValid (by omega) (valid k hk)
    by_contra bad
    exact h (f + k) ⟨listed, block ▸ serves, by simpa using bad⟩ position
  · rintro h i ⟨-, -, bad⟩ rfl
    obtain ⟨-, lower, upper, -⟩ := position_of_slot hw i
    have passes := h (i - i / s.tblW t * s.tblW t) (by omega)
    rw [show i / s.tblW t * s.tblW t + (i - i / s.tblW t * s.tblW t) = i by omega, bad] at passes
    cases passes

/-- The positions that a lookup finds are those whose entries match its key by R322. -/
theorem mem_matching {key : List Byte} {f : Nat} (hkey : key.length = 80) (hcode : s.rdi TCAM_TBL_CFG_width_code t ≤ 3)
    (hlisted : ∀ i ∈ listedUnits s.mem sidArray, i < 1048576) : f ∈ s.matching t key ↔ TcamMatches s t key f := by
  have hw := isWidth_tblW hcode
  have bits := ternaryMatch_iff (value := s.entryValue f (s.tblW t)) (mask := s.entryMask f (s.tblW t)) (key := key)
    (by rw [entryMask_length, entryValue_length]) (by rw [entryValue_length]; omega)
  rw [entryValue_length, ← Nat.mul_assoc] at bits
  rw [State.matching, List.mem_filter, mem_positions_live, Bool.and_eq_true, Bool.and_eq_true, entryValid_iff, bits]
  constructor
  · rintro ⟨⟨i, listed, serves, rfl⟩, ⟨valid, avoid⟩, bits⟩
    obtain ⟨aligned, lower, -, block⟩ := position_of_slot hw i
    have inside : i / s.tblW t * s.tblW t < 1048576 := lt_of_le_of_lt lower (hlisted i listed)
    rw [← block] at serves
    have passes := (badSlots_avoid_iff hw inside aligned serves valid).1 avoid
    exact ⟨inside, aligned, serves, fun k hk => ⟨valid k hk, passes k hk⟩, bits⟩
  · rintro ⟨inside, aligned, serves, slots, bits⟩
    have hpos : 0 < s.tblW t := by omega
    have listed := mem_listedUnits_of_slotValid (i := f) (by omega) (slots 0 hpos).1
    have valid := fun k hk => (slots k hk).1
    exact ⟨⟨f, listed, serves, (slot_of_position hw aligned hpos).1⟩,
      ⟨valid, (badSlots_avoid_iff hw inside aligned serves valid).2 fun k hk => (slots k hk).2⟩, bits⟩

theorem tblIs_of_tblGate {e : Nat} (h : s.tblGate t e = none) : s.tblIs t e = true := by
  unfold State.tblGate at h
  split at h
  · cases h
  · next defined => simpa using defined

theorem tcamLookup_of_no_match {key : List Byte} (gate : s.tblGate t engTcam = none) (h : s.bestMatch t key = none) :
    (s.tcamLookup t key).outcome = outMiss := by
  unfold State.bestMatch State.matching State.badSlots at h
  unfold State.tcamLookup
  simp only [tblIs_of_tblGate gate, gate, h]
  rfl

/-- With a match, a lookup answers POISON for an uncorrectable result word, and otherwise with that match. -/
theorem tcamLookup_of_match {key : List Byte} {p f : Nat} (gate : s.tblGate t engTcam = none)
    (h : s.bestMatch t key = some (p, f)) :
    (s.tcamLookup t key).outcome = outPoison ∨
      (s.tcamLookup t key).outcome = outHit ∧ (s.tcamLookup t key).index = f ∧ (s.tcamLookup t key).prio = p := by
  unfold State.bestMatch State.matching State.badSlots at h
  unfold State.tcamLookup
  simp only [tblIs_of_tblGate gate, gate, h]
  cases (readWord s.mem sidResult f).poison <;> simp

theorem bestMatch_eq_none {key : List Byte} : s.bestMatch t key = none ↔ ∀ f, f ∉ s.matching t key := by
  rw [State.bestMatch, bestEntry_eq_none, List.map_eq_nil_iff, List.eq_nil_iff_forall_not_mem]

theorem bestMatch_spec {key : List Byte} {p f : Nat} (h : s.bestMatch t key = some (p, f)) :
    f ∈ s.matching t key ∧ p = slotPrio (s.slot f) ∧ ∀ g ∈ s.matching t key, Beats (p, f) (slotPrio (s.slot g), g) := by
  obtain ⟨mem, beats⟩ := bestEntry_spec h
  obtain ⟨g, hg, e⟩ := List.mem_map.1 mem
  cases e
  exact ⟨hg, rfl, fun g' hg' => beats _ (List.mem_map_of_mem hg')⟩

end

/-- Settles O54: the positions that the lookup keeps are those that match by R322, and the priority tree keeps the one that beats
the others. -/
theorem ternaryLookupAnswersBestMatch : Obligations.TernaryLookupAnswersBestMatch := by
  rintro s t key o hkey gate hcode hlisted rfl
  have isMatch (f : Nat) := mem_matching (f := f) hkey hcode hlisted
  cases best : s.bestMatch t key with
  | none =>
    have misses := tcamLookup_of_no_match gate best
    have noMatch (f : Nat) : ¬TcamMatches s t key f := fun h => bestMatch_eq_none.1 best f ((isMatch f).2 h)
    exact ⟨fun hit => absurd (misses.symm.trans hit) (by decide), ⟨fun _ => noMatch, fun _ => misses⟩, .inr (.inl misses)⟩
  | some e =>
    obtain ⟨p, f⟩ := e
    obtain ⟨found, prio, beats⟩ := bestMatch_spec best
    have matched := (isMatch f).1 found
    rcases tcamLookup_of_match gate best with poison | ⟨hit, index, answered⟩
    · exact ⟨fun hit => absurd (poison.symm.trans hit) (by decide),
        ⟨fun miss => absurd (poison.symm.trans miss) (by decide), fun no => absurd matched (no f)⟩, .inr (.inr poison)⟩
    · rw [index, answered]
      exact ⟨fun _ => ⟨matched, prio, fun g hg => beats g ((isMatch g).2 hg)⟩,
        ⟨fun miss => absurd (hit.symm.trans miss) (by decide), fun no => absurd matched (no f)⟩, .inl hit⟩

end Sys2Proof.Machine

/-! Proofs of the statements of *The ternary array*: the words that an update of one entry stores to (R335). -/

namespace Sys2Proof.Machine
open Reg

section
variable {s u : State} {t f : Nat} {resp : List Byte} {own : Nat → Nat → Bool}

/-! ### Where an update stores -/

theorem inTable_lt (h : s.inTable t f = true) : f < 1048576 := by
  simp only [State.inTable, Bool.and_eq_true, decide_eq_true_eq] at h
  exact h.1.2

theorem lowestFree_lt (h : s.lowestFree t = some f) : f < 1048576 := by
  have mem := List.mem_of_mem_take (List.mem_of_mem_head? h)
  obtain ⟨b, hb, mem⟩ := List.mem_flatMap.1 mem
  obtain ⟨k, hk, rfl⟩ := List.mem_map.1 (List.mem_filter.1 mem).1
  have hb : b < 256 := List.mem_range.1 (List.mem_filter.1 hb).1
  have hk : k < 4096 / s.tblW t := lt_of_lt_of_le (List.mem_range.1 hk) (min_le_left _ _)
  have inBlock : s.tblW t * k < 4096 :=
    calc s.tblW t * k < s.tblW t * (4096 / s.tblW t) := Nat.mul_lt_mul_of_pos_left hk (Nat.two_pow_pos _)
      _ ≤ 4096 := Nat.mul_div_le _ _
  omega

theorem tblIs_lt {e : Nat} (h : s.tblIs t e = true) : t < 64 := by
  simp only [State.tblIs, State.tblDefined, Bool.and_eq_true, decide_eq_true_eq] at h
  exact h.1.1

/-- A field outside the pages that an event reaches keeps its value when keys of the seen list go. -/
theorem rdi_forget {g : Fld} {i : Nat} (sid a b : Nat) (h : eventPages.contains (fldKey g i / 131072) = false) :
    (s.forget sid a b).rdi g i = s.rdi g i :=
  congrArg (· ^^^ fldReset g i) ((frame_forget sid a b).regs _ h)

theorem tblW_storeWord (sid wi : Nat) (d : List Byte) (idle : s.rd INTEG_FLIP_SEL_flip_armed ≠ 1) (ht : t < 64) :
    (s.storeWord sid wi d).tblW t = s.tblW t := by
  have page : fldKey TCAM_TBL_CFG_width_code t / 131072 = 9 := by
    simp only [fldKey, TCAM_TBL_CFG_width_code]; omega
  have stored : (({ s with mem := putWord s.mem sid wi d } : State).forget sid (8 * wi) (8 * wi + 8)).rd
      INTEG_FLIP_SEL_flip_armed ≠ 1 := by
    rw [forget_rd _ _ _ (by decide) (by decide)]; exact idle
  unfold State.storeWord State.tblW
  rw [fireFlip_idle _ _ stored, rdi_forget _ _ _ (by rw [page]; decide)]
  rfl

theorem tblW_stamp (s : State) (t n : Nat) : (s.stamp n).tblW t = s.tblW t := by
  have apart : fldKey TCAM_TBL_CFG_width_code t ≠ fldKey TCAM_TBL_PLY_tbl_ply n := by
    simp only [fldKey, TCAM_TBL_CFG_width_code, TCAM_TBL_PLY_tbl_ply]; omega
  exact congrArg (2 ^ ·) (State.rdi_wri_other _ _ apart)

/-! ### What an update has done when it is done -/

theorem commitTcamWrite_done {idx : Option Nat} {prio result : Nat} {value mask : List Byte} {must free : Bool}
    (h : s.commitTcamWrite t idx prio result value mask must free = .done u resp) :
    ∃ f payload, (idx = some f ∧ s.inTable t f = true ∨ idx = none ∧ s.lowestFree t = some f) ∧
      u = ((s.putEntry f (s.tblW t) prio result value mask).stamp t).delta 1 t payload := by
  unfold State.commitTcamWrite UpdRes.no at h
  dsimp only at h
  split at h
  · cases h
  split at h
  · cases h
  split at h
  · split at h
    · cases h
    · next f lowest =>
      cases h
      exact ⟨f, _, .inr ⟨rfl, lowest⟩, rfl⟩
  · next f =>
    split at h
    · cases h
    next inside =>
    split at h
    · cases h
    split at h
    · cases h
    · cases h
      exact ⟨f, _, .inl ⟨rfl, by simpa using inside⟩, rfl⟩

theorem commitTcamDelete_done (h : s.commitTcamDelete t f = .done u resp) : s.inTable t f = true ∧
    (u = s ∨ ∃ payload, u = ((s.dropEntry f (s.tblW t)).stamp t).delta 2 t payload (s.srcBad (s.tcamSrc t f))) := by
  unfold State.commitTcamDelete UpdRes.no at h
  dsimp only at h
  split at h
  · cases h
  split at h
  · cases h
  next inside =>
  refine ⟨by simpa using inside, ?_⟩
  split at h
  · cases h; exact .inl rfl
  · cases h; exact .inr ⟨_, rfl⟩

theorem commitTcamResult_done {result : Nat} {must : Bool} (h : s.commitTcamResult t f result must = .done u resp) :
    s.tblIs t engTcam = true ∧ s.inTable t f = true ∧
      ∀ s1, s1 = (s.storeWord sidResult f (leBytes 8 result)).stamp t →
        u = s1 ∨ ∃ payload, u = s1.delta 3 t payload (s1.srcBad (s1.tcamSrc t f)) := by
  unfold State.commitTcamResult UpdRes.no at h
  dsimp only at h
  split at h
  · cases h
  next ternary =>
  split at h
  · cases h
  split at h
  · cases h
  next inside =>
  split at h
  · cases h
  refine ⟨by simpa using ternary, by simpa using inside, ?_⟩
  rintro s1 rfl
  cases h
  split
  · exact .inl rfl
  · exact .inr ⟨_, rfl⟩

theorem commitExactWrite_done {type result : Nat} {key : List Byte} {learned must free : Bool}
    (h : s.commitExactWrite t type key result learned must free = .done u resp) :
    ∃ s1 p payload, s.exactInsert t type key result learned = some (s1, p) ∧
      u = ((s1.logHost t type key).stamp t).delta 1 t payload := by
  unfold State.commitExactWrite UpdRes.no at h
  dsimp only at h
  split at h
  · cases h
  split at h
  · cases h
  split at h
  · cases h
  split at h
  · cases h
  split at h
  · cases h
  split at h
  · cases h
  · next s1 p insert =>
    cases h
    exact ⟨s1, p, _, insert, rfl⟩

theorem commitExactDelete_done {type : Nat} {key : List Byte} (h : s.commitExactDelete t type key = .done u resp) :
    (s.exactFind t (2 ^ (type - 1)) key = none ∧ u = s.logHost t type key) ∨
    ∃ p payload, s.exactFind t (2 ^ (type - 1)) key = some p ∧
      u = (((s.logHost t type key).dropPlace p).stamp t).delta 2 t payload (s.srcBad (placeSrc p)) := by
  unfold State.commitExactDelete UpdRes.no at h
  dsimp only at h
  split at h
  · cases h
  split at h
  · cases h
  split at h
  · next absent => cases h; exact .inl ⟨absent, rfl⟩
  · next p found => cases h; exact .inr ⟨p, _, found, rfl⟩

theorem commitExactResult_done {type result : Nat} {key : List Byte}
    (h : s.commitExactResult t type key result = .done u resp) :
    ∃ p payload s1, s.exactFind t (2 ^ (type - 1)) key = some p ∧
      s1 = ((s.putPlaceBytes p 0x10 (leBytes 8 result)).logHost t type key).stamp t ∧
      u = s1.delta 3 t payload (s1.srcBad (placeSrc p)) := by
  unfold State.commitExactResult UpdRes.no at h
  dsimp only at h
  split at h
  · cases h
  split at h
  · cases h
  split at h
  · cases h
  split at h
  · cases h
  · next p found => cases h; exact ⟨p, _, _, found, rfl, rfl⟩

end

/-! ### The words that each update keeps -/

/-- The words of the `w` array slots from slot `f` on. -/
def slotWords (f w sid wi : Nat) : Bool := sid == sidArray && 4 * f ≤ wi && wi < 4 * (f + w)

/-- The words of a ternary entry: its array slots and its result word. -/
def entryWords (f w sid wi : Nat) : Bool := slotWords f w sid wi || (sid == sidResult && wi == f)

/-- The words of a way or an overflow entry. -/
def placeWords (p : Place) (sid wi : Nat) : Bool := sid == p.sid && wi / 4 == p.unit

theorem placeWords_self {p : Place} (wi : Nat) (h : wi / 4 = p.unit) : placeWords p p.sid wi = true := by
  simp [placeWords, h]

section
variable {s s1 u : State} {t f w : Nat} {own : Nat → Nat → Bool}

/-- The stamp and the journal's record of an update add no word outside the caddy and BAR2 RAM to those that it has
stored to. -/
theorem Quiet.stampDelta (h : Quiet own s s1) (op n : Nat) (payload : List Byte) {bad : List Nat} (hb : ∀ i ∈ bad, i < 256) :
    Quiet own s ((s1.stamp n).delta op n payload bad) :=
  (h.trans (quiet_stamp n)).trans (quiet_delta _ _ _ _ fun i hi => lt_trans (hb i hi) (by decide))

theorem quiet_putEntry_words (hw : IsWidth (s.tblW t)) (hf : f < 1048576)
    (prio result : Nat) (value mask : List Byte) :
    Quiet (entryWords f (s.tblW t)) s (s.putEntry f (s.tblW t) prio result value mask) :=
  quiet_putEntry f _ prio result value mask (by omega) (fun wi h1 h2 => by simp [entryWords, slotWords, h1, h2])
    (by simp [entryWords]) (by omega)

theorem quiet_dropEntry_words (hf : f < 1048576) (hw : w ≤ 8) : Quiet (slotWords f w) s (s.dropEntry f w) :=
  quiet_dropEntry f w (by omega) fun wi h1 h2 => by simp [slotWords, h1, h2]

theorem quiet_exactInsert {type result : Nat} {key : List Byte} {learned : Bool} {p : Place}
    (h : s.exactInsert t type key result learned = some (s1, p)) :
    (s.exactFind t (2 ^ (type - 1)) key = some p ∨
      s.exactFind t (2 ^ (type - 1)) key = none ∧ s.freePlace t key = some p) ∧ Quiet (placeWords p) s s1 := by
  unfold State.exactInsert at h
  dsimp only at h
  split at h
  · next found =>
    cases h
    exact ⟨.inl found, quiet_putPlaceBytes (exactFind_real found) _ _ placeWords_self⟩
  next absent =>
  split at h
  · cases h
  split at h
  · cases h
  · next free =>
    cases h
    exact ⟨.inr ⟨absent, free⟩, (quiet_putPlace (freePlace_real free) _ placeWords_self).trans (quiet_noteOverflow _)⟩

theorem key_words_lt {k i : Nat} (hk : k < 85) (hi : i < keyLen k / 8) :
    keyOff k / 8 + i < 2 ^ 24 ∧ keyOff k / 8 + i < (keyOff k + keyLen k) / 8 := by
  have off : keyOff k < 2 ^ 20 := by unfold keyOff; split_ifs <;> omega
  have len : keyLen k ≤ 96 := by unfold keyLen; split_ifs <;> decide
  omega

theorem quiet_zeroise {k : Nat} (hk : k < 85)
    (ho : ∀ wi, keyOff k / 8 ≤ wi → wi < (keyOff k + keyLen k) / 8 → own sidKey wi = true) : Quiet own s (s.zeroise k) := by
  refine Quiet.trans (Quiet.trans (quiet_foldl _ _ (fun u i hi => ?_) s) (quiet_wri 0 ?_)) (quiet_wri 0 ?_)
  · obtain ⟨inStore, inKey⟩ := key_words_lt hk (List.mem_range.1 hi)
    exact quiet_storeWord sidKey _ _ rfl inStore (ho _ (Nat.le_add_right _ _) inKey)
  all_goals
    simp only [fldKey, SEC_KEY_META_valid, SEC_KEY_KCC_kcc, INTEG_FLIP_SEL_flip_armed]
    omega

/-- The canonical form reads as the state before it. -/
theorem quiet_settled : Quiet own s s.settled := fun idle =>
  ⟨by rwa [State.rd_settled], fun _ _ _ _ hw _ =>
    readWord_touch (sid := 0) (lo := 0) (hi := 0) (fun _ _ _ _ => State.memByte_settled _ _) hw fun _ => by simp⟩

@[simp] theorem State.logHost_mem (s : State) (t type : Nat) (key : List Byte) : (s.logHost t type key).mem = s.mem := by
  unfold State.logHost
  dsimp only
  split <;> rfl

theorem quiet_stampDix : Quiet own s s.stampDix := .of_parts rfl rfl

/-! ### The clauses of R335 -/

variable {resp : List Byte}

theorem tcamWrite_keepsWords {idx : Option Nat} {prio result : Nat} {value mask : List Byte} {must free : Bool}
    (hcode : s.rdi TCAM_TBL_CFG_width_code t ≤ 3)
    (h : s.commitTcamWrite t idx prio result value mask must free = .done u resp) :
    ∃ f, (idx = some f ∨ idx = none ∧ s.lowestFree t = some f) ∧ Quiet (entryWords f (s.tblW t)) s u := by
  obtain ⟨f, payload, place, rfl⟩ := commitTcamWrite_done h
  have hf : f < 1048576 := place.elim (fun x => inTable_lt x.2) fun x => lowestFree_lt x.2
  exact ⟨f, place.imp_left And.left,
    (quiet_putEntry_words (isWidth_tblW hcode) hf prio result value mask).stampDelta 1 t payload (by simp)⟩

theorem tcamDelete_keepsWords (hcode : s.rdi TCAM_TBL_CFG_width_code t ≤ 3)
    (h : s.commitTcamDelete t f = .done u resp) : Quiet (slotWords f (s.tblW t)) s u := by
  have hw : s.tblW t ≤ 8 := by have := isWidth_tblW hcode; omega
  obtain ⟨inside, rfl | ⟨payload, rfl⟩⟩ := commitTcamDelete_done h
  · exact .refl
  · exact (quiet_dropEntry_words (inTable_lt inside) hw).stampDelta 2 t payload (srcBad_lt (tcamSrc_lt t f hw))

theorem tcamResult_keepsWords {result : Nat} {must : Bool} (hcode : s.rdi TCAM_TBL_CFG_width_code t ≤ 3)
    (h : s.commitTcamResult t f result must = .done u resp) :
    Quiet (fun sid wi => sid == sidResult && wi == f) s u := by
  intro idle
  obtain ⟨ternary, inside, outcome⟩ := commitTcamResult_done h
  have hf := inTable_lt inside
  have stored := quiet_storeWord (s := s) (own := fun sid wi => sid == sidResult && wi == f) sidResult f (leBytes 8 result) rfl
    (by omega) (by simp)
  rcases outcome _ rfl with rfl | ⟨payload, rfl⟩
  · exact (stored.trans (quiet_stamp t)) idle
  · refine stored.stampDelta 3 t payload (srcBad_lt (tcamSrc_lt t f ?_)) idle
    rw [tblW_stamp, tblW_storeWord _ _ _ idle (tblIs_lt ternary)]
    have := isWidth_tblW hcode
    omega

theorem exactWrite_keepsWords {type result : Nat} {key : List Byte} {learned must free : Bool}
    (h : s.commitExactWrite t type key result learned must free = .done u resp) :
    ∃ p, (s.exactFind t (2 ^ (type - 1)) key = some p ∨
      s.exactFind t (2 ^ (type - 1)) key = none ∧ s.freePlace t key = some p) ∧ Quiet (placeWords p) s u := by
  obtain ⟨s1, p, payload, insert, rfl⟩ := commitExactWrite_done h
  obtain ⟨place, stored⟩ := quiet_exactInsert insert
  exact ⟨p, place, (stored.trans (quiet_logHost t type key)).stampDelta 1 t payload (by simp)⟩

theorem exactDelete_keepsWords {type : Nat} {key : List Byte} (h : s.commitExactDelete t type key = .done u resp) :
    (s.exactFind t (2 ^ (type - 1)) key = none → u.mem = s.mem) ∧
      ∀ p, s.exactFind t (2 ^ (type - 1)) key = some p → Quiet (placeWords p) s u := by
  rcases commitExactDelete_done h with ⟨absent, rfl⟩ | ⟨p, payload, found, rfl⟩
  · exact ⟨fun _ => s.logHost_mem t type key, fun p found => absurd (found.symm.trans absent) (by simp)⟩
  · refine ⟨fun absent => absurd (found.symm.trans absent) (by simp), fun q found' => ?_⟩
    obtain rfl : p = q := Option.some.inj (found.symm.trans found')
    exact ((quiet_logHost t type key).trans (quiet_dropPlace (exactFind_real found) placeWords_self)).stampDelta 2 t payload
      (srcBad_lt (placeSrc_lt p))

theorem exactResult_keepsWords {type result : Nat} {key : List Byte}
    (h : s.commitExactResult t type key result = .done u resp) :
    ∃ p, s.exactFind t (2 ^ (type - 1)) key = some p ∧ Quiet (placeWords p) s u := by
  obtain ⟨p, payload, s1, found, rfl, rfl⟩ := commitExactResult_done h
  exact ⟨p, found, ((quiet_putPlaceBytes (exactFind_real found) _ _ placeWords_self).trans
    (quiet_logHost t type key)).stampDelta 3 t payload (srcBad_lt (placeSrc_lt p))⟩

theorem dix_keepsWords {h w : Nat} (hh : h < 131072) (done : s.commitDix h w = .done u resp) :
    Quiet (fun sid wi => sid == sidDix && wi == h) s u := by
  have stored := quiet_storeWord (s := s) (own := fun sid wi => sid == sidDix && wi == h) sidDix h (leBytes 8 w) rfl (by omega)
    (by simp)
  rw [← (UpdRes.done.inj done).1]
  exact (stored.trans quiet_stampDix).trans (quiet_delta _ _ _ _ (by simp))

theorem keySlotZeroise_keepsWords {k : Fin 85} (h : exec (.keySlotZeroise k) s = .next u) :
    Quiet (fun sid wi => sid == sidKey && keyOff k.val / 8 ≤ wi && wi < (keyOff k.val + keyLen k.val) / 8) s u := by
  have h : execKeySlotZeroise k s = .next u := h
  unfold execKeySlotZeroise at h
  split at h
  · rw [ok_next h]
    exact (quiet_zeroise k.isLt fun wi h1 h2 => by simp [h1, h2]).trans quiet_settled
  · rw [ok_next h]
    exact quiet_settled

end

/-- Settles O60: each update stores to the words it names, and what follows, the stamp, the logs and the journal's record, to the
caddy and BAR2 RAM alone, since no flip-mask is armed. -/
theorem updatesTouchOnlyTheirEntry : Obligations.UpdatesTouchOnlyTheirEntry := by
  intro s u t resp idle hcode
  refine ⟨?write, ?delete, ?result, ?exactWrite, ?exactDelete, ?exactResult, ?dix, ?key⟩
  case write =>
    intro idx prio result value mask must free h
    obtain ⟨f, place, quiet⟩ := tcamWrite_keepsWords hcode h
    exact ⟨f, place, (quiet idle).2⟩
  case delete => exact fun f h => (tcamDelete_keepsWords hcode h idle).2
  case result => exact fun f result must h => (tcamResult_keepsWords hcode h idle).2
  case exactWrite =>
    intro type key result learned must free h
    obtain ⟨p, place, quiet⟩ := exactWrite_keepsWords h
    exact ⟨p, place, (quiet idle).2⟩
  case exactDelete =>
    intro type key h
    obtain ⟨absent, found⟩ := exactDelete_keepsWords h
    exact ⟨absent, fun p hp => (found p hp idle).2⟩
  case exactResult =>
    intro type key result h
    obtain ⟨p, found, quiet⟩ := exactResult_keepsWords h
    exact ⟨p, found, (quiet idle).2⟩
  case dix => exact fun h w hh done => (dix_keepsWords hh done idle).2
  case key => exact fun k h => (keySlotZeroise_keepsWords h idle).2

end Sys2Proof.Machine

/-! Proofs of the statements of *The ternary array*: the blocks and the registry when START completes (R328). -/

namespace Sys2Proof.Machine
open Reg

/-- When START completes every field holds its reset value. -/
theorem rdi_reset (f : Fld) (i : Nat) : State.reset.rdi f i = fldReset f i := State.rdi_of_empty rfl f i

theorem fldReset_replicate {f : Fld} {n a b i : Nat} (h : f.reset = List.replicate n a ++ [b]) :
    fldReset f i = if i < n then a else b := by
  unfold fldReset
  rw [h]
  split
  · next lt => rw [List.getD_append _ _ _ _ (by simpa using lt), List.getD_replicate _ lt]
  · next ge =>
    rw [List.getD_append_right _ _ _ _ (by simpa using ge)]
    cases i - (List.replicate n a).length <;> simp

theorem blk_reset (b : Nat) : State.reset.blk b = if b < 248 then blkGated else blkOwned :=
  (rdi_reset _ _).trans (fldReset_replicate rfl)

theorem ownsBlk_reset {b : Nat} (h : 248 ≤ b) : State.reset.ownsBlk 63 b = true := by
  have owner : State.reset.rdi TCAM_BLK_CTRL_owner b = 63 :=
    ((rdi_reset _ _).trans (fldReset_replicate rfl)).trans (if_neg (by omega))
  simp [State.ownsBlk, blk_reset, owner, show ¬b < 248 by omega]

/-- No array slot is listed when START completes, so every one of them is invalid. -/
theorem slotValid_reset {i : Nat} (h : i < 2 ^ 22) : slotValid (State.reset.slot i) = false := by
  by_contra valid
  have listed := mem_listedUnits_of_slotValid h (by simpa using valid)
  have unlisted : listedUnits State.reset.mem sidArray = [] := rfl
  simp [unlisted] at listed

theorem tblDefined_reset {t : Nat} (h : t < 63) : State.reset.tblDefined t = false := by
  have undefined : State.reset.rdi TCAM_TBL_CFG_defined t = 0 :=
    ((rdi_reset _ _).trans (fldReset_replicate rfl)).trans (if_pos h)
  simp [State.tblDefined, undefined]

/-- Settles O36: the register file is empty and so every field holds its reset value, and the memories are empty and so no array
slot is listed. -/
theorem resetBlocksAndTables : Obligations.ResetBlocksAndTables :=
  ⟨fun b h => (blk_reset b).trans (if_pos h), fun _ h _ => ownsBlk_reset h, fun _ _ h => slotValid_reset (by omega),
    fun _ h => tblDefined_reset h⟩

end Sys2Proof.Machine

/-! Proofs of the statements of *Exact match, direct index and learning*: the entry that a lookup answers with (R372). -/

namespace Sys2Proof.Machine
open Reg

section
variable {s : State} {t mask : Nat} {key : List Byte} {p q : Place}

/-- The two type bits of an entry that answers are not 0 (R370), so the order of R372 names its type. -/
theorem entType_mem_of_answers (h : s.answers t mask key p = true) : entType (s.unitBytesOf p) ∈ [1, 3, 2] := by
  have nonzero : entType (s.unitBytesOf p) ≠ 0 := by
    simp only [State.answers, Bool.and_eq_true, bne_iff_ne] at h
    obtain ⟨⟨⟨-, nonzero⟩, -⟩, -⟩ := h
    exact nonzero
  have two_bits : entType (s.unitBytesOf p) < 2 ^ 2 := Nat.mod_lt _ (by decide)
  simp only [List.mem_cons, List.not_mem_nil, or_false]
  omega

/-- The entry found answers the key, and no entry that answers has a type before its own in the order of R372. -/
theorem exactFind_eq_some (h : s.exactFind t mask key = some p) :
    p ∈ s.candidates t key ∧ s.answers t mask key p = true ∧
      ∃ before after, [1, 3, 2] = before ++ entType (s.unitBytesOf p) :: after ∧
        ∀ q ∈ s.candidates t key, s.answers t mask key q = true → entType (s.unitBytesOf q) ∉ before := by
  obtain ⟨before, type, after, order, found, skipped⟩ := List.findSome?_eq_some_iff.1 h
  obtain ⟨candidate, answers⟩ := List.mem_filter.1 (List.mem_of_find?_eq_some found)
  obtain rfl : entType (s.unitBytesOf p) = type := by simpa using List.find?_some found
  refine ⟨candidate, answers, before, after, order, fun q hq ha earlier => ?_⟩
  have none_of_type := List.find?_eq_none.1 (skipped _ earlier) q (List.mem_filter.2 ⟨hq, ha⟩)
  exact none_of_type (beq_self_eq_true _)

theorem exactFind_eq_none_iff :
    s.exactFind t mask key = none ↔ ∀ q ∈ s.candidates t key, s.answers t mask key q = false := by
  unfold State.exactFind
  rw [List.findSome?_eq_none_iff]
  constructor
  · intro misses q hq
    by_contra ha
    have ha : s.answers t mask key q = true := by simpa using ha
    have none_of_type := List.find?_eq_none.1 (misses _ (entType_mem_of_answers ha)) q (List.mem_filter.2 ⟨hq, ha⟩)
    exact none_of_type (beq_self_eq_true _)
  · intro silent type _
    have nobody : (s.candidates t key).filter (s.answers t mask key) = [] :=
      List.filter_eq_nil_iff.2 fun q hq => by simp [silent q hq]
    rw [nobody, List.find?_nil]

/-- A rank that never falls along the order of R372 is least at the entry found. -/
theorem exactFind_rank_le {rank : Nat → Nat} (rising : [1, 3, 2].Pairwise (rank · ≤ rank ·))
    (found : s.exactFind t mask key = some p) (hq : q ∈ s.candidates t key) (ha : s.answers t mask key q = true) :
    rank (entType (s.unitBytesOf p)) ≤ rank (entType (s.unitBytesOf q)) := by
  obtain ⟨-, -, before, after, order, skipped⟩ := exactFind_eq_some found
  have listed := entType_mem_of_answers ha
  rw [order] at rising listed
  obtain ⟨-, rising_from, -⟩ := List.pairwise_append.1 rising
  rcases List.mem_append.1 listed with earlier | here
  · exact absurd earlier (skipped q hq ha)
  · rcases List.mem_cons.1 here with same | later
    · exact (congrArg rank same).ge
    · exact (List.pairwise_cons.1 rising_from).1 _ later

end

/-- Settles O55: the types are tried in the order of their ranks, and every entry that answers has one of them. -/
theorem exactLookupPrefersContent : Obligations.ExactLookupPrefersContent := by
  intro s t mask key rank ranks
  have rising : [1, 3, 2].Pairwise (rank · ≤ rank ·) := by subst ranks; decide
  refine ⟨fun p found => ?_, exactFind_eq_none_iff⟩
  obtain ⟨candidate, answers, -⟩ := exactFind_eq_some found
  exact ⟨candidate, answers, fun q hq ha => exactFind_rank_le rising found hq ha⟩

end Sys2Proof.Machine

/-! Proofs of the statements of *The Stavso chain*: the check bits of a frame and its listed types (R433, R435, R436). -/

namespace Sys2Proof.Machine

/-! ### The check bits -/

/-- Exclusive-ORs of two parts together are 1 exactly when the two counts have an odd sum. -/
theorem decide_odd_bne (m n : Nat) : (decide (m % 2 = 1) != decide (n % 2 = 1)) = decide ((m + n) % 2 = 1) := by
  rw [Bool.eq_iff_iff]
  simp only [bne_iff_ne, ne_eq, decide_eq_decide, decide_eq_true_eq]
  omega

/-- An exclusive-OR of bits is 1 exactly when an odd number of them is 1. -/
theorem xorBits_eq_decide_odd (w v : Nat) : xorBits w v = decide ((List.range w).countP v.testBit % 2 = 1) := by
  induction w with
  | zero => rfl
  | succ w ih =>
    have next : xorBits (w + 1) v = (xorBits w v != bitOf v w) := by
      simp only [xorBits, List.range_succ, List.foldl_append, List.foldl_cons, List.foldl_nil]
    have last : bitOf v w = decide ((if v.testBit w = true then 1 else 0) % 2 = 1) := by
      rw [bitOf_eq_testBit]
      cases v.testBit w <;> rfl
    rw [next, ih, last, decide_odd_bne, List.range_succ, List.countP_append, List.countP_singleton]

theorem testBit_bitsOf (v lo w i : Nat) : (bitsOf v lo w).testBit i = (decide (i < w) && v.testBit (lo + i)) := by
  rw [bitsOf, Nat.testBit_mod_two_pow, Nat.testBit_div_two_pow, Nat.add_comm]

/-- The exclusive-OR of the bits `[lo + w - 1 : lo]`. -/
theorem xorBits_bitsOf (v lo w : Nat) :
    xorBits w (bitsOf v lo w) = decide ((List.range w).countP (fun i => v.testBit (lo + i)) % 2 = 1) := by
  rw [xorBits_eq_decide_odd]
  congr 3
  refine List.countP_congr fun i hi => ?_
  rw [testBit_bitsOf, decide_eq_true (List.mem_range.1 hi), Bool.true_and]

theorem b2n_le (b : Bool) : b2n b ≤ 1 := by cases b <;> decide

theorem chkBits_eq (body flags : Nat) : chkBits body flags = b2n (xorBits 32 (bitsOf body (32 * 0) 32)) +
    b2n (xorBits 32 (bitsOf body (32 * 1) 32)) * 2 + b2n (xorBits 32 (bitsOf body (32 * 2) 32)) * 4 +
      8 * b2n (xorBits 28 (bitsOf body 96 28) != xorBits 8 flags) := by
  simp [chkBits, List.range_succ]

theorem eq_spelled_iff : ∀ n < 16, ∀ a b c d : Bool, n = b2n a + b2n b * 2 + b2n c * 4 + 8 * b2n d ↔
    n.testBit 0 = a ∧ n.testBit 1 = b ∧ n.testBit 2 = c ∧ n.testBit 3 = d := by decide

/-- chk[q] is the exclusive-OR of D[32q + 31:32q] for q from 0 to 2, and chk[3] that of D[123:96] and F[7:0] (R433). -/
theorem eq_chkBits_iff {n : Nat} (h : n < 16) (body flags : Nat) : n = chkBits body flags ↔
    (∀ q < 3, n.testBit q = xorBits 32 (bitsOf body (32 * q) 32)) ∧
      n.testBit 3 = (xorBits 28 (bitsOf body 96 28) != xorBits 8 flags) := by
  rw [chkBits_eq, eq_spelled_iff n h]
  simp only [Nat.forall_lt_succ_right, Nat.not_lt_zero, false_imp_iff, implies_true, true_and, and_assoc]

theorem chkBits_lt (body flags : Nat) : chkBits body flags < 16 := by
  have bit0 := b2n_le (xorBits 32 (bitsOf body (32 * 0) 32))
  have bit1 := b2n_le (xorBits 32 (bitsOf body (32 * 1) 32))
  have bit2 := b2n_le (xorBits 32 (bitsOf body (32 * 2) 32))
  have bit3 := b2n_le (xorBits 28 (bitsOf body 96 28) != xorBits 8 flags)
  rw [chkBits_eq]
  omega

/-! ### A frame that is received -/

theorem typeListed_fromUp_iff {c : Nat} : typeListed .fromUp c = true ↔ c ∈ [0, 1, 2, 3, 4, 5] := by
  simp only [typeListed, decide_eq_true_eq, List.mem_cons, List.not_mem_nil, or_false]
  omega

theorem typeListed_fromDown_iff {c : Nat} : typeListed .fromDown c = true ↔ c ∈ [0, 1, 2, 4] := by
  simp only [typeListed, Bool.or_eq_true, decide_eq_true_eq, beq_iff_eq, List.mem_cons, List.not_mem_nil, or_false]
  omega

theorem frameValid_iff {b : FrameBits} {side : LinkSide} : frameValid b side = true ↔
    b.data.toNat / 2 ^ 124 = chkBits (b.data.toNat % 2 ^ 124) b.flags.toNat ∧
      typeListed side (b.flags.toNat % 8) = true := by
  simp only [frameValid, Bool.and_eq_true, beq_iff_eq]

/-- The check covers D[123:0]: below bit 124 an exclusive-OR of the body is one of the data's own bits. -/
theorem xorBits_body {d : BitVec 128} {lo w : Nat} (h : lo + w ≤ 124) : xorBits w (bitsOf (d.toNat % 2 ^ 124) lo w) =
    decide ((List.range w).countP (fun i => d.getLsbD (lo + i)) % 2 = 1) := by
  rw [xorBits_bitsOf]
  congr 3
  refine List.countP_congr fun i hi => ?_
  have inside : lo + i < 124 := by have := List.mem_range.1 hi; omega
  rw [Nat.testBit_mod_two_pow, decide_eq_true inside, Bool.true_and, BitVec.testBit_toNat]

/-- The check of R433 bit by bit. -/
theorem frameValid_iff_bits (b : FrameBits) (side : LinkSide) : frameValid b side = true ↔
    (∀ q < 3, b.data.getLsbD (124 + q) =
      decide ((List.range 32).countP (fun i => b.data.getLsbD (32 * q + i)) % 2 = 1)) ∧
    b.data.getLsbD 127 = decide (((List.range 28).countP (fun i => b.data.getLsbD (96 + i)) +
      (List.range 8).countP (fun i => b.flags.getLsbD i)) % 2 = 1) ∧
    typeListed side (b.flags.toNat % 8) = true := by
  have check (q : Nat) : (b.data.toNat / 2 ^ 124).testBit q = b.data.getLsbD (124 + q) := by
    rw [Nat.testBit_div_two_pow, Nat.add_comm, BitVec.testBit_toNat]
  have word {q : Nat} (hq : q < 3) := xorBits_body (d := b.data) (lo := 32 * q) (w := 32) (by omega)
  have flags : xorBits 8 b.flags.toNat = decide ((List.range 8).countP (fun i => b.flags.getLsbD i) % 2 = 1) :=
    xorBits_eq_decide_odd 8 b.flags.toNat
  have last := (congrArg₂ bne (xorBits_body (d := b.data) (lo := 96) (w := 28) (by decide)) flags).trans (decide_odd_bne ..)
  rw [frameValid_iff, eq_chkBits_iff (Nat.div_lt_of_lt_mul b.data.isLt), last, check, and_assoc]
  refine and_congr_left' (forall₂_congr fun q hq => ?_)
  rw [check, word hq]

/-! ### The frames that a member drives -/

theorem leNat_lt (l : List Byte) : leNat l < 256 ^ l.length := by
  induction l with
  | nil => decide
  | cons b l ih =>
    rw [leNat, List.length_cons, Nat.pow_succ]
    have := b.isLt
    omega

theorem length_padTo (n : Nat) (l : List Byte) : (padTo n l).length = n := by
  simp only [padTo, List.length_take, List.length_append, List.length_replicate]
  omega

theorem answerBody_lt (a : Answer) : answerBody a < 2 ^ 124 := by
  have result := a.result.isLt
  have parity := b2n_le a.parityExcluded
  have corrected := b2n_le a.corrected
  simp only [answerBody]
  omega

/-- Every frame's body fits in D[123:0]. -/
theorem frameBody_lt (f : Sys2Proof.Frame) : frameBody f < 2 ^ 124 := by
  cases f with
  | idle => exact Nat.two_pow_pos 124
  | train => decide
  | search _ key cls =>
    have := key.isLt
    show key.toNat + cls % 256 * 2 ^ 112 < 2 ^ 124
    omega
  | answer a => exact answerBody_lt a
  | status _ alive fault heat =>
    have := alive.isLt
    have := fault.isLt
    show alive.toNat + fault.toNat * 2 ^ 32 + heat % 8 * 2 ^ 64 < 2 ^ 124
    omega
  | token count stamp serial seq =>
    show count % 64 + stamp % 2 ^ 32 * 2 ^ 6 + serial % 2 ^ 64 * 2 ^ 38 + seq % 256 * 2 ^ 102 < 2 ^ 124
    omega
  | pktHead _ src kind count tag fields =>
    have := fields.isLt
    show src % 32 + kind % 16 * 2 ^ 5 + count % 4096 * 2 ^ 9 + tag % 65536 * 2 ^ 21 + fields.toNat * 2 ^ 37 < 2 ^ 124
    omega
  | pktData n bytes =>
    calc leNat (padTo 15 bytes) < 256 ^ (padTo 15 bytes).length := leNat_lt _
      _ = 256 ^ 15 := by rw [length_padTo]
      _ < 2 ^ 124 := by decide

theorem frameCode_le (f : Sys2Proof.Frame) : frameCode f ≤ 5 := by
  cases f <;> simp only [frameCode] <;> omega

theorem frameFlags_lt (f : Sys2Proof.Frame) : frameFlags f < 32 := by
  cases f with
  | answer a =>
    have := b2n_le a.poison
    simp only [frameFlags]
    omega
  | _ =>
    simp only [frameFlags]
    omega

/-- A driven frame has the right check in either direction, so only its type decides. -/
theorem frameValid_frameBits (f : Sys2Proof.Frame) (side : LinkSide) :
    frameValid (frameBits f) side = typeListed side (frameCode f) := by
  have code := frameCode_le f
  have body := frameBody_lt f
  have flagBits := frameFlags_lt f
  have check := chkBits_lt (frameBody f) (frameCode f + 8 * frameFlags f)
  have flags : (frameBits f).flags.toNat = frameCode f + 8 * frameFlags f :=
    (BitVec.toNat_ofNat ..).trans (Nat.mod_eq_of_lt (by omega))
  have data : (frameBits f).data.toNat =
      frameBody f + chkBits (frameBody f) (frameCode f + 8 * frameFlags f) * 2 ^ 124 :=
    (BitVec.toNat_ofNat ..).trans (Nat.mod_eq_of_lt (by omega))
  have high : (frameBits f).data.toNat / 2 ^ 124 = chkBits (frameBody f) (frameCode f + 8 * frameFlags f) := by omega
  have low : (frameBits f).data.toNat % 2 ^ 124 = frameBody f := by omega
  have type : (frameBits f).flags.toNat % 8 = frameCode f := by omega
  rw [frameValid, high, low, type, flags, beq_self_eq_true, Bool.true_and]

theorem typeListed_fromUp_frameCode (f : Sys2Proof.Frame) : typeListed .fromUp (frameCode f) = true :=
  decide_eq_true (frameCode_le f)

/-! ### The edges of a window -/

/-- Edge `k / 16` carries bit `k` of the data on line `k % 16` (R432). -/
theorem getLsbD_frameEdge (b : FrameBits) (k : Nat) :
    (frameEdge b (k / 16)).1.getLsbD (k % 16) = b.data.getLsbD k := by
  rw [frameEdge, BitVec.getLsbD_extractLsb', decide_eq_true (Nat.mod_lt k (by decide)), Bool.true_and, Nat.div_add_mod]

theorem completes_frameError_of_valid {s : State} {f : SampledFrame} (h : frameValid f.bits f.side = true) :
    Completes (.frameError f) s s := by
  show execFrameError f s = _
  simp only [execFrameError, h, Bool.true_or, if_true, ok_eq]

/-- Settles O33: the check bits are parities of a frame's bits, and those of a driven frame are computed from a body that fits
in D[123:0], so that its type alone decides. -/
theorem framesCarryTheirCheck : Obligations.FramesCarryTheirCheck := by
  refine ⟨fun b side => ?_, fun f _ => ?_, fun f back => ?_, by decide, by decide, by decide, by decide,
    fun b k _ => getLsbD_frameEdge b k, fun _ _ => rfl, fun _ _ => completes_frameError_of_valid⟩
  · cases side with
    | fromUp => rw [frameValid_iff_bits, typeListed_fromUp_iff]
    | fromDown => rw [frameValid_iff_bits, typeListed_fromDown_iff]
  · rw [frameValid_frameBits, typeListed_fromUp_frameCode]
  · rw [frameValid_frameBits]
    cases f with
    | idle | train | answer | status => rfl
    | search | token | pktHead | pktData => exact back.elim

end Sys2Proof.Machine

/-! Proofs of the statements of *Integrity*: the copy that a read of a paired structure uses (R591), and what a detector's report
does (R603 to R607). -/

namespace Sys2Proof.Machine
open Reg

/-! ### A read of a paired structure (R591) -/

section
variable {m : Memory} {sid wi : Nat} (pair : paired sid = true)
include pair

theorem readWord_of_copyA_passes (a : (readRaw m sid 0 wi).syn = 0) :
    (readWord m sid wi).data = (readRaw m sid 0 wi).data ∧ (readWord m sid wi).poison = false := by
  simp only [readWord, pair, a, if_true, and_self]

theorem readWord_of_only_copyB_passes (a : (readRaw m sid 0 wi).syn ≠ 0) (b : (readRaw m sid 1 wi).syn = 0) :
    (readWord m sid wi).data = (readRaw m sid 1 wi).data ∧ (readWord m sid wi).poison = false := by
  simp only [readWord, pair, a, b, if_true, if_false, and_self]

theorem readWord_of_no_copy_passes (a : (readRaw m sid 0 wi).syn ≠ 0) (b : (readRaw m sid 1 wi).syn ≠ 0) :
    (readWord m sid wi).poison = true := by
  simp only [readWord, pair, a, b, if_true, if_false]

/-- A word leaves without poison exactly when a copy of it passes. -/
theorem readWord_poison_eq_false_iff :
    (readWord m sid wi).poison = false ↔ (readRaw m sid 0 wi).syn = 0 ∨ (readRaw m sid 1 wi).syn = 0 := by
  by_cases a : (readRaw m sid 0 wi).syn = 0
  · exact iff_of_true (readWord_of_copyA_passes pair a).2 (.inl a)
  · by_cases b : (readRaw m sid 1 wi).syn = 0
    · exact iff_of_true (readWord_of_only_copyB_passes pair a b).2 (.inr b)
    · exact iff_of_false (by simp [readWord_of_no_copy_passes pair a b]) (not_or.2 ⟨a, b⟩)

end

/-- Settles O52: a word passes in copy A, in copy B alone or in neither, and a unit's read is the reads of its words. -/
theorem pairedReadUsesAPassingCopy : Obligations.PairedReadUsesAPassingCopy := fun _ _ pair =>
  ⟨fun _ => ⟨readWord_of_copyA_passes pair, readWord_of_only_copyB_passes pair, readWord_of_no_copy_passes pair⟩,
    fun _ => forall₂_congr fun _ _ => readWord_poison_eq_false_iff pair⟩

/-! ### The registers that each part of a report writes -/

/-- From `s` to `t` every field keeps its value but those whose keys in the register file `K` names. -/
def FieldsKeptBut (K : Nat → Prop) (s t : State) : Prop := ∀ g j, ¬K (fldKey g j) → t.rdi g j = s.rdi g j

/-- The count of the seen list and its full bit. -/
abbrev SeenListKey (k : Nat) : Prop := k = fldKey INTEG_STATUS_seen_count 0 ∨ k = fldKey INTEG_STATUS_seen_full 0

/-- The words of the log. -/
abbrev LogWordKey (k : Nat) : Prop := fldKey INTEG_LOG_record 0 ≤ k ∧ k < fldKey INTEG_LOG_record 512

/-- The log, its count of records written, and its count and event of records lost. -/
abbrev LogKey (k : Nat) : Prop :=
  LogWordKey k ∨ k = fldKey INTEG_LOG_STATUS_written 0 ∨ k = fldKey INTEG_LOG_LOST_log_lost 0 ∨
    k = fldKey INTEG_EVENT_log_lost 0 ∨ k = fldKey MSIX_PBA_pending 0

/-- The counters of the structures. -/
abbrev SidCountKey (k : Nat) : Prop := fldKey INTEG_SID_COUNT_sid_corr 0 ≤ k ∧ k < fldKey INTEG_SID_COUNT_sid_corr 21

/-- The counters and the event bits of the kinds, with what an event's interrupt reaches. -/
abbrev KindKey (k : Nat) : Prop :=
  k ∈ [fldKey INTEG_CORR_COUNT_corr_count 0, fldKey INTEG_POISON_COUNT_poison_bites 0, fldKey INTEG_UNCORR_COUNT_uncorr_count 0,
    fldKey INTEG_EVENT_corrected 0, fldKey INTEG_EVENT_bite 0, fldKey INTEG_EVENT_uncorrectable 0, fldKey MSIX_PBA_pending 0]

theorem fldKey_record (k : Nat) : fldKey INTEG_LOG_record k = fldKey INTEG_LOG_record 0 + 128 * k := by
  simp only [fldKey, INTEG_LOG_record]
  omega

theorem fldKey_sidCorr (j : Nat) : fldKey INTEG_SID_COUNT_sid_corr j = fldKey INTEG_SID_COUNT_sid_corr 0 + 128 * j := by
  simp only [fldKey, INTEG_SID_COUNT_sid_corr]
  omega

theorem fldKey_sidUncorr (j : Nat) : fldKey INTEG_SID_COUNT_sid_uncorr j = fldKey INTEG_SID_COUNT_sid_corr j + 16 := rfl

theorem logWordKey_record {k : Nat} (h : k < 512) : LogWordKey (fldKey INTEG_LOG_record k) := by
  have start := fldKey_record k
  have stop := fldKey_record 512
  constructor <;> omega

theorem sidCountKey_corr {j : Nat} (h : j < 21) : SidCountKey (fldKey INTEG_SID_COUNT_sid_corr j) := by
  have start := fldKey_sidCorr j
  have stop := fldKey_sidCorr 21
  constructor <;> omega

theorem sidCountKey_uncorr {j : Nat} (h : j < 21) : SidCountKey (fldKey INTEG_SID_COUNT_sid_uncorr j) := by
  have start := fldKey_sidCorr j
  have stop := fldKey_sidCorr 21
  have gap := fldKey_sidUncorr j
  constructor <;> omega

/-- A word of the log is no other register that a report writes. -/
theorem LogWordKey.apart {k : Nat} (h : LogWordKey k) : ¬SeenListKey k ∧ ¬SidCountKey k ∧ ¬KindKey k ∧
    k ≠ fldKey INTEG_LOG_STATUS_written 0 ∧ k ≠ fldKey INTEG_LOG_LOST_log_lost 0 ∧ k ≠ fldKey INTEG_EVENT_log_lost 0 ∧
    k ≠ fldKey MSIX_PBA_pending 0 := by
  refine ⟨?_, fun sid => ?_, fun kind => ?_, ?_, ?_, ?_, ?_⟩
  · rintro (rfl | rfl) <;> exact absurd h (by decide)
  · have : fldKey INTEG_SID_COUNT_sid_corr 21 ≤ fldKey INTEG_LOG_record 0 := by decide
    omega
  · exact (by decide : ∀ k, KindKey k → ¬LogWordKey k) k kind h
  all_goals rintro rfl; exact absurd h (by decide)

/-- A counter of a structure is no other register that a report writes. -/
theorem SidCountKey.apart {k : Nat} (h : SidCountKey k) : ¬(SeenListKey k ∨ LogKey k) ∧ ¬KindKey k := by
  refine ⟨?_, fun kind => (by decide : ∀ k, KindKey k → ¬SidCountKey k) k kind h⟩
  rintro ((rfl | rfl) | words | rfl | rfl | rfl | rfl)
  case inr.inl => exact words.apart.2.1 h
  all_goals exact absurd h (by decide)

/-! ### A counter that moves up with its event -/

/-- One more event counted by `counter` and in the totals `x`, and its event bit raised. -/
def State.countAndRaise (s : State) (counter event : Fld) (x : Integ) : State :=
  ({ s.inc counter with integ := x }).raise event

section
variable (s : State) {counter event : Fld} (x : Integ) (quiet : event.PostsNothing)
include quiet

theorem integ_countAndRaise : (s.countAndRaise counter event x).integ = x :=
  (frame_raise_of_postsNothing quiet).parts .integ rfl

theorem rd_countAndRaise_event (one : event.width = 1) (pending : ApartFromPending event 0) :
    (s.countAndRaise counter event x).rd event = 1 := rd_raise_same quiet one pending

theorem rd_countAndRaise_counter (apart : fldKey counter 0 ≠ fldKey event 0) (pending : ApartFromPending counter 0) :
    (s.countAndRaise counter event x).rd counter = min (s.rd counter + 1) (2 ^ counter.width - 1) :=
  (rd_raise_other quiet apart pending).trans (s.rd_inc_same counter)

theorem rdi_countAndRaise_other {g : Fld} {j : Nat} (counterApart : fldKey g j ≠ fldKey counter 0)
    (eventApart : fldKey g j ≠ fldKey event 0) (pending : ApartFromPending g j) :
    (s.countAndRaise counter event x).rdi g j = s.rdi g j := by
  calc _ = ({ s.inc counter with integ := x } : State).rdi g j :=
        (rdi_raise_of_postsNothing quiet pending).trans (State.rdi_setBit_other _ _ _ eventApart)
    _ = s.rdi g j := State.rdi_addi_other _ _ counterApart

end

/-! ### The seen list -/

theorem fieldsKept_noteSeen (s : State) (key : SeenKey) : FieldsKeptBut SeenListKey s (s.noteSeen key) := by
  intro g j hk
  obtain ⟨count, full⟩ := not_or.1 hk
  unfold State.noteSeen
  split
  · exact (State.rdi_wr_other _ _ full).trans (State.rdi_wr_other _ _ count)
  · rfl

theorem seen_noteSeen (s : State) (key : SeenKey) :
    (s.noteSeen key).integ.seen = if s.integ.seen.length < 256 then s.integ.seen ++ [key] else s.integ.seen := by
  unfold State.noteSeen
  split <;> rfl

theorem clk_noteSeen (s : State) (key : SeenKey) : (s.noteSeen key).clk = s.clk := by
  unfold State.noteSeen
  split <;> rfl

/-! ### The log (R606, R607) -/

/-- The state's log has room for a record. -/
abbrev State.LogHasRoom (s : State) : Prop :=
  (s.rd INTEG_LOG_STATUS_written + 65536 - s.rd INTEG_LOG_STATUS_consumed) % 65536 < 64

/-- The log of `t` holds a record of `r` in the place that was next in the log of `s`. -/
def LogsRecord (r : Report) (s t : State) : Prop :=
  t.rd INTEG_LOG_STATUS_written = (s.rd INTEG_LOG_STATUS_written + 1) % 65536 ∧
    ∀ k < 8, t.rdi INTEG_LOG_record (8 * (s.rd INTEG_LOG_STATUS_written % 64) + k) =
      leNat (((logBytes r (s.rd INTEG_LOG_STATUS_written) s.clk.ply).drop (4 * k)).take 4)

/-- The log of `t` is that of `s`, and one more record is counted as lost. -/
def LosesRecord (s t : State) : Prop :=
  t.rd INTEG_LOG_STATUS_written = s.rd INTEG_LOG_STATUS_written ∧ t.rd INTEG_EVENT_log_lost = 1 ∧
    (∀ k < 512, t.rdi INTEG_LOG_record k = s.rdi INTEG_LOG_record k) ∧ t.rd INTEG_LOG_LOST_log_lost =
      min (s.rd INTEG_LOG_LOST_log_lost + 1) (2 ^ INTEG_LOG_LOST_log_lost.width - 1)

theorem putLog_cons (s : State) (k : Nat) (b0 b1 b2 b3 : Byte) (bs : List Byte) :
    s.putLog k (b0 :: b1 :: b2 :: b3 :: bs) = (s.wri INTEG_LOG_record k (leNat [b0, b1, b2, b3])).putLog (k + 1) bs := rfl

theorem rdi_wri_record (s : State) (k : Nat) (b0 b1 b2 b3 : Byte) :
    (s.wri INTEG_LOG_record k (leNat [b0, b1, b2, b3])).rdi INTEG_LOG_record k = leNat [b0, b1, b2, b3] := by
  rw [State.rdi_wri_same]
  exact Nat.mod_eq_of_lt ((leNat_lt _).trans_eq (by simp [INTEG_LOG_record]))

@[simp] theorem integ_putLog (s : State) (k : Nat) (bs : List Byte) : (s.putLog k bs).integ = s.integ := by
  fun_induction State.putLog s k bs with
  | case1 s k b0 b1 b2 b3 bs ih => exact ih
  | case2 => rfl

/-- Words written upward from word `k` of the log: the fields outside them stay, and each reads its four bytes. -/
theorem putLog_words (n : Nat) (s : State) (k : Nat) (bs : List Byte) (len : bs.length = 4 * n) :
    FieldsKeptBut (fun q => fldKey INTEG_LOG_record k ≤ q ∧ q < fldKey INTEG_LOG_record (k + n)) s (s.putLog k bs) ∧
      ∀ i < n, (s.putLog k bs).rdi INTEG_LOG_record (k + i) = leNat ((bs.drop (4 * i)).take 4) := by
  induction n generalizing s k bs with
  | zero =>
    obtain rfl : bs = [] := List.length_eq_zero_iff.1 len
    exact ⟨fun _ _ _ => rfl, fun i hi => absurd hi (Nat.not_lt_zero i)⟩
  | succ n ih =>
    match bs, len with
    | b0 :: b1 :: b2 :: b3 :: bs, len =>
      simp only [List.length_cons] at len
      obtain ⟨kept, words⟩ := ih (s.wri INTEG_LOG_record k (leNat [b0, b1, b2, b3])) (k + 1) bs (by omega)
      have first := fldKey_record k
      have second := fldKey_record (k + 1)
      have last := fldKey_record (k + (n + 1))
      rw [Nat.add_right_comm, Nat.add_assoc] at kept
      rw [putLog_cons]
      refine ⟨fun g j hk => ?_, fun i hi => ?_⟩
      · exact (kept g j (by omega)).trans (State.rdi_wri_other _ _ (by omega))
      · cases i with
        | zero => exact (kept INTEG_LOG_record k (by omega)).trans (rdi_wri_record ..)
        | succ i =>
          simpa only [Nat.add_right_comm k 1 i, ← Nat.add_assoc, Nat.mul_succ, List.drop_succ_cons] using words i (by omega)

theorem length_logBytes (r : Report) (c ply : Nat) : (logBytes r c ply).length = 4 * 8 := by
  simp [logBytes, leBytes]

/-- The state with record `written` of the log in its place, before the count of it moves. -/
def State.putRecord (s : State) (r : Report) : State :=
  s.putLog (8 * (s.rd INTEG_LOG_STATUS_written % 64)) (logBytes r (s.rd INTEG_LOG_STATUS_written) s.clk.ply)

theorem logRecord_of_room {s : State} (r : Report) (room : s.LogHasRoom) :
    s.logRecord r = (s.putRecord r).wr INTEG_LOG_STATUS_written ((s.rd INTEG_LOG_STATUS_written + 1) % 65536) :=
  if_pos room

theorem logRecord_of_full {s : State} (r : Report) (full : ¬s.LogHasRoom) : ∃ x : Integ, x.seen = s.integ.seen ∧
    s.logRecord r = s.countAndRaise INTEG_LOG_LOST_log_lost INTEG_EVENT_log_lost x :=
  ⟨{ s.integ with lostTotal := countUp 32 s.integ.lostTotal }, rfl, if_neg full⟩

theorem fieldsKept_putRecord (s : State) (r : Report) : FieldsKeptBut LogWordKey s (s.putRecord r) := by
  intro g j hk
  obtain ⟨kept, -⟩ := putLog_words 8 s (8 * (s.rd INTEG_LOG_STATUS_written % 64)) _ (length_logBytes r _ s.clk.ply)
  have first := fldKey_record (8 * (s.rd INTEG_LOG_STATUS_written % 64))
  have last := fldKey_record (8 * (s.rd INTEG_LOG_STATUS_written % 64) + 8)
  have stop := fldKey_record 512
  exact kept g j (by omega)

theorem seen_logRecord (s : State) (r : Report) : (s.logRecord r).integ.seen = s.integ.seen := by
  by_cases room : s.LogHasRoom
  · rw [logRecord_of_room r room, State.wr_integ, State.putRecord, integ_putLog]
  · obtain ⟨x, seen, h⟩ := logRecord_of_full r room
    rw [h, integ_countAndRaise _ _ (by decide), seen]

theorem fieldsKept_logRecord (s : State) (r : Report) : FieldsKeptBut LogKey s (s.logRecord r) := by
  intro g j hk
  simp only [not_or] at hk
  obtain ⟨words, written, lost, event, pending⟩ := hk
  by_cases room : s.LogHasRoom
  · rw [logRecord_of_room r room]
    exact (State.rdi_wr_other _ _ written).trans (fieldsKept_putRecord s r g j words)
  · obtain ⟨x, -, h⟩ := logRecord_of_full r room
    rw [h]
    exact rdi_countAndRaise_other s x (by decide) lost event pending

theorem logRecord_logs_of_room {s : State} (r : Report) (room : s.LogHasRoom) : LogsRecord r s (s.logRecord r) := by
  rw [logRecord_of_room r room]
  refine ⟨(State.rd_wr_same ..).trans (Nat.mod_mod ..), fun k hk => ?_⟩
  obtain ⟨-, words⟩ := putLog_words 8 s (8 * (s.rd INTEG_LOG_STATUS_written % 64)) _ (length_logBytes r _ s.clk.ply)
  obtain ⟨-, -, -, written, -⟩ := (logWordKey_record (k := 8 * (s.rd INTEG_LOG_STATUS_written % 64) + k) (by omega)).apart
  exact (State.rdi_wr_other _ _ written).trans (words k hk)

theorem logRecord_loses_of_full {s : State} (r : Report) (full : ¬s.LogHasRoom) : LosesRecord s (s.logRecord r) := by
  obtain ⟨x, -, h⟩ := logRecord_of_full r full
  rw [h]
  refine ⟨rdi_countAndRaise_other s x (by decide) (by decide) (by decide) (by decide),
    rd_countAndRaise_event s x (by decide) rfl (by decide), fun k hk => ?_,
    rd_countAndRaise_counter s x (by decide) (by decide) (by decide)⟩
  obtain ⟨-, -, -, -, lost, event, pending⟩ := (logWordKey_record hk).apart
  exact rdi_countAndRaise_other s x (by decide) lost event pending

/-! ### The counters of the structures -/

section
variable {s : State} {r : Report}

theorem countSid_of_corrected {j : Nat} (kind : r.kind = 1) (index : sidIndex r.sid = some j) :
    s.countSid r = s.addi INTEG_SID_COUNT_sid_corr j 1 := by
  simp only [State.countSid, index, kind, if_true]

theorem countSid_of_uncorrected {j : Nat} (kind : r.kind = 2 ∨ r.kind = 3 ∨ r.kind = 5) (index : sidIndex r.sid = some j) :
    s.countSid r = s.addi INTEG_SID_COUNT_sid_uncorr j 1 := by
  rcases kind with kind | kind | kind <;> simp [State.countSid, index, kind]

/-- A new LATE event advances no structure's counter (R603). -/
theorem countSid_of_late (kind : r.kind = 4) : s.countSid r = s := by
  unfold State.countSid
  split
  · rfl
  · simp [kind]

end

/-- What a report can do to the counters of its structure: nothing, or one of the two moves up. -/
theorem countSid_cases (s : State) (r : Report) : s.countSid r = s ∨ ∃ j < 21,
    s.countSid r = s.addi INTEG_SID_COUNT_sid_corr j 1 ∨ s.countSid r = s.addi INTEG_SID_COUNT_sid_uncorr j 1 := by
  unfold State.countSid
  split
  · exact .inl rfl
  · rename_i j index
    split
    · exact .inr ⟨j, sidIndex_lt index, .inl rfl⟩
    · split
      · exact .inr ⟨j, sidIndex_lt index, .inr rfl⟩
      · exact .inl rfl

theorem seen_countSid (s : State) (r : Report) : (s.countSid r).integ.seen = s.integ.seen := by
  obtain h | ⟨j, -, h | h⟩ := countSid_cases s r <;> exact congrArg (fun t => t.integ.seen) h

theorem fieldsKept_countSid (s : State) (r : Report) : FieldsKeptBut SidCountKey s (s.countSid r) := by
  intro g j hk
  obtain h | ⟨i, hi, h | h⟩ := countSid_cases s r <;> rw [h]
  · exact State.rdi_addi_other _ _ fun e => hk (e ▸ sidCountKey_corr hi)
  · exact State.rdi_addi_other _ _ fun e => hk (e ▸ sidCountKey_uncorr hi)

/-! ### The counter and the event of a kind (R605) -/

/-- The counter of new events of a kind. -/
def kindCounter : Nat → Fld
  | 1 => INTEG_CORR_COUNT_corr_count
  | 3 => INTEG_POISON_COUNT_poison_bites
  | _ => INTEG_UNCORR_COUNT_uncorr_count

/-- The event bit of a kind. -/
def kindEvent : Nat → Fld
  | 1 => INTEG_EVENT_corrected
  | 3 => INTEG_EVENT_bite
  | _ => INTEG_EVENT_uncorrectable

/-- What the register map says of the counter and the event bit of every kind: they are two registers, neither is of the seen
list, the log or a structure, and the event is one bit that posts no record. -/
structure KindFields (counter event : Fld) : Prop where
  counterKey : KindKey (fldKey counter 0)
  eventKey : KindKey (fldKey event 0)
  counterPending : ApartFromPending counter 0
  eventPending : ApartFromPending event 0
  apart : fldKey counter 0 ≠ fldKey event 0
  oneBit : event.width = 1
  quiet : event.PostsNothing
  counterSid : ¬SidCountKey (fldKey counter 0)
  counterLogged : ¬(SeenListKey (fldKey counter 0) ∨ LogKey (fldKey counter 0))

theorem kindFields (k : Nat) : KindFields (kindCounter k) (kindEvent k) := by
  unfold kindCounter kindEvent
  split <;> constructor <;> decide

/-! ### A new event noted, logged and counted for its structure -/

/-- The state in which a new event has been noted and logged. -/
def State.logged (s : State) (r : Report) : State := (s.noteSeen ⟨r.sid, r.offset, r.kind⟩).logRecord r

/-- The state in which a new event has been noted, logged and counted for its structure. -/
def State.recorded (s : State) (r : Report) : State := (s.logged r).countSid r

theorem seen_recorded (s : State) (r : Report) : (s.recorded r).integ.seen =
    if s.integ.seen.length < 256 then s.integ.seen ++ [⟨r.sid, r.offset, r.kind⟩] else s.integ.seen := by
  rw [State.recorded, seen_countSid, State.logged, seen_logRecord, seen_noteSeen]

theorem fieldsKept_logged (s : State) (r : Report) : FieldsKeptBut (fun k => SeenListKey k ∨ LogKey k) s (s.logged r) := by
  intro g j hk
  obtain ⟨seen, log⟩ := not_or.1 hk
  exact (fieldsKept_logRecord _ r g j log).trans (fieldsKept_noteSeen s _ g j seen)

/-- The seen list takes no part in the room of the log. -/
theorem logStatus_noteSeen (s : State) (key : SeenKey) :
    (s.noteSeen key).rd INTEG_LOG_STATUS_written = s.rd INTEG_LOG_STATUS_written ∧
      (s.noteSeen key).rd INTEG_LOG_STATUS_consumed = s.rd INTEG_LOG_STATUS_consumed :=
  ⟨fieldsKept_noteSeen s key _ 0 (by decide), fieldsKept_noteSeen s key _ 0 (by decide)⟩

theorem logHasRoom_noteSeen (s : State) (key : SeenKey) : (s.noteSeen key).LogHasRoom ↔ s.LogHasRoom := by
  obtain ⟨written, consumed⟩ := logStatus_noteSeen s key
  rw [State.LogHasRoom, written, consumed]

theorem logged_logs_of_room {s : State} (r : Report) (room : s.LogHasRoom) : LogsRecord r s (s.logged r) := by
  have logged := logRecord_logs_of_room r ((logHasRoom_noteSeen s ⟨r.sid, r.offset, r.kind⟩).2 room)
  rwa [LogsRecord, (logStatus_noteSeen s _).1, clk_noteSeen] at logged

theorem logged_loses_of_full {s : State} (r : Report) (full : ¬s.LogHasRoom) : LosesRecord s (s.logged r) := by
  have noted := fieldsKept_noteSeen s ⟨r.sid, r.offset, r.kind⟩
  have lostBefore : (s.noteSeen ⟨r.sid, r.offset, r.kind⟩).rd INTEG_LOG_LOST_log_lost = s.rd INTEG_LOG_LOST_log_lost :=
    noted _ 0 (by decide)
  obtain ⟨written, event, words, lost⟩ := logRecord_loses_of_full r (mt (logHasRoom_noteSeen s _).1 full)
  refine ⟨written.trans (noted _ 0 (by decide)), event, fun k hk => ?_, lost.trans (by rw [lostBefore])⟩
  obtain ⟨seen, -⟩ := (logWordKey_record hk).apart
  exact (words k hk).trans (noted _ k seen)

/-! ### A report of an event on the seen list (R603) -/

section
variable {s : State} {r : Report}

theorem report_of_seen (seen : s.integ.seen.contains ⟨r.sid, r.offset, r.kind⟩ = true) :
    s.report r = { s.inc INTEG_REPEAT_COUNT_repeat_count with
      integ := { s.integ with repeatTotal := countUp 32 s.integ.repeatTotal } } := if_pos seen

theorem frame_report_of_seen (seen : s.integ.seen.contains ⟨r.sid, r.offset, r.kind⟩ = true) :
    Frame [.integ] [0x0D].contains 0 0 s (s.report r) := by
  rw [report_of_seen seen]
  exact (frame_inc (f := INTEG_REPEAT_COUNT_repeat_count) rfl).trans (frame_integ rfl _)

end

/-! ### A report of a new event (R603, R605) -/

section
variable {s : State} {r : Report} (new : s.integ.seen.contains ⟨r.sid, r.offset, r.kind⟩ = false)
include new

/-- A report of a new event: it is recorded, the counter of its kind moves up and the event of its kind is raised. -/
theorem report_of_new : ∃ x : Integ, x.seen = (s.recorded r).integ.seen ∧
    s.report r = (s.recorded r).countAndRaise (kindCounter r.kind) (kindEvent r.kind) x := by
  have rest : s.report r = _ := if_neg (Bool.eq_false_iff.1 new)
  unfold kindCounter kindEvent
  split
  next corrected =>
    exact ⟨{ (s.recorded r).integ with corrTotal := countUp 32 (s.recorded r).integ.corrTotal }, rfl,
      rest.trans (if_pos corrected)⟩
  next bite =>
    exact ⟨{ (s.recorded r).integ with biteTotal := countUp 32 (s.recorded r).integ.biteTotal }, rfl,
      rest.trans ((if_neg (by omega)).trans (if_pos bite))⟩
  next notCorrected notBite =>
    exact ⟨{ (s.recorded r).integ with uncorrTotal := countUp 32 (s.recorded r).integ.uncorrTotal }, rfl,
      rest.trans ((if_neg notCorrected).trans (if_neg notBite))⟩

/-- What the last part of a report leaves: every field but its counter, its event and the pending bits. -/
theorem fieldsKept_report_of_new : FieldsKeptBut KindKey (s.recorded r) (s.report r) := by
  intro g j hk
  have kind := kindFields r.kind
  obtain ⟨x, -, h⟩ := report_of_new new
  rw [h]
  exact rdi_countAndRaise_other _ x kind.quiet (fun e => hk (e ▸ kind.counterKey)) (fun e => hk (e ▸ kind.eventKey))
    (fun e => hk (by rw [e]; decide))

theorem report_counts_kind : (s.report r).rd (kindEvent r.kind) = 1 ∧
    (s.report r).rd (kindCounter r.kind) = min (s.rd (kindCounter r.kind) + 1) (2 ^ (kindCounter r.kind).width - 1) := by
  have kind := kindFields r.kind
  obtain ⟨x, -, h⟩ := report_of_new new
  have before : (s.recorded r).rd (kindCounter r.kind) = s.rd (kindCounter r.kind) :=
    (fieldsKept_countSid (s.logged r) r _ 0 kind.counterSid).trans (fieldsKept_logged s r _ 0 kind.counterLogged)
  rw [h, ← before]
  exact ⟨rd_countAndRaise_event _ x kind.quiet kind.oneBit kind.eventPending,
    rd_countAndRaise_counter _ x kind.quiet kind.apart kind.counterPending⟩

theorem seen_report_of_new : (s.report r).integ.seen =
    if s.integ.seen.length < 256 then s.integ.seen ++ [⟨r.sid, r.offset, r.kind⟩] else s.integ.seen := by
  obtain ⟨x, seen, h⟩ := report_of_new new
  rw [h, integ_countAndRaise _ _ (kindFields r.kind).quiet, seen, seen_recorded]

/-- What follows the log record in a report leaves every field but its counters, its event and the pending bits. -/
theorem fieldsKept_afterLog : FieldsKeptBut (fun k => SidCountKey k ∨ KindKey k) (s.logged r) (s.report r) := by
  intro g j hk
  obtain ⟨sid, kind⟩ := not_or.1 hk
  exact (fieldsKept_report_of_new new g j kind).trans (fieldsKept_countSid (s.logged r) r g j sid)

theorem report_logs_of_room (room : s.LogHasRoom) : LogsRecord r s (s.report r) := by
  obtain ⟨written, words⟩ := logged_logs_of_room r room
  have kept := fieldsKept_afterLog new
  refine ⟨(kept _ 0 (by decide)).trans written, fun k hk => (kept _ _ ?_).trans (words k hk)⟩
  obtain ⟨-, sid, kind, -⟩ := (logWordKey_record (k := 8 * (s.rd INTEG_LOG_STATUS_written % 64) + k) (by omega)).apart
  exact not_or.2 ⟨sid, kind⟩

theorem report_loses_of_full (full : ¬s.LogHasRoom) : LosesRecord s (s.report r) := by
  obtain ⟨written, event, words, lost⟩ := logged_loses_of_full r full
  have kept := fieldsKept_afterLog new
  refine ⟨(kept _ 0 (by decide)).trans written, (kept _ 0 (by decide)).trans event, fun k hk => ?_,
    (kept _ 0 (by decide)).trans lost⟩
  obtain ⟨-, sid, kind, -⟩ := (logWordKey_record hk).apart
  exact (kept _ k (not_or.2 ⟨sid, kind⟩)).trans (words k hk)

/-- No more than 64 records stand between consumed and written of the log, before and after (R607). -/
theorem report_keeps_logBound (written : s.rd INTEG_LOG_STATUS_written < 65536)
    (consumed : s.rd INTEG_LOG_STATUS_consumed < 65536)
    (bound : cntDist (s.rd INTEG_LOG_STATUS_consumed) (s.rd INTEG_LOG_STATUS_written) ≤ 64) :
    cntDist ((s.report r).rd INTEG_LOG_STATUS_consumed) ((s.report r).rd INTEG_LOG_STATUS_written) ≤ 64 := by
  have stays : (s.report r).rd INTEG_LOG_STATUS_consumed = s.rd INTEG_LOG_STATUS_consumed :=
    (fieldsKept_afterLog new _ 0 (by decide)).trans (fieldsKept_logged s r _ 0 (by decide))
  by_cases room : s.LogHasRoom
  · rw [stays, (report_logs_of_room new room).1]
    simp only [cntDist, State.LogHasRoom] at room ⊢
    omega
  · rwa [stays, (report_loses_of_full new room).1]

/-- A structure's counter after a report of a new event is what counting for the structure made of it. -/
theorem report_sidCounter {f : Fld} {j : Nat} (key : SidCountKey (fldKey f j)) :
    (s.report r).rdi f j = ((s.logged r).countSid r).rdi f j ∧ (s.logged r).rdi f j = s.rdi f j :=
  ⟨fieldsKept_report_of_new new f j key.apart.2, fieldsKept_logged s r f j key.apart.1⟩

theorem report_counts_sidCorr (kind : r.kind = 1) {j : Nat} (index : sidIndex r.sid = some j) :
    (s.report r).rdi INTEG_SID_COUNT_sid_corr j =
      min (s.rdi INTEG_SID_COUNT_sid_corr j + 1) (2 ^ INTEG_SID_COUNT_sid_corr.width - 1) := by
  obtain ⟨counted, before⟩ := report_sidCounter new (sidCountKey_corr (sidIndex_lt index))
  rw [counted, countSid_of_corrected kind index, State.rdi_addi_same, before]

theorem report_counts_sidUncorr (kind : r.kind = 2 ∨ r.kind = 3 ∨ r.kind = 5) {j : Nat}
    (index : sidIndex r.sid = some j) :
    (s.report r).rdi INTEG_SID_COUNT_sid_uncorr j =
      min (s.rdi INTEG_SID_COUNT_sid_uncorr j + 1) (2 ^ INTEG_SID_COUNT_sid_uncorr.width - 1) := by
  obtain ⟨counted, before⟩ := report_sidCounter new (sidCountKey_uncorr (sidIndex_lt index))
  rw [counted, countSid_of_uncorrected kind index, State.rdi_addi_same, before]

theorem report_late_keeps_sidUncorr (kind : r.kind = 4) {j : Nat} (hj : j < 21) :
    (s.report r).rdi INTEG_SID_COUNT_sid_uncorr j = s.rdi INTEG_SID_COUNT_sid_uncorr j := by
  obtain ⟨counted, before⟩ := report_sidCounter new (sidCountKey_uncorr hj)
  rw [counted, countSid_of_late kind, before]

end

/-- Settles O50: a repeat is the count of it alone; a new event is noted, logged and counted for its structure, and then for its
kind, and each of these parts writes registers that no other part writes but the pending bits of MSI-X. -/
theorem seenListJudgesEvents : Obligations.SeenListJudgesEvents := by
  rintro s t r - - rfl
  refine ⟨fun seen => ?repeated, fun new => ?new⟩
  case repeated =>
    have parts := (frame_report_of_seen seen).parts
    rw [report_of_seen seen] at parts ⊢
    exact ⟨s.rd_inc_same _, rfl, fun k other => storeGetD_set_other _ _ _ _ other, rfl,
      fun p other => parts p (by simpa using other)⟩
  case new =>
    have kind := report_counts_kind new
    refine ⟨frame_report ⟨rfl, rfl, rfl, rfl⟩ r, seen_report_of_new new, report_logs_of_room new,
      fun full => report_loses_of_full new (Nat.not_lt.2 full), report_keeps_logBound new, fun corrected => ?corrected,
      fun uncorrected _ index => report_counts_sidUncorr new uncorrected index,
      fun late _ => report_late_keeps_sidUncorr new late, fun uncorrectable => ?uncorrectable, fun bite => ?bite⟩
    case corrected =>
      rw [corrected] at kind
      obtain ⟨event, counter⟩ := kind
      exact ⟨event, counter, fun _ index => report_counts_sidCorr new corrected index⟩
    case uncorrectable => rcases uncorrectable with h | h | h <;> rw [h] at kind <;> exact kind
    case bite => rwa [bite] at kind

end Sys2Proof.Machine

/-! Proofs of the statements of the queue and the invariant: every command answers a next state in canonical form. -/

namespace Sys2Proof.Machine
open Reg

/-! ### Every command answers a next state -/

/-- An outcome that goes on, with the memories and the register file in canonical form. -/
def Settles (o : Out) : Prop := ∃ t : State, o = ok t

namespace Settles

theorem ok (s : State) : Settles (Machine.ok s) := ⟨s, rfl⟩

theorem ite {c : Prop} [Decidable c] {a b : Out} (ha : Settles a) (hb : Settles b) : Settles (if c then a else b) := by
  split
  · exact ha
  · exact hb

theorem runCmd (m : Mb) (op : Nat) (s : State) (body : Cmd → State → State) : Settles (Machine.runCmd m op s body) :=
  runCmd_next m op s body

theorem guardCmd (m : Mb) (op : Nat) (s : State) (body : Cmd → State → State) : Settles (Machine.guardCmd m op s body) :=
  .ite (.runCmd ..) (.ok _)

theorem otpCmd (m : Mb) (op : Nat) (s : State) (body : Cmd → State → State) : Settles (Machine.otpCmd m op s body) :=
  .ite (.ok _) (.runCmd ..)

theorem receive (s : State) (p : Packet) (act : State → State) : Settles (s.receive p act) :=
  .ite (.ok _) (.ite (.ok _) (.ok _))

theorem receiveAll (s : State) (p : Packet) (atSource act : State → State) : Settles (s.receiveAll p atSource act) :=
  .ite (.ok _) (.ite (.ok _) (.ok _))

end Settles

/-- Every branch of every command and event ends in a next state. -/
theorem exec_settles (i : Instr) (s : State) : Settles (exec i s) := by
  cases i <;> dsimp only [exec]
  -- mailbox commands
  case pwrMarginQuery | pwrMarginSet | pwrStateQuery | pwrDoze | pwrWake | pwrStandby | pwrShutdown | pwrVinWarnSet |
    thmQuery | thmLimitsSet | thmLevelsSet | thmModelQuery | sysIdentify | sysStateQuery | sysReset | sysExpertClaim |
    sysExpertRelease | sysAbort | sysNop | sysEventConfig | profileSet | profileGet | profileDelete | profileQueueOpen
    | profileQueueClose | profileWindowSet | tableCreate | tableDelete | tableGrow | tableShrink | tableQuery |
    tableCastle | tableBlockPower | tableImageLoad | tableImageSave | tablePublish | tableClear | tableDixLimit |
    entryWrite | entryDelete | entryRead | entryResult | learnConfig | learnQuery | learnWalk | learnFlush |
    chainEnumerate | chainQuery | chainGroups | chainRegAccess | chainBoot | slotQuery | slotUnmount | slotEject |
    slotPortReset | slotSaveQuery | slotSaveRead | slotSaveWrite | slotPageRead | slotPageProgram | slotBlockErase |
    streamOpen | streamClose | streamResume | streamQuery | integQuery | integSteep | integScrub | integAudit |
    integInject | integLogRead | fwQuery | fwStore | fwActivate | caddyQuery | caddyJournalConfig | caddyJournalCommit
    | caddyJournalClear | caddyWarmStart | caddyScratchRead | caddyScratchWrite | dumpConfig | dumpQuery | dumpTake |
    dumpClear | otpQuery | pinPadConfig | pinQuery | pinGpioWrite | pinIrqConfig | pinWakeConfig | pinSmbConfig |
    pinPeriphSet | pinUartXfer | pinI2cXfer =>
    exact .runCmd ..
  -- the two that wait for the guard core before they are judged
  case slotMount | guardRulesLoad =>
    exact .ite (.ok _) (.runCmd ..)
  -- the commands that the guard core serves
  case guardQuery | guardSlotInfo | guardReauth | guardKeyQuery | guardConfig =>
    exact .guardCmd ..
  -- the commands that wait for the OTP array
  case otpSettingsWrite | otpSecurityWrite | otpLockDebug | otpSvRaise =>
    exact .otpCmd ..
  -- packets for one member
  case cmdPacket | rspPacket | eventPacket | rfetchPacket | rdataPacket | rdonePacket | regPacket | regRspPacket |
    bootPacket | bootRspPacket =>
    exact .receive ..
  -- packets for every member
  case chainUpPacket | groupsPacket =>
    exact .receiveAll ..
  -- accesses and events that always have their effect
  case dozeReq | wakeReq | standbyReq | shutdownReq | plyLoRead | profLoad | profDeleteWrite | qEnSet | qEnClear |
    castleGo | tcamUpdEntryWrite | tcamUpdEntryDelete | tcamUpdResultWrite | tcamTblCreateWrite | tcamTblDeleteWrite |
    tcamTblHiddenWrite | hashUpdInsert | hashUpdDelete | hashUpdResult | hashTblCreateWrite | hashTblDeleteWrite |
    hashTblHiddenWrite | dixUpdWrite | dixLimitWrite | lpmUpdInsert | lpmUpdDelete | lpmUpdResultChange |
    lpmRootCreateWrite | lpmRootDeleteWrite | lpmRootHiddenWrite | chnEnumerateWrite | chnGroupsWrite |
    slotOpReadPageRaw | slotOpProgramRaw | slotOpEraseBlock | slotOpReset | slotOpReadId | slotOpReadParameterPage |
    strmChEnClear | strmChResumeWrite | scrubGo | auditGo | flipArm | dbgHaltWrite | otpProgGo | pinSet | pinClr |
    pinTgl | padCfgWrite | uartTxPush | i2cGo | windowRead | windowWrite | perstNDeassert | searchDelivery |
    standbyTimer | claimTakeEffect | checkpointEnd | groupsCommit | smbStatusRead | smbTEstRead | smbTNtcRead |
    smbVinRead | smbPinRead | smbSustainRead | smbCauseRead | smbCauseClear | smbSerialRead | smbRegptrWrite |
    smbRegRead | tapExtest | tapIdcode | tapSamplePreload | tapClamp | tapHighz | tapBypass | slotPowerOn |
    slotPowerOff | slotEjectWrite | slotPortResetWrite | strmChEnSet | uartRxPop | hostLinkReset | supervisorArm =>
    exact .ok _
  -- events with one condition
  case mmClear | blkOwnedSet | blkOwnedClear | gateReq | ungateReq | bootRecordWrite | aspmL1Request | fifoStall |
    marginQualifyTimeout | strobeLost | startCondition | vinFall | shutdownStep4End | shutdownStep5End | vinCut |
    dozeUngateDone | wakeSource | standbyVinLow | graceExpiry | modelStale | controlCoreReset | guardCoreReset |
    overlayDisarm | lpmRebuildDone | tokenTimeout | keySlotZeroise | timerCapture | fanStall | uinEdge | smbTimeout |
    islandLost | hwClr | lpmDefaultRouteWrite | seenClr | mailboxDoorbell | ringProducerDoorbell |
    ringConsumerDoorbell | doorbellCountWordWrite | d3hotEntry | searchAdmission | followerStrobeTimeout |
    shutdownStep3End | slotPowerFault | dozeGate | powerSample | ntcSample | levelHoldExpiry | sensorFaultClear |
    fwReady | guardCoreStart | blockUngateDone | blockInvalidateDone | sweepDone | headRoleTake | enumerationCommit |
    slotInsertion | slotRemoval | slotVccDelayedOff | unmountDrainEnd | reauthDue | uartDeTailEnd | pwmPeriodBoundary
    | pwmKill | smbAlertResponse | tapReset =>
    exact .ite (.ok _) (.ok _)
  -- events with a second condition behind the first
  case journalCommitTimer | agerPass | answerFrame | glitchFilterPass | debounceExpiry | logConsWrite | windowSearch |
    eventConsumerDoorbell | canaryLaunch | shutdownStep2End | railFault | coreTrap | trainEnd | searchFrame |
    statusFrame =>
    exact .ite (.ok _) (.ite (.ok _) (.ok _))
  -- events with a second condition under the first
  case chainUpTimeout | msixHoldoffExpiry | linkUp | uartFrameSent | timerCount | fanTachEdge =>
    exact .ite (.ite (.ok _) (.ok _)) (.ok _)
  case guardTagXfer =>
    dsimp only [execGuardTagXfer]
    split
    · exact .ite (.ok _) (.guardCmd ..)
    · exact .ok _
  -- what is left looks up the object that it concerns, or tells the forms of its operand apart
  all_goals
    dsimp only [execRcRead, execRegisterWrite, execSlotOpDataAccess, execEpWriteReceived, execMsixUnmask, execDmaCompletion,
      execDmaCplTimeout, execRingEntryRetry, execSearchFabricCompletion, execLateDiscard, execFabricWordTransfer,
      execCanaryMeasurement, execCanaryMiss, execShutdownStep6End, execMailboxTake, execCommandTimeout,
      execWatchdogExpiry, execDumpWritten, execBootImageVerified, execUpdateCommit, execCastlingCommit,
      execGuardCastlingCommit, execWalkEnd, execTokenFrame, execRfetchResend, execEjectPulseEnd,
      execDieOperationComplete, execPageDataReceived, execSectorDecrypted, execFetchCompletion, execStreamRequestTake,
      execExtentKeyLoaded, execFetchTimeout, execSaveCommit, execTagTransaction, execTagResultPoll, execSteepRead,
      execScrubDone, execAuditDone, execOtpWordProgrammed, execUartFrameReceived, execI2cTransferEnd,
      execSlotPowerGood, execTrainFrame, execFrameError, execConfigurationRequest, execUnsupportedRequest]
    repeat' split
    all_goals exact .ok _

/-- What a command answers is in canonical form (the state after `ok`). -/
theorem inv_of_exec {i : Instr} {s t : State} (h : exec i s = .next t) : t.Inv := by
  obtain ⟨u, hu⟩ := exec_settles i s
  rw [ok_next (hu.symm.trans h)]
  exact u.settled_canonical

/-- Settles O37: an idle step keeps its state, and whatever the front command answers is in canonical form. -/
theorem stepKeepsInvariant : Obligations.StepKeepsInvariant := by
  intro s t inv h
  unfold step at h
  split at h
  · cases h; exact inv
  · exact inv_of_exec h

/-- Settles O38: every branch of every command and event ends in `ok`. -/
theorem noCommandStops : Obligations.NoCommandStops := exec_settles

/-- Settles O34, by the definition of a step. -/
theorem stepRunsFrontCommand : Obligations.StepRunsFrontCommand := by
  refine ⟨fun c s => rfl, fun s idle => ?_⟩
  unfold step
  rw [idle]

/-- Settles O35: after START both stores are empty, and an empty store is in canonical form. -/
theorem resetMeetsInvariant : Obligations.ResetMeetsInvariant := ⟨storeOk_nil Memory.fill, storeOk_nil (fun _ => 0)⟩

end Sys2Proof.Machine

/-! The rules that the completion statements of the mailbox commands share: a command that its mailbox has taken and that writes
no claimed block runs its body, and the shared checks of a chapter's commands that pass. -/

namespace Sys2Proof.Machine
open Reg

variable {m : Mb} {op t : Nat} {s u : State} {c : Cmd} {body : Cmd → State → State}

theorem runCmd_answers (ready : Ready s m op c) (effect : body c s = u) : runCmd m op s body = .next u.settled :=
  effect ▸ runCmd_ready body ready

theorem guardCmd_answers (running : s.guardRuns = true) (ready : Ready s m op c) (effect : body c s = u) :
    guardCmd m op s body = .next u.settled :=
  effect ▸ guardCmd_ready body running ready

theorem otpCmd_answers (idle : s.otp = none) (ready : Ready s m op c) (effect : body c s = u) :
    otpCmd m op s body = .next u.settled :=
  effect ▸ otpCmd_ready body idle ready

/-! ### Checks that pass -/

theorem maskCheck_eq_none : maskCheck c = none ↔ c.u32 0 ≠ 0 ∧ c.u32 0 % 2 = 0 ∧ c.u32 0 < 2 ^ 21 := by
  simp [maskCheck, and_assoc]

theorem claimCheck_eq_none : claimCheck c = none ↔ c.u32 0 ≠ 0 ∧ c.u32 0 < 2 ^ 21 := by simp [claimCheck]

theorem hostTable_ok (effect : State → State) (h : t < 63) : hostTable m t s effect = effect s := by
  simp [hostTable, h, Nat.ne_of_lt h]

theorem saveChecks_ok {p area : Nat} (effect : State → State) (ready : s.slotState p = slReady) (area_lt : area < s.saveAreas p) :
    s.saveChecks m p area effect = effect s := by
  simp [State.saveChecks, ready, show slReady ≠ slRaw from by decide, Nat.not_le.2 area_lt]

theorem pageChecks_ok {p : Nat} {writes : Bool} (effect : State → State) (mounted : s.slotMounted p = true)
    (raw : writes = true → s.slotState p = slRaw) : s.pageChecks m p writes effect = effect s := by
  have present : s.slotState p ≠ slEmpty := fun h => by simp [State.slotMounted, h] at mounted; revert mounted; decide
  simp only [State.pageChecks, present, mounted, if_false, Bool.not_true, Bool.false_eq_true]
  exact if_neg (fun h => h.2 (raw h.1))

theorem isFollower_of_isHead (head : s.isHead = true) : s.isFollower = false := by
  simp only [State.isHead, beq_iff_eq] at head
  simp [State.isFollower, head]

theorem toMember_ok {member : Nat} {checks : List (Option Nat)} (send : State → State) (head : s.isHead = true)
    (low : 1 ≤ member) (high : member < s.members) (reaches : s.reaches member = true) (pass : ∀ x ∈ checks, x = none) :
    s.toMember m member checks send = (send s).wait m := by
  have passes : ∀ x ∈ [need (1 ≤ member && member < s.members) 0] ++ checks, x = none := by simpa [low, high] using pass
  unfold State.toMember
  rw [isFollower_of_isHead head, checked_ok _ _ passes]
  simp [head, reaches]

/-! ### The forms of an ENTRY command -/

section
variable {writes : Bool} {tcam exact dix lpm : State → State}

theorem entryForms_dix (index : c.u8 0 = dixTable) : entryForms m c s writes tcam exact dix lpm = dix s := if_pos index

theorem ne_dixTable_of_table {t : Nat} (table : t ≤ 63) : t ≠ dixTable := fun h => absurd (h ▸ table) (by decide)

variable (table : c.u8 0 ≤ 63) (guard : writes = true → c.u8 0 ≠ 63)
include table guard

theorem entryForms_tcam (engine : s.imgEngine (c.u8 0) = 1) : entryForms m c s writes tcam exact dix lpm = tcam s := by
  have allowed : ¬(c.u8 0 = 63 ∧ writes = true) := fun h => guard h.2 h.1
  simp [entryForms, ne_dixTable_of_table table, Nat.not_lt.2 table, allowed, engine]

theorem entryForms_exact (engine : s.imgEngine (c.u8 0) = 2) : entryForms m c s writes tcam exact dix lpm = exact s := by
  have allowed : ¬(c.u8 0 = 63 ∧ writes = true) := fun h => guard h.2 h.1
  simp [entryForms, ne_dixTable_of_table table, Nat.not_lt.2 table, allowed, engine]

theorem entryForms_lpm (engine : s.imgEngine (c.u8 0) = 4) : entryForms m c s writes tcam exact dix lpm = lpm s := by
  have allowed : ¬(c.u8 0 = 63 ∧ writes = true) := fun h => guard h.2 h.1
  simp [entryForms, ne_dixTable_of_table table, Nat.not_lt.2 table, allowed, engine]

end

end Sys2Proof.Machine

/-! The completion statements of the mailbox commands of power, the mailbox engine, searches, the tables and the chain:
each command that is taken and not held passes its checks, and the rest of its body is the state written out. -/

namespace Sys2Proof.Machine
open Reg

/-- Settles O1, command by command: its checks pass, and the condition on the state picks its branch. -/
theorem powerHeatCommandsComplete : Obligations.PowerHeatCommandsComplete := by
  intro m s c
  refine ⟨?marginQuery, ?marginSet, ?stateQuery, ?doze, ?wakeInRun, ?wakeOutsideRun, ?standby, ?shutdown,
    ?shutdownRestart, ?vinWarnSet, ?thmQuery, ?limitsSet, ?levelsSet, ?modelQuery⟩
  case marginQuery => exact fun ready => show execPwrMarginQuery m s = _ from runCmd_answers ready rfl
  case marginSet =>
    intro ready _ _ _ _ _ _ _ _
    show execPwrMarginSet m s = _
    exact runCmd_answers ready (checked_ok s _ (by simp [*]))
  case stateQuery => exact fun ready => show execPwrStateQuery m s = _ from runCmd_answers ready rfl
  case doze =>
    intro ready accepted
    show execPwrDoze m s = _
    exact runCmd_answers ready (by rw [accepted])
  case wakeInRun =>
    intro ready run
    show execPwrWake m s = _
    exact runCmd_answers ready (if_pos run)
  case wakeOutsideRun =>
    intro ready notRun
    show execPwrWake m s = _
    exact runCmd_answers ready (if_neg notRun)
  case standby =>
    rintro ready timer _ _ _ _ alive _ rfl
    show execPwrStandby m s = _
    refine runCmd_answers ready ((checked_ok s _ ?_).trans (if_neg (by simp [alive])))
    simp [*]
    omega
  case shutdown =>
    intro ready _ _ _
    show execPwrShutdown m s = _
    exact runCmd_answers ready ((checked_ok s _ (by simp [*])).trans (by simp [*]))
  case shutdownRestart =>
    intro ready _ _ _
    show execPwrShutdown m s = _
    exact runCmd_answers ready ((checked_ok s _ (by simp [*])).trans (by simp [*]))
  case vinWarnSet =>
    intro ready _ _ _ _
    show execPwrVinWarnSet m s = _
    exact runCmd_answers ready (checked_ok s _ (by simp [*]))
  case thmQuery => exact fun ready => show execThmQuery m s = _ from runCmd_answers ready rfl
  case limitsSet =>
    intro ready _ _ _ _ _ _ _ _ _ _ _ _
    show execThmLimitsSet m s = _
    exact runCmd_answers ready (checked_ok s _ (by simp [*]))
  case levelsSet =>
    intro ready range falling _ _ _
    show execThmLevelsSet m s = _
    refine runCmd_answers ready (checked_ok s _ ?_)
    have range0 := range 0 (by decide)
    have range1 := range 1 (by decide)
    have range2 := range 2 (by decide)
    have falling0 := falling 0 (by decide)
    have falling1 := falling 1 (by decide)
    simp_all
  case modelQuery => exact fun ready => show execThmModelQuery m s = _ from runCmd_answers ready rfl

/-- The mask of a claim that names GLB is denied for GLB, the lowest block. -/
theorem claimDenied_glb {mask : Nat} (s : State) (named : mask % 2 = 1) : s.claimDenied mask = some 0 := by
  have first : List.range 21 = 0 :: (List.range 20).map (· + 1) := by decide
  rw [State.claimDenied, first]
  exact List.find?_cons_of_pos (by simp [bitOf, bitsOf, named])

theorem any_le_eq_false_of_all_lt {bs : List Nat} {n : Nat} (below : bs.all (· < n) = true) : bs.any (n ≤ ·) = false := by
  simpa using below

theorem find?_eq_none_of_all_not {α : Type} {p : α → Bool} {xs : List α} (fails : xs.all (fun x => !p x) = true) :
    xs.find? p = none := by simpa using fails

theorem needLen_ok {c : Cmd} {n : Nat} (whole : c.params.length = n) : needLen c n = none := by simp [needLen, whole]

/-- Settles O2, command by command; the three answers of a claim are those of `State.claimDenied` and `State.claimBusy`. -/
theorem sysCommandsComplete : Obligations.SysCommandsComplete := by
  intro m s c
  refine ⟨?sysIdentify, ?sysStateQuery, ?resetControlCore, ?resetGuardCore, ?claimGranted, ?claimBusy, ?claimDenied,
    ?claimOfGlb, ?sysExpertRelease, ?abortPosted, ?abortTaken, ?sysNop, ?sysEventConfig⟩
  case sysIdentify =>
    intro ready
    show execSysIdentify m s = _
    exact runCmd_answers ready rfl
  case sysStateQuery =>
    intro ready
    show execSysStateQuery m s = _
    exact runCmd_answers ready rfl
  case resetControlCore =>
    intro ready _ _ _
    show execSysReset m s = _
    exact runCmd_answers ready ((checked_ok s _ (by simp [*])).trans (by simp [*]))
  case resetGuardCore =>
    intro ready _ _ _
    show execSysReset m s = _
    exact runCmd_answers ready ((checked_ok s _ (by simp [*])).trans (by simp [*]))
  case claimGranted =>
    rintro ready named listed granted free _ rfl
    show execSysExpertClaim m s = _
    exact runCmd_answers ready ((checked_ok s _ (by simpa using claimCheck_eq_none.2 ⟨named, listed⟩)).trans
      (by simp [State.takeClaim, granted, free]))
  case claimBusy =>
    intro ready named listed granted busy
    show execSysExpertClaim m s = _
    exact runCmd_answers ready ((checked_ok s _ (by simpa using claimCheck_eq_none.2 ⟨named, listed⟩)).trans
      (by simp [granted, busy]))
  case claimDenied =>
    intro b ready named listed denied
    show execSysExpertClaim m s = _
    exact runCmd_answers ready ((checked_ok s _ (by simpa using claimCheck_eq_none.2 ⟨named, listed⟩)).trans
      (by simp [denied]))
  case claimOfGlb =>
    intro ready odd listed
    show execSysExpertClaim m s = _
    have named : c.u32 0 ≠ 0 := by omega
    exact runCmd_answers ready ((checked_ok s _ (by simpa using claimCheck_eq_none.2 ⟨named, listed⟩)).trans
      (by simp [claimDenied_glb s odd]))
  case sysExpertRelease =>
    rintro ready named notGlb listed _ rfl
    show execSysExpertRelease m s = _
    exact runCmd_answers ready (checked_ok s _ (by simpa using maskCheck_eq_none.2 ⟨named, notGlb, listed⟩))
  case abortPosted =>
    intro ready _ _ _ _
    show execSysAbort m s = _
    exact runCmd_answers ready ((checked_ok s _ (by simp [*])).trans (by simp [*]))
  case abortTaken =>
    rintro ready _ _ _ _ t rfl
    show execSysAbort m s = _
    exact runCmd_answers ready ((checked_ok s _ (by simp [*])).trans (by simp [*]))
  case sysNop =>
    intro ready
    show execSysNop m s = _
    exact runCmd_answers ready rfl
  case sysEventConfig =>
    intro ready _ _ _
    show execSysEventConfig m s = _
    exact runCmd_answers ready (checked_ok s _ (by simp [*]))

/-- Settles O3, command by command. -/
theorem profileCommandsComplete : Obligations.ProfileCommandsComplete := by
  intro m s c
  refine ⟨?profileSet, ?getDefined, ?getUndefined, ?profileDelete, ?profileQueueOpen, ?profileQueueClose,
    ?profileWindowSet⟩
  case profileSet =>
    rintro ready _ t rfl
    show execProfileSet m s = _
    exact runCmd_answers ready (by simp [*])
  case getDefined =>
    intro ready _ defined
    show execProfileGet m s = _
    exact runCmd_answers ready ((checked_ok s _ (by simp [*])).trans (by simp only [defined]; rfl))
  case getUndefined =>
    intro ready _ undefined
    show execProfileGet m s = _
    exact runCmd_answers ready ((checked_ok s _ (by simp [*])).trans (by simp only [undefined]; rfl))
  case profileDelete =>
    intro ready _ _
    show execProfileDelete m s = _
    exact runCmd_answers ready ((checked_ok s _ (by simp [*])).trans (by simp [*]))
  case profileQueueOpen =>
    rintro ready _ _ _ _ _ _ _ _ _ _ _ t u rfl rfl
    show execProfileQueueOpen m s = _
    exact runCmd_answers ready ((checked_ok s _ (by simp [*]; omega)).trans (by simp [*]))
  case profileQueueClose =>
    intro ready _ _ _ _
    show execProfileQueueClose m s = _
    exact runCmd_answers ready ((checked_ok s _ (by simp [*])).trans (by simp [*]))
  case profileWindowSet =>
    intro ready _
    show execProfileWindowSet m s = _
    exact runCmd_answers ready (checked_ok s _ (by simp [*]))

/-- Settles O4, command by command: the table named is one of the host's, the checks pass, and its engine picks the form. -/
theorem tableCommandsComplete : Obligations.TableCommandsComplete := by
  intro m s c
  refine ⟨?createAnyBlocks, ?createNamedBlocks, ?createExact, ?createPrefix, ?tableDelete, ?tableGrow, ?tableShrink,
    ?tableQuery, ?tableCastle, ?blockPowerOn, ?blockPowerOff, ?loadIndex, ?loadExact, ?loadTernary, ?loadPrefix,
    ?tableImageSave, ?tablePublish, ?tableClear, ?tableDixLimit⟩
  case createAnyBlocks =>
    rintro ready table engine mode _ _ _ _ _ _ _ rfl _ _
    show execTableCreate m s = _
    refine runCmd_answers ready ((hostTable_ok _ table).trans ?_)
    have implicit : bitOf (c.u8 2) 1 = false := by simp [bitOf, bitsOf]; omega
    simp only [engine, State.createTcam]
    exact (checked_ok s _ (by simp [*]; omega)).trans (by simp [Nat.mod_eq_of_lt mode, *])
  case createNamedBlocks =>
    rintro ready table engine mode _ _ _ _ _ _ rfl _ _
    show execTableCreate m s = _
    refine runCmd_answers ready ((hostTable_ok _ table).trans ?_)
    have explicit : bitOf (c.u8 2) 1 = true := by rcases mode with mode | mode <;> simp [mode, bitOf, bitsOf]
    simp only [engine, State.createTcam]
    exact (checked_ok s _ (by simp_all; omega)).trans (by simp [*])
  case createExact =>
    intro ready table engine _ _ _ _ _ _ _ _ _ _ _ _
    show execTableCreate m s = _
    refine runCmd_answers ready ((hostTable_ok _ table).trans ?_)
    simp only [engine, State.createExact]
    exact (checked_ok s _ (by simp [*])).trans (by simp [*])
  case createPrefix =>
    intro ready table engine _ _ _ _ _ _ _ root
    show execTableCreate m s = _
    refine runCmd_answers ready ((hostTable_ok _ table).trans ?_)
    simp only [engine, State.createLpm]
    exact (checked_ok s _ (by simp [*])).trans (by simp [Option.isNone_eq_false_iff.2 root, *])
  case tableDelete =>
    intro ready _ _ _ _
    show execTableDelete m s = _
    exact runCmd_answers ready ((hostTable_ok _ (by assumption)).trans ((checked_ok s _ (by simp [*])).trans
      (by simp [*])))
  case tableGrow =>
    rintro ready table _ _ rfl below _ _ _
    show execTableGrow m s = _
    refine runCmd_answers ready ((hostTable_ok _ table).trans ((checked_ok s _ (by simp [*])).trans ?_))
    simp [any_le_eq_false_of_all_lt below, *]
  case tableShrink =>
    rintro ready table _ _ rfl below engine free
    show execTableShrink m s = _
    have unused := find?_eq_none_of_all_not (p := fun b => !(s.blkValid b).isEmpty) (xs := bitmapList (c.bytes 8 32)
      256)
    refine runCmd_answers ready ((hostTable_ok _ table).trans ((checked_ok s _ (by simp [*])).trans ?_))
    rw [if_neg (by simpa using below), if_neg (by simp [engine])]
    by_cases castling : s.castling (c.u8 0)
    · exact if_pos castling
    · obtain ⟨owned, empty⟩ := free.resolve_left castling
      rw [if_neg castling, if_neg (by simp [owned]), unused (by simpa using empty)]
  case tableQuery =>
    intro ready _
    show execTableQuery m s = _
    exact runCmd_answers ready (checked_ok s _ (by simp [*]))
  case tableCastle =>
    intro ready first second _ _ _ _ _ _ _ _ _
    show execTableCastle m s = _
    refine runCmd_answers ready ((if_neg (by simp [Nat.ne_of_lt first, Nat.ne_of_lt second])).trans ?_)
    exact (checked_ok s _ (by simp [*])).trans (by simp [*])
  case blockPowerOn =>
    intro ready _ _ _
    show execTableBlockPower m s = _
    exact runCmd_answers ready (by simp_all [checked_ok])
  case blockPowerOff =>
    rintro ready off _ _ rfl below free
    show execTableBlockPower m s = _
    refine runCmd_answers ready ((checked_ok s _ (by simp [*])).trans ?_)
    rw [if_neg (by simpa using below), if_neg (by simp [off]), find?_eq_none_of_all_not free]
  case loadIndex =>
    intro ready index _ _ _ recs parsed plain
    show execTableImageLoad m s = _
    refine runCmd_answers ready ((if_neg (by simp [index]; decide)).trans ((checked_ok s _ (by simp [*])).trans ?_))
    have engine : s.imgEngine dixTable = 3 := if_pos rfl
    simp [*]
  case loadExact =>
    intro ready table _ _ engine _ _ recs parsed plain
    show execTableImageLoad m s = _
    refine runCmd_answers ready ((if_neg (Nat.ne_of_lt table)).trans ((checked_ok s _ (by simp [*])).trans ?_))
    simp only [List.all_eq_true] at plain
    simp_all
  case loadTernary =>
    intro ready table _ _ engine _ _ recs parsed plain
    show execTableImageLoad m s = _
    refine runCmd_answers ready ((if_neg (Nat.ne_of_lt table)).trans ((checked_ok s _ (by simp [*])).trans ?_))
    simp [*]
  case loadPrefix =>
    intro ready table _ _ engine _ _ _ recs parsed plain
    show execTableImageLoad m s = _
    refine runCmd_answers ready ((if_neg (Nat.ne_of_lt table)).trans ((checked_ok s _ (by simp [*])).trans ?_))
    simp [*]
  case tableImageSave =>
    rintro ready table _ _ room e w wc rfl engine rfl rfl whole all n recs srcs rfl rfl rfl rfl
    show execTableImageSave m s = _
    refine runCmd_answers ready ((checked_ok s _ (by simp [*])).trans ?_)
    exact (if_neg engine).trans ((if_neg (Nat.not_lt.2 room)).trans (if_neg (fun h => h.2 (whole h.1))))
  case tablePublish =>
    intro ready _ _ _ _ _
    show execTablePublish m s = _
    exact runCmd_answers ready ((hostTable_ok _ (by assumption)).trans ((checked_ok s _ (by simp [*])).trans
      (by simp [*])))
  case tableClear =>
    intro ready _ _ _ _ _
    show execTableClear m s = _
    exact runCmd_answers ready ((hostTable_ok _ (by assumption)).trans ((checked_ok s _ (by simp [*])).trans
      (by simp [*])))
  case tableDixLimit =>
    intro ready _
    show execTableDixLimit m s = _
    exact runCmd_answers ready (checked_ok s _ (by simp [*]))

/-- Settles O5, command by command: the engine of the table named picks the form of an ENTRY command (`entryForms`). -/
theorem entryLearnCommandsComplete : Obligations.EntryLearnCommandsComplete := by
  intro m s c
  refine ⟨?writeTernary, ?writeExact, ?writeIndex, ?writePrefix, ?deleteTernary, ?deleteExact, ?deleteIndex,
    ?deletePrefix, ?readTernary, ?readExact, ?readIndex, ?readPrefix, ?resultTernary, ?resultExact, ?resultIndex,
    ?resultPrefix, ?learnConfig, ?learnQuery, ?learnWalk, ?learnFlush⟩
  case writeTernary =>
    intro ready table engine whole _ _ _ _ _ _
    show execEntryWrite m s = _
    exact runCmd_answers ready ((entryForms_tcam (Nat.le_of_lt table) (fun _ => Nat.ne_of_lt table) engine).trans
      ((checked_ok s _ (by simp [needLen_ok whole, or_assoc, *])).trans (by simp [*])))
  case writeExact =>
    intro ready table engine _ _ _ form _ _
    show execEntryWrite m s = _
    exact runCmd_answers ready ((entryForms_exact (Nat.le_of_lt table) (fun _ => Nat.ne_of_lt table) engine).trans
      ((checked_ok s _ (by simpa [or_imp, forall_and, *] using firstFail_eq_none.1 form)).trans (by simp [*])))
  case writeIndex =>
    intro ready index whole _ _
    show execEntryWrite m s = _
    exact runCmd_answers ready ((entryForms_dix index).trans (checked_ok s _ (by simp [needLen_ok whole, *])))
  case writePrefix =>
    intro ready table engine _ _ _ form _ _ _
    show execEntryWrite m s = _
    exact runCmd_answers ready ((entryForms_lpm (Nat.le_of_lt table) (fun _ => Nat.ne_of_lt table) engine).trans
      ((checked_ok s _ (by simpa [or_imp, forall_and, *] using firstFail_eq_none.1 form)).trans (by simp [*])))
  case deleteTernary =>
    intro ready table engine _ _
    show execEntryDelete m s = _
    exact runCmd_answers ready ((entryForms_tcam (Nat.le_of_lt table) (fun _ => Nat.ne_of_lt table) engine).trans
      (checked_ok s _ (by simp [*])))
  case deleteExact =>
    intro ready table engine _ form _
    show execEntryDelete m s = _
    exact runCmd_answers ready ((entryForms_exact (Nat.le_of_lt table) (fun _ => Nat.ne_of_lt table) engine).trans
      (checked_ok s _ (by simpa [or_imp, forall_and, *] using firstFail_eq_none.1 form)))
  case deleteIndex =>
    intro ready index whole _ _
    show execEntryDelete m s = _
    exact runCmd_answers ready ((entryForms_dix index).trans (checked_ok s _ (by simp [needLen_ok whole, *])))
  case deletePrefix =>
    intro ready table engine _ form _
    show execEntryDelete m s = _
    exact runCmd_answers ready ((entryForms_lpm (Nat.le_of_lt table) (fun _ => Nat.ne_of_lt table) engine).trans
      ((checked_ok s _ (by simpa [or_imp, forall_and, *] using firstFail_eq_none.1 form)).trans (by simp [*])))
  case readTernary =>
    intro ready table engine _ _
    show execEntryRead m s = _
    exact runCmd_answers ready ((entryForms_tcam table (by simp) engine).trans (checked_ok s _ (by simp [*])))
  case readExact =>
    rintro ready table engine _ form _ p u found rfl clean
    show execEntryRead m s = _
    exact runCmd_answers ready ((entryForms_exact table (by simp) engine).trans
      ((checked_ok s _ (by simpa [or_imp, forall_and, *] using firstFail_eq_none.1 form)).trans (by simp [*]; rfl)))
  case readIndex =>
    intro ready index whole _ _ clean
    show execEntryRead m s = _
    exact runCmd_answers ready ((entryForms_dix index).trans ((checked_ok s _ (by simp [needLen_ok whole, *])).trans
      (by simp [*]; rfl)))
  case readPrefix =>
    intro ready table engine _ form positive j found clean
    show execEntryRead m s = _
    exact runCmd_answers ready ((entryForms_lpm table (by simp) engine).trans
      ((checked_ok s _ (by simpa [or_imp, forall_and, *] using firstFail_eq_none.1 form)).trans
        (by simp [Nat.pos_iff_ne_zero.1 positive, *]; rfl)))
  case resultTernary =>
    intro ready table engine _ _ _
    show execEntryResult m s = _
    exact runCmd_answers ready ((entryForms_tcam (Nat.le_of_lt table) (fun _ => Nat.ne_of_lt table) engine).trans
      ((checked_ok s _ (by simp [*])).trans (by simp [*])))
  case resultExact =>
    intro ready table engine _ form _ _
    show execEntryResult m s = _
    exact runCmd_answers ready ((entryForms_exact (Nat.le_of_lt table) (fun _ => Nat.ne_of_lt table) engine).trans
      ((checked_ok s _ (by simpa [or_imp, forall_and, *] using firstFail_eq_none.1 form)).trans (by simp [*])))
  case resultIndex =>
    intro ready index whole _ _
    show execEntryResult m s = _
    exact runCmd_answers ready ((entryForms_dix index).trans (checked_ok s _ (by simp [needLen_ok whole, *])))
  case resultPrefix =>
    intro ready table engine _ form _ _ _
    show execEntryResult m s = _
    exact runCmd_answers ready ((entryForms_lpm (Nat.le_of_lt table) (fun _ => Nat.ne_of_lt table) engine).trans
      ((checked_ok s _ (by simpa [or_imp, forall_and, *] using firstFail_eq_none.1 form)).trans (by simp [*])))
  case learnConfig =>
    intro ready _ _ _ _ _ seed
    show execLearnConfig m s = _
    exact runCmd_answers ready ((checked_ok s _ (by simp [*])).trans
      (if_neg (fun changed => seed.elim changed.1 changed.2)))
  case learnQuery =>
    rintro ready l rfl
    show execLearnQuery m s = _
    exact runCmd_answers ready rfl
  case learnWalk =>
    intro ready _ _ _ _ _ _ _ _ _ _ _ _ _
    show execLearnWalk m s = _
    exact runCmd_answers ready ((checked_ok s _ (by simp [*])).trans
      (by simp [show slReady ≠ slRaw from by decide, *]))
  case learnFlush =>
    intro ready _ _ _ _ _
    show execLearnFlush m s = _
    exact runCmd_answers ready ((checked_ok s _ (by simp [*])).trans (by simp [*]))

/-- Settles O6, command by command, at a head. -/
theorem chainCommandsComplete : Obligations.ChainCommandsComplete := by
  intro m s c
  refine ⟨?chainEnumerate, ?queryModule, ?queryMember, ?chainGroups, ?chainRegAccess, ?chainBoot⟩
  case chainEnumerate =>
    intro ready _ _ _ _
    show execChainEnumerate m s = _
    exact runCmd_answers ready (by simp [checked_ok, isFollower_of_isHead, *])
  case queryModule =>
    intro ready _ _
    show execChainQuery m s = _
    exact runCmd_answers ready (by simp [checked_ok, *])
  case queryMember =>
    rintro ready _ _ _ _ t rfl
    show execChainQuery m s = _
    exact runCmd_answers ready (by simp [checked_ok, *])
  case chainGroups =>
    intro ready _ _ _ _
    show execChainGroups m s = _
    exact runCmd_answers ready (by simp [checked_ok, isFollower_of_isHead, *])
  case chainRegAccess =>
    intro ready _ _ _ _ _ _ _ _ _ _
    show execChainRegAccess m s = _
    exact runCmd_answers ready (toMember_ok _ (by assumption) (by assumption) (by assumption) (by assumption) (by
      simp [*]))
  case chainBoot =>
    intro ready _ _ _ _ _ _
    show execChainBoot m s = _
    exact runCmd_answers ready (toMember_ok _ (by assumption) (by assumption) (by assumption) (by assumption) (by
      simp [*]))

end Sys2Proof.Machine

/-! The completion statements of the mailbox commands of the slots, the streams and the guard, the integrity block, the cores,
the caddy, the OTP and the pins. -/

namespace Sys2Proof.Machine
open Reg

/-- Settles O7, command by command. -/
theorem slotCommandsComplete : Obligations.SlotCommandsComplete := by
  intro m s c
  refine ⟨?slotQuery, ?slotMount, ?slotUnmount, ?ejectMounted, ?ejectUnmounted, ?slotPortReset, ?slotSaveQuery,
    ?slotSaveRead, ?slotSaveWrite, ?slotPageRead, ?slotPageProgram, ?slotBlockErase⟩
  case slotQuery =>
    intro ready _
    show execSlotQuery m s = _
    exact runCmd_answers ready (checked_ok s _ (by simp [*]))
  case slotMount =>
    intro ready running _ _ empty how
    show execSlotMount m s = _
    rw [execSlotMount, if_neg (by simp [running])]
    refine runCmd_answers ready ((checked_ok s _ (by simp [*])).trans ?_)
    rcases empty with empty | empty <;> rcases how with how | how <;> simp [empty, how]
  case slotUnmount =>
    intro ready _ _
    show execSlotUnmount m s = _
    exact runCmd_answers ready ((checked_ok s _ (by simp [*])).trans (by simp [*]))
  case ejectMounted =>
    intro ready _ _ _
    show execSlotEject m s = _
    exact runCmd_answers ready ((checked_ok s _ (by simp [*])).trans (by simp [*]))
  case ejectUnmounted =>
    intro ready _ _ _
    show execSlotEject m s = _
    exact runCmd_answers ready ((checked_ok s _ (by simp [*])).trans (by simp [*]))
  case slotPortReset =>
    intro ready _ _ _ _
    show execSlotPortReset m s = _
    exact runCmd_answers ready ((checked_ok s _ (by simp [*])).trans (by simp [*]))
  case slotSaveQuery =>
    intro ready _ _ _
    show execSlotSaveQuery m s = _
    exact runCmd_answers ready (by simp [checked_ok, saveChecks_ok, *])
  case slotSaveRead =>
    intro ready _ _ _ _
    show execSlotSaveRead m s = _
    exact runCmd_answers ready (by simp [checked_ok, saveChecks_ok, *])
  case slotSaveWrite =>
    intro ready _ _ state area _ _ free
    show execSlotSaveWrite m s = _
    exact runCmd_answers ready ((checked_ok s _ (by simp [*])).trans ((saveChecks_ok _ state area).trans
      (if_neg (by simpa [imp_iff_not_or] using free))))
  case slotPageRead =>
    intro ready form _ mounted
    show execSlotPageRead m s = _
    exact runCmd_answers ready ((checked_ok s _ (firstFail_eq_none.1 form)).trans (pageChecks_ok _ mounted (by simp)))
  case slotPageProgram =>
    rintro ready _ _ rfl form clean raw rfl
    show execSlotPageProgram m s = _
    refine runCmd_answers ready ((checked_ok s _ (firstFail_eq_none.1 form)).trans ?_)
    exact (if_neg (by simp [clean])).trans (pageChecks_ok _ (by simp [State.slotMounted, raw]) (fun _ => raw))
  case slotBlockErase =>
    intro ready port raw _ _ _
    show execSlotBlockErase m s = _
    refine runCmd_answers ready ((checked_ok s _ (by simp_all)).trans ?_)
    exact pageChecks_ok _ (by simp [State.slotMounted, raw]) (fun _ => raw)

/-- Settles O8, command by command; a guard command also has its core running. -/
theorem streamGuardCommandsComplete : Obligations.StreamGuardCommandsComplete := by
  intro m s c
  refine ⟨?streamOpen, ?streamClose, ?streamResume, ?streamQuery, ?guardQuery, ?guardRulesLoad, ?guardSlotInfo,
    ?guardReauth, ?guardKeyQuery, ?reauthOn, ?reauthOff, ?guardTagXfer⟩
  case streamOpen =>
    rintro ready _ _ _ _ _ _ _ _ _ _ _ _ _ _ _ _ _ t u rfl rfl
    show execStreamOpen m s = _
    exact runCmd_answers ready ((checked_ok s _ (by simp [*]; omega)).trans (by simp [*]))
  case streamClose =>
    intro ready _ _ _
    show execStreamClose m s = _
    exact runCmd_answers ready ((checked_ok s _ (by simp [*])).trans (by simp [*]))
  case streamResume =>
    intro ready _ _
    show execStreamResume m s = _
    exact runCmd_answers ready ((checked_ok s _ (by simp [*])).trans (by simp [*]))
  case streamQuery =>
    intro ready channel
    show execStreamQuery m s = _
    refine runCmd_answers ready ((checked_ok s _ (by simp [channel])).trans ?_)
    simp only [Nat.add_right_comm]
  case guardQuery =>
    intro ready _
    show execGuardQuery m s = _
    exact guardCmd_answers (by assumption) ready rfl
  case guardRulesLoad =>
    rintro ready running present clean old l t last part room rfl begun
    show execGuardRulesLoad m s = _
    rw [execGuardRulesLoad, if_neg (by simp [running])]
    refine runCmd_answers ready ((checked_ok s _ (by simp [present])).trans ((if_neg (by simp [clean])).trans ?_))
    obtain rfl := begun _ rfl
    clear begun
    have unfinished : (s.tbl.guardCastle && c.u32 8 + (c.ref 0).2 == c.u32 12) = false := by simpa using last
    rcases part with ⟨start, rfl⟩ | ⟨later, loading, sofar⟩
    · rw [start, Nat.zero_add] at room unfinished
      simp [start, Nat.not_lt.2 room, unfinished]
    · obtain ⟨run, load, fields⟩ := Option.map_eq_some_iff.1 loading
      obtain ⟨rfl, total⟩ := Prod.mk.inj fields
      simp [later, load, total, sofar, Nat.not_lt.2 room, unfinished]
  case guardSlotInfo =>
    intro ready _ _
    show execGuardSlotInfo m s = _
    exact guardCmd_answers (by assumption) ready (checked_ok s _ (by simp [*]))
  case guardReauth =>
    intro ready _ _ _ _
    show execGuardReauth m s = _
    exact guardCmd_answers (by assumption) ready ((checked_ok s _ (by simp [*])).trans (by simp [*]))
  case guardKeyQuery =>
    intro ready _ _ _ _ _
    show execGuardKeyQuery m s = _
    exact guardCmd_answers (by assumption) ready (checked_ok s _ (by simp [*]))
  case reauthOn =>
    intro ready _ _ _
    show execGuardConfig m s = _
    exact guardCmd_answers (by assumption) ready ((checked_ok s _ (by simp [*])).trans (by simp [*]))
  case reauthOff =>
    rintro ready _ _ _ t rfl
    show execGuardConfig m s = _
    exact guardCmd_answers (by assumption) ready ((checked_ok s _ (by simp [*])).trans (by simp [*]))
  case guardTagXfer =>
    intro ready running _ _ _ _ _ _ _ _ _ _
    show execGuardTagXfer m s = _
    have taken : s.takenCmd m 0x0C07 = some c := ready.1
    rw [execGuardTagXfer, taken]
    refine (if_neg (by simp [*])).trans (guardCmd_answers running ready ((checked_ok s _ ?_).trans (by simp [*])))
    by_cases load : c.u8 1 = 2 <;> simp_all

/-- Settles O9, command by command. -/
theorem integCommandsComplete : Obligations.IntegCommandsComplete := by
  intro m s c
  refine ⟨?integQuery, ?integSteep, ?integScrub, ?integAudit, ?integInject, ?integLogRead⟩
  case integQuery =>
    intro ready
    show execIntegQuery m s = _
    exact runCmd_answers ready rfl
  case integSteep =>
    rintro ready _ _ _ _ t rfl
    show execIntegSteep m s = _
    exact runCmd_answers ready (checked_ok s _ (by simp [*]))
  case integScrub =>
    intro ready _ _ _ _ _
    show execIntegScrub m s = _
    exact runCmd_answers ready ((checked_ok s _ (by simp [*])).trans (by simp [*]))
  case integAudit =>
    intro ready _ _ _ _ _ _ _ _
    show execIntegAudit m s = _
    exact runCmd_answers ready ((checked_ok s _ (by simp [*])).trans (by simp [*]))
  case integInject =>
    intro ready _ _ _ _ _ _ _ _
    show execIntegInject m s = _
    exact runCmd_answers ready ((checked_ok s _ (by simp [*])).trans (by simp [*]))
  case integLogRead =>
    rintro ready _ _ _ first n t rfl rfl rfl
    show execIntegLogRead m s = _
    exact runCmd_answers ready (checked_ok s _ (by simp [*]))

/-- Settles O10, command by command. -/
theorem coreCaddyCommandsComplete : Obligations.CoreCaddyCommandsComplete := by
  intro m s c
  refine ⟨?fwQuery, ?fwStore, ?fwActivate, ?caddyQuery, ?journalOn, ?journalOff, ?caddyJournalCommit,
    ?caddyJournalClear, ?caddyWarmStart, ?caddyScratchRead, ?caddyScratchWrite, ?dumpConfig, ?dumpQuery, ?dumpTake,
    ?dumpClear⟩
  case fwQuery =>
    intro ready
    show execFwQuery m s = _
    exact runCmd_answers ready rfl
  case fwStore =>
    rintro ready _ _ _ clean spare old l part room rfl
    show execFwStore m s = _
    refine runCmd_answers ready ((checked_ok s _ (by simp [*])).trans ((if_neg (by simp [clean])).trans
      ((if_neg spare).trans ?_)))
    rcases part with ⟨start, rfl⟩ | ⟨later, storing, sofar⟩
    · rw [start, Nat.zero_add] at room
      simp [start, Nat.not_lt.2 room]
    · simp [later, storing, sofar, Nat.not_lt.2 room]
  case fwActivate =>
    rintro ready _ _ _ _ t rfl
    show execFwActivate m s = _
    exact runCmd_answers ready ((checked_ok s _ (by simp [*])).trans (by simp [*]))
  case caddyQuery =>
    intro ready
    show execCaddyQuery m s = _
    exact runCmd_answers ready rfl
  case journalOn =>
    rintro ready _ _ _ _ _ t rfl
    show execCaddyJournalConfig m s = _
    exact runCmd_answers ready ((checked_ok s _ (by simp [*])).trans (by simp [*]))
  case journalOff =>
    rintro ready _ _ _ _ _ t rfl
    show execCaddyJournalConfig m s = _
    exact runCmd_answers ready ((checked_ok s _ (by simp [*])).trans (by simp [*]))
  case caddyJournalCommit =>
    rintro ready _ _ t rfl _
    show execCaddyJournalCommit m s = _
    exact runCmd_answers ready ((checked_ok s _ (by simp [*])).trans (by simp [*]))
  case caddyJournalClear =>
    intro ready
    show execCaddyJournalClear m s = _
    exact runCmd_answers ready rfl
  case caddyWarmStart =>
    rintro ready _ _ off q l tabs bad t p seq _ _ rfl rfl _ _ rfl rfl rfl
    show execCaddyWarmStart m s = _
    exact runCmd_answers ready (by simp [*])
  case caddyScratchRead =>
    rintro ready form src rfl clean
    show execCaddyScratchRead m s = _
    exact runCmd_answers ready ((checked_ok s _ (firstFail_eq_none.1 form)).trans (by simp [clean]; rfl))
  case caddyScratchWrite =>
    intro ready form clean
    show execCaddyScratchWrite m s = _
    exact runCmd_answers ready ((checked_ok s _ (firstFail_eq_none.1 form)).trans (if_neg (by simp [clean])))
  case dumpConfig =>
    intro ready _ _
    show execDumpConfig m s = _
    exact runCmd_answers ready (checked_ok s _ (by simp [*]))
  case dumpQuery =>
    intro ready
    show execDumpQuery m s = _
    exact runCmd_answers ready rfl
  case dumpTake =>
    intro ready _
    show execDumpTake m s = _
    exact runCmd_answers ready (if_neg (by simp [*]))
  case dumpClear =>
    intro ready _ _
    show execDumpClear m s = _
    exact runCmd_answers ready (if_neg (by simp [*]))

/-- Settles O11: the commands with no programming running, the go of the register form, and the pulse of a word. -/
theorem otpCommandsComplete : Obligations.OtpCommandsComplete := by
  intro m s c
  refine ⟨?otpQuery, ?otpSettingsWrite, ?otpSecurityWrite, ?otpLockDebug, ?otpSvRaise, ?otpProgGo, ?otpWordProgrammed⟩
  case otpQuery =>
    intro ready
    show execOtpQuery m s = _
    exact runCmd_answers ready rfl
  case otpSettingsWrite =>
    intro ready _ _ _ _ body _ _ _
    show execOtpSettingsWrite m s = _
    exact otpCmd_answers (by assumption) ready ((checked_ok s _ (by simp [*])).trans (by simp [*]))
  case otpSecurityWrite =>
    intro ready _ _ _ body _ _ _
    show execOtpSecurityWrite m s = _
    exact otpCmd_answers (by assumption) ready ((checked_ok s _ (by simp [*])).trans (by simp [*]))
  case otpLockDebug =>
    intro ready _ _ _
    show execOtpLockDebug m s = _
    exact otpCmd_answers (by assumption) ready ((checked_ok s _ (by simp [*])).trans (by simp [*]))
  case otpSvRaise =>
    intro ready _ _ _ _ _
    show execOtpSvRaise m s = _
    exact otpCmd_answers (by assumption) ready ((checked_ok s _ (by simp_all)).trans (by simp [*]))
  case otpProgGo =>
    intro w u landed go idle allowed
    show execOtpProgGo w s = _
    refine congrArg ok ((regOp_landed _ landed).trans ?_)
    rw [if_neg (by rw [go]; decide), if_neg (by simp [idle]), if_neg (by simp [allowed])]
  case otpWordProgrammed =>
    intro j a data rest v running words kept burnt
    show execOtpWordProgrammed v s = _
    simp only [execOtpWordProgrammed, running, words, if_pos (And.intro kept burnt)]
    rfl

/-- Settles O12, command by command. -/
theorem pinCommandsComplete : Obligations.PinCommandsComplete := by
  intro m s c
  refine ⟨?pinPadConfig, ?pinQuery, ?pinGpioWrite, ?pinIrqConfig, ?pinWakeConfig, ?pinSmbConfig, ?pinPeriphSet,
    ?pinUartXfer, ?pinI2cXfer⟩
  case pinPadConfig =>
    rintro ready least most reserved form _ rfl
    show execPinPadConfig m s = _
    refine runCmd_answers ready (checked_ok s _ ?_)
    simpa [or_imp, forall_and, Nat.min_eq_right most, least, most, reserved] using firstFail_eq_none.1 form
  case pinQuery =>
    intro ready
    show execPinQuery m s = _
    exact runCmd_answers ready rfl
  case pinGpioWrite =>
    rintro ready _ _ _ _ _ v rfl
    show execPinGpioWrite m s = _
    exact runCmd_answers ready ((checked_ok s _ (by simp_all)).trans (by simp [*]))
  case pinIrqConfig =>
    intro ready _
    show execPinIrqConfig m s = _
    exact runCmd_answers ready ((checked_ok s _ (by simp_all)).trans (by simp [*]))
  case pinWakeConfig =>
    intro ready _
    show execPinWakeConfig m s = _
    exact runCmd_answers ready ((checked_ok s _ (by simp_all)).trans (by simp [*]))
  case pinSmbConfig =>
    intro ready _ _ _ _ _
    show execPinSmbConfig m s = _
    exact runCmd_answers ready (checked_ok s _ (by simp [*]))
  case pinPeriphSet =>
    intro ready regs _ _ _
    show execPinPeriphSet m s = _
    exact runCmd_answers ready ((checked_ok s _ (by simp_all)).trans (by simp [*]))
  case pinUartXfer =>
    rintro ready _ _ _ _ u k t x rfl _ rfl rfl rfl
    show execPinUartXfer m s = _
    exact runCmd_answers ready ((checked_ok s _ (by simp [*])).trans (by simp [*]))
  case pinI2cXfer =>
    rintro ready _ _ _ _ enabled _ rfl
    have pass : ∀ queue, checked m [need (c.u8 0 < 128) 0, need (c.u8 1 ≤ 64) 1, need (c.u8 2 ≤ 64) 2,
      c.notZero 3 1] s queue = queue s :=
      fun queue => checked_ok s queue (by simp [*])
    exact ⟨fun idle => show execPinI2cXfer m s = _ from runCmd_answers ready ((pass _).trans
      (by simp [idle, enabled])),
      fun busy => show execPinI2cXfer m s = _ from runCmd_answers ready ((pass _).trans (by simp [busy, enabled]))⟩

end Sys2Proof.Machine

/-! The completion statements of the register writes with an operation of their own, of the windows and of the doorbells. -/

namespace Sys2Proof.Machine
open Reg

/-- A register write that the block of its register lets run answers its operation's effect. -/
theorem regOp_answers {s u t : State} {off : Nat} {w : RegWord} {act : State → State} (landed : Landed s off w u)
    (effect : act u = t) : ok (s.regOp off w act) = .next t.settled :=
  congrArg ok ((regOp_landed act landed).trans effect)

/-- A request of PWR_CTRL with its key, and with no other request bit, runs. -/
theorem pwrCtrl_answers {s u t : State} {w : RegWord} {k : Nat} {req : State → State} (landed : Landed s 0x1004 w u)
    (key : w.toNat / 65536 = 0x7E51) (one : w.toNat % 16 = 2 ^ k) (listed : k < 4) (effect : req u = t) :
    ok (s.pwrCtrl w k req) = .next t.settled := by
  refine regOp_answers landed ((if_neg (not_not.2 key)).trans ?_)
  have bits : k = 0 ∨ k = 1 ∨ k = 2 ∨ k = 3 := by omega
  rcases bits with rfl | rfl | rfl | rfl <;> simp [one, bitOf, bitsOf, effect]

/-- An entry update of the ternary array through its registers is queued when the port is idle and the slot takes it. -/
theorem tcamUpd_answers {s u : State} {w : RegWord} {op : Nat} (mk : State → Nat → Nat → UpdOp)
    (landed : Landed s 0x91B0 w u)
    (go : fieldOf w TCAM_UPD_CMD_go = 1) (idle : u.rd TCAM_UPD_STATUS_busy ≠ 1)
    (taken : u.slotRefusal (fieldOf w TCAM_UPD_CMD_slot) = none)
    (still : u.castling (u.slotOwner (fieldOf w TCAM_UPD_CMD_slot)) = false) (named : fieldOf w TCAM_UPD_CMD_op = op) :
    ok (s.tcamUpd w op mk) = .next ((u.wr TCAM_UPD_STATUS_busy 1).queueUpd (.port 9)
      (mk u (u.slotOwner (fieldOf w TCAM_UPD_CMD_slot)) (fieldOf w TCAM_UPD_CMD_slot))).settled := by
  rw [State.tcamUpd, if_neg (not_not.2 named)]
  exact regOp_answers landed (by simp [go, idle, taken, still])

/-- An entry update of the exact-match engine through its registers is queued when the port is idle. -/
theorem hashUpd_answers {s u : State} {w : RegWord} {op : Nat} (mk : State → Nat → Nat → List Byte → UpdOp)
    (landed : Landed s 0xA118 w u) (go : fieldOf w HASH_UPD_CMD_go = 1) (idle : u.rd HASH_UPD_STATUS_busy ≠ 1)
    (typed : fieldOf w HASH_UPD_CMD_type ≠ 0) (named : fieldOf w HASH_UPD_CMD_op = op) :
    ok (s.hashUpd w op mk) = .next ((u.wr HASH_UPD_STATUS_busy 1).queueUpd (.port 10)
      (mk u (fieldOf w HASH_UPD_CMD_table) (fieldOf w HASH_UPD_CMD_type) (u.regBytes HASH_UPD_KEY_key 4))).settled := by
  rw [State.hashUpd, if_neg (not_not.2 named)]
  exact regOp_answers landed (by simp [go, idle, typed])

/-- An entry update of the trie engine through its registers is queued when the port is idle and its operand is well formed. -/
theorem lpmUpd_answers {s u : State} {w : RegWord} {op pfx : Nat} (mk : State → Nat → Nat → Nat → UpdOp)
    (landed : Landed s 0xC20C w u) (go : fieldOf w LPM_UPD_CMD_go = 1) (idle : u.rd LPM_UPD_STATUS_busy ≠ 1)
    (route : pfx = u.rd LPM_UPD_PFX_LO_lo + 2 ^ 32 * u.rd LPM_UPD_PFX_HI_hi) (short : fieldOf w LPM_UPD_CMD_length ≤ 64)
    (fits : prefixOk pfx (fieldOf w LPM_UPD_CMD_length) = true) (named : fieldOf w LPM_UPD_CMD_op = op) :
    ok (s.lpmUpd w op mk) = .next ((u.wr LPM_UPD_STATUS_busy 1).queueUpd (.port 12)
      (mk u (fieldOf w LPM_UPD_CMD_table) pfx (fieldOf w LPM_UPD_CMD_length))).settled := by
  subst route
  rw [State.lpmUpd, if_neg (not_not.2 named)]
  refine regOp_answers landed ((if_neg (Nat.not_lt.2 short)).trans ?_)
  rw [if_neg (by simp [go]), if_neg idle, if_neg (by rw [fits]; decide)]

/-- A field takes the low bits of the value written. -/
theorem wri_congr_mod (s : State) {f : Fld} (i : Nat) {a b : Nat} (same : a % 2 ^ f.width = b % 2 ^ f.width) :
    s.wri f i a = s.wri f i b := by simp only [State.wri, same]

/-- Setting outputs only (R705). -/
theorem gpioOut_set (v m : Nat) : gpioOut v m 0 0 % 2 ^ 24 = (v ||| m) % 2 ^ 24 := by
  simp [gpioOut, Nat.and_two_pow_sub_one_eq_mod _ 24]

/-- Clearing outputs only (R705). -/
theorem gpioOut_clear (v m : Nat) : gpioOut v 0 m 0 = v &&& (2 ^ 24 - 1 - m % 2 ^ 24) := by simp [gpioOut]

/-- Inverting outputs only (R705). -/
theorem gpioOut_toggle (v m : Nat) : gpioOut v 0 0 m % 2 ^ 24 = (v ^^^ m) % 2 ^ 24 := by
  rw [gpioOut, Nat.xor_mod_two_pow, Nat.xor_mod_two_pow]
  simp [Nat.and_two_pow_sub_one_eq_mod _ 24]

/-- Settles O13: a PWR_CTRL request with its key runs (`pwrCtrl_answers`); the other accesses answer by their own rows. -/
theorem powerRequestsAndAccessesComplete : Obligations.PowerRequestsAndAccessesComplete := by
  intro s u w off len full data
  refine ⟨?dozeAccepted, ?dozeRefused, ?wakeReq, ?standbyReq, ?shutdownReq, ?mmClear, ?hwClr, ?plyLoRead,
    ?readRegisters, ?readWindow, ?readBeyond, ?readBar2, ?writeBar0, ?writeBar2⟩
  case dozeAccepted =>
    intro landed key one accepted
    show execDozeReq w s = _
    exact pwrCtrl_answers landed key one (by decide) (by rw [accepted])
  case dozeRefused =>
    intro st reason landed key one refused
    show execDozeReq w s = _
    exact pwrCtrl_answers landed key one (by decide) (by rw [refused])
  case wakeReq =>
    intro landed key one free
    show execWakeReq w s = _
    exact pwrCtrl_answers landed key one (by decide) (if_neg (by simp [free]))
  case standbyReq =>
    intro landed key one free alive
    show execStandbyReq w s = _
    exact pwrCtrl_answers landed key one (by decide) (by simp [free, alive])
  case shutdownReq =>
    intro landed key one free
    show execShutdownReq w s = _
    exact pwrCtrl_answers landed key one (by decide) (if_neg (by simp [free]))
  case mmClear =>
    intro statistics other heard clears
    show execMmClear off w s = _
    simp [execMmClear, State.mmClear, *]
    rfl
  case hwClr =>
    intro heard
    show execHwClr w s = _
    exact if_neg (by simp [heard])
  case plyLoRead =>
    show execPlyLoRead s = _
    rfl
  case readRegisters =>
    intro _
    show execRcRead .bar0 off len full s = _
    exact if_pos (by assumption)
  case readWindow =>
    intro above below
    show execRcRead .bar0 off len full s = _
    exact (if_neg (Nat.not_lt.2 above)).trans (if_pos below)
  case readBeyond =>
    intro above
    show execRcRead .bar0 off len full s = _
    exact (if_neg (Nat.not_lt.2 (Nat.le_trans (by decide) above))).trans (if_neg (Nat.not_lt.2 above))
  case readBar2 =>
    show execRcRead .bar2 off len full s = _
    rfl
  case writeBar0 =>
    show execRegisterWrite .bar0 off data s = _
    rfl
  case writeBar2 =>
    show execRegisterWrite .bar2 off data s = _
    rfl

/-- Settles O14: each write lands in a block that its engine owns, so its operation runs (`regOp_answers`). -/
theorem searchRegisterWritesComplete : Obligations.SearchRegisterWritesComplete := by
  intro s u w q
  refine ⟨?profLoad, ?profDeleteWrite, ?qEnSet, ?qEnClear, ?sizesListed⟩
  case profLoad =>
    rintro landed _ _ p d rfl rfl _
    show execProfLoad w s = _
    exact regOp_answers landed (by clear landed; simp_all)
  case profDeleteWrite =>
    intro landed _ _
    show execProfDeleteWrite w s = _
    exact regOp_answers landed (by simp [*, -landed])
  case qEnSet =>
    intro landed _ _ _ _ _ _ _ _ _
    show execQEnSet q w s = _
    exact regOp_answers landed (by simp [*, -landed])
  case qEnClear =>
    intro landed _ _ _
    show execQEnClear q w s = _
    exact regOp_answers landed (by simp [*, -landed])
  case sizesListed =>
    intro a b _ _ _ _
    exact if_pos (by simp [*])

/-- Settles O15: each write lands in a block that its engine owns, so its operation runs (`regOp_answers`). -/
theorem ternaryRegisterWritesComplete : Obligations.TernaryRegisterWritesComplete := by
  intro s u w b t
  refine ⟨?castleGo, ?entryUpdate, ?blkOwnedSet, ?blkOwnedClear, ?gateReq, ?ungateReq, ?tcamTblCreateWrite,
    ?tableWrite⟩
  case castleGo =>
    rintro landed _ v a d ply rfl rfl rfl rfl _ _ _ _ _ _ _ _ _
    show execCastleGo w s = _
    exact regOp_answers landed (by clear landed; simp_all)
  case entryUpdate =>
    rintro landed go idle f o rfl taken rfl still
    refine ⟨?tcamUpdEntryWrite, ?tcamUpdEntryDelete, ?tcamUpdResultWrite⟩
    case tcamUpdEntryWrite =>
      intro named
      show execTcamUpdEntryWrite w s = _
      exact tcamUpd_answers _ landed go idle taken still named
    case tcamUpdEntryDelete =>
      intro named
      show execTcamUpdEntryDelete w s = _
      exact tcamUpd_answers _ landed go idle taken still named
    case tcamUpdResultWrite =>
      intro named
      show execTcamUpdResultWrite w s = _
      exact tcamUpd_answers _ landed go idle taken still named
  case blkOwnedSet =>
    rintro landed owned _ listed _ _ o rfl _ _ _ _
    show execBlkOwnedSet b w s = _
    rw [execBlkOwnedSet, if_neg (by simp [owned])]
    refine regOp_answers landed ?_
    simp [State.blkWord, State.growWrite, State.foreignOwner, Nat.not_le.2 listed, *, -landed]
  case blkOwnedClear =>
    intro landed owned _ listed _ _ _ _
    show execBlkOwnedClear b w s = _
    rw [execBlkOwnedClear, if_neg (by simp [owned])]
    exact regOp_answers landed (by simp [State.blkWord, State.ownedWrite, Nat.not_le.2 listed, *, -landed])
  case gateReq =>
    intro landed gate _ _ listed free unreserved _
    show execGateReq b w s = _
    have free' : b.val ∉ u.reserved := by simpa using unreserved
    rw [execGateReq, if_neg (by simp [gate])]
    refine regOp_answers landed ?_
    simp [State.blkWord, State.gateWrite, Nat.not_le.2 listed, show blkFree ≠ blkOwned from by decide,
      show blkFree ≠ blkGated from by decide, *, -landed]
  case ungateReq =>
    intro landed ungate _ _ listed _ _
    show execUngateReq b w s = _
    rw [execUngateReq, if_neg (by simp [ungate])]
    exact regOp_answers landed (by simp [State.blkWord, Nat.not_le.2 listed, *, -landed])
  case tcamTblCreateWrite =>
    intro landed _ _ _ _ _
    show execTcamTblCreateWrite t w s = _
    exact regOp_answers landed (by simp [*, -landed])
  case tableWrite =>
    rintro landed _ v rfl
    refine ⟨?tcamTblDeleteWrite, ?tcamTblHiddenWrite⟩
    case tcamTblDeleteWrite =>
      intro _ _ _ _ _
      show execTcamTblDeleteWrite t w s = _
      exact regOp_answers landed (by simp [*, -landed])
    case tcamTblHiddenWrite =>
      intro _ _ _ _
      show execTcamTblHiddenWrite t w s = _
      exact regOp_answers landed (by simp [*, -landed])

/-- Settles O16: each write lands in a block that its engine owns, so its operation runs (`regOp_answers`). -/
theorem exactPrefixRegisterWritesComplete : Obligations.ExactPrefixRegisterWritesComplete := by
  intro s u w t r
  refine ⟨?exactUpdate, ?hashTblCreateWrite, ?exactTable, ?dixUpdWrite, ?dixLimitWrite, ?prefixUpdate,
    ?lpmRootCreateWrite, ?lpmRootDeleteWrite, ?prefixRoot, ?defaultRouteOfRoot, ?defaultRouteUndefined⟩
  case exactUpdate =>
    rintro landed go idle a ty key rfl rfl typed rfl
    refine ⟨?hashUpdInsert, ?hashUpdDelete, ?hashUpdResult⟩
    case hashUpdInsert =>
      intro named
      show execHashUpdInsert w s = _
      exact hashUpd_answers _ landed go idle typed named
    case hashUpdDelete =>
      intro named
      show execHashUpdDelete w s = _
      exact hashUpd_answers _ landed go idle typed named
    case hashUpdResult =>
      intro named
      show execHashUpdResult w s = _
      exact hashUpd_answers _ landed go idle typed named
  case hashTblCreateWrite =>
    intro landed _ _ _ _ _ _
    show execHashTblCreateWrite t w s = _
    exact regOp_answers landed (by simp [*, -landed])
  case exactTable =>
    rintro landed v rfl _
    refine ⟨?hashTblDeleteWrite, ?hashTblHiddenWrite⟩
    case hashTblDeleteWrite =>
      intro _
      show execHashTblDeleteWrite t w s = _
      exact regOp_answers landed (by simp [*, -landed])
    case hashTblHiddenWrite =>
      rintro _ _ x rfl
      show execHashTblHiddenWrite t w s = _
      exact regOp_answers landed (by simp [*, -landed])
  case dixUpdWrite =>
    intro landed _ _
    show execDixUpdWrite w s = _
    exact regOp_answers landed (by simp [*, -landed])
  case dixLimitWrite =>
    intro landed _
    show execDixLimitWrite w s = _
    exact regOp_answers landed (by simp [*, -landed])
  case prefixUpdate =>
    rintro landed go idle a len pfx rfl rfl rfl short fits
    refine ⟨?lpmUpdInsert, ?lpmUpdDelete, ?lpmUpdResultChange⟩
    case lpmUpdInsert =>
      intro named
      show execLpmUpdInsert w s = _
      exact lpmUpd_answers _ landed go idle rfl short fits named
    case lpmUpdDelete =>
      intro named
      show execLpmUpdDelete w s = _
      exact lpmUpd_answers _ landed go idle rfl short fits named
    case lpmUpdResultChange =>
      intro named
      show execLpmUpdResultChange w s = _
      exact lpmUpd_answers _ landed go idle rfl short fits named
  case lpmRootCreateWrite =>
    rintro landed _ _ _ a v rfl _ _ _ rfl
    show execLpmRootCreateWrite r w s = _
    exact regOp_answers landed (by simp [*, -landed])
  case lpmRootDeleteWrite =>
    intro landed _ _ _ _
    show execLpmRootDeleteWrite r w s = _
    exact regOp_answers landed (by simp [*, -landed])
  case prefixRoot =>
    intro landed _ _ _
    refine ⟨?lpmRootHiddenWrite, ?lpmDefaultRouteWrite⟩
    case lpmRootHiddenWrite =>
      intro _
      show execLpmRootHiddenWrite r w s = _
      exact regOp_answers landed (by simp [*, -landed])
    case lpmDefaultRouteWrite =>
      show execLpmDefaultRouteWrite r false w s = _
      exact regOp_answers landed (by simp [*, -landed])
  case defaultRouteOfRoot =>
    intro landed _
    show execLpmDefaultRouteWrite r true w s = _
    exact regOp_answers landed (if_pos (by assumption))
  case defaultRouteUndefined =>
    intro landed _
    show execLpmDefaultRouteWrite r true w s = _
    exact regOp_answers landed (if_neg (by assumption))

/-- Settles O17: each write lands in a block that its engine owns, so its operation runs (`regOp_answers`). -/
theorem chainSlotRegisterWritesComplete : Obligations.ChainSlotRegisterWritesComplete := by
  intro s u w p
  refine ⟨?chain, ?slotControl, ?expertOperation, ?slotDataRead, ?slotDataWrite⟩
  case chain =>
    intro landed _ _
    refine ⟨?chnEnumerateWrite, ?chnGroupsWrite⟩
    case chnEnumerateWrite =>
      intro _ _ _
      show execChnEnumerateWrite w s = _
      exact regOp_answers landed (by simp [*, -landed])
    case chnGroupsWrite =>
      intro _ _ _ _
      show execChnGroupsWrite w s = _
      exact regOp_answers landed (by simp [*, -landed])
  case slotControl =>
    rintro i rfl landed single
    refine ⟨?slotPowerOn, ?slotPowerOffUnmounted, ?slotPowerOffMounted, ?slotEjectWrite, ?slotPortResetWrite⟩
    case slotPowerOn =>
      intro asked empty
      show execSlotPowerOn p w s = _
      refine regOp_answers landed ((if_neg (Nat.not_lt.2 single)).trans ((if_pos asked).trans (if_neg ?_)))
      exact fun h => empty.elim h.1 h.2
    case slotPowerOffUnmounted =>
      intro _ _
      show execSlotPowerOff p w s = _
      exact regOp_answers landed (by clear landed; simp_all)
    case slotPowerOffMounted =>
      intro _ _ _ _
      show execSlotPowerOff p w s = _
      exact regOp_answers landed (by clear landed; simp_all)
    case slotEjectWrite =>
      intro _ _
      show execSlotEjectWrite p w s = _
      exact regOp_answers landed (by clear landed; simp_all)
    case slotPortResetWrite =>
      intro _ _ _
      show execSlotPortResetWrite p w s = _
      exact regOp_answers landed (by clear landed; simp_all)
  case expertOperation =>
    rintro i t rfl landed _ _ _ _ _ rfl _ _
    refine ⟨?slotOpReadPageRaw, ?slotOpProgramRaw, ?slotOpEraseBlock, ?slotOpReset, ?slotOpReadId,
      ?slotOpReadParameterPage⟩
    case slotOpReadPageRaw =>
      intro _
      show execSlotOpReadPageRaw p w s = _
      exact regOp_answers landed (by simp [*, -landed])
    case slotOpProgramRaw =>
      intro _ _
      show execSlotOpProgramRaw p w s = _
      exact regOp_answers landed (by simp [*, -landed])
    case slotOpEraseBlock =>
      intro _ _
      show execSlotOpEraseBlock p w s = _
      exact regOp_answers landed (by simp [*, -landed])
    case slotOpReset =>
      intro _
      show execSlotOpReset p w s = _
      exact regOp_answers landed (by simp [*, -landed])
    case slotOpReadId =>
      intro _
      show execSlotOpReadId p w s = _
      exact regOp_answers landed (by simp [*, -landed])
    case slotOpReadParameterPage =>
      intro _
      show execSlotOpReadParameterPage p w s = _
      exact regOp_answers landed (by simp [*, -landed])
  case slotDataRead =>
    rintro i a rfl rfl
    show execSlotOpDataAccess p none s = _
    rfl
  case slotDataWrite =>
    rintro i a rfl landed rfl
    show execSlotOpDataAccess p (some w) s = _
    exact regOp_answers landed rfl

/-- Settles O18: each write lands in a block that its engine owns, so its operation runs (`regOp_answers`). -/
theorem streamIntegRegisterWritesComplete : Obligations.StreamIntegRegisterWritesComplete := by
  intro s u w c
  refine ⟨?strmChEnSet, ?strmChEnClear, ?strmChResumeWrite, ?scrubGo, ?auditGo, ?flipArm, ?logConsWrite, ?seenClr,
    ?dbgHaltWrite⟩
  case strmChEnSet =>
    intro landed _ _ _ _ _ _ _ _ _ _ _ _
    show execStrmChEnSet c w s = _
    exact regOp_answers landed (by simp [*, -landed])
  case strmChEnClear =>
    intro landed _ _ _
    show execStrmChEnClear c w s = _
    exact regOp_answers landed (by simp [*, -landed])
  case strmChResumeWrite =>
    intro landed _ _
    show execStrmChResumeWrite c w s = _
    exact regOp_answers landed (by simp [*, -landed])
  case scrubGo =>
    rintro landed go idle sid a n rfl rfl rfl good
    show execScrubGo w s = _
    have scrubs := firstFail_eq_none.1 good _ (List.mem_cons_self ..)
    have plain : ¬(fieldOf w INTEG_SCRUB_CTRL_scrub_sid = 0x74 ∨ fieldOf w INTEG_SCRUB_CTRL_scrub_sid = 0x75) := by
      rintro (h | h) <;> simp [h, sidSize, need] at scrubs
    exact regOp_answers landed ((if_neg plain).trans (by simp [go, idle, good]))
  case auditGo =>
    intro landed _ _ _
    show execAuditGo w s = _
    exact regOp_answers landed (by clear landed; simp [*]; omega)
  case flipArm =>
    intro landed _ _ _
    show execFlipArm w s = _
    exact regOp_answers landed (by simp [*, -landed])
  case logConsWrite =>
    rintro heard t old rfl rfl behind
    show execLogConsWrite w s = _
    exact (if_neg (by simp [heard])).trans (if_pos behind)
  case seenClr =>
    intro heard asked
    show execSeenClr w s = _
    exact (if_neg (by simp [heard])).trans (congrArg ok (if_pos asked))
  case dbgHaltWrite =>
    intro landed
    show execDbgHaltWrite w s = _
    exact regOp_answers landed rfl

/-- Settles O19: each write lands; the three writes of PIN_OUT keep what `gpioOut` gives modulo its 24 bits. -/
theorem pinRegisterAccessesComplete : Obligations.PinRegisterAccessesComplete := by
  intro s u w n k
  refine ⟨?pinSet, ?pinClr, ?pinTgl, ?padCfgWrite, ?uartTxPush, ?uartRxPop, ?i2cGo⟩
  case pinSet =>
    intro landed
    show execPinSet w s = _
    exact regOp_answers landed (wri_congr_mod u 0 (gpioOut_set _ _))
  case pinClr =>
    intro landed
    show execPinClr w s = _
    exact regOp_answers landed (congrArg _ ((gpioOut_clear _ _).trans (by rw [Nat.mod_mod])))
  case pinTgl =>
    intro landed
    show execPinTgl w s = _
    exact regOp_answers landed (wri_congr_mod u 0 (gpioOut_toggle _ _))
  case padCfgWrite =>
    intro landed
    show execPadCfgWrite n w s = _
    exact regOp_answers landed rfl
  case uartTxPush =>
    intro landed
    show execUartTxPush k w s = _
    exact regOp_answers landed rfl
  case uartRxPop =>
    rintro r rfl
    show execUartRxPop k s = _
    rfl
  case i2cGo =>
    intro landed
    show execI2cGo w s = _
    exact regOp_answers landed rfl

/-- Settles O20, access by access. -/
theorem windowsAndDoorbellsComplete : Obligations.WindowsAndDoorbellsComplete := by
  intro s w n lane m ring off len data
  refine ⟨?windowRead, ?windowWrite, ?windowSearch, ?mailboxDoorbell, ?eventConsumerDoorbell, ?ringProducerDoorbell,
    ?ringConsumerDoorbell, ?doorbellCountWordWrite, ?bootRecordWrite, ?epWriteReceived⟩
  case windowRead =>
    show execWindowRead n off len s = _
    rfl
  case windowWrite =>
    show execWindowWrite n off data s = _
    rfl
  case windowSearch =>
    intro long short role enabled
    show execWindowSearch lane len s = _
    exact (if_neg (by omega)).trans (if_neg (by simp [role, enabled]))
  case mailboxDoorbell =>
    intro _
    show execMailboxDoorbell m w s = _
    simp only [execMailboxDoorbell, *]
    rfl
  case eventConsumerDoorbell =>
    rintro _ t old rfl rfl _
    show execEventConsumerDoorbell w s = _
    simp only [execEventConsumerDoorbell, *]
    rfl
  case ringProducerDoorbell =>
    intro _
    show execRingProducerDoorbell ring w s = _
    simp only [execRingProducerDoorbell, *]
    rfl
  case ringConsumerDoorbell =>
    intro _
    show execRingConsumerDoorbell ring w s = _
    simp only [execRingConsumerDoorbell, *]
    rfl
  case doorbellCountWordWrite =>
    intro count role
    exact completes_countWordWrite w role count
  case bootRecordWrite =>
    intro _ _ _ _
    show execBootRecordWrite off data s = _
    simp only [execBootRecordWrite, *]
    rfl
  case epWriteReceived =>
    rintro t rfl
    refine ⟨?registers, ?windows, ?follower, ?bar2⟩
    case registers =>
      intro _ _
      show execEpWriteReceived .bar0 off data s = _
      exact congrArg ok (by simp [*])
    case windows =>
      intro role above
      show execEpWriteReceived .bar0 off data s = _
      exact congrArg (fun t : State => ok (t.raise GLB_STATUS_ep_received)) ((if_neg (by simp [role])).trans
        (if_neg (Nat.not_lt.2 above)))
    case follower =>
      intro _
      show execEpWriteReceived .bar0 off data s = _
      exact congrArg ok (by simp [*])
    case bar2 =>
      show execEpWriteReceived .bar2 off data s = _
      rfl

end Sys2Proof.Machine

/-! The completion statements of the events: of the search and clockless fabrics, power, heat, the mailbox engine, the tables,
the chain, the media, the pads, and the SMBus target and the TAP; and the refutation for the host link. -/

namespace Sys2Proof.Machine
open Reg

theorem ok_ite {p : Prop} [Decidable p] (a b : State) : (if p then ok a else ok b) = ok (if p then a else b) :=
  (apply_ite ok p a b).symm

/-! ### What a ply admits (R59, R448) -/

/-- After the arriving search, with whether it ran: a group search that waits for its window counts a ply. -/
def waitCounted (c : State × Bool) : State :=
  if c.1.allOffers.any (fun o => c.1.isGroupSearch o.desc o.mask && !(c.1.groupWindow c.2)) then
    c.1.inc CHN_ADM_WAIT_wait_plies
  else c.1

/-- No search is admitted, and one that only the admission cap holds back is counted. -/
def capCounted (c : State × Bool) : State :=
  if c.1.allOffers.any (fun o => c.1.capped
      (if c.1.isGroupSearch o.desc o.mask then max c.1.clk.capLevel c.1.clk.capGroup else c.1.clk.capLevel)) then
    (waitCounted c).inc CLK_ADMIT_CAPPED_admit_capped
  else waitCounted c

section
variable {s : State} {ptr : Nat}

theorem admitPly_closed (closed : s.runArriving.1.admitting = false) : s.admitPly ptr = s.runArriving.1 := by
  simp [State.admitPly, closed]

theorem admitPly_picked {o : Nat × Offer} (opened : s.runArriving.1.admitting = true)
    (picked : s.runArriving.1.pickOffer s.runArriving.2 ptr = some o) :
    s.admitPly ptr = (waitCounted s.runArriving).admitOffer o.2 := by
  simp [State.admitPly, opened, picked, waitCounted]

theorem admitPly_none (opened : s.runArriving.1.admitting = true)
    (empty : s.runArriving.1.pickOffer s.runArriving.2 ptr = none) : s.admitPly ptr = capCounted s.runArriving := by
  simp [State.admitPly, opened, empty, capCounted, waitCounted]

end

/-! ### Where a packet is served (R466, R473) -/

section
variable {s t : State} {p : Packet} {act source : State → State}

/-- A packet for this member is served here. -/
theorem receive_answers (live : s.portLive = true) (here : p.dst = s.ownAddr)
    (effect : act ((s.enterPkt p).inc CHN_PKT_pkt_in) = t) : s.receive p act = .next t.settled := by
  rw [State.receive, if_neg (by simp [live]), if_pos here, effect, ok_eq]

/-- A packet for another member is passed on. -/
theorem receive_passes (live : s.portLive = true) (away : p.dst ≠ s.ownAddr) :
    s.receive p act = .next ((s.enterPkt p).passOn p).settled := by
  rw [State.receive, if_neg (by simp [live]), if_neg away, ok_eq]

/-- A packet for every member that comes back to its source ends there. -/
theorem receiveAll_returned (live : s.portLive = true) (own : p.src = s.ownAddr)
    (effect : source ((s.enterPkt p).inc CHN_PKT_pkt_in) = t) : s.receiveAll p source act = .next t.settled := by
  rw [State.receiveAll, if_neg (by simp [live]), if_pos own, effect, ok_eq]

/-- A packet for every member is served here and passed on. -/
theorem receiveAll_onward {u : State} (live : s.portLive = true) (other : p.src ≠ s.ownAddr) (entered : u = s.enterPkt p)
    (effect : act u = t) : s.receiveAll p source act = .next (t.passOn p).settled := by
  rw [State.receiveAll, if_neg (by simp [live]), if_neg other, ← entered, effect, ok_eq]

end

/-! ### Levels of a pad (R708) -/

theorem padBit_padSet (v : Nat) (n : Fin 24) (l : Bool) : padBit (padSet v n.val l) n.val = l := by
  have cleared : ∀ n : Fin 24, (2 ^ 24 - 1 - 2 ^ n.val % 2 ^ 24).testBit n.val = false := by decide
  rw [padBit, bitOf_eq_testBit]
  cases l with
  | false => exact (Nat.testBit_and ..).trans (by rw [cleared n, Bool.and_false])
  | true => simp [padSet]

theorem padsLive_of_wakeSampled {s : State} {n : Nat} (sampled : s.wakeSampled n = true) : s.padsLive = false := by
  have standby : s.phase = .standby := by simp_all [State.wakeSampled]
  simp [State.padsLive, State.powered, standby]

/-! ### The SMBus target and the TAP (R726 to R730, R770, R771) -/

theorem leNat_leBytes (n v : Nat) : leNat (leBytes n v) = v % 256 ^ n := by
  induction n generalizing v with
  | zero => simp [leBytes, leNat, Nat.mod_one]
  | succ n ih => simp [leBytes, leNat, ih, Nat.pow_succ', Nat.mod_mul]

/-- A write with its PEC, or while none is asked for, takes effect and is counted. -/
theorem smbWrite_ok {s : State} {code : Nat} {data : List Byte} {pec : Option Byte} (effect : State → State)
    (answers : s.smbAnswers = true) (checked : s.rd PIN_SMB_CFG_pec_en ≠ 1 ∨
      pec = some (pecOf 0 ([s.smbAddr 0, BitVec.ofNat 8 code] ++ data))) :
    s.smbWrite code data pec effect = (effect (s.smbSend (some []))).inc PIN_SMB_COUNT_transactions := by
  rw [State.smbWrite, if_neg (by simp [answers])]
  exact if_neg (fun wrong => checked.elim (absurd wrong.1) wrong.2)

theorem uartPump_tap (s : State) (u : Nat) : (s.uartPump u).pins.tap = s.pins.tap := by
  unfold State.uartPump
  dsimp only
  split
  · split <;> rfl
  · rfl

/-- What an instruction loads is the current instruction, as the debug lock offers it (R771). -/
theorem tapLoad_tap (s : State) (i : TapInstr) (cells : Option (BitVec 486)) (levels : BitVec 24) :
    (s.tapLoad i cells levels).pins.tap = s.tapOffered i := by
  unfold State.tapLoad
  extract_lets e boundary sample capture loaded
  split
  · rfl
  · split
    · exact (uartPump_tap _ _).trans (uartPump_tap _ _)
    · rfl

/-- A module on its way into STANDBY that asserts WAKE_N: a wake source was latched while it entered (R122). -/
def wakingStandbyEntry : State :=
  { State.reset.wr PWR_STATE_state 5 with host := { State.reset.host with wakeN := true } }

theorem wakingStandbyEntry_phase : wakingStandbyEntry.phase = .standbyEntry := by decide

/-- Refutes O21: on its way into STANDBY a module runs the sequence without being up. There the statement has the deassertion of
PERST_N release WAKE_N, which the model keeps until the START that follows the wake source has completed (R122). -/
theorem not_hostLinkEventsComplete : ¬ Obligations.HostLinkEventsComplete := by
  intro holds
  obtain ⟨-, -, -, -, -, -, released, -⟩ := holds wakingStandbyEntry 0 0 []
  have same := congrArg State.host (Host.Outcome.next.inj (released _ rfl))
  have woken : (true && !wakingStandbyEntry.alive) = (true && !(wakingStandbyEntry.alive || wakingStandbyEntry.inSequence)) :=
    congrArg (·.wakeN) same
  simp [State.alive, State.inSequence, wakingStandbyEntry_phase] at woken

/-- Settles O22, event by event: its condition picks the branch of its row. -/
theorem searchClockEventsComplete : Obligations.SearchClockEventsComplete := by
  intro s tag i data lost poison word arb who
  refine ⟨?searchAdmission, ?searchFabricCompletion, ?lateDiscard, ?searchDelivery, ?wordPushed, ?wordPopped,
    ?wordTaken, ?hostSend, ?windowForward, ?windowBack, ?statusBack, ?arbiter, ?fifoStall, ?canaryLaunch, ?hand,
    ?marginQualifyTimeout, ?strobeLost, ?followerStrobeTimeout, ?islandLost⟩
  case searchAdmission =>
    rintro powered started a b c d rfl rfl rfl rfl
    refine ⟨?closed, ?opened⟩
    case closed =>
      intro closed
      show execSearchAdmission s = _
      refine (if_neg (by simp [powered, started])).trans (congrArg (fun t : State => ok t.commitOrphans) ?_)
      exact admitPly_closed closed
    case opened =>
      intro opened
      refine ⟨?picked, ?empty⟩
      case picked =>
        intro o picked
        show execSearchAdmission s = _
        refine (if_neg (by simp [powered, started])).trans (congrArg (fun t : State => ok t.commitOrphans) ?_)
        exact admitPly_picked opened picked
      case empty =>
        intro empty
        show execSearchAdmission s = _
        refine (if_neg (by simp [powered, started])).trans (congrArg (fun t : State => ok t.commitOrphans) ?_)
        exact admitPly_none opened empty
  case searchFabricCompletion =>
    intro k f _ _
    show execSearchFabricCompletion tag s = _
    simp only [execSearchFabricCompletion, *]
    rfl
  case lateDiscard =>
    intro k f _ _
    show execLateDiscard tag s = _
    simp only [execLateDiscard, *]
    rfl
  case searchDelivery =>
    show execSearchDelivery s = _
    rfl
  case wordPushed =>
    intro _
    show execFabricWordTransfer (.push i data poison word) s = _
    exact if_pos (by assumption)
  case wordPopped =>
    rintro w ws v word room rfl
    show execFabricWordTransfer (.pop i lost) s = _
    refine congrArg ok ?_
    simp [State.fifoPass, word, room]
  case wordTaken =>
    intro _
    show execFabricWordTransfer (.take i) s = _
    exact congrArg ok (if_neg (by simp [*]))
  case hostSend =>
    show execFabricWordTransfer .send s = _
    rfl
  case windowForward =>
    rintro r d driving start rfl rfl
    show execFabricWordTransfer .forward s = _
    exact congrArg ok (if_pos ⟨driving, start⟩)
  case windowBack =>
    rintro f rfl sends
    show execFabricWordTransfer .back s = _
    refine congrArg ok ?_
    rcases sends with ⟨follower, start, quiet⟩ | ⟨head, train, start⟩
    · simp [State.windowBack, follower, start, quiet]
    · cases back : s.chain.back <;> simp_all [State.windowBack]
  case statusBack =>
    rintro t _ _ _ _ rfl
    show execFabricWordTransfer .back s = _
    refine congrArg ok ?_
    simp [State.windowBack, *]
  case arbiter =>
    rintro q rfl
    refine ⟨?request, ?grant, ?grantPassed⟩
    case request =>
      intro _ _
      show execFabricWordTransfer (.request arb who) s = _
      exact congrArg ok (if_neg (by simp [*]))
    case grant =>
      intro asks first
      show execFabricWordTransfer (.grant arb who) s = _
      exact congrArg ok (if_pos (by rw [asks, first]; rfl))
    case grantPassed =>
      intro passed
      show execFabricWordTransfer (.grant arb who) s = _
      refine congrArg ok (if_neg ?_)
      obtain ⟨r, listed, both⟩ := List.any_eq_true.1 passed
      obtain ⟨other, before⟩ := (Bool.and_eq_true _ _).mp both
      simp only [Bool.and_eq_true, List.all_eq_true, not_and]
      intro _ first
      have stays := first r listed
      simp_all
  case fifoStall =>
    intro _
    show execFifoStall i s = _
    exact if_neg (by simp [*])
  case canaryLaunch =>
    intro powered started awake running
    show execCanaryLaunch s = _
    exact (if_neg (by simp [powered, started])).trans
      (if_neg (show ¬(s.clk.gated || s.phase == .doze) = true by simp [awake, running]))
  case hand =>
    intro c taps running
    refine ⟨?measured, ?missed⟩
    case measured =>
      show execCanaryMeasurement taps s = _
      simp only [execCanaryMeasurement, running]
      rfl
    case missed =>
      show execCanaryMiss s = _
      simp only [execCanaryMiss, running]
      rfl
  case marginQualifyTimeout =>
    intro _
    show execMarginQualifyTimeout s = _
    exact if_pos (by assumption)
  case strobeLost =>
    intro _
    show execStrobeLost s = _
    exact if_neg (by assumption)
  case followerStrobeTimeout =>
    rintro _ _ t rfl
    show execFollowerStrobeTimeout s = _
    exact if_pos (by simp [*])
  case islandLost =>
    intro isl _ _
    show execIslandLost isl s = _
    exact if_pos (by simp [*])

/-- Settles O23, event by event: its condition picks the branch of its row. -/
theorem powerEventsComplete : Obligations.PowerEventsComplete := by
  intro s
  refine ⟨?supervisorArm, ?startCondition, ?vinFallInStart, ?vinFallRunning, ?shutdownStep2End, ?shutdownStep3End,
    ?shutdownStep4End, ?shutdownStep5End, ?stepSixIntoOff, ?stepSixIntoStandby, ?vinCut, ?slotPowerFault,
    ?railFaultUp, ?railFaultInSequence, ?dozeGate, ?dozeUngateDone, ?wakeSource, ?standbyTimer, ?standbyVinLow⟩
  case supervisorArm =>
    rintro t rfl
    show execSupervisorArm s = _
    rfl
  case startCondition =>
    intro st _
    show execStartCondition st s = _
    exact if_pos (by assumption)
  case vinFallInStart =>
    intro _
    show execVinFall s = _
    exact if_pos (by assumption)
  case vinFallRunning =>
    intro _
    show execVinFall s = _
    exact if_neg (by assumption)
  case shutdownStep2End =>
    intro sequence step empty t aborted
    show execShutdownStep2End s = _
    refine (if_neg ?_).trans ?_
    · rcases step with step | step <;> simp [sequence, step, empty]
    · simp only [← aborted]
      exact (ok_ite _ _).trans (ok_eq _)
  case shutdownStep3End =>
    rintro _ on t u rfl rfl rfl
    refine ⟨?shutdownStep3End1, ?shutdownStep3End2⟩
    case shutdownStep3End1 =>
      show execShutdownStep3End true s = _
      simp [execShutdownStep3End, *]
      rfl
    case shutdownStep3End2 =>
      show execShutdownStep3End false s = _
      simp [execShutdownStep3End, *]
      rfl
  case shutdownStep4End =>
    intro _
    show execShutdownStep4End s = _
    exact if_neg (by simp [*])
  case shutdownStep5End =>
    intro _
    show execShutdownStep5End s = _
    exact if_neg (by simp [*])
  case stepSixIntoOff =>
    rintro us d _ _ rfl
    show execShutdownStep6End us s = _
    simp only [execShutdownStep6End, *]
    rfl
  case stepSixIntoStandby =>
    rintro us t d at6 entry rfl rfl
    show execShutdownStep6End us s = _
    rw [execShutdownStep6End, if_neg (by simp [at6]), if_pos entry]
    exact ok_ite _ _
  case vinCut =>
    intro _
    show execVinCut s = _
    exact if_neg (by assumption)
  case slotPowerFault =>
    rintro p i t rfl _ rfl
    show execSlotPowerFault p s = _
    exact if_neg (by assumption)
  case railFaultUp =>
    rintro r t rfl _
    show execRailFault r s = _
    exact if_pos (by assumption)
  case railFaultInSequence =>
    rintro r t rfl _ _
    show execRailFault r s = _
    simp only [execRailFault, *]
    rfl
  case dozeGate =>
    rintro _ _ code t u rfl rfl rfl
    show execDozeGate s = _
    exact if_pos (by simp [*])
  case dozeUngateDone =>
    intro _ _
    show execDozeUngateDone s = _
    exact if_pos (by simp [*])
  case wakeSource =>
    intro src wakes
    show execWakeSource src s = _
    exact if_neg (fun pad => wakes.elim (absurd pad.1) (fun w => by simp [w] at pad))
  case standbyTimer =>
    show execStandbyTimer s = _
    rfl
  case standbyVinLow =>
    intro _
    show execStandbyVinLow s = _
    exact if_pos (by assumption)

/-- Settles O24, event by event: its condition picks the branch of its row. -/
theorem heatEventsComplete : Obligations.HeatEventsComplete := by
  intro s
  refine ⟨?powerSample, ?ntcSample, ?graceExpiry, ?levelHoldExpiry, ?modelStale, ?sensorFaultClear⟩
  case powerSample =>
    rintro ps iin pin t u _ rfl rfl rfl rfl
    refine ⟨?powerSample1, ?powerSample2⟩
    case powerSample1 =>
      intro _
      show execPowerSample ps s = _
      simp only [execPowerSample, *]
      rfl
    case powerSample2 =>
      intro inc _
      show execPowerSample ps s = _
      simp only [execPowerSample, *]
      rfl
  case ntcSample =>
    rintro raw conv op sh a b c d _ rfl rfl rfl rfl rfl rfl
    refine ⟨?ntcSample1, ?ntcSample2, ?ntcSample3⟩
    case ntcSample1 =>
      intro _ _
      show execNtcSample raw conv s = _
      simp [execNtcSample, *]
      rfl
    case ntcSample2 =>
      intro _ _
      show execNtcSample raw conv s = _
      simp [execNtcSample, *]
      rfl
    case ntcSample3 =>
      intro _ _
      show execNtcSample raw conv s = _
      simp [execNtcSample, *]
      rfl
  case graceExpiry =>
    intro _
    show execGraceExpiry s = _
    exact if_pos (by assumption)
  case levelHoldExpiry =>
    rintro l t rfl _ _ _ rfl
    show execLevelHoldExpiry s = _
    exact if_pos (by simp [*])
  case modelStale =>
    intro _
    show execModelStale s = _
    exact if_neg (by simp [*])
  case sensorFaultClear =>
    intro _ _
    show execSensorFaultClear s = _
    exact if_pos (by simp [*])

/-- Settles O25, event by event: its condition picks the branch of its row. -/
theorem mailboxCoreEventsComplete : Obligations.MailboxCoreEventsComplete := by
  intro s m
  refine ⟨?takeAtFollower, ?takeFatal, ?takeAfterFailedBoot, ?takeServed, ?timeoutWaiting, ?timeoutRunning,
    ?claimTakeEffect, ?fwReady, ?controlCoreReset, ?guardCoreReset, ?guardCoreStart, ?coreTrap, ?controlWatchdog,
    ?guardWatchdog, ?dumpWritten, ?caddyImage, ?hostImage, ?commitJournal, ?journalClaimed, ?checkpointEnd⟩
  case takeAtFollower =>
    intro _ _
    show execMailboxTake m s = _
    exact if_pos (by simp [*])
  case takeFatal =>
    intro role dead
    show execMailboxTake m s = _
    have served : ¬((m != .relay && s.isFollower) = true) := by rcases role with role | role <;> simp [role]
    rw [execMailboxTake, if_neg served, if_pos dead]
    simp only [beq_iff_eq]
    rfl
  case takeAfterFailedBoot =>
    intro role alive failed
    show execMailboxTake m s = _
    have served : ¬((m != .relay && s.isFollower) = true) := by rcases role with role | role <;> simp [role]
    rw [execMailboxTake, if_neg served, if_neg (by simp [alive]), if_pos failed]
    simp only [beq_iff_eq]
    rfl
  case takeServed =>
    intro role alive booted serving next
    show execMailboxTake m s = _
    have served : ¬((m != .relay && s.isFollower) = true) := by rcases role with role | role <;> simp [role]
    rw [execMailboxTake, if_neg served, if_neg (by simp [alive]), if_neg booted, if_pos (by simp [serving, next])]
    rfl
  case timeoutWaiting =>
    intro c _ _ _
    show execCommandTimeout m s = _
    simp only [execCommandTimeout, *]
    rfl
  case timeoutRunning =>
    intro c _ _
    show execCommandTimeout m s = _
    simp only [execCommandTimeout, *]
    rfl
  case claimTakeEffect =>
    intro c _ _ _
    show execClaimTakeEffect s = _
    exact congrArg ok (by simp [*])
  case fwReady =>
    rintro _ _ _ _ t u rfl rfl
    show execFwReady s = _
    exact if_neg (by simp [*])
  case controlCoreReset =>
    intro _ _
    show execControlCoreReset s = _
    exact if_neg (by simp [*])
  case guardCoreReset =>
    intro _ _
    show execGuardCoreReset s = _
    exact if_pos (by simp [*])
  case guardCoreStart =>
    rintro stopped loaded usable t u rfl rfl
    show execGuardCoreStart s = _
    refine if_neg ?_
    rcases loaded with loaded | loaded <;> simp [stopped, loaded, usable]
  case coreTrap =>
    rintro c f t u traps rfl rfl
    show execCoreTrap c f s = _
    exact (if_neg (by simp [traps])).trans ((ok_ite _ _).trans (ok_eq _))
  case controlWatchdog =>
    intro f traps running
    refine ⟨?second, ?first⟩
    case second =>
      intro _ _
      show execWatchdogExpiry .control f s = _
      simp [execWatchdogExpiry, *]
      rfl
    case first =>
      rintro first t rfl
      show execWatchdogExpiry .control f s = _
      rw [execWatchdogExpiry, if_neg (by simp [traps, running])]
      exact if_neg (by rcases first with first | first <;> simp [first])
  case guardWatchdog =>
    intro f traps running
    refine ⟨?second, ?first⟩
    case second =>
      intro _ _
      show execWatchdogExpiry .guard f s = _
      simp [execWatchdogExpiry, *]
      rfl
    case first =>
      rintro first t rfl
      show execWatchdogExpiry .guard f s = _
      rw [execWatchdogExpiry, if_neg (by simp [traps, running])]
      exact if_neg (by rcases first with first | first <;> simp [first])
  case dumpWritten =>
    rintro d t _ rfl
    refine ⟨?dumpWritten1, ?dumpWritten2, ?dumpWritten3⟩
    case dumpWritten1 =>
      intro _ _
      show execDumpWritten s = _
      simp [execDumpWritten, *]
      rfl
    case dumpWritten2 =>
      intro _ _
      show execDumpWritten s = _
      simp [execDumpWritten, *]
      rfl
    case dumpWritten3 =>
      intro _ n _
      show execDumpWritten s = _
      simp [execDumpWritten, *]
      rfl
  case caddyImage =>
    intro _ _ _
    show execBootImageVerified s = _
    simp only [execBootImageVerified, *]
    rfl
  case hostImage =>
    intro _ _ _ r _ _
    refine ⟨?bootImageVerified1, ?bootImageVerified2, ?bootImageVerified3, ?bootImageVerified4⟩
    case bootImageVerified1 =>
      intro d _
      show execBootImageVerified s = _
      simp [execBootImageVerified, *]
      rfl
    case bootImageVerified2 =>
      intro _ _ _
      show execBootImageVerified s = _
      simp [execBootImageVerified, *]
      rfl
    case bootImageVerified3 =>
      intro _ _ _
      show execBootImageVerified s = _
      simp [execBootImageVerified, *]
      rfl
    case bootImageVerified4 =>
      intro _ _
      show execBootImageVerified s = _
      simp [execBootImageVerified, *]
      rfl
  case commitJournal =>
    intro _ _
    show execJournalCommitTimer s = _
    simp only [execJournalCommitTimer, *]
    rfl
  case journalClaimed =>
    intro _ _ _
    show execJournalCommitTimer s = _
    simp only [execJournalCommitTimer, *]
    rfl
  case checkpointEnd =>
    show execCheckpointEnd s = _
    rfl

/-- Settles O26, event by event: its condition picks the branch of its row. -/
theorem tableEventsComplete : Obligations.TableEventsComplete := by
  intro s b t
  refine ⟨?updateCommit, ?castlingCommit, ?guardCastlingCommit, ?blockUngateDone, ?blockInvalidateDone, ?exactSweep,
    ?prefixSweep, ?overlayDisarm, ?lpmRebuildDone, ?walkNotFound, ?walkFound, ?agerOverrun, ?agerBegins⟩
  case updateCommit =>
    intro _ _
    refine ⟨?updateCommit1, ?updateCommit2, ?updateCommit3⟩
    case updateCommit1 =>
      intro u _
      show execUpdateCommit s = _
      simp only [execUpdateCommit, *]
      rfl
    case updateCommit2 =>
      intro u v _ _
      show execUpdateCommit s = _
      simp only [execUpdateCommit, *]
      rfl
    case updateCommit3 =>
      intro u v _ _
      refine ⟨?updateCommit1, ?updateCommit2, ?updateCommit3⟩
      case updateCommit1 =>
        intro x _
        show execUpdateCommit s = _
        simp only [execUpdateCommit, *]
        rfl
      case updateCommit2 =>
        intro x y _ _
        show execUpdateCommit s = _
        simp only [execUpdateCommit, *]
        rfl
      case updateCommit3 =>
        intro x y _ _
        show execUpdateCommit s = _
        simp only [execUpdateCommit, *]
        rfl
  case castlingCommit =>
    rintro c u _ _ _ v rfl rfl
    show execCastlingCommit s = _
    simp only [execCastlingCommit, *]
    rfl
  case guardCastlingCommit =>
    intro l _ _ _ _ _
    show execGuardCastlingCommit s = _
    simp only [execGuardCastlingCommit, *]
    rfl
  case blockUngateDone =>
    rintro _ rest u _ rfl rfl
    show execBlockUngateDone b s = _
    simp only [execBlockUngateDone, *]
    rfl
  case blockInvalidateDone =>
    rintro _ u _ rfl
    show execBlockInvalidateDone b s = _
    simp only [execBlockInvalidateDone, *]
    rfl
  case exactSweep =>
    rintro _ _ _ _ u rfl _
    show execSweepDone t s = _
    simp [execSweepDone, *]
    rfl
  case prefixSweep =>
    intro _ _ r _
    show execSweepDone t s = _
    simp [execSweepDone, *]
    rfl
  case overlayDisarm =>
    intro _ _
    show execOverlayDisarm s = _
    exact if_pos (by simp [*])
  case lpmRebuildDone =>
    intro _ _
    show execLpmRebuildDone s = _
    exact if_pos (by simp [*])
  case walkNotFound =>
    rintro i w r u v _ _ _ _ rfl rfl
    show execWalkEnd i s = _
    simp only [execWalkEnd, *]
    rfl
  case walkFound =>
    rintro i w r d u v _ _ _ rfl rfl
    show execWalkEnd i s = _
    simp only [execWalkEnd, *]
    rfl
  case agerOverrun =>
    intro _ _ _ _ _
    show execAgerPass s = _
    simp [execAgerPass, *]
    rfl
  case agerBegins =>
    intro _ _ _ _ _
    show execAgerPass s = _
    simp only [execAgerPass, *]
    rfl

/-- Settles O27, event by event: its condition picks the branch of its row. -/
theorem chainLinkEventsComplete : Obligations.ChainLinkEventsComplete := by
  intro s
  refine ⟨?headRoleTake, ?trainEnd, ?tokenFrame, ?tokenTimeout, ?chainUpLateUp, ?chainUpLateDown, ?searchFrame,
    ?answerFrame, ?statusFrame, ?groupsCommit, ?enumerationCommit, ?trainFromUp, ?trainFromDown, ?badFrameFromUp,
    ?badFrameFromDown⟩
  case headRoleTake =>
    rintro _ _ _ _ t rfl
    show execHeadRoleTake s = _
    exact if_pos (by simp [*])
  case trainEnd =>
    rintro training t rfl
    show execTrainEnd s = _
    exact (if_neg (by simp [training])).trans ((ok_ite _ _).trans (ok_eq _))
  case tokenFrame =>
    intro count stamp serial seq alive hears
    refine ⟨?tokenBack, ?tokenBroken, ?tokenOfOwnHead, ?tokenForeign⟩
    case tokenBack =>
      intro own low high
      show execTokenFrame count stamp serial seq s = _
      rw [execTokenFrame, if_neg (by simp [alive, hears]), if_pos own, if_neg (by omega), ok_eq]
    case tokenBroken =>
      intro own range
      show execTokenFrame count stamp serial seq s = _
      rw [execTokenFrame, if_neg (by simp [alive, hears]), if_pos own, if_pos range.symm, ok_eq]
    case tokenOfOwnHead =>
      intro _ _ _
      show execTokenFrame count stamp serial seq s = _
      simp_all [execTokenFrame]
      rfl
    case tokenForeign =>
      intro foreign notHead
      refine ⟨?becomesFollower, ?tokenBad⟩
      case becomesFollower =>
        intro low high
        show execTokenFrame count stamp serial seq s = _
        rw [execTokenFrame, if_neg (by simp [alive, hears]), if_neg (by simp [foreign]), if_neg notHead,
          if_neg (by omega), ok_eq]
      case tokenBad =>
        intro _
        show execTokenFrame count stamp serial seq s = _
        simp only [execTokenFrame, *]
        rfl
  case tokenTimeout =>
    intro _ _ _ _ _
    show execTokenTimeout s = _
    exact if_pos (by simp [*])
  case chainUpLateUp =>
    intro _ _ _
    show execChainUpTimeout s = _
    simp only [execChainUpTimeout, *]
    rfl
  case chainUpLateDown =>
    intro _ _ _
    show execChainUpTimeout s = _
    simp only [execChainUpTimeout, *]
    rfl
  case searchFrame =>
    intro p key fc t hears alive follower serves good entered
    show execSearchFrame p key fc s = _
    rw [execSearchFrame, if_neg (by simp [hears]), if_pos (by simp [alive, follower, serves, good]), entered, ok_eq]
  case answerFrame =>
    intro a _
    refine ⟨?answerFrame1, ?answerFrame2⟩
    case answerFrame1 =>
      intro _
      show execAnswerFrame a s = _
      simp only [execAnswerFrame, *]
      rfl
    case answerFrame2 =>
      intro _
      show execAnswerFrame a s = _
      simp only [execAnswerFrame, *]
      rfl
  case statusFrame =>
    intro d alive fault heat c t up serves window hears good ha hf hh hc ht
    refine ⟨?merged, ?atHead, ?atFollower⟩
    case merged =>
      rw [ha, hf, hh, State.statusOf]
    case atHead =>
      intro head u hu
      show execStatusFrame (some d) s = _
      have answers : ¬((!(s.alive && s.chainServes && s.statusWindow)) = true) := by simp [up, serves, window]
      have got : (if s.hears .fromDown && s.rd CHN_LINK_OUT_back_ok == 1 then some d else none) = some d :=
        if_pos (by simp [hears, good])
      have sends : s.statusOf d = (alive, fault, heat) := by rw [ha, hf, hh, State.statusOf]
      simp only [execStatusFrame, if_neg answers, got, Option.getD_some, ← hc, ← ht, if_pos head, sends, ← hu, ok_eq]
    case atFollower =>
      intro head
      show execStatusFrame (some d) s = _
      have answers : ¬((!(s.alive && s.chainServes && s.statusWindow)) = true) := by simp [up, serves, window]
      have got : (if s.hears .fromDown && s.rd CHN_LINK_OUT_back_ok == 1 then some d else none) = some d :=
        if_pos (by simp [hears, good])
      simp only [execStatusFrame, if_neg answers, got, Option.getD_some, ← hc, ← ht, head, Bool.false_eq_true,
        if_false, ok_eq]
  case groupsCommit =>
    rintro due rfl
    show execGroupsCommit s = _
    rfl
  case enumerationCommit =>
    rintro _ _ _ t rfl
    show execEnumerationCommit s = _
    exact if_pos (by simp [*])
  case trainFromUp =>
    rintro phase t _ _ rfl
    show execTrainFrame .fromUp phase s = _
    exact if_neg (by simp [*])
  case trainFromDown =>
    intro phase _ _ _ _
    show execTrainFrame .fromDown phase s = _
    simp only [execTrainFrame, *]
    rfl
  case badFrameFromUp =>
    rintro bits n t _ _ rfl rfl
    show execFrameError ⟨.fromUp, bits⟩ s = _
    exact if_neg (by simp [*])
  case badFrameFromDown =>
    rintro bits n t u _ _ rfl rfl rfl
    show execFrameError ⟨.fromDown, bits⟩ s = _
    exact if_neg (by simp [*])

/-- Settles O28: a packet is served at the member it names (`receive_answers`) and passed on elsewhere. -/
theorem chainPacketsComplete : Obligations.ChainPacketsComplete := by
  intro s t p live
  refine ⟨?served, ?passedOn, ?returned, ?chainUpOnward, ?groupsOnward, ?resend⟩
  case served =>
    rintro here rfl
    refine ⟨?cmdPacket, ?rspPacket, ?eventPacket, ?rfetchPacket, ?rdataPacket, ?rdonePacket, ?rdoneBusy, ?regPacket,
      ?regRspPacket, ?bootPacket, ?bootRspPacket⟩
    case cmdPacket =>
      intro awake booted running
      show execCmdPacket p s = _
      exact receive_answers live here (by simp [awake, booted, running])
    case rspPacket =>
      intro m c u answered
      show execRspPacket p s = _
      exact receive_answers live here (by rw [answered])
    case eventPacket =>
      intro role
      show execEventPacket p s = _
      exact receive_answers live here (if_neg (by simp [role]))
    case rfetchPacket =>
      rintro u rfl awake running length profile room
      show execRfetchPacket p s = _
      exact receive_answers live here (by simp [awake, running, length, profile, room])
    case rdataPacket =>
      intro f asked
      show execRdataPacket p s = _
      exact receive_answers live here (by rw [asked])
    case rdonePacket =>
      intro f asked ended
      show execRdonePacket p s = _
      exact receive_answers live here (by simp [asked, ended])
    case rdoneBusy =>
      intro f asked busy
      show execRdonePacket p s = _
      exact receive_answers live here (by simp [asked, busy])
    case regPacket =>
      rintro role r rfl
      show execRegPacket p s = _
      exact receive_answers live here (if_neg (by simp [role]))
    case regRspPacket =>
      intro m c u answered
      show execRegRspPacket p s = _
      exact receive_answers live here (by rw [answered])
    case bootPacket =>
      rintro write u rfl
      show execBootPacket p s = _
      exact receive_answers live here (if_pos write)
    case bootRspPacket =>
      intro m c u answered
      show execBootRspPacket p s = _
      exact receive_answers live here (by rw [answered])
  case passedOn =>
    rintro away rfl
    refine ⟨?cmdPacket, ?rspPacket, ?eventPacket, ?rfetchPacket, ?rdataPacket, ?rdonePacket, ?regPacket,
      ?regRspPacket, ?bootPacket, ?bootRspPacket⟩
    case cmdPacket =>
      show execCmdPacket p s = _
      exact receive_passes live away
    case rspPacket =>
      show execRspPacket p s = _
      exact receive_passes live away
    case eventPacket =>
      show execEventPacket p s = _
      exact receive_passes live away
    case rfetchPacket =>
      show execRfetchPacket p s = _
      exact receive_passes live away
    case rdataPacket =>
      show execRdataPacket p s = _
      exact receive_passes live away
    case rdonePacket =>
      show execRdonePacket p s = _
      exact receive_passes live away
    case regPacket =>
      show execRegPacket p s = _
      exact receive_passes live away
    case regRspPacket =>
      show execRegRspPacket p s = _
      exact receive_passes live away
    case bootPacket =>
      show execBootPacket p s = _
      exact receive_passes live away
    case bootRspPacket =>
      show execBootRspPacket p s = _
      exact receive_passes live away
  case returned =>
    rintro own rfl
    refine ⟨?groupsPacket, ?chainUpPacket⟩
    case groupsPacket =>
      show execGroupsPacket p s = _
      exact receiveAll_returned live own rfl
    case chainUpPacket =>
      intro enumerates
      show execChainUpPacket p s = _
      exact receiveAll_returned live own (if_pos enumerates)
  case chainUpOnward =>
    intro u entered other role now
    show execChainUpPacket p s = _
    exact receiveAll_onward live other entered ((if_neg (by simp [role])).trans (by rw [now]))
  case groupsOnward =>
    intro u entered other role now
    show execGroupsPacket p s = _
    exact receiveAll_onward live other entered ((if_neg (by simp [role])).trans now.symm)
  case resend =>
    intro id f a _ _
    show execRfetchResend id s = _
    simp only [execRfetchResend, *]
    rfl

/-- Settles O29, event by event: its condition picks the branch of its row. -/
theorem mediaEventsComplete : Obligations.MediaEventsComplete := by
  rintro s p i rfl
  refine ⟨?slotInsertion, ?slotRemoval, ?slotVccDelayedOff, ?ejectPulseEnd, ?unmountDrainEnd, ?orphans, ?dieOperation,
    ?pageData, ?tagTransaction, ?tagResultPoll, ?powerGood⟩
  case slotInsertion =>
    intro _ _ _
    show execSlotInsertion p s = _
    exact if_neg (by simp [*])
  case slotRemoval =>
    intro _ _
    show execSlotRemoval p s = _
    exact if_neg (by simp [*])
  case slotVccDelayedOff =>
    intro _
    show execSlotVccDelayedOff p s = _
    exact if_pos (by assumption)
  case ejectPulseEnd =>
    rintro l t _ rfl
    show execEjectPulseEnd p s = _
    simp only [execEjectPulseEnd, *]
    rfl
  case unmountDrainEnd =>
    intro _ _ _ _
    show execUnmountDrainEnd p s = _
    exact if_pos (by simp [*])
  case orphans =>
    intro e es o d t queue named now
    refine ⟨fun tables => ?_, fun unmount drain next => ?_⟩
    · rw [State.commitOrphans, queue]
      simp [tables, named, now]
    · rw [State.commitOrphans, queue]
      simp [unmount, named, ← now, State.endUnmount, drain, ← next] <;> rfl
  case dieOperation =>
    rintro die k o a r behind t rfl array listed moved early rfl use rfl
    refine ⟨?mountRead, ?pageProgram, ?saveErase, ?mountParam⟩
    case mountRead =>
      intro kind used
      show execDieOperationComplete p die a s = _
      have goes : ¬((o.moves ≠ 0 ∧ ¬s.busFree (portIdx p) = true) ∨ s.lateFinal (portIdx p) o = true) := by
        rcases moved with moved | moved <;> simp [moved, early]
      rw [execDieOperationComplete]
      simp only [array, listed, if_neg goes, kind, used]
      rfl
    case pageProgram =>
      intro m page kind used
      show execDieOperationComplete p die a s = _
      have goes : ¬((o.moves ≠ 0 ∧ ¬s.busFree (portIdx p) = true) ∨ s.lateFinal (portIdx p) o = true) := by
        rcases moved with moved | moved <;> simp [moved, early]
      rw [execDieOperationComplete]
      simp only [array, listed, if_neg goes, kind, used]
      rfl
    case saveErase =>
      intro m kind used
      show execDieOperationComplete p die a s = _
      have goes : ¬((o.moves ≠ 0 ∧ ¬s.busFree (portIdx p) = true) ∨ s.lateFinal (portIdx p) o = true) := by
        rcases moved with moved | moved <;> simp [moved, early]
      rw [execDieOperationComplete]
      simp only [array, listed, if_neg goes, kind, used]
      rfl
    case mountParam =>
      intro kind used
      show execDieOperationComplete p die a s = _
      have goes : ¬((o.moves ≠ 0 ∧ ¬s.busFree (portIdx p) = true) ∨ s.lateFinal (portIdx p) o = true) := by
        rcases moved with moved | moved <;> simp [moved, early]
      rw [execDieOperationComplete]
      simp only [array, listed, if_neg goes, kind, used]
      rfl
  case pageData =>
    rintro die k o data page t rfl _ _ _ _ _ rfl
    refine ⟨?toMount, ?toFetch, ?toSave, ?toExpert⟩
    case toMount =>
      intro _
      show execPageDataReceived p die data s = _
      simp only [execPageDataReceived, *]
      rfl
    case toFetch =>
      intro id f _ _ _
      show execPageDataReceived p die data s = _
      simp only [execPageDataReceived, *]
      rfl
    case toSave =>
      intro m _
      show execPageDataReceived p die data s = _
      simp only [execPageDataReceived, *]
      rfl
    case toExpert =>
      intro _
      show execPageDataReceived p die data s = _
      simp only [execPageDataReceived, *]
      rfl
  case tagTransaction =>
    rintro r reply frame n run rfl rfl short whole check status
    show execTagTransaction p reply s = _
    have some_ : (s.tagSees reply).isEmpty = false := by
      cases frame : s.tagSees reply
      · simp [frame] at whole
      · rfl
    have good : ¬(3 < fieldAt (s.tagSees reply) 0 1) := Nat.not_lt.2 status
    have answered : fieldAt (s.tagSees reply) 0 1 ≠ 0xFF := by omega
    simp [execTagTransaction, run, some_, good, answered, short, whole, check, ok_eq]
  case tagResultPoll =>
    intro a _ _ _
    show execTagResultPoll p s = _
    simp only [execTagResultPoll, *]
    rfl
  case powerGood =>
    intro _ _
    refine ⟨?vccOnly, ?vccqToo, ?mountStepOne, ?mountStepThree⟩
    case vccOnly =>
      intro _ _
      show execSlotPowerGood p s = _
      simp only [execSlotPowerGood, *]
      rfl
    case vccqToo =>
      intro _ _
      show execSlotPowerGood p s = _
      simp only [execSlotPowerGood, *]
      rfl
    case mountStepOne =>
      intro r _ _
      show execSlotPowerGood p s = _
      simp only [execSlotPowerGood, *]
      rfl
    case mountStepThree =>
      intro r _ _
      show execSlotPowerGood p s = _
      simp only [execSlotPowerGood, *]
      rfl

/-- Settles O30, event by event: its condition picks the branch of its row. -/
theorem fetchGuardIntegEventsComplete : Obligations.FetchGuardIntegEventsComplete := by
  intro s c id f
  refine ⟨?sectorDecrypted, ?fetchCompletion, ?streamRequestTake, ?extentKeyLoaded, ?fetchTimeout, ?saveCommit,
    ?reauthDue, ?reauthPending, ?keySlotZeroise, ?steepRead, ?scrubDone, ?auditDone⟩
  case sectorDecrypted =>
    intro k x ch n _ _ _ _ _ _
    refine ⟨?sectorDecrypted1, ?sectorDecrypted2⟩
    case sectorDecrypted1 =>
      intro _ _
      show execSectorDecrypted id s = _
      simp only [execSectorDecrypted, *]
      rfl
    case sectorDecrypted2 =>
      rintro _ bad rfl
      show execSectorDecrypted id s = _
      simp_all [execSectorDecrypted]
      rfl
  case fetchCompletion =>
    intro _ _ _ _
    show execFetchCompletion c s = _
    simp only [execFetchCompletion, *]
    rfl
  case streamRequestTake =>
    rintro e t a b entry _ _ _ _ _ works rfl rfl rfl rfl
    show execStreamRequestTake c s = _
    have takes : ¬((!s.chOpen c.val || s.chHalted c.val || (s.chan c.val).closing || s.inSequence ||
        decide (4 ≤ s.chBusy c.val)) = true) := by simp [*]
    rw [execStreamRequestTake, entry]
    exact (if_neg takes).trans (if_neg (by simp [works]))
  case extentKeyLoaded =>
    rintro r _ _ _ _ rfl
    show execExtentKeyLoaded id s = _
    simp only [execExtentKeyLoaded, *]
    rfl
  case fetchTimeout =>
    intro _ _
    show execFetchTimeout id s = _
    simp only [execFetchTimeout, *]
    rfl
  case saveCommit =>
    rintro p i m r k o rfl _ _ _ _ _ _ _
    show execSaveCommit p m s = _
    simp only [execSaveCommit, *]
    rfl
  case reauthDue =>
    rintro p i rfl _ _ _
    show execReauthDue p s = _
    exact if_pos (by simp [*])
  case reauthPending =>
    intro p _
    show execReauthDue p s = _
    exact if_neg (by simp [*])
  case keySlotZeroise =>
    intro k _ _ _ _
    show execKeySlotZeroise k s = _
    exact if_pos (by simp [*])
  case steepRead =>
    intro _
    refine ⟨?steepDue, ?lapEnd⟩
    case steepDue =>
      intro sid w _
      refine ⟨?steepRoom, ?steepFull⟩
      case steepRoom =>
        intro _
        show execSteepRead s = _
        simp only [execSteepRead, *]
        rfl
      case steepFull =>
        intro _
        show execSteepRead s = _
        simp only [execSteepRead, *]
        rfl
    case lapEnd =>
      intro _
      show execSteepRead s = _
      simp only [execSteepRead, *]
      rfl
  case scrubDone =>
    rintro r t u run rfl
    refine ⟨?repairing, ?finished⟩
    case repairing =>
      intro repairs
      show execScrubDone s = _
      simp only [execScrubDone, run, repairs, if_true]
      rfl
    case finished =>
      rintro _ rfl
      show execScrubDone s = _
      simp only [execScrubDone, *]
      rfl
  case auditDone =>
    intro a img _ _
    show execAuditDone s = _
    simp only [execAuditDone, *]
    rfl

/-- Settles O31, event by event: its condition picks the branch of its row. -/
theorem pinEventsComplete : Obligations.PinEventsComplete := by
  intro s n l u k e
  refine ⟨?filterLive, ?filterSampled, ?filterLevels, ?debounceLive, ?debounceSampled, ?debounceLevel,
    ?uartFrameReceived, ?uartFrameSent, ?uartDeTailEnd, ?i2cTransferEnd, ?pwmPeriodBoundary, ?pwmKill, ?timerCount,
    ?timerCapture, ?fanTurns, ?fanFirstEdge, ?fanStall, ?uinEdge⟩
  case filterLive =>
    intro _ _
    show execGlitchFilterPass n l s = _
    exact if_pos (by simp [*])
  case filterSampled =>
    intro sampled
    show execGlitchFilterPass n l s = _
    rw [execGlitchFilterPass, if_neg (by simp [padsLive_of_wakeSampled sampled]), if_pos sampled, ok_eq]
  case filterLevels =>
    rintro t rfl
    exact ⟨padBit_padSet _ n l, fun undelayed => (congrArg (padBit · n.val) (if_pos undelayed)).trans
      (padBit_padSet _ n l),
      fun delayed => if_neg delayed⟩
  case debounceLive =>
    intro _
    show execDebounceExpiry n s = _
    exact if_pos (by assumption)
  case debounceSampled =>
    intro sampled
    show execDebounceExpiry n s = _
    rw [execDebounceExpiry, if_neg (by simp [padsLive_of_wakeSampled sampled]), if_pos sampled, ok_eq]
  case debounceLevel =>
    exact padBit_padSet _ n _
  case uartFrameReceived =>
    intro b t _ _ _ _
    refine ⟨?uartBreak, ?uartOverrun, ?uartRoom⟩
    case uartBreak =>
      show execUartFrameReceived u b false false true s = _
      have live : (s.padsLive && !s.scanOwns && s.rdi PIN_Uu_CFG_en u.val == 1 && s.carried (1 + 5 * u.val)) = true
        := by simp [*]
      exact (if_pos live).trans (if_pos rfl)
    case uartOverrun =>
      intro full
      show execUartFrameReceived u b false false false s = _
      have live : (s.padsLive && !s.scanOwns && s.rdi PIN_Uu_CFG_en u.val == 1 && s.carried (1 + 5 * u.val)) = true
        := by simp [*]
      exact (if_pos live).trans ((if_neg (by decide)).trans (if_pos full))
    case uartRoom =>
      rintro room rfl
      refine ⟨?uartGood, ?uartFraming⟩
      case uartGood =>
        show execUartFrameReceived u b false false false s = _
        have live : (s.padsLive && !s.scanOwns && s.rdi PIN_Uu_CFG_en u.val == 1 && s.carried (1 + 5 * u.val)) = true
          := by simp [*]
        refine (if_pos live).trans ((if_neg (by decide)).trans ((if_neg (Nat.not_le.2 room)).trans ?_))
        rfl
      case uartFraming =>
        show execUartFrameReceived u b true false false s = _
        have live : (s.padsLive && !s.scanOwns && s.rdi PIN_Uu_CFG_en u.val == 1 && s.carried (1 + 5 * u.val)) = true
          := by simp [*]
        refine (if_pos live).trans ((if_neg (by decide)).trans ((if_neg (Nat.not_le.2 room)).trans ?_))
        rfl
  case uartFrameSent =>
    intro t sending popped
    refine ⟨?next, ?last⟩
    case next =>
      intro next
      show execUartFrameSent u s = _
      rw [execUartFrameSent, if_pos sending, ← popped]
      exact if_neg (by simp [Option.isNone_eq_false_iff.2 next])
    case last =>
      intro idle empty
      show execUartFrameSent u s = _
      rw [execUartFrameSent, if_pos sending, ← popped]
      exact if_pos (by simp [idle, empty])
  case uartDeTailEnd =>
    intro _ _ _
    show execUartDeTailEnd u s = _
    exact if_pos (by simp [*])
  case i2cTransferEnd =>
    rintro r m o wr data t running mailbox can rfl
    show execI2cTransferEnd o wr data s = _
    simp only [execI2cTransferEnd, running, can, mailbox]
    rfl
  case pwmPeriodBoundary =>
    intro _
    show execPwmPeriodBoundary k s = _
    exact if_pos (by assumption)
  case pwmKill =>
    rintro hit rfl _ _
    show execPwmKill s = _
    exact if_pos (by simp [*])
  case timerCount =>
    rintro v left t live en source rfl rfl
    show execTimerCount s = _
    have due : s.timerDue = true := by
      rcases source with ⟨sel, -⟩ | ⟨sel, edges⟩
      · simp [State.timerDue, live, en, sel]
      · simp [State.timerDue, live, en, sel, edges]
        omega
    have rest : s.pins.tclk - (if s.rd PIN_TMR_CTRL_clk_sel = 1 then s.rd PIN_TMR_CTRL_prescale + 1 else 0) = left :=
      by
      rcases source with ⟨sel, rfl⟩ | ⟨sel, edges⟩ <;> simp [*]
    rw [execTimerCount, if_pos due, rest]
    exact (ok_ite _ _).trans (ok_eq _)
  case timerCapture =>
    intro _
    show execTimerCapture e l s = _
    exact if_pos (by assumption)
  case fanTurns =>
    rintro gap gaps t _ _ _ _ _ seen _ _ rfl rfl
    show execFanTachEdge u gap s = _
    have turns : (s.padsLive && !s.scanOwns && s.fanOn u.val && s.carried (37 + u.val) && !s.sigIn (37 + u.val) &&
        (!(s.fan u.val).seen || (0 < gap && gap ≤ 25000000))) = true := by simp [*]
    rw [execFanTachEdge, if_pos turns, if_pos seen]
    exact (ok_ite _ _).trans (ok_eq _)
  case fanFirstEdge =>
    intro gap _ _ _ _ _ _
    show execFanTachEdge u gap s = _
    simp only [execFanTachEdge, *]
    rfl
  case fanStall =>
    intro _ _
    show execFanStall u s = _
    exact if_pos (by simp [*])
  case uinEdge =>
    intro _
    show execUinEdge e l s = _
    exact if_pos (by assumption)

/-- Settles O32: the transactions of the SMBus target, the instructions of the TAP, and the land drivers under them. -/
theorem smbusTapTransactionsComplete : Obligations.SmbusTapTransactionsComplete := by
  refine ⟨?smbus, ?tap, ?landDrivers⟩
  case smbus =>
    rintro s answers answer rfl
    refine ⟨?smbStatusRead, ?smbTEstRead, ?smbTNtcRead, ?smbVinRead, ?smbPinRead, ?smbSustainRead, ?smbCauseRead,
      ?smbSerialRead, ?smbRegRead, ?smbCauseClear, ?smbRegptrWrite, ?smbAlertResponse, ?smbTimeout⟩
    case smbStatusRead =>
      show execSmbStatusRead s = _
      exact congrArg ok (if_neg (by simp [*]))
    case smbTEstRead =>
      show execSmbTEstRead s = _
      exact congrArg ok (if_neg (by simp [*]))
    case smbTNtcRead =>
      show execSmbTNtcRead s = _
      exact congrArg ok (if_neg (by simp [*]))
    case smbVinRead =>
      show execSmbVinRead s = _
      exact congrArg ok (if_neg (by simp [*]))
    case smbPinRead =>
      show execSmbPinRead s = _
      exact congrArg ok (if_neg (by simp [*]))
    case smbSustainRead =>
      show execSmbSustainRead s = _
      exact congrArg ok (if_neg (by simp [*]))
    case smbCauseRead =>
      show execSmbCauseRead s = _
      exact congrArg ok (if_neg (by simp [*]))
    case smbSerialRead =>
      show execSmbSerialRead s = _
      exact congrArg ok (if_neg (by simp [*]))
    case smbRegRead =>
      show execSmbRegRead s = _
      exact congrArg (fun t : State => ok (t.pastView (s.rd PIN_SMB_REGPTR_offset))) (if_neg (by simp [answers]))
    case smbCauseClear =>
      intro mask pec checked
      show execSmbCauseClear mask pec s = _
      show ok (s.smbWrite 0x07 [mask] pec _) = _
      rw [smbWrite_ok _ answers checked, ok_eq]
    case smbRegptrWrite =>
      intro off pec inside aligned checked
      show execSmbRegptrWrite off pec s = _
      have value : leNat (leBytes 4 off.toNat) = off.toNat := (leNat_leBytes 4 _).trans (Nat.mod_eq_of_lt off.isLt)
      have fits : (leBytes 4 off.toNat).length = 4 ∧ leNat (leBytes 4 off.toNat) < 0x100000 ∧
          leNat (leBytes 4 off.toNat) % 4 = 0 := by rw [value]; exact ⟨rfl, inside, aligned⟩
      refine congrArg ok ((if_pos fits).trans ((smbWrite_ok _ answers checked).trans ?_))
      rw [value]
    case smbAlertResponse =>
      rintro t _ rfl
      show execSmbAlertResponse s = _
      exact if_pos (by simp [*])
    case smbTimeout =>
      show execSmbTimeout s = _
      exact if_pos (by assumption)
  case tap =>
    intro s cells levels live
    refine ⟨?tapExtest, ?tapIdcode, ?tapSamplePreload, ?tapClamp, ?tapHighz, ?tapBypass, ?tapReset, ?tapCurrent⟩
    case tapExtest =>
      show execTapExtest cells levels s = _
      exact congrArg ok (if_pos (by assumption))
    case tapIdcode =>
      show execTapIdcode levels s = _
      exact congrArg ok (if_pos (by assumption))
    case tapSamplePreload =>
      show execTapSamplePreload cells levels s = _
      exact congrArg ok (if_pos (by assumption))
    case tapClamp =>
      show execTapClamp levels s = _
      exact congrArg ok (if_pos (by assumption))
    case tapHighz =>
      show execTapHighz levels s = _
      exact congrArg ok (if_pos (by assumption))
    case tapBypass =>
      show execTapBypass levels s = _
      exact congrArg ok (if_pos (by assumption))
    case tapReset =>
      rintro t rfl
      show execTapReset levels s = _
      exact if_pos (by assumption)
    case tapCurrent =>
      rintro c t rfl
      exact ⟨rfl, rfl, tapLoad_tap s _ _ _⟩
  case landDrivers =>
    intro s i l tap
    have scans : s.scanOwns = true := by rcases tap with tap | tap <;> simp [State.scanOwns, tap]
    have driven : s.pins.tap ≠ .highz := by rcases tap with tap | tap <;> simp [tap]
    simp only [State.landDriver, scans, if_true, State.scanOut, driven, false_or]
    refine ⟨fun off => if_pos off, fun output enabled => ⟨fun drain high => ?_, fun either => ?_⟩⟩
    · simp [output, enabled, drain, high]
    · rcases either with either | either <;> simp [output, enabled, either]

end Sys2Proof.Machine

/-! What an event leaves as it was: the frames of the events that reach one part of the module and what their event bit
reaches. -/

namespace Sys2Proof.Machine
open Reg

variable {P : List Part} {R : Nat → Bool} {lo hi : Nat} {s t u v : State}

/-- What an event of the pads, a record or an interrupt may reach, and nothing else. -/
abbrev EventReach (s t : State) : Prop := Frame eventParts eventPages.contains 0x2000 0x3000 s t

theorem frame_of_ok (h : ok u = .next t) (k : Frame P R lo hi s u) : Frame P R lo hi s t :=
  ok_next h ▸ k.trans frame_settled

/-- A command that acts under a condition, and else leaves the state. -/
theorem frame_of_guarded {p : Prop} [Decidable p] (h : (if p then ok u else ok s) = .next t) (k : Frame P R lo hi s u) :
    Frame P R lo hi s t := by
  split at h
  · exact frame_of_ok h k
  · exact frame_of_ok h .refl

/-- A command that leaves the state under a condition, and else acts. -/
theorem frame_of_excluded {p : Prop} [Decidable p] (h : (if p then ok s else ok u) = .next t) (k : Frame P R lo hi s u) :
    Frame P R lo hi s t := by
  split at h
  · exact frame_of_ok h .refl
  · exact frame_of_ok h k

theorem frame_ite {p : Prop} [Decidable p] (ht : Frame P R lo hi s u) (hf : Frame P R lo hi s v) :
    Frame P R lo hi s (if p then u else v) := by
  split
  · exact ht
  · exact hf

/-! ### The pads -/

/-- A register of the pins' block. -/
theorem reach_pinReg {f : Fld} {i : Nat} (x : Nat) (page : fldKey f i / 131072 = 6) : EventReach s (s.wri f i x) :=
  frame_wri x (by rw [page]; rfl)

theorem reach_raise {f : Fld} (page : eventPages.contains (fldKey f 0 / 131072) = true) : EventReach s (s.raise f) :=
  frame_raise .own page

theorem frame_timerCapture {e : Fin 8} {l : Bool} (h : exec (.timerCapture e l) s = .next t) : EventReach s t :=
  have page : fldKey PIN_TCAP_cap e.val / 131072 = 6 := by simp [fldKey, PIN_TCAP_cap]; omega
  frame_of_guarded h ((reach_pinReg _ page).trans (reach_raise (by decide)))

theorem frame_uinEdge {e : Fin 8} {l : Bool} (h : exec (.uinEdge e l) s = .next t) : EventReach s t :=
  frame_of_guarded h ((frame_setBit _ _ (by decide)).trans (reach_raise (by decide)))

theorem frame_timerCount (h : exec .timerCount s = .next t) : EventReach s t := by
  change execTimerCount s = _ at h
  unfold execTimerCount at h
  dsimp only at h
  rw [ok_ite] at h
  refine frame_of_guarded h (frame_ite ?_ ?_)
  · exact ((frame_pins _).trans (reach_pinReg _ (by decide))).trans (reach_raise (by decide))
  · exact (frame_pins _).trans (reach_pinReg _ (by decide))

theorem frame_pwmKill (h : exec .pwmKill s = .next t) : EventReach s t :=
  frame_of_guarded h ((frame_foldl _ _ (fun _ _ _ => frame_ite (frame_pins _) .refl) s).trans (reach_raise (by decide)))

theorem frame_pwmPeriodBoundary {k : Fin 4} (h : exec (.pwmPeriodBoundary k) s = .next t) : EventReach s t :=
  frame_of_guarded h (frame_pins _)

theorem fan_page {f : Fld} (k : Fin 2) (h : f = PIN_FAN_rpm ∨ f = PIN_FAN_stalled) : fldKey f k.val / 131072 = 6 := by
  rcases h with rfl | rfl <;> revert k <;> decide

theorem frame_fanStall {k : Fin 2} (h : exec (.fanStall k) s = .next t) : EventReach s t :=
  have clear : EventReach s (s.fanClear k.val) :=
    ((frame_pins _).trans (reach_pinReg _ (fan_page k (.inl rfl)))).trans (reach_pinReg _ (fan_page k (.inr rfl)))
  frame_of_guarded h ((clear.trans (reach_pinReg _ (fan_page k (.inr rfl)))).trans (reach_raise (by decide)))

theorem frame_fanTachEdge {k : Fin 2} {gap : Nat} (h : exec (.fanTachEdge k gap) s = .next t) : EventReach s t := by
  change execFanTachEdge k gap s = _ at h
  unfold execFanTachEdge at h
  dsimp only at h
  rw [ok_ite] at h
  refine frame_of_guarded h (frame_ite ?_ (frame_pins _))
  exact ((frame_pins _).trans (reach_pinReg _ (fan_page k (.inl rfl)))).trans (reach_pinReg _ (fan_page k (.inr rfl)))

/-- A pad's event acts where the pads are live, only moves the pad's stored level where STANDBY samples it, and else does
nothing. -/
theorem frame_of_padEvent {p q : Prop} [Decidable p] [Decidable q] {x : Pins} {n : Nat}
    (h : (if p then ok (s.padEdge { s with pins := x } n) else if q then ok { s with pins := x } else ok s) = .next t) :
    EventReach s t := by
  split at h
  · exact frame_of_ok h (frame_padEdge n (frame_pins x))
  · exact frame_of_guarded h (frame_pins x)

theorem frame_glitchFilterPass {n : Fin 24} {l : Bool} (h : exec (.glitchFilterPass n l) s = .next t) : EventReach s t :=
  frame_of_padEvent h

theorem frame_debounceExpiry {n : Fin 24} (h : exec (.debounceExpiry n) s = .next t) : EventReach s t :=
  frame_of_padEvent h

theorem uart_page {f : Fld} (k : Fin 2)
    (h : f ∈ [PIN_Uu_STATUS_break_seen, PIN_Uu_ERR_overrun, PIN_Uu_ERR_framing, PIN_Uu_ERR_parity]) :
    fldKey f k.val / 131072 = 6 := by
  revert k
  simp only [List.mem_cons, List.not_mem_nil, or_false] at h
  rcases h with rfl | rfl | rfl | rfl <;> decide

theorem frame_uartFrameReceived {k : Fin 2} {b : Byte} {framing parity brk : Bool}
    (h : exec (.uartFrameReceived k b framing parity brk) s = .next t) : EventReach s t := by
  have err {f : Fld} (v : State) (hf : f ∈ [PIN_Uu_STATUS_break_seen, PIN_Uu_ERR_overrun, PIN_Uu_ERR_framing, PIN_Uu_ERR_parity]) :
      EventReach v (v.uartErr f k.val) := frame_uartErr (uart_page k hf)
  change execUartFrameReceived k b framing parity brk s = _ at h
  unfold execUartFrameReceived at h
  dsimp only at h
  rw [ok_ite, ok_ite] at h
  refine frame_of_guarded h (frame_ite ?broken (frame_ite ?full ?stored))
  case broken => exact (reach_pinReg _ (uart_page k (by simp))).trans (reach_raise (by decide))
  case full => exact err s (by simp)
  case stored =>
    generalize ({ s.uart k.val with rx := _ } : Uart) = x
    have rx : EventReach s ((s.setUart k.val x).raise (if k.val = 0 then PIN_EVENT_u1_rx else PIN_EVENT_u2_rx)) :=
      (frame_setUart _ k.isLt).trans (reach_raise (by split <;> decide))
    generalize (s.setUart k.val x).raise _ = v at rx ⊢
    have checked : EventReach s (if framing = true then v.uartErr PIN_Uu_ERR_framing k.val else v) :=
      frame_ite (rx.trans (err v (by simp))) rx
    generalize (if framing = true then v.uartErr PIN_Uu_ERR_framing k.val else v) = w at checked ⊢
    exact frame_ite (checked.trans (err w (by simp))) checked

theorem frame_uartDeTailEnd {k : Fin 2} (h : exec (.uartDeTailEnd k) s = .next t) : EventReach s t :=
  frame_of_guarded h (frame_setUart _ k.isLt)

/-! ### The host link -/

theorem frame_sendPending (n : Nat) : Frame [.host] [0x20, 0x21].contains 0 0 s (s.sendPending n) :=
  frame_ite ((frame_setBit (f := MSIX_PBA_pending) (i := 0) n false (by decide)).trans (frame_vectorOnly rfl rfl n)) .refl

theorem frame_sendAllPending : Frame [.host] [0x20, 0x21].contains 0 0 s s.sendAllPending :=
  frame_foldl _ _ (fun _ _ _ => frame_sendPending _) s

theorem frame_msixHoldoffExpiry {n : Fin 32} (h : exec (.msixHoldoffExpiry n) s = .next t) :
    Frame [.host] [0x20, 0x21].contains 0 0 s t := by
  change execMsixHoldoffExpiry n s = _ at h
  unfold execMsixHoldoffExpiry at h
  dsimp only at h
  rw [ok_ite] at h
  exact frame_of_guarded h (frame_ite ((frame_host rfl _).trans (frame_vectorOnly rfl rfl _)) (frame_host rfl _))

theorem frame_msixUnmask {n : Option (Fin 32)} (h : exec (.msixUnmask n) s = .next t) :
    Frame [.host] [0x20, 0x21].contains 0 0 s t := by
  change execMsixUnmask n s = _ at h
  have touched : Frame [.host] [0x20, 0x21].contains 0 0 s s.touchLink := frame_touchLink rfl
  cases n with
  | some n =>
    have page : fldKey MSIX_TBL_CTRL_mask n.val / 131072 = 0x20 := by simp [fldKey, MSIX_TBL_CTRL_mask]; omega
    refine touched.trans (frame_of_excluded h ?_)
    exact (frame_wri 0 (by rw [page]; rfl)).trans (frame_sendPending n.val)
  | none =>
    exact frame_of_ok h (touched.trans ((frame_host rfl _).trans frame_sendAllPending))

theorem frame_aspmL1Request (h : exec .aspmL1Request s = .next t) : Frame [.host] [0x20, 0x21].contains 0 0 s t :=
  frame_of_guarded h (frame_host rfl _)

theorem frame_perstNDeassert (h : exec .perstNDeassert s = .next t) : Frame [.host] [0x20, 0x21].contains 0 0 s t :=
  frame_of_ok h (frame_host rfl _)

/-! ### The heat model -/

theorem frame_ntcSample {raw : BitVec 12} {conv : Int} (h : exec (.ntcSample raw conv) s = .next t) : BlockFrame .heat 2 s t := by
  change execNtcSample raw conv s = _ at h
  unfold execNtcSample at h
  refine frame_of_excluded h ?_
  dsimp only
  generalize ({ s.heat with openRun := _, shortRun := _, ntcOpen := _, ntcShort := _, enforceTotalMs := _ } : Heat) = x
  have sampled (a b : Nat) : BlockFrame .heat 2 s ((({ s with heat := x } : State).wr THM_NTC_t_ntc a).wr THM_NTC_ntc_raw b) :=
    ((frame_heat x).trans (block_wr _ (by decide))).trans (block_wr _ (by decide))
  refine (sampled (enc16 (max (-640) (min 2400 conv))) raw.toNat).trans ?_
  generalize (({ s with heat := x } : State).wr THM_NTC_t_ntc _).wr THM_NTC_ntc_raw _ = s2
  have enforced : BlockFrame .heat 2 s2 (if s.thm = 2 then s2.inc THM_ENF_COUNT_enforce_ms else s2) :=
    frame_ite (block_inc (by decide)) .refl
  refine enforced.trans ?_
  generalize (if s.thm = 2 then s2.inc THM_ENF_COUNT_enforce_ms else s2) = s3
  have graced (n : Nat) : BlockFrame .heat 2 s3 (if s3.thm = 1 then s3.wr THM_GRACE_grace_left_ms n else s3) :=
    frame_ite (block_wr _ (by decide)) .refl
  refine (graced (s3.rd THM_GRACE_grace_ms - s3.graceMs)).trans ?_
  generalize (if s3.thm = 1 then s3.wr THM_GRACE_grace_left_ms _ else s3) = s4
  have opened : BlockFrame .heat 2 s4 (if s4.heat.ntcOpen = true then s4.sensorFault 0 else s4) :=
    frame_ite (frame_sensorFault 0) .refl
  exact opened.trans (frame_ite (frame_sensorFault 1) .refl)

theorem frame_graceExpiry (h : exec .graceExpiry s = .next t) : BlockFrame .heat 2 s t :=
  frame_of_guarded h frame_enterEnforce

theorem frame_levelHoldExpiry (h : exec .levelHoldExpiry s = .next t) : BlockFrame .heat 2 s t :=
  frame_of_guarded h ((frame_heat _).trans (frame_changeLevel _))

theorem frame_modelStale (h : exec .modelStale s = .next t) : BlockFrame .heat 2 s t :=
  frame_of_excluded h ((frame_heat _).trans (frame_sensorFault 3))

theorem frame_sensorFaultClear (h : exec .sensorFaultClear s = .next t) : BlockFrame .heat 2 s t :=
  frame_of_guarded h ((((((frame_heat _).trans (block_wr _ (by decide))).trans (block_wr _ (by decide))).trans
    (block_wr _ (by decide))).trans frame_throttle).trans (block_raise (by decide)))

/-! ### The clocks and the fabric -/

/-- A new value of the clocks' part. -/
theorem frame_clocks (x : Clocks) : Frame [.clk] (fun _ => false) 0 0 s { s with clk := x } :=
  .of_parts rfl rfl (fun p hp => by cases p <;> first | rfl | cases hp)

theorem frame_canaryLaunch (h : exec .canaryLaunch s = .next t) : Frame [.clk] (fun _ => false) 0 0 s t := by
  change execCanaryLaunch s = _ at h
  unfold execCanaryLaunch at h
  dsimp only at h
  rw [ok_ite] at h
  exact frame_of_excluded h (frame_ite (frame_clocks _) (frame_clocks _))

theorem frame_dozeUngateDone (h : exec .dozeUngateDone s = .next t) : Frame [.clk] (fun _ => false) 0 0 s t :=
  frame_of_guarded h (frame_clocks _)

theorem eventFrame_page {n : Nat} : EventFrame eventParts (n :: eventPages).contains 0x2000 0x3000 :=
  ⟨fun _ h => h, fun k h => by rw [List.contains_cons, Bool.or_eq_false_iff] at h; exact h.2, Nat.le_refl _, Nat.le_refl _⟩

/-- A register of block `n`, and an event of it. -/
theorem page_wri {f : Fld} {i n : Nat} (x : Nat) (page : fldKey f i / 131072 = n) :
    Frame eventParts (n :: eventPages).contains 0x2000 0x3000 s (s.wri f i x) := frame_wri x (page ▸ block_admits)

theorem page_raisei {f : Fld} {i n : Nat} (page : fldKey f i / 131072 = n) :
    Frame eventParts (n :: eventPages).contains 0x2000 0x3000 s (s.raisei f i) := frame_raisei eventFrame_page (page ▸ block_admits)

theorem frame_fifoStall {k : Fin 24} (h : exec (.fifoStall k) s = .next t) :
    Frame eventParts (3 :: eventPages).contains 0x2000 0x3000 s t :=
  have page : fldKey CLK_FIFO_STATUS_stall k.val / 131072 = 3 := by simp [fldKey, CLK_FIFO_STATUS_stall]; omega
  frame_of_excluded h ((page_wri 1 page).trans (page_raisei (f := CLK_EVENT_fifo_stall) (i := 0) (by decide)))

theorem islandLock_page (l : PllIsland) : fldKey (islandLock l) 0 / 131072 = 3 := by cases l <;> decide

theorem frame_islandLost {l : PllIsland} (h : exec (.islandLost l) s = .next t) :
    Frame eventParts (3 :: eventPages).contains 0x2000 0x3000 s t :=
  frame_of_guarded h ((page_wri (f := islandLock l) (i := 0) 0 (islandLock_page l)).trans
    (page_raisei (f := CLK_EVENT_island_lost) (i := 0) (by decide)))

theorem frame_canaryMeasurement {taps : Nat} (h : exec (.canaryMeasurement taps) s = .next t) : CanaryFrame s t := by
  change execCanaryMeasurement taps s = _ at h
  unfold execCanaryMeasurement at h
  split at h
  · exact frame_of_ok h .refl
  · exact frame_of_ok h (canary_measure _ _)

theorem frame_canaryMiss (h : exec .canaryMiss s = .next t) : CanaryFrame s t := by
  change execCanaryMiss s = _ at h
  unfold execCanaryMiss at h
  split at h
  · exact frame_of_ok h .refl
  · exact frame_of_ok h ((canary_measure _ _).trans (frame_raise eventFrame_canary (by decide)))

theorem frame_marginQualifyTimeout (h : exec .marginQualifyTimeout s = .next t) : CanaryFrame s t :=
  frame_of_guarded h ((canary_setCode 56).trans canary_resumeAdmission)

/-! ### The slots, the tags, the chain and the trie -/

theorem portIdx_lt (p : Port) : portIdx p < 2 := by cases p <;> decide

theorem frame_slotStateEvent (i n : Nat) (h : i < 2) :
    Frame eventParts (0xF :: eventPages).contains 0x2000 0x3000 s (s.setSlotState i n) := by
  have page : fldKey SLOT_STATUS_state i / 131072 = 0xF := by simp [fldKey, SLOT_STATUS_state]; omega
  unfold State.setSlotState
  dsimp only
  split
  · exact page_wri _ page
  · exact (page_wri _ page).trans (.of_event eventFrame_page (frame_smbCause 5))

theorem frame_slotInsertion {p : Port} (h : exec (.slotInsertion p) s = .next t) :
    Frame eventParts (0xF :: eventPages).contains 0x2000 0x3000 s t :=
  have i := portIdx_lt p
  have present : fldKey SLOT_STATUS_present (portIdx p) / 131072 = 0xF := by simp [fldKey, SLOT_STATUS_present]; omega
  have inserted : fldKey SLOT_EVENT_inserted (portIdx p) / 131072 = 0xF := by simp [fldKey, SLOT_EVENT_inserted]; omega
  frame_of_excluded h (((page_wri 1 present).trans (frame_slotStateEvent _ _ i)).trans (page_raisei inserted))

theorem frame_reauthDue {p : Port} (h : exec (.reauthDue p) s = .next t) :
    Frame eventParts (0x10 :: eventPages).contains 0x2000 0x3000 s t :=
  have i := portIdx_lt p
  have state : fldKey SEC_CTX_tag_state (portIdx p) / 131072 = 0x10 := by simp [fldKey, SEC_CTX_tag_state]; omega
  have age : fldKey SEC_CTX_AGE_age_s (portIdx p) / 131072 = 0x10 := by simp [fldKey, SEC_CTX_AGE_age_s]; omega
  frame_of_guarded h (((page_wri _ state).trans (page_wri _ age)).trans
    (page_raisei (f := SEC_EVENT_reauth_due) (i := 0) (by decide)))

/-- A new value of the chain's part. -/
theorem frame_chainPart (x : Chain) : Frame [.chain] [3, 7].contains 0 0 s { s with chain := x } :=
  .of_parts rfl rfl (fun p hp => by cases p <;> first | rfl | cases hp)

theorem frame_trainFrame {d : LinkSide} {k : BitVec 6} (h : exec (.trainFrame d k) s = .next t) :
    Frame [.chain] [3, 7].contains 0 0 s t := by
  have reg {f : Fld} (v : State) (x : Nat) (page : [3, 7].contains (fldKey f 0 / 131072) = true) :
      Frame [.chain] [3, 7].contains 0 0 v (v.wr f x) := frame_wr x page
  change execTrainFrame d k s = _ at h
  unfold execTrainFrame at h
  cases d with
  | fromUp =>
    refine frame_of_excluded h (Frame.trans (t := (s.goodIn.wr CHN_LINK_IN_locked 1).wr CLK_ISL_STATUS_chn_lock 1) ?_ ?_)
    · exact ((frame_chainPart _).trans (reg _ _ (by decide))).trans (reg _ _ (by decide))
    · exact (frame_ite .refl (reg _ _ (by decide))).trans (frame_chainPart _)
  | fromDown =>
    dsimp only at h
    rw [ok_ite] at h
    refine frame_of_excluded h (frame_ite ?_ .refl)
    exact ((frame_chainPart _).trans (reg _ _ (by decide))).trans (reg _ _ (by decide))

theorem frame_lpmRebuildDone (h : exec .lpmRebuildDone s = .next t) : Frame [] [0xC].contains 0 0 s t :=
  frame_of_guarded h (frame_wr 0 (by decide))

/-- Settles O57, one frame for each event, composed from the frames of the operations that the event is made of. -/
theorem eventsTouchOnlyTheirPart : Obligations.EventsTouchOnlyTheirPart := by
  intro i s t h
  refine ⟨fun e => ?pads, fun e => ?host, fun e => ?heat, fun e => ?gates, fun e => ?fabric, fun e => ?canary,
    ?slots, ?tags, ?train, ?rebuild⟩
  case pads =>
    rcases e with ⟨e, l, rfl | rfl⟩ | rfl | rfl | ⟨k, rfl⟩ | ⟨k, rfl⟩ | ⟨k, gap, rfl⟩ | ⟨n, l, rfl⟩ | ⟨n, rfl⟩ |
      ⟨k, b, framing, parity, brk, rfl⟩ | ⟨k, rfl⟩
    · exact frame_timerCapture h
    · exact frame_uinEdge h
    · exact frame_timerCount h
    · exact frame_pwmKill h
    · exact frame_pwmPeriodBoundary h
    · exact frame_fanStall h
    · exact frame_fanTachEdge h
    · exact frame_glitchFilterPass h
    · exact frame_debounceExpiry h
    · exact frame_uartFrameReceived h
    · exact frame_uartDeTailEnd h
  case host =>
    rcases e with ⟨n, rfl⟩ | ⟨n, rfl⟩ | rfl | rfl
    · exact frame_msixHoldoffExpiry h
    · exact frame_msixUnmask h
    · exact frame_aspmL1Request h
    · exact frame_perstNDeassert h
  case heat =>
    rcases e with ⟨raw, conv, rfl⟩ | rfl | rfl | rfl | rfl
    · exact frame_ntcSample h
    · exact frame_graceExpiry h
    · exact frame_levelHoldExpiry h
    · exact frame_modelStale h
    · exact frame_sensorFaultClear h
  case gates =>
    rcases e with rfl | rfl
    · exact frame_canaryLaunch h
    · exact frame_dozeUngateDone h
  case fabric =>
    rcases e with ⟨k, rfl⟩ | ⟨l, rfl⟩
    · exact frame_fifoStall h
    · exact frame_islandLost h
  case canary =>
    rcases e with ⟨taps, rfl⟩ | rfl | rfl
    · exact frame_canaryMeasurement h
    · exact frame_canaryMiss h
    · exact frame_marginQualifyTimeout h
  case slots => rintro ⟨p, rfl⟩; exact frame_slotInsertion h
  case tags => rintro ⟨p, rfl⟩; exact frame_reauthDue h
  case train => rintro ⟨d, k, rfl⟩; exact frame_trainFrame h
  case rebuild => rintro rfl; exact frame_lpmRebuildDone h

end Sys2Proof.Machine

/-! Register writes with an operation of their own: the writes of PIN_OUT, and the writes of TCAM_BLK_CTRL that carry none of its
requests, which refute the statements about every write of the list. -/

namespace Sys2Proof.Machine
open Reg

variable {s u : State} {off n : Nat} {w : RegWord}

/-! ### PIN_SET, PIN_CLR and PIN_TGL (R705) -/

theorem frame_badWrite : Frame [.host] [0, 0x21].contains 0 0 s s.badWrite :=
  frame_raise_of_postsNothing (f := GLB_STATUS_bad_write) (by decide)

theorem frame_noteReserved : Frame [.host] [0, 0x21].contains 0 0 s (s.noteReserved off w) := frame_ite frame_badWrite .refl

/-- The three registers have no W1C field, and DOZE does not gate their block: what arrives is noted for its reserved bits. -/
theorem landed_pinOutWrite (listed : off ∈ [0x601C, 0x6020, 0x6024]) (landed : Landed s off w u) :
    u = s.touchLink.noteReserved off w := by
  obtain ⟨-, -, rfl⟩ := landed
  simp only [List.mem_cons, List.not_mem_nil, or_false] at listed
  rcases listed with rfl | rfl | rfl <;> rfl

theorem frame_landed_pinOutWrite (listed : off ∈ [0x601C, 0x6020, 0x6024]) (landed : Landed s off w u) :
    Frame [.host] [0, 0x21].contains 0 0 s u :=
  landed_pinOutWrite listed landed ▸ (frame_touchLink rfl).trans frame_noteReserved

/-- PIN_OUT written leaves every register but itself and what the write's arrival reaches, and every byte of memory. -/
theorem pinOut_written (x : Nat) (h : Frame [.host] [0, 0x21].contains 0 0 s u) :
    MemKept s (u.wr PIN_OUT_out x) 0 0 ∧ (u.wr PIN_OUT_out x).pins = s.pins ∧
      ∀ k, k ≠ fldKey PIN_OUT_out 0 → k / 131072 ≠ 0 → k / 131072 ≠ 0x21 →
        storeGetD 0 (u.wr PIN_OUT_out x).regs k = storeGetD 0 s.regs k :=
  ⟨h.mem, h.parts .pins rfl, fun k apart glb pba =>
    (storeGetD_set_other _ _ _ _ apart).trans (h.regs k (by simp [glb, pba]))⟩

theorem rd_pinOut (h : Frame [.host] [0, 0x21].contains 0 0 s u) : u.rd PIN_OUT_out = s.rd PIN_OUT_out :=
  congrArg (· ^^^ fldReset PIN_OUT_out 0) (h.regs _ (by decide))

theorem bit_pinOut_wr (x : Nat) (hn : n < 24) : (u.wr PIN_OUT_out x).bit PIN_OUT_out 0 n = x.testBit n := by
  rw [State.bit, State.wr, State.rdi_wri_same, bitOf_eq_testBit, Nat.testBit_mod_two_pow]
  simp [PIN_OUT_out, hn]

/-- Bit `n` of what the three operations of PIN_OUT give (R705): set, cleared, inverted, or left. -/
theorem testBit_gpioOut (v a b c : Nat) (hn : n < 24) :
    (gpioOut v (a % 2 ^ 24) (b % 2 ^ 24) (c % 2 ^ 24)).testBit n =
      (((v.testBit n || a.testBit n) && !b.testBit n) != c.testBit n) := by
  have cleared : (2 ^ 24 - 1 - b % 2 ^ 24 % 2 ^ 24).testBit n = !b.testBit n := by
    rw [Nat.mod_mod, Nat.sub_sub, Nat.add_comm 1, Nat.testBit_two_pow_sub_succ (Nat.mod_lt _ (by decide)),
      Nat.testBit_mod_two_pow]
    simp [hn]
  rw [gpioOut, Nat.testBit_xor, Nat.testBit_and, Nat.testBit_or, cleared, Nat.mod_mod]
  simp only [Nat.testBit_mod_two_pow, hn, decide_true, Bool.true_and]

theorem bit_pinOut_gpioOut (kept : Frame [.host] [0, 0x21].contains 0 0 s u) (a b c : Nat) (hn : n < 24) :
    (u.wr PIN_OUT_out (gpioOut (u.rd PIN_OUT_out) (a % 2 ^ 24) (b % 2 ^ 24) (c % 2 ^ 24))).bit PIN_OUT_out 0 n =
      (((s.bit PIN_OUT_out 0 n || a.testBit n) && !b.testBit n) != c.testBit n) := by
  rw [bit_pinOut_wr _ hn, testBit_gpioOut _ _ _ _ hn, rd_pinOut kept, State.bit, bitOf_eq_testBit, State.rd]

/-- Settles O56: each write lands and stores what `gpioOut` gives for the bits that it names. -/
theorem pinOutWritesTouchOnlyPinOut : Obligations.PinOutWritesTouchOnlyPinOut := by
  intro s u w i off listed landed
  simp only [List.mem_cons, Prod.mk.injEq, List.not_mem_nil, or_false] at listed
  rcases listed with ⟨rfl, rfl⟩ | ⟨rfl, rfl⟩ | ⟨rfl, rfl⟩
  case inl =>
    have kept := frame_landed_pinOutWrite (by simp) landed
    obtain ⟨mem, pins, regs⟩ := pinOut_written _ kept
    refine ⟨_, regOp_answers landed rfl, mem, pins, regs, fun n hn => (bit_pinOut_gpioOut kept w.toNat 0 0 hn).trans ?_⟩
    rw [← BitVec.testBit_toNat]
    cases w.toNat.testBit n <;> simp
  case inr.inl =>
    have kept := frame_landed_pinOutWrite (by simp) landed
    obtain ⟨mem, pins, regs⟩ := pinOut_written _ kept
    refine ⟨_, regOp_answers landed rfl, mem, pins, regs, fun n hn => (bit_pinOut_gpioOut kept 0 w.toNat 0 hn).trans ?_⟩
    rw [← BitVec.testBit_toNat]
    cases w.toNat.testBit n <;> simp
  case inr.inr =>
    have kept := frame_landed_pinOutWrite (by simp) landed
    obtain ⟨mem, pins, regs⟩ := pinOut_written _ kept
    refine ⟨_, regOp_answers landed rfl, mem, pins, regs, fun n hn => (bit_pinOut_gpioOut kept 0 0 w.toNat hn).trans ?_⟩
    rw [← BitVec.testBit_toNat]
    cases w.toNat.testBit n <;> simp

/-! ### The writes of TCAM_BLK_CTRL that carry no request -/

theorem blkOwnedSet_mem_controlWrites (b : Fin 256) : (blkOff b.val, Instr.blkOwnedSet b) ∈ controlWrites := by
  have listed : (blkOff b.val, Instr.blkOwnedSet b) ∈ (List.finRange 256).flatMap (fun b => [(blkOff b.val, Instr.blkOwnedSet b),
      (blkOff b.val, Instr.blkOwnedClear b), (blkOff b.val, Instr.gateReq b), (blkOff b.val, Instr.ungateReq b)]) :=
    List.mem_flatMap.2 ⟨b, List.mem_finRange b, by simp⟩
  simp only [controlWrites, List.mem_append, listed, true_or, or_true]

/-- Refutes O40: TCAM_BLK_CTRL of block 0 written with 0 carries no request, and the model's row for the write that sets owned
changes nothing on it, while the statement has bad_write set. -/
theorem not_basicControlOfRegisterWrites : ¬ Obligations.BasicControlOfRegisterWrites := by
  rintro ⟨holds, -⟩
  obtain ⟨ends, -, -, bad⟩ := holds _ (blkOwnedSet_mem_controlWrites 0) State.reset _ 0 ⟨by decide, by decide, rfl⟩
  have same : State.reset.settled = _ := Host.Outcome.next.inj ends
  have bit := bad (by decide)
  rw [← State.rd_settled, ← same, State.rd_settled] at bit
  exact absurd bit (by decide)

/-- A follower whose host link is in L1. -/
def followerInL1 : State :=
  { State.reset.wr CHN_STATUS_role 2 with host := { State.reset.host with inL1 := true } }

/-- Refutes O41: at a follower too, TCAM_BLK_CTRL of block 0 written with 0 changes nothing by the model's row for the write that
sets owned, while the statement has the write bring the host link back to L0. -/
theorem not_followerServesReadsAndDiscardsWrites : ¬ Obligations.FollowerServesReadsAndDiscardsWrites := by
  intro holds
  obtain ⟨discarded, -⟩ := holds followerInL1 (by decide)
  have same : followerInL1.settled = followerInL1.touchLink.settled := Host.Outcome.next.inj (discarded _ (blkOwnedSet_mem_controlWrites 0) 0)
  have link : true = false := congrArg (·.host.inL1) same
  cases link

end Sys2Proof.Machine

/-! Commands that a claim holds (R255). -/

namespace Sys2Proof.Machine
open Reg

variable {p : Nat × (Mb → Instr)} {m : Mb} {op b : Nat} {s : State} {c : Cmd}

theorem opcode_of_takenCmd (taken : s.takenCmd m op = some c) : c.opcode = op := by
  unfold State.takenCmd at taken
  split at taken
  · split at taken
    · next fresh => cases taken; exact fresh.1
    · cases taken
  · cases taken

theorem heldBlock_eq_some (held : s.heldBlock c = some b) : b ∈ s.cmdWrites c ∧ s.claimed b = true :=
  ⟨List.mem_of_find?_eq_some held, List.find?_some held⟩

theorem heldBlock_eq_none_iff : s.heldBlock c = none ↔ ∀ b ∈ s.cmdWrites c, s.claimed b = false := by
  simp [State.heldBlock]

/-! ### The commands by the way they are judged -/

/-- The commands that are judged as soon as their mailbox has taken them. -/
def judgedAtOnce (op : Nat) : Bool := op / 256 != 0x0C && !([0x0402, 0x0403, 0x0404, 0x0405, 0x0A02].contains op)

theorem held_of_judgedAtOnce (listed : p ∈ mailboxCommands) (direct : judgedAtOnce p.1 = true)
    (taken : s.takenCmd m p.1 = some c) (held : s.heldBlock c = some b) :
    Completes (p.2 m) s (s.done m stExpertHeld b []) := by
  have listed : p ∈ mailboxCommands.filter (fun p => judgedAtOnce p.1) := List.mem_filter.2 ⟨listed, direct⟩
  simp [mailboxCommands, judgedAtOnce] at listed
  casesm* _ ∨ _ <;> subst_vars <;> dsimp only [Completes, exec] <;> exact runCmd_held _ taken held

/-- No GUARD command writes a block that may be claimed. -/
theorem cmdWrites_guard (listed : p ∈ mailboxCommands) (guard : p.1 / 256 = 0x0C) (opcode : c.opcode = p.1) :
    s.cmdWrites c = [] := by
  have listed : p ∈ mailboxCommands.filter (fun p => p.1 / 256 == 0x0C) := List.mem_filter.2 ⟨listed, by simp [guard]⟩
  simp [mailboxCommands] at listed
  casesm* _ ∨ _ <;> subst_vars <;> simp [State.cmdWrites, opcode]

/-- With no word being programmed an OTP command is judged too. -/
theorem held_of_otp (listed : p ∈ mailboxCommands) (waits : [0x0402, 0x0403, 0x0404, 0x0405].contains p.1 = true)
    (idle : s.otp = none) (taken : s.takenCmd m p.1 = some c) (held : s.heldBlock c = some b) :
    Completes (p.2 m) s (s.done m stExpertHeld b []) := by
  have listed : p ∈ mailboxCommands.filter (fun p => [0x0402, 0x0403, 0x0404, 0x0405].contains p.1) :=
    List.mem_filter.2 ⟨listed, waits⟩
  have free : ¬s.otp.isSome = true := by simp [idle]
  simp [mailboxCommands] at listed
  casesm* _ ∨ _ <;> subst_vars <;> dsimp only [Completes, exec] <;> exact (if_neg free).trans (runCmd_held _ taken held)

/-- With the guard core running SLOT.MOUNT is judged too. -/
theorem held_of_slotMount (listed : p ∈ mailboxCommands) (mount : p.1 = 0x0A02) (runs : s.guardRuns = true)
    (taken : s.takenCmd m p.1 = some c) (held : s.heldBlock c = some b) :
    Completes (p.2 m) s (s.done m stExpertHeld b []) := by
  have listed : p ∈ mailboxCommands.filter (fun p => p.1 == 0x0A02) := List.mem_filter.2 ⟨listed, by simp [mount]⟩
  simp [mailboxCommands] at listed
  subst listed
  exact (if_neg (by simp [runs])).trans (runCmd_held _ taken held)

/-- Settles O39, by the way each command is judged: at once, with the OTP array idle, with the guard core running, or never, as it
writes no block. -/
theorem claimedBlockHoldsCommands : Obligations.ClaimedBlockHoldsCommands := by
  intro p listed m s c taken
  refine ⟨fun b held otpIdle guardRuns => ?_, heldBlock_eq_none_iff⟩
  obtain ⟨writes, claimed⟩ := heldBlock_eq_some held
  refine ⟨writes, claimed, ?_⟩
  by_cases guard : p.1 / 256 = 0x0C
  · rw [cmdWrites_guard listed guard (opcode_of_takenCmd taken)] at writes
    cases writes
  by_cases otp : [0x0402, 0x0403, 0x0404, 0x0405].contains p.1 = true
  · have page : p.1 / 256 = 4 := by
      simp only [List.contains_cons, List.contains_nil, Bool.or_eq_true, beq_iff_eq, Bool.or_false] at otp
      omega
    exact held_of_otp listed otp (otpIdle page) taken held
  by_cases mount : p.1 = 0x0A02
  · exact held_of_slotMount listed mount (guardRuns mount) taken held
  · refine held_of_judgedAtOnce listed ?_ taken held
    simp_all [judgedAtOnce]

end Sys2Proof.Machine

/-! What a read of the host leaves as it was (R592): the frames of register reads, of window reads and of reads of BAR2. -/

namespace Sys2Proof.Machine
open Reg

variable {s t : State} {off len n : Nat} {full : Bool}

/-- What a read may change: the parts that answer it, count it, report a bad copy of what it read and end DOZE, and no byte of
memory. -/
abbrev ReadFrame (s t : State) : Prop := Frame [.host, .integ, .pwr, .pins, .free] (fun _ => true) 0 0 s t

theorem reportFrame_read : ReportFrame [.host, .integ, .pwr, .pins, .free] (fun _ => true) := ⟨rfl, rfl, rfl, rfl⟩

theorem read_wri {f : Fld} {i : Nat} (x : Nat) : ReadFrame s (s.wri f i x) := frame_wri x rfl

theorem read_nextFree : ReadFrame s s.nextFree := .of_parts rfl rfl (fun p hp => by cases p <;> first | rfl | cases hp)

theorem read_exitDoze : ReadFrame s s.exitDoze :=
  frame_ite (read_wri _) (frame_ite (.of_parts rfl rfl (fun p hp => by cases p <;> first | rfl | cases hp)) .refl)

theorem read_poisonSent : ReadFrame s s.poisonSent := by
  have raised : Frame [.host] [0, 0x21].contains 0 0 (s.inc GLB_ERR_CNT_poison_rd) s.poisonSent :=
    frame_raise_of_postsNothing (f := GLB_STATUS_poison_read) (by decide)
  refine (read_wri _).trans (raised.mono (fun p hp => ?_) (fun k hk => by cases hk) (Nat.le_refl _) (Nat.le_refl _))
  cases p <;> first | rfl | cases hp

/-- A completion, after the poison that it carries has been counted. -/
theorem read_replied (data : List Byte) (ep : Bool) : ReadFrame s ((if ep then s.poisonSent else s).reply data ep .success) :=
  (frame_ite read_poisonSent .refl).trans (frame_reply rfl _ _ _)

/-! ### Registers -/

theorem read_setUart (k : Nat) (x : Uart) : ReadFrame s (s.setUart k x) := by
  have pins : ReadFrame s { s with pins := { s.pins with uarts := listSet s.pins.uarts k x } } :=
    .of_parts rfl rfl (fun p hp => by cases p <;> first | rfl | cases hp)
  exact ((pins.trans (read_wri _)).trans (read_wri _)).trans (read_wri _)

theorem read_readReg : ReadFrame s (s.readReg off).1 := by
  have woken : ReadFrame s (if takeoverReg off = true then s else s.wakeReg off) :=
    frame_ite .refl (frame_ite read_exitDoze .refl)
  have cleared (u : State) : ReadFrame u (u.clearRc off) := frame_foldl _ _ (fun _ _ _ => frame_ite (read_wri _) .refl) u
  unfold State.readReg
  dsimp only
  generalize (if takeoverReg off = true then s else s.wakeReg off) = u at woken ⊢
  split
  · exact woken.trans (read_wri _)
  · exact (woken.trans (frame_ite (read_wri _) (frame_ite (read_setUart _ _) (cleared u)))).trans (frame_ite read_nextFree .refl)

theorem read_readRegs : ReadFrame s (State.readRegs n off s).1 := by
  induction n generalizing s off with
  | zero => exact .refl
  | succ n ih => exact read_readReg.trans ih

theorem read_noteRegPoison : ReadFrame s (s.noteRegPoison off) :=
  frame_ite (frame_reportRead reportFrame_read _ _ _ _)
    (frame_ite (frame_reportRead reportFrame_read _ _ _ _) (frame_cfgReport reportFrame_read _ _ _))

theorem read_regRead : ReadFrame s (s.regRead off len full) := by
  unfold State.regRead
  refine frame_ite (frame_abortRead rfl) ?_
  dsimp only
  generalize (List.range ((off % 4 + len + 3) / 4)).map (fun k => off / 4 * 4 + 4 * k) = offs
  have noted : ReadFrame s (offs.foldl (fun s o => if s.regPoison o = true then s.noteRegPoison o else s) s) :=
    frame_foldl _ _ (fun _ _ _ => frame_ite read_noteRegPoison .refl) s
  generalize offs.foldl (fun s o => if s.regPoison o = true then s.noteRegPoison o else s) s = u at noted ⊢
  have counted : ReadFrame s (if offs.any s.regPoison = true then u.poisonSent else u) :=
    noted.trans (frame_ite read_poisonSent .refl)
  exact counted.trans (frame_ite (read_readRegs.trans (frame_reply rfl _ _ _)) (frame_reply rfl _ _ _))

/-! ### Windows and BAR2 -/

theorem read_winReadWords (sid : Nat) (view : Option Nat) (wi : Nat) : ReadFrame s (s.winReadWords sid view wi n) :=
  frame_foldl _ _ (fun _ _ _ => frame_ite (frame_reportRead reportFrame_read _ _ _ _) .refl) s

theorem read_noteRaw (sid wi : Nat) : ReadFrame s (s.noteRaw sid wi) := frame_ite (read_wri _) .refl

theorem read_winRead (k : Nat) : ReadFrame s (s.winRead k off len) := by
  unfold State.winRead
  split
  · exact frame_abortRead rfl
  · split
    · exact frame_reply rfl _ _ _
    · exact (((read_winReadWords _ _ _).trans (read_noteRaw _ _)).trans (frame_ite (read_wri _) .refl)).trans (read_replied _ _)

/-- A read of BAR2 outside the search lanes. -/
theorem read_bar2Read (lane : ¬(0x8000 ≤ off ∧ off < 0x9000)) : ReadFrame s (s.bar2Read off len) := by
  have outside : (decide (0x8000 ≤ off) && decide (off < 0x9000)) = false := by simpa using lane
  unfold State.bar2Read
  simp only [outside, Bool.false_and, Bool.false_eq_true, if_false]
  exact (frame_reportRange reportFrame_read _ _ _ _).trans (read_replied _ _)

/-! ### The reads -/

theorem read_touchLink : ReadFrame s s.touchLink := frame_touchLink rfl

theorem read_rcReadBar0 (h : exec (.rcRead .bar0 off len full) s = .next t) : ReadFrame s t := by
  change execRcRead .bar0 off len full s = _ at h
  unfold execRcRead at h
  dsimp only at h
  rw [ok_ite, ok_ite] at h
  exact frame_of_ok h (read_touchLink.trans (frame_ite read_regRead (frame_ite (read_winRead _) (frame_reply rfl _ _ _))))

theorem read_rcReadBar2 (lane : ¬(0x8000 ≤ off ∧ off < 0x9000)) (h : exec (.rcRead .bar2 off len full) s = .next t) :
    ReadFrame s t := frame_of_ok h (read_touchLink.trans (read_bar2Read lane))

theorem read_configurationRead {a : BitVec 12} (h : exec (.configurationRequest (.read a)) s = .next t) : ReadFrame s t :=
  frame_of_ok h ((read_touchLink.trans (frame_reply rfl _ _ _)).trans read_nextFree)

/-- Settles O59, one frame for each form of a read. -/
theorem readsLeaveMemory : Obligations.ReadsLeaveMemory := by
  intro i s t h form
  rcases form with ⟨off, len, full, rfl⟩ | ⟨off, len, full, rfl, lane⟩ | ⟨k, off, len, rfl⟩ | ⟨a, rfl⟩ | rfl | ⟨u, rfl⟩ | ⟨p, rfl⟩
  case inl => exact read_rcReadBar0 h
  case inr.inl => exact read_rcReadBar2 lane h
  case inr.inr.inl => exact frame_of_ok h (read_winRead _)
  case inr.inr.inr.inl => exact read_configurationRead h
  case inr.inr.inr.inr.inl => exact frame_of_ok h ((read_wri _).trans (frame_reply rfl _ _ _))
  case inr.inr.inr.inr.inr.inl => exact frame_of_ok h (read_readReg.trans (frame_reply rfl _ _ _))
  case inr.inr.inr.inr.inr.inr => exact frame_of_ok h ((read_wri _).trans (frame_reply rfl _ _ _))

end Sys2Proof.Machine

/-! Poison stored and read back (R203, R593, R594). -/

namespace Sys2Proof.Machine
open Reg

variable {m : Memory} {sid wi c c' : Nat} {d : List Byte} {chk : Byte}

/-! ### One copy of a word of 8-byte units -/

theorem readRaw_putWordRaw_same (flat : unit32 sid = false) (len : d.length = 8) (hw : wi < 2 ^ 24) :
    readRaw (putWordRaw m sid c wi d chk) sid c wi = ⟨d, chk ^^^ wordCheck d⟩ := by
  have apart := checkBase_eq sid c
  have region : regionSize = 2 ^ 27 := rfl
  have data : memBytes (putWordRaw m sid c wi d chk) (dataBase sid c + 8 * wi) 8 = d := by
    unfold putWordRaw
    rw [memBytes_congr (m' := memSetBytes m (dataBase sid c + 8 * wi) (d.take 8)) (fun k hk => memByte_set_other _ _ (by omega)),
      List.take_of_length_le (by omega)]
    simpa [len] using memBytes_setBytes_same m (dataBase sid c + 8 * wi) d
  have check : memByte (putWordRaw m sid c wi d chk) (checkBase sid c + wi) = chk := memByte_set_same _ _ _
  simp only [readRaw, flat, Bool.false_eq_true, if_false, wordSyn, data, check]

/-- A word written in one copy leaves the other copy. -/
theorem readRaw_putWordRaw_other (flat : unit32 sid = false) (other : c' ≠ c) (hw : wi < 2 ^ 24) :
    readRaw (putWordRaw m sid c wi d chk) sid c' wi = readRaw m sid c' wi := by
  have region : regionSize = 2 ^ 27 := rfl
  have apart : dataBase sid c + 2 * regionSize ≤ dataBase sid c' ∨ dataBase sid c' + 2 * regionSize ≤ dataBase sid c := by
    simp only [dataBase, region]
    omega
  have check := checkBase_eq sid c
  have check' := checkBase_eq sid c'
  have len : (d.take 8).length ≤ 8 := by simp
  have kept (a : Nat) (h1 : a < dataBase sid c + 8 * wi ∨ dataBase sid c + 8 * wi + 8 ≤ a) (h2 : a ≠ checkBase sid c + wi) :
      memByte (putWordRaw m sid c wi d chk) a = memByte m a := by
    rw [putWordRaw, memByte_set_other _ _ h2, memByte_setBytes_out _ _ _ _ (by omega)]
  have data : memBytes (putWordRaw m sid c wi d chk) (dataBase sid c' + 8 * wi) 8 = memBytes m (dataBase sid c' + 8 * wi) 8 :=
    memBytes_congr (fun k hk => kept _ (by omega) (by omega))
  have stored : memByte (putWordRaw m sid c wi d chk) (checkBase sid c' + wi) = memByte m (checkBase sid c' + wi) :=
    kept _ (by omega) (by omega)
  simp only [readRaw, flat, Bool.false_eq_true, if_false, wordSyn, data, stored]

/-! ### Poison (R594) -/

theorem syn_of_poison (d : List Byte) : (wordCheck d ^^^ 0xFF) ^^^ wordCheck d = 0xFF := by
  rw [BitVec.xor_comm (wordCheck d), BitVec.xor_assoc, BitVec.xor_self, BitVec.xor_zero]

theorem putPoison_flat (flat : unit32 sid = false) :
    putPoison m sid wi d = (copies sid).foldl (fun m c => putWordRaw m sid c wi d (wordCheck d ^^^ 0xFF)) m := by
  simp [putPoison, flat]

theorem readRaw_putPoison (flat : unit32 sid = false) (len : d.length = 8) (hw : wi < 2 ^ 24) (copy : c ∈ copies sid) :
    readRaw (putPoison m sid wi d) sid c wi = ⟨d, 0xFF⟩ := by
  have written (m : Memory) (c : Nat) :
      readRaw (putWordRaw m sid c wi d (wordCheck d ^^^ 0xFF)) sid c wi = ⟨d, 0xFF⟩ := by
    rw [readRaw_putWordRaw_same flat len hw, syn_of_poison]
  rw [putPoison_flat flat]
  cases pair : paired sid with
  | true =>
    have two : copies sid = [0, 1] := by simp [copies, pair]
    rw [two, List.foldl_cons, foldl_one]
    rw [two] at copy
    simp only [List.mem_cons, List.not_mem_nil, or_false] at copy
    rcases copy with rfl | rfl
    · rw [readRaw_putWordRaw_other flat (by decide) hw, written]
    · rw [written]
  | false =>
    rw [copies_single pair] at copy ⊢
    rw [List.mem_singleton.1 copy, foldl_one, written]

theorem poison_putPoison (flat : unit32 sid = false) (len : d.length = 8) (hw : wi < 2 ^ 24) :
    (readWord (putPoison m sid wi d) sid wi).poison = true := by
  have first := readRaw_putPoison (m := m) flat len hw (c := 0) (by unfold copies; split <;> simp)
  cases pair : paired sid with
  | true =>
    have second := readRaw_putPoison (m := m) flat len hw (c := 1) (by simp [copies, pair])
    have fails : (0xFF : BitVec 8) ≠ 0 := by decide
    exact readWord_of_no_copy_passes pair (by rw [first]; exact fails) (by rw [second]; exact fails)
  | false =>
    simp only [readWord, pair, Bool.false_eq_true, if_false, first]
    rfl

theorem readWord_putPoison_other {wj : Nat} (flat : unit32 sid = false) (hw : wi < 2 ^ 24) (hj : wj < 2 ^ 24) (other : wj ≠ wi) :
    readWord (putPoison m sid wi d) sid wj = readWord m sid wj :=
  readWord_touch (touch_poison wi d flat hw) hj (fun _ => by
    simp only [flat, Bool.false_eq_true, if_false]
    omega)

/-! ### A poisoned write of one word of data RAM (R203) -/

section
variable {s : State} {k : Nat}

/-- A word of data RAM lies in the RAMs of BAR2, so every byte of the write is taken by a RAM. -/
theorem ramBytes_dataRam (hk : k < 65536) (len : d.length = 8) : ramBytes (0x10000 + 8 * k) (d.map some) = d.map some := by
  apply List.ext_getElem
  · simp [ramBytes]
  · intro j h1 h2
    have hj : j < 8 := by simpa [len] using h2
    have ram : bar2Ram (0x10000 + 8 * k + j) = true := by simp [bar2Ram]; omega
    simp [ramBytes, ram, len, hj]

theorem strayDwords_dataRam (hk : k < 65536) (len : d.length = 8) : strayDwords (0x10000 + 8 * k) (d.map some) = [] := by
  refine List.filter_eq_nil_iff.2 fun a ha => ?_
  obtain ⟨j, hj, rfl⟩ := List.mem_map.1 ha
  rw [List.mem_range, List.length_map, len] at hj
  have ram : bar2Ram ((0x10000 + 8 * k) / 4 * 4 + 4 * j) = true := by simp [bar2Ram]; omega
  simp [ram]

theorem ramPoison_word (len : d.length = 8) : s.ramPoison (8 * wi) (d.map some) = s.storePoison sidBar2 wi d := by
  have words : (8 * wi + (d.map some).length + 7) / 8 - 8 * wi / 8 = 1 := by rw [List.length_map, len]; omega
  have start : 8 * wi / 8 = wi := by omega
  have byte (j : Nat) (hj : j < 8) : ((d.map some)[8 * wi + j - 8 * wi]?).getD none = some (d.getD j 0) := by
    rw [Nat.add_sub_cancel_left]
    simp [len, hj]
  have at_ (j : Nat) (hj : j < 8) :
      (if 8 * wi + j < 8 * wi then none else ((d.map some)[8 * wi + j - 8 * wi]?).getD none) = some (d.getD j 0) := by
    rw [if_neg (by omega), byte j hj]
  have given : (List.range 8).all (fun j =>
      (if 8 * wi + j < 8 * wi then none else ((d.map some)[8 * wi + j - 8 * wi]?).getD none).isNone) = false := by
    rw [List.all_eq_false]
    exact ⟨0, by simp, by rw [at_ 0 (by decide)]; simp⟩
  unfold State.ramPoison
  dsimp only
  rw [words, start, List.range_one]
  simp only [ List.foldl_cons, List.foldl_nil, Nat.add_zero, given, Bool.false_eq_true, if_false]
  refine congrArg _ (List.ext_getElem (by simp [len]) fun j h1 h2 => ?_)
  have hj : j < 8 := len ▸ h2
  simp only [List.getElem_map, List.getElem_range, at_ j hj, Option.getD_some]
  simp [h2]

/-! ### What the write leaves -/

theorem rdi_of_frame {P : List Part} {R : Nat → Bool} {lo hi : Nat} {t : State} {f : Fld} {i : Nat} (h : Frame P R lo hi s t)
    (apart : R (fldKey f i / 131072) = false) : t.rdi f i = s.rdi f i :=
  congrArg (· ^^^ fldReset f i) (h.regs _ apart)

theorem mem_sendVector (s : State) (v : Nat) : (s.sendVector v).mem = s.mem := by
  unfold State.sendVector
  split
  · rfl
  · split <;> rfl

theorem mem_raise_of_postsNothing {f : Fld} (hf : f.PostsNothing) : (s.raise f).mem = s.mem := by
  obtain h | ⟨v, h⟩ := raise_of_postsNothing (s := s) hf <;> rw [h]
  · rfl
  · exact mem_sendVector _ v

theorem mem_forget (sid a b : Nat) : (s.forget sid a b).mem = s.mem := by
  unfold State.forget
  dsimp only
  split <;> rfl

theorem mem_storePoison (idle : s.rd INTEG_FLIP_SEL_flip_armed ≠ 1) : (s.storePoison sid wi d).mem = putPoison s.mem sid wi d := by
  have unarmed (x : Memory) (a b : Nat) : (({ s with mem := x } : State).forget sid a b).rd INTEG_FLIP_SEL_flip_armed ≠ 1 := by
    rw [forget_rd _ _ _ (by decide) (by decide)]
    exact idle
  unfold State.storePoison
  rw [fireFlip_idle _ _ (unarmed _ _ _)]
  exact mem_forget _ _ _

/-- The state in which a poisoned write to BAR2 takes effect (R202). -/
def State.epWriteSeen (s : State) : State := (s.touchLink.aerAdvisory .poisonedTlp).inc GLB_ERR_CNT_ep_rx

theorem frame_epWriteSeen : Frame [.host] [0].contains 0 0 s s.epWriteSeen :=
  ((frame_touchLink rfl).trans (frame_aerAdvisory rfl _)).trans (frame_inc (by decide))

theorem completes_epWriteDataRam (hk : k < 65536) (len : d.length = 8) (role : s.isFollower = false) :
    Completes (.epWriteReceived .bar2 (0x10000 + 8 * k) (d.map some)) s
      ((s.epWriteSeen.storePoison sidBar2 (0x2000 + k) d).raise GLB_STATUS_ep_received) := by
  have role' : s.epWriteSeen.isFollower = false := by
    simp only [State.isFollower, State.rd, rdi_of_frame frame_epWriteSeen (f := CHN_STATUS_role) (i := 0) (by decide)]
    exact role
  have stored : s.epWriteSeen.ramPoison (0x10000 + 8 * k) (d.map some) = s.epWriteSeen.storePoison sidBar2 (0x2000 + k) d := by
    rw [show 0x10000 + 8 * k = 8 * (0x2000 + k) by omega, ramPoison_word len]
  show execEpWriteReceived .bar2 (0x10000 + 8 * k) (d.map some) s = _
  unfold execEpWriteReceived
  dsimp only
  rw [strayDwords_dataRam hk len, ramBytes_dataRam hk len, List.foldl_nil]
  change ok ((if s.epWriteSeen.isFollower = true then s.epWriteSeen
    else s.epWriteSeen.ramPoison (0x10000 + 8 * k) (d.map some)).raise GLB_STATUS_ep_received) = _
  rw [role', if_neg Bool.false_ne_true, stored, ok_eq]

end

/-- Settles O51: a word stored as poison fails in every copy and is the only word touched; a poisoned write of one word of data RAM
stores so. -/
theorem poisonIsStored : Obligations.PoisonIsStored := by
  refine ⟨fun m sid wi d flat len hw => ⟨fun c copy => readRaw_putPoison flat len hw copy, poison_putPoison flat len hw,
    fun wj hj other => readWord_putPoison_other flat hw hj other⟩, fun s k d hk len role idle => ?_⟩
  have idle' : s.epWriteSeen.rd INTEG_FLIP_SEL_flip_armed ≠ 1 := by
    rwa [State.rd, rdi_of_frame frame_epWriteSeen (by decide)]
  have mem : ((s.epWriteSeen.storePoison sidBar2 (0x2000 + k) d).raise GLB_STATUS_ep_received).mem =
      putPoison s.epWriteSeen.mem sidBar2 (0x2000 + k) d :=
    (mem_raise_of_postsNothing (by decide)).trans (mem_storePoison idle')
  refine ⟨_, completes_epWriteDataRam hk len role, ?data, ?poison, rd_raise_same (by decide) rfl (by decide)⟩
  case data =>
    have raw := readRaw_putPoison (m := s.epWriteSeen.mem) (sid := sidBar2) (wi := 0x2000 + k) rfl len (by omega) (c := 0) (by decide)
    rw [State.bar2Get, mem, show 0x10000 + 8 * k = 8 * (0x2000 + k) by omega]
    rw [readRaw, if_neg (by decide)] at raw
    exact congrArg RawWord.data raw
  case poison =>
    rw [mem]
    exact poison_putPoison rfl len (by omega)

end Sys2Proof.Machine

/-! Bytes that the module stores in BAR2 RAM while no flip-mask is armed (R626): the completion of a command's slot (R231, R232) and
the record of an event (R259, R261). -/

namespace Sys2Proof.Machine
open Reg

variable {s t u : State} {m : Mb} {c : Cmd} {off n : Nat} {bs : List Byte}

theorem length_leBytes (n v : Nat) : (leBytes n v).length = n := by
  induction n generalizing v with
  | zero => rfl
  | succ n ih => exact congrArg (· + 1) (ih _)

theorem leNat_leBytes_of_lt {n v : Nat} (small : v < 256 ^ n) : leNat (leBytes n v) = v :=
  (leNat_leBytes n v).trans (Nat.mod_eq_of_lt small)

/-! ### Stores of bytes -/

/-- What a store in BAR2 RAM leaves, beside its bytes: every register but those of the seen list, the mailboxes and the host
link. -/
structure StoresOnly (s t : State) : Prop where
  fields : FieldsKeptBut SeenListKey s t
  eupex : t.eupex = s.eupex
  host : t.host = s.host

namespace StoresOnly

theorem refl : StoresOnly s s := ⟨fun _ _ _ => rfl, rfl, rfl⟩

theorem trans (h : StoresOnly s t) (k : StoresOnly t u) : StoresOnly s u :=
  ⟨fun g j apart => (k.fields g j apart).trans (h.fields g j apart), k.eupex.trans h.eupex, k.host.trans h.host⟩

/-- The flip-mask stays as it is. -/
theorem idle (h : StoresOnly s t) (idle : s.rd INTEG_FLIP_SEL_flip_armed ≠ 1) : t.rd INTEG_FLIP_SEL_flip_armed ≠ 1 := by
  rw [State.rd, h.fields _ _ (by decide)]
  exact idle

end StoresOnly

theorem storesOnly_forget (sid a b : Nat) : StoresOnly s (s.forget sid a b) := by
  unfold State.forget
  dsimp only
  split
  · exact .refl
  · refine ⟨fun g j apart => ?_, rfl, rfl⟩
    rw [not_or] at apart
    rw [State.rdi_wr_other _ _ apart.2, State.rdi_wr_other _ _ apart.1]
    rfl

section
variable (idle : s.rd INTEG_FLIP_SEL_flip_armed ≠ 1)
include idle

theorem bar2Put_of_idle : (s.bar2Put off bs).mem = putBytes s.mem sidBar2 off (bs.map some) ∧ StoresOnly s (s.bar2Put off bs) := by
  unfold State.bar2Put State.storeBytes
  split
  · next none =>
    have empty : bs = [] := by
      cases bs with
      | nil => rfl
      | cons b bs => simp [List.findIdx?_cons] at none
    subst empty
    exact ⟨rfl, .refl⟩
  · next k _ =>
    have forgotten : StoresOnly { s with mem := putBytes s.mem sidBar2 off (bs.map some) } _ :=
      storesOnly_forget sidBar2 (off + k) (off + (bs.map some).length)
    rw [fireFlip_idle _ _ (forgotten.idle idle)]
    exact ⟨mem_forget _ _ _, forgotten.fields, forgotten.eupex, forgotten.host⟩

theorem storesOnly_bar2Put : StoresOnly s (s.bar2Put off bs) := (bar2Put_of_idle idle).2

/-- Bytes stored and read back, or a part of them. -/
theorem bar2Get_bar2Put_within {k : Nat} (fits : off + bs.length ≤ regionSize) (within : k + n ≤ bs.length) :
    (s.bar2Put off bs).bar2Get (off + k) n = (bs.drop k).take n := by
  rw [State.bar2Get, (bar2Put_of_idle idle).1]
  refine List.ext_getElem (by simp; omega) fun j h1 h2 => ?_
  rw [memBytes_length] at h1
  rw [memBytes_get, show dataBase sidBar2 0 + (off + k) + j = dataBase sidBar2 0 + (off + (k + j)) by omega,
    putBytes_in _ _ _ _ rfl fits (show k + j < bs.length by omega)]
  simp

theorem bar2Get_bar2Put_same (fits : off + bs.length ≤ regionSize) : (s.bar2Put off bs).bar2Get off bs.length = bs := by
  simpa using bar2Get_bar2Put_within idle (k := 0) fits (Nat.le_of_eq (Nat.zero_add _))

theorem bar2Get_bar2Put_apart {o : Nat} (fits : off + bs.length + 7 ≤ regionSize) (inside : o + n ≤ regionSize)
    (apart : o + n ≤ off ∨ off + bs.length ≤ o) : (s.bar2Put off bs).bar2Get o n = s.bar2Get o n := by
  rw [State.bar2Get, (bar2Put_of_idle idle).1]
  exact putBytes_apart _ _ _ _ _ _ rfl (by simpa using fits) inside (by simpa using apart)

end

/-! ### An event that posts no record -/

/-- What an event, an interrupt or a counter of the mailbox block leaves: the memories, the mailboxes, and every register outside the
block but the pending bits. -/
structure QuietBut (K : Nat → Prop) (s t : State) : Prop where
  mem : t.mem = s.mem
  eupex : t.eupex = s.eupex
  fields : FieldsKeptBut (fun k => K k ∨ k = fldKey MSIX_PBA_pending 0) s t

namespace QuietBut

variable {K : Nat → Prop}

theorem refl : QuietBut K s s := ⟨rfl, rfl, fun _ _ _ => rfl⟩

theorem trans (h : QuietBut K s t) (k : QuietBut K t u) : QuietBut K s u :=
  ⟨k.mem.trans h.mem, k.eupex.trans h.eupex, fun g j apart => (k.fields g j apart).trans (h.fields g j apart)⟩

theorem wri {f : Fld} {i : Nat} (x : Nat) (key : K (fldKey f i)) : QuietBut K s (s.wri f i x) :=
  ⟨rfl, rfl, fun _ _ apart => State.rdi_wri_other _ _ (fun same => apart (.inl (same ▸ key)))⟩

theorem sendVector (v : Nat) : QuietBut K s (s.sendVector v) := by
  refine ⟨mem_sendVector _ _, ?_, fun g j apart => (State.SendKeeps.sendVector _ v).fields g j (fun same => apart (.inr same))⟩
  unfold State.sendVector
  split
  · rfl
  · split <;> rfl

theorem raise {f : Fld} (hf : f.PostsNothing) (key : K (fldKey f 0)) : QuietBut K s (s.raise f) := by
  have set : QuietBut K s (s.setBit f 0 0 true) := wri _ key
  obtain h | ⟨v, h⟩ := raise_of_postsNothing (s := s) hf <;> rw [h]
  · exact set
  · exact set.trans (sendVector v)

end QuietBut

/-! ### The answer in a command's slot (R231, R232) -/

/-- The stores of a completion in the slot at `a`, in their order. -/
def State.answerSlot (s : State) (a st detail : Nat) (resp : List Byte) : State :=
  (((s.bar2Put (a + 0x10) resp).bar2Put (a + 0x0C) (leBytes 2 resp.length ++ leBytes 2 detail)).bar2Put (a + 0x0A)
    (leBytes 1 st)).bar2Put (a + 0x0B) (leBytes 1 3)

section
variable {a st d : Nat} {resp : List Byte} (idle : s.rd INTEG_FLIP_SEL_flip_armed ≠ 1)
include idle

theorem storesOnly_answerSlot : StoresOnly s (s.answerSlot a st d resp) :=
  have h1 := storesOnly_bar2Put (off := a + 0x10) (bs := resp) idle
  have h2 := h1.trans (storesOnly_bar2Put (h1.idle idle))
  have h3 := h2.trans (storesOnly_bar2Put (h2.idle idle))
  h3.trans (storesOnly_bar2Put (h3.idle idle))

/-- What stands in a slot after its answer: the response, the header's four fields, and beyond the response what stood there. -/
theorem bar2Get_answerSlot (slot : a + 0x100 ≤ 0x3000) (len : resp.length ≤ 240) :
    (s.answerSlot a st d resp).bar2Get (a + 0x10) resp.length = resp ∧
      (s.answerSlot a st d resp).bar2Get (a + 0x0C) 2 = leBytes 2 resp.length ∧
      (s.answerSlot a st d resp).bar2Get (a + 0x0E) 2 = leBytes 2 d ∧
      (s.answerSlot a st d resp).bar2Get (a + 0x0A) 1 = leBytes 1 st ∧
      (s.answerSlot a st d resp).bar2Get (a + 0x0B) 1 = leBytes 1 3 ∧
      ∀ j, resp.length ≤ j → j < 240 →
        (s.answerSlot a st d resp).bar2Get (a + 0x10 + j) 1 = s.bar2Get (a + 0x10 + j) 1 := by
  have region : regionSize = 2 ^ 27 := rfl
  have header : (leBytes 2 resp.length ++ leBytes 2 d).length = 4 := by simp [length_leBytes]
  have h1 := storesOnly_bar2Put (off := a + 0x10) (bs := resp) idle
  have r1 := bar2Get_bar2Put_same (off := a + 0x10) (bs := resp) idle (by omega)
  have k1 {o n : Nat} := bar2Get_bar2Put_apart (off := a + 0x10) (bs := resp) (o := o) (n := n) idle (by omega)
  unfold State.answerSlot
  generalize s.bar2Put (a + 0x10) resp = s1 at h1 r1 k1 ⊢
  have i1 := h1.idle idle
  have h2 := storesOnly_bar2Put (off := a + 0x0C) (bs := leBytes 2 resp.length ++ leBytes 2 d) i1
  have w2 {k n : Nat} := bar2Get_bar2Put_within (off := a + 0x0C) (bs := leBytes 2 resp.length ++ leBytes 2 d) (k := k) (n := n) i1
    (by omega)
  have k2 {o n : Nat} := bar2Get_bar2Put_apart (off := a + 0x0C) (bs := leBytes 2 resp.length ++ leBytes 2 d) (o := o) (n := n) i1
    (by omega)
  rw [header] at k2 w2
  generalize s1.bar2Put (a + 0x0C) (leBytes 2 resp.length ++ leBytes 2 d) = s2 at h2 w2 k2 ⊢
  have i2 := h2.idle i1
  have h3 := storesOnly_bar2Put (off := a + 0x0A) (bs := leBytes 1 st) i2
  have r3 := bar2Get_bar2Put_same (off := a + 0x0A) (bs := leBytes 1 st) i2 (by rw [length_leBytes]; omega)
  have k3 {o n : Nat} := bar2Get_bar2Put_apart (off := a + 0x0A) (bs := leBytes 1 st) (o := o) (n := n) i2
    (by rw [length_leBytes]; omega)
  rw [length_leBytes] at r3 k3
  generalize s2.bar2Put (a + 0x0A) (leBytes 1 st) = s3 at h3 r3 k3 ⊢
  have i3 := h3.idle i2
  have r4 := bar2Get_bar2Put_same (off := a + 0x0B) (bs := leBytes 1 3) i3 (by rw [length_leBytes]; omega)
  have k4 {o n : Nat} := bar2Get_bar2Put_apart (off := a + 0x0B) (bs := leBytes 1 3) (o := o) (n := n) i3
    (by rw [length_leBytes]; omega)
  rw [length_leBytes] at r4 k4
  refine ⟨?resp, ?len, ?detail, ?status, r4, fun j h1 h2 => ?rest⟩
  case resp => rw [k4 (by omega) (by omega), k3 (by omega) (by omega), k2 (by omega) (by omega), r1]
  case len =>
    rw [k4 (by omega) (by omega), k3 (by omega) (by omega)]
    exact (w2 (k := 0) (n := 2) (by omega)).trans (by simp [length_leBytes])
  case detail =>
    rw [k4 (by omega) (by omega), k3 (by omega) (by omega)]
    exact (w2 (k := 2) (n := 2) (by omega)).trans (by simp [length_leBytes])
  case status => rw [k4 (by omega) (by omega), r3]
  case rest => rw [k4 (by omega) (by omega), k3 (by omega) (by omega), k2 (by omega) (by omega), k1 (by omega) (by omega)]

end

/-! ### DONE (R231, R237) -/

/-- The keys of the mailbox block from its event register on: the events and counters of ends. -/
abbrev MailEventKey (k : Nat) : Prop := fldKey MBX_EVENT_ring_fault 0 ≤ k ∧ k / 131072 = 5

theorem quiet_countEnd (st : Nat) : QuietBut MailEventKey s (s.countEnd st) := by
  unfold State.countEnd
  split
  · exact .wri _ (by decide)
  · split
    · exact (QuietBut.wri _ (by decide)).trans (.raise (by decide) (by decide))
    · split
      · exact (QuietBut.wri _ (by decide)).trans (.raise (by decide) (by decide))
      · exact .refl

theorem doneKey_apart (m : Mb) : ¬(MailEventKey (fldKey MBX_MB_STATUS_done (mbIdx m)) ∨
    fldKey MBX_MB_STATUS_done (mbIdx m) = fldKey MSIX_PBA_pending 0) := by cases m <;> decide

theorem slotAt_lt (own : m ≠ .relay) (k : Nat) : slotAt (mbIdx m) k + 0x100 ≤ 0x3000 := by
  have index : mbIdx m < 4 := by cases m <;> first | decide | exact absurd rfl own
  unfold slotAt
  omega

section
variable {flags st d : Nat} {resp : List Byte}

/-- After the stores of a slot a completion counts and may send a message. -/
theorem quiet_endSlot : QuietBut MailEventKey
    ((s.answerSlot (slotAt (mbIdx m) (s.doneCnt m)) st d resp).wri MBX_MB_STATUS_done (mbIdx m) ((s.doneCnt m + 1) % 65536))
    (s.endSlot m flags st d resp) := by
  unfold State.endSlot
  dsimp only
  split
  · exact (quiet_countEnd st).trans (.sendVector _)
  · exact quiet_countEnd st

theorem bar2Get_endSlot (a n : Nat) : (s.endSlot m flags st d resp).bar2Get a n =
    (s.answerSlot (slotAt (mbIdx m) (s.doneCnt m)) st d resp).bar2Get a n := by
  rw [State.bar2Get, quiet_endSlot.mem]
  rfl

theorem doneCnt_endSlot : (s.endSlot m flags st d resp).doneCnt m = (s.doneCnt m + 1) % 65536 := by
  rw [State.doneCnt, quiet_endSlot.fields _ _ (doneKey_apart m), State.rdi_wri_same]
  exact Nat.mod_mod _ _

theorem eupex_endSlot (idle : s.rd INTEG_FLIP_SEL_flip_armed ≠ 1) : (s.endSlot m flags st d resp).eupex = s.eupex :=
  quiet_endSlot.eupex.trans (storesOnly_answerSlot idle).eupex

theorem isFollower_endSlot (idle : s.rd INTEG_FLIP_SEL_flip_armed ≠ 1) :
    (s.endSlot m flags st d resp).isFollower = s.isFollower := by
  have apart : fldKey CHN_STATUS_role 0 ≠ fldKey MBX_MB_STATUS_done (mbIdx m) := by cases m <;> decide
  rw [State.isFollower, State.rd, quiet_endSlot.fields _ _ (by decide), State.rdi_wri_other _ _ apart,
    (storesOnly_answerSlot idle).fields _ _ (by decide)]
  rfl

end

/-- A mailbox without marked commands has none to complete (R270). -/
theorem settleMarked_of_none (n : Nat) (unmarked : (s.mbx m).marked = []) : State.settleMarked n m s = s := by
  cases n with
  | zero => rfl
  | succ n => simp [State.settleMarked, unmarked]

theorem mbx_setMbx_same {b : Mailbox} (holds : (s.mbx m).taken = some c) : (s.setMbx m b).mbx m = b := by
  have listed : mbIdx m < s.eupex.mailboxes.length := by
    by_contra beyond
    simp [State.mbx, List.getElem?_eq_none (Nat.not_lt.1 beyond)] at holds
  simp [State.mbx, State.setMbx, listSet, listed]

/-- The state in which the slot of a command that its mailbox runs is completed. -/
def State.leavesMailbox (s : State) (m : Mb) : State :=
  (s.setMbx m { s.mbx m with taken := none }).wri MBX_MB_INFO_cur_opcode (mbIdx m) 0

section
variable {st d : Nat} {resp : List Byte} (own : m ≠ .relay) (holds : (s.mbx m).taken = some c)
  (role : s.isFollower = false) (idle : s.rd INTEG_FLIP_SEL_flip_armed ≠ 1)
include holds

theorem mbx_leavesMailbox : (s.leavesMailbox m).mbx m = { s.mbx m with taken := none } := mbx_setMbx_same (b := _) holds

include own in
theorem finish_of_taken : s.finish m st d resp =
    if ((s.leavesMailbox m).endSlot m c.flags st d resp).isFollower = true then
      (State.settleFollower 8 m ((s.leavesMailbox m).endSlot m c.flags st d resp)).fillFollower
    else State.settleMarked 8 m ((s.leavesMailbox m).endSlot m c.flags st d resp) := by
  have body : s.finish m st d resp = match (s.mbx m).taken with
      | none => s
      | some c =>
        if ((s.leavesMailbox m).endSlot m c.flags st d resp).isFollower = true then
          (State.settleFollower 8 m ((s.leavesMailbox m).endSlot m c.flags st d resp)).fillFollower
        else State.settleMarked 8 m ((s.leavesMailbox m).endSlot m c.flags st d resp) := by
    cases m with
    | relay => exact absurd rfl own
    | urgent | table | media | bulk => rfl
  rw [body, holds]

omit holds in
theorem rdi_leavesMailbox {f : Fld} {i : Nat} (apart : fldKey f i ≠ fldKey MBX_MB_INFO_cur_opcode (mbIdx m)) :
    (s.leavesMailbox m).rdi f i = s.rdi f i := (State.rdi_wri_other _ _ apart).trans rfl

include own role idle

/-- With no marked command behind it, a command's completion is its slot's. -/
theorem finish_eq_endSlot (unmarked : (s.mbx m).marked = []) :
    s.finish m st d resp = (s.leavesMailbox m).endSlot m c.flags st d resp := by
  have idle' : (s.leavesMailbox m).rd INTEG_FLIP_SEL_flip_armed ≠ 1 := by
    rw [State.rd, rdi_leavesMailbox (by cases m <;> decide)]
    exact idle
  have role' : ((s.leavesMailbox m).endSlot m c.flags st d resp).isFollower = false := by
    rw [isFollower_endSlot idle', State.isFollower, State.rd, rdi_leavesMailbox (by cases m <;> decide)]
    exact role
  have mbx : ((s.leavesMailbox m).endSlot m c.flags st d resp).mbx m = { s.mbx m with taken := none } := by
    rw [State.mbx, eupex_endSlot idle']
    exact mbx_leavesMailbox holds
  rw [finish_of_taken own holds, role', if_neg Bool.false_ne_true, settleMarked_of_none _ (by rw [mbx]; exact unmarked)]

end

/-- A halted core holds its command with the first answer that it was given (R666). -/
theorem done_held {st d : Nat} {resp : List Byte} (holds : (s.mbx m).taken = some c) (halted : s.haltHolds c = true) :
    s.done m st d resp = s.setMbx m { s.mbx m with
      taken := some { c with stage := .waiting, answer := some (c.answer.getD (st, d, resp)) } } := by
  unfold State.done
  rw [holds]
  exact if_pos halted

theorem done_runs {st d : Nat} {resp : List Byte} (holds : (s.mbx m).taken = some c) (runs : s.haltHolds c = false) :
    s.done m st d resp = s.finish m st d resp := by
  unfold State.done
  rw [holds]
  exact if_neg (by simp [runs])

/-- Settles O42: a command that no halt holds is completed in its slot, and none follows it. -/
theorem completionWritesTheSlot : Obligations.CompletionWritesTheSlot := by
  intro m s c own holds unmarked role idle
  refine ⟨fun halted st d resp => done_held holds halted, fun runs st d resp a len status detail slot t ended => ?answer,
    fun ready => (show execSysNop m s = _ from runCmd_answers ready rfl)⟩
  rw [done_runs holds runs, finish_eq_endSlot own holds role idle unmarked] at ended
  have idle' : (s.leavesMailbox m).rd INTEG_FLIP_SEL_flip_armed ≠ 1 := by
    rw [State.rd, rdi_leavesMailbox (by cases m <;> decide)]
    exact idle
  have count : (s.leavesMailbox m).doneCnt m = s.doneCnt m := rdi_leavesMailbox (by cases m <;> decide)
  subst slot ended
  obtain ⟨response, length, fault, ends, done, beyond⟩ :=
    bar2Get_answerSlot (st := st) (d := d) idle' (slotAt_lt own (s.doneCnt m)) len
  rw [← count] at response length fault ends done beyond ⊢
  refine ⟨?_, ?_, ?_, ?_, ?_, ?_, ?_, fun j low high => ?_⟩
  · rw [bar2Get_endSlot, response]
  · rw [State.bar2Nat, bar2Get_endSlot, length, leNat_leBytes_of_lt (by omega)]
  · rw [State.bar2Nat, bar2Get_endSlot, fault, leNat_leBytes_of_lt detail]
  · rw [State.bar2Nat, bar2Get_endSlot, ends, leNat_leBytes_of_lt status]
  · rw [State.bar2Nat, bar2Get_endSlot, done, leNat_leBytes_of_lt (by decide)]
  · exact doneCnt_endSlot
  · rw [State.mbx, eupex_endSlot idle', ← State.mbx, mbx_leavesMailbox holds]
  · rw [bar2Get_endSlot, beyond j low high]
    rfl

end Sys2Proof.Machine

/-! The record of an event (R259, R261) and a mailbox's producer doorbell (R236). -/

namespace Sys2Proof.Machine
open Reg

variable {s t u : State} {off n : Nat} {bs : List Byte}

/-- Bytes stored on whole words leave every other byte. -/
theorem memKept_bar2Put {lo hi : Nat} (idle : s.rd INTEG_FLIP_SEL_flip_armed ≠ 1) (low : lo ≤ off) (high : off + bs.length ≤ hi)
    (lowWord : lo % 8 = 0) (highWord : hi % 8 = 0) : MemKept s (s.bar2Put off bs) lo hi := by
  intro a data check
  rw [(bar2Put_of_idle idle).1]
  exact mem_putBytes _ _ _ low (by simpa using high) lowWord highWord a data check

/-! ### The event ring -/

/-- The event ring has room while fewer than 64 records stand in it. -/
theorem evtRoom_iff (consumed : s.rd MBX_EVT_STATUS_evt_consumed < 65536) : s.evtRoom = true ↔
    cntDist (s.rd MBX_EVT_STATUS_evt_consumed) (s.rd MBX_EVT_STATUS_evt_written) < 64 := by
  rw [State.evtRoom, decide_eq_true_iff, cntDist, Nat.mod_eq_of_lt consumed]

section
variable {r : EventRec} (role : s.isFollower = false) (held : s.eupex.evtHeld = []) (dropped : s.eupex.evtDropped = 0)
include role held dropped

theorem postEvent_of_room (room : s.evtRoom = true) : s.postEvent r = s.writeEvent r := by
  simp [State.postEvent, role, held, dropped, room]

/-- Without room the event is held: a change of the events that wait, and of nothing else. -/
theorem postEvent_of_full (full : s.evtRoom = false) : (s.postEvent r).mem = s.mem ∧ (s.postEvent r).regs = s.regs := by
  simp [State.postEvent, role, held, dropped, full]

end

/-- The state after a record's two stores. -/
def State.recordStored (s : State) (r : EventRec) (a : Nat) : State :=
  (s.bar2Put a (eventBody r)).bar2Put (a + 56) (leBytes 8 (s.rd MBX_EVT_STATUS_evt_written))

theorem length_eventBody (r : EventRec) : (eventBody r).length = 56 := by
  simp [eventBody, length_leBytes, length_padTo]

theorem quiet_writeEvent_tail (r : EventRec) : QuietBut (fun _ => False)
    ((s.recordStored r (0x2000 + 0x40 * (s.rd MBX_EVT_STATUS_evt_written % 64))).wr MBX_EVT_STATUS_evt_written
      ((s.rd MBX_EVT_STATUS_evt_written + 1) % 65536)) (s.writeEvent r) := by
  unfold State.writeEvent
  dsimp only
  split
  · exact .sendVector _
  · exact .refl

section
variable {r : EventRec} {a : Nat} (idle : s.rd INTEG_FLIP_SEL_flip_armed ≠ 1)
include idle

theorem storesOnly_recordStored : StoresOnly s (s.recordStored r a) :=
  have body := storesOnly_bar2Put (off := a) (bs := eventBody r) idle
  body.trans (storesOnly_bar2Put (body.idle idle))

theorem bar2Get_recordStored (fits : a + 64 ≤ 0x3000) : (s.recordStored r a).bar2Get a 56 = eventBody r ∧
    (s.recordStored r a).bar2Get (a + 56) 8 = leBytes 8 (s.rd MBX_EVT_STATUS_evt_written) := by
  have region : regionSize = 2 ^ 27 := rfl
  have body := length_eventBody r
  have idle' := (storesOnly_bar2Put (off := a) (bs := eventBody r) idle).idle idle
  have tail := length_leBytes 8 (s.rd MBX_EVT_STATUS_evt_written)
  constructor
  · rw [State.recordStored, bar2Get_bar2Put_apart idle' (by omega) (by omega) (by omega)]
    simpa only [body] using bar2Get_bar2Put_same (off := a) (bs := eventBody r) idle (by omega)
  · unfold State.recordStored
    simpa only [tail] using bar2Get_bar2Put_same (off := a + 56) (bs := leBytes 8 (s.rd MBX_EVT_STATUS_evt_written)) idle' (by omega)

theorem memKept_recordStored (word : a % 8 = 0) : MemKept s (s.recordStored r a) a (a + 64) := by
  have body := length_eventBody r
  have tail := length_leBytes 8 (s.rd MBX_EVT_STATUS_evt_written)
  intro b data check
  exact (memKept_bar2Put ((storesOnly_bar2Put idle).idle idle) (by omega) (by omega) word (by omega) b data check).trans
    (memKept_bar2Put idle (Nat.le_refl _) (by omega) word (by omega) b data check)

end

/-- The counts of the ring after a record has been written. -/
theorem counts_writeEvent (r : EventRec) (idle : s.rd INTEG_FLIP_SEL_flip_armed ≠ 1) :
    (s.writeEvent r).rd MBX_EVT_STATUS_evt_written = (s.rd MBX_EVT_STATUS_evt_written + 1) % 65536 ∧
      (s.writeEvent r).rd MBX_EVT_STATUS_evt_consumed = s.rd MBX_EVT_STATUS_evt_consumed := by
  have tail := quiet_writeEvent_tail (s := s) r
  constructor
  · rw [State.rd, tail.fields _ _ (by decide), ← State.rd, State.rd_wr_same]
    exact Nat.mod_mod _ _
  · rw [State.rd, tail.fields _ _ (by decide), State.rdi_wr_other _ _ (by decide),
      (storesOnly_recordStored idle).fields _ _ (by decide)]
    rfl

/-- Settles O46: with room the record's two stores and the count of written events, without room neither. -/
theorem eventRingHasRoom : Obligations.EventRingHasRoom := by
  rintro s t r c a role held dropped idle rfl consumed small rfl rfl
  by_cases room : cntDist (s.rd MBX_EVT_STATUS_evt_consumed) (s.rd MBX_EVT_STATUS_evt_written) < 64
  · rw [postEvent_of_room role held dropped ((evtRoom_iff consumed).2 room)]
    have tail := quiet_writeEvent_tail (s := s) r
    obtain ⟨body, count⟩ := bar2Get_recordStored (r := r) (a := 0x2000 + 0x40 * (s.rd MBX_EVT_STATUS_evt_written % 64)) idle (by omega)
    obtain ⟨written, kept⟩ := counts_writeEvent r idle
    refine ⟨fun _ => ⟨?_, ?_, written, fun b data check => ?_⟩, fun full => absurd room (Nat.not_lt.2 full), fun _ => ?_⟩
    · rw [State.bar2Get, tail.mem]
      exact body
    · rw [State.bar2Nat, State.bar2Get, tail.mem]
      exact (congrArg leNat count).trans (leNat_leBytes_of_lt (by omega))
    · rw [tail.mem]
      exact memKept_recordStored idle (by omega) b data check
    · rw [written, kept]
      unfold cntDist at room ⊢
      omega
  · have full : s.evtRoom = false := by rw [← Bool.not_eq_true, evtRoom_iff consumed]; exact room
    obtain ⟨mem, regs⟩ := postEvent_of_full (r := r) role held dropped full
    refine ⟨fun h => absurd h room, fun _ => ⟨mem, State.rdi_congr regs _ _⟩, fun bound => ?_⟩
    rw [State.rd, State.rd, State.rdi_congr regs, State.rdi_congr regs]
    exact bound

/-! ### A mailbox's producer doorbell (R236) -/

/-- The slots of newly accepted commands are stores alone. -/
theorem storesOnly_coverSlots {i k c : Nat} (idle : s.rd INTEG_FLIP_SEL_flip_armed ≠ 1) : StoresOnly s (s.coverSlots i k c) := by
  induction k generalizing s c with
  | zero => exact .refl
  | succ k ih =>
    have first := storesOnly_bar2Put (off := slotAt i c + 0x0B) (bs := [1]) idle
    exact first.trans (ih (first.idle idle))

section
variable {i : Nat} (hi : i < 4)
include hi

/-- A byte that reads 1 still does when state 0x01 has been stored in a slot. -/
theorem one_of_one_bar2Put {o c : Nat} (idle : s.rd INTEG_FLIP_SEL_flip_armed ≠ 1) (inside : o + 1 ≤ regionSize)
    (one : s.bar2Get o 1 = [1]) : (s.bar2Put (slotAt i c + 0x0B) [1]).bar2Get o 1 = [1] := by
  have region : regionSize = 2 ^ 27 := rfl
  have slot : slotAt i c + 0x100 ≤ 0x2000 := by unfold slotAt; omega
  by_cases same : o = slotAt i c + 0x0B
  · subst same
    exact bar2Get_bar2Put_same (bs := [1]) idle (by simp; omega)
  · rw [bar2Get_bar2Put_apart idle (by simp; omega) inside (by simp; omega), one]

theorem one_of_one_coverSlots {o k c : Nat} (idle : s.rd INTEG_FLIP_SEL_flip_armed ≠ 1) (inside : o + 1 ≤ regionSize)
    (one : s.bar2Get o 1 = [1]) : (s.coverSlots i k c).bar2Get o 1 = [1] := by
  induction k generalizing s c with
  | zero => exact one
  | succ k ih => exact ih ((storesOnly_bar2Put idle).idle idle) (one_of_one_bar2Put hi idle inside one)

/-- Every newly covered slot shows state 0x01. -/
theorem state_coverSlots {j k c : Nat} (idle : s.rd INTEG_FLIP_SEL_flip_armed ≠ 1) (covered : j < k) :
    (s.coverSlots i k c).bar2Nat (slotAt i ((c + j) % 65536) + 0x0B) 1 = 1 := by
  have region : regionSize = 2 ^ 27 := rfl
  induction k generalizing s c j with
  | zero => cases covered
  | succ k ih =>
    have idle' := (storesOnly_bar2Put (off := slotAt i c + 0x0B) (bs := [1]) idle).idle idle
    have slot : slotAt i c + 0x100 ≤ 0x2000 := by unfold slotAt; omega
    cases j with
    | zero =>
      rw [show slotAt i ((c + 0) % 65536) = slotAt i c by unfold slotAt; omega]
      exact congrArg leNat (one_of_one_coverSlots hi idle' (by omega) (bar2Get_bar2Put_same (bs := [1]) idle (by simp; omega)))
    | succ j =>
      rw [show (c + (j + 1)) % 65536 = ((c + 1) % 65536 + j) % 65536 by omega]
      exact ih idle' (by omega)

end

/-- An event of a block that posts no record is its bit, and a message where the module interrupt rises (R208). -/
theorem raiseAt_of_postsNothing {f : Fld} (hf : f.PostsNothing) (i k : Nat) :
    s.raiseAt f i k = s.setBit f i k true ∨ ∃ v, s.raiseAt f i k = (s.setBit f i k true).sendVector v := by
  have notPwr : f.base ≠ 0x1030 := fun h => by simp [Fld.PostsNothing, h] at hf
  have bare : s.raiseAt f i k = s.setEvent f i k := by
    simp only [State.raiseAt, notPwr, if_false, postsRecord_quiet _ hf, Bool.false_eq_true, ite_self]
  rw [bare]
  unfold State.setEvent State.irqFrom
  split
  · exact .inr ⟨_, rfl⟩
  · exact .inl rfl

/-- The state in which a doorbell of the host is judged (R184, R220). -/
def State.doorbellSeen (s : State) (off : Nat) (w : RegWord) : State := (s.noteDoorbell off w).noteUpper w

theorem doorbells_noteUpper (w : RegWord) : (s.noteUpper w).host.doorbells = s.host.doorbells := by
  unfold State.noteUpper
  split
  · rfl
  · exact doorbells_raise (by decide)

theorem doorbells_doorbellSeen (w : RegWord) : storeGetD 0 (s.doorbellSeen off w).host.doorbells off = w.toNat := by
  rw [State.doorbellSeen, doorbells_noteUpper]
  exact storeGetD_set_same _ _ _ _

/-- A doorbell that is seen leaves every register but bad_write and the pending bits. -/
theorem rdi_doorbellSeen (w : RegWord) {f : Fld} {i : Nat} (apart : [0, 0x21].contains (fldKey f i / 131072) = false) :
    (s.doorbellSeen off w).rdi f i = s.rdi f i :=
  rdi_of_frame (s := s.noteDoorbell off w) (frame_noteUpper _ w) apart

/-- A ring fault of mailbox `i`: its event's bit, and no other register but the pending bits. -/
theorem raiseAt_ringFault {i : Nat} (hi : i < 4) : (u.raiseAt MBX_EVENT_ring_fault 0 i).bit MBX_EVENT_ring_fault 0 i = true ∧
    (u.raiseAt MBX_EVENT_ring_fault 0 i).host.doorbells = u.host.doorbells ∧
    ∀ f j, fldKey f j ≠ fldKey MBX_EVENT_ring_fault 0 → fldKey f j ≠ fldKey MSIX_PBA_pending 0 →
      (u.raiseAt MBX_EVENT_ring_fault 0 i).rdi f j = u.rdi f j := by
  have set : (u.setBit MBX_EVENT_ring_fault 0 i true).bit MBX_EVENT_ring_fault 0 i = true := by
    rw [State.bit_setBit _ _ _ _ _ hi, if_pos rfl]
  obtain h | ⟨v, h⟩ := raiseAt_of_postsNothing (s := u) (f := MBX_EVENT_ring_fault) (by decide) 0 i <;> rw [h]
  · exact ⟨set, rfl, fun f j apart _ => State.rdi_setBit_other _ _ _ apart⟩
  · have sent := State.SendKeeps.sendVector (u.setBit MBX_EVENT_ring_fault 0 i true) v
    refine ⟨?_, doorbells_sendVector _ v, fun f j apart pending =>
      (sent.fields f j pending).trans (State.rdi_setBit_other _ _ _ apart)⟩
    rw [State.bit, sent.fields _ _ (by decide)]
    exact set

theorem mbIdx_mbOf {i : Nat} (hi : i < 4) : mbIdx (mbOf i) = i := by
  have all : ∀ i : Fin 4, mbIdx (mbOf i.val) = i.val := by decide
  exact all ⟨i, hi⟩

/-! The producer doorbell, accepted or discarded. -/

section
variable {i d : Nat} (hi : i < 4) (runs : s.inSequence = false)
include runs

theorem postDoorbell_accepted (near : cntDist (s.doneCnt (mbOf i)) d ≤ 8 ∧ cntDist (s.posted (mbOf i)) d ≤ 8) :
    s.postDoorbell i d =
      (s.coverSlots i (cntDist (s.posted (mbOf i)) d) (s.posted (mbOf i))).wri MBX_MB_STATUS_posted i d :=
  (if_neg (by simp [runs])).trans (if_pos near)

theorem postDoorbell_discarded (far : ¬(cntDist (s.doneCnt (mbOf i)) d ≤ 8 ∧ cntDist (s.posted (mbOf i)) d ≤ 8)) :
    s.postDoorbell i d = (s.addi MBX_MB_INFO_ring_faults i 1).raiseAt MBX_EVENT_ring_fault 0 i :=
  (if_neg (by simp [runs])).trans (if_neg far)

end

section
variable {i : Nat} (hi : i < 4)
include hi

/-- What an accepted value leaves: its own count, the slots that it covers, and neither the done count nor a doorbell. -/
theorem accepted_counts {k d : Nat} (idle : u.rd INTEG_FLIP_SEL_flip_armed ≠ 1) (small : d < 65536)
    (ended : t = (u.coverSlots i k (u.posted (mbOf i))).wri MBX_MB_STATUS_posted i d) :
    t.host.doorbells = u.host.doorbells ∧ t.doneCnt (mbOf i) = u.doneCnt (mbOf i) ∧ t.posted (mbOf i) = d ∧
      ∀ j < k, t.bar2Nat (slotAt i ((u.posted (mbOf i) + j) % 65536) + 0x0B) 1 = 1 := by
  subst ended
  have stores := storesOnly_coverSlots (i := i) (k := k) (c := u.posted (mbOf i)) idle
  have apart : fldKey MBX_MB_STATUS_done i ≠ fldKey MBX_MB_STATUS_posted i := by
    simp [fldKey, MBX_MB_STATUS_done, MBX_MB_STATUS_posted]
  have kept : ¬SeenListKey (fldKey MBX_MB_STATUS_done i) := by
    simp only [SeenListKey, fldKey, MBX_MB_STATUS_done, INTEG_STATUS_seen_count, INTEG_STATUS_seen_full]
    omega
  refine ⟨congrArg (·.doorbells) stores.host, ?_, ?_, fun j hj => state_coverSlots hi idle hj⟩
  · rw [State.doneCnt, State.doneCnt, mbIdx_mbOf hi, State.rdi_wri_other _ _ apart, stores.fields _ _ kept]
  · rw [State.posted, mbIdx_mbOf hi, State.rdi_wri_same]
    exact Nat.mod_eq_of_lt small

/-- What a discarded value leaves: the ring fault, and neither count nor a doorbell. -/
theorem discarded_counts (ended : t = (u.addi MBX_MB_INFO_ring_faults i 1).raiseAt MBX_EVENT_ring_fault 0 i) :
    t.host.doorbells = u.host.doorbells ∧ t.doneCnt (mbOf i) = u.doneCnt (mbOf i) ∧
      t.posted (mbOf i) = u.posted (mbOf i) ∧ t.bit MBX_EVENT_ring_fault 0 i = true ∧
      t.rdi MBX_MB_INFO_ring_faults i = min (u.rdi MBX_MB_INFO_ring_faults i + 1) (2 ^ MBX_MB_INFO_ring_faults.width - 1) := by
  subst ended
  obtain ⟨event, doorbells, fields⟩ := raiseAt_ringFault (u := u.addi MBX_MB_INFO_ring_faults i 1) hi
  have apart {f : Fld} (reg : f = MBX_MB_STATUS_done ∨ f = MBX_MB_STATUS_posted ∨ f = MBX_MB_INFO_ring_faults) :
      fldKey f i ≠ fldKey MBX_EVENT_ring_fault 0 ∧ fldKey f i ≠ fldKey MSIX_PBA_pending 0 := by
    simp only [fldKey, MBX_EVENT_ring_fault, MSIX_PBA_pending]
    rcases reg with rfl | rfl | rfl <;> simp only [MBX_MB_STATUS_done, MBX_MB_STATUS_posted, MBX_MB_INFO_ring_faults] <;> omega
  have counted {f : Fld} (reg : f = MBX_MB_STATUS_done ∨ f = MBX_MB_STATUS_posted) :
      fldKey f i ≠ fldKey MBX_MB_INFO_ring_faults i := by
    rcases reg with rfl | rfl <;> simp only [fldKey, MBX_MB_STATUS_done, MBX_MB_STATUS_posted, MBX_MB_INFO_ring_faults] <;> omega
  refine ⟨doorbells, ?_, ?_, event, ?_⟩
  · rw [State.doneCnt, State.doneCnt, mbIdx_mbOf hi, fields _ _ (apart (.inl rfl)).1 (apart (.inl rfl)).2,
      State.rdi_addi_other _ _ (counted (.inl rfl))]
  · rw [State.posted, State.posted, mbIdx_mbOf hi, fields _ _ (apart (.inr (.inl rfl))).1 (apart (.inr (.inl rfl))).2,
      State.rdi_addi_other _ _ (counted (.inr rfl))]
  · rw [fields _ _ (apart (.inr (.inr rfl))).1 (apart (.inr (.inr rfl))).2, State.rdi_addi_same]

end

/-- Settles O44: a value in range covers its slots and becomes the posted count; any other value is a ring fault. -/
theorem mailboxDoorbellCounts : Obligations.MailboxDoorbellCounts := by
  rintro s ⟨i, hi⟩ w d role runs idle rfl
  dsimp only
  have small : doorCount w < 65536 := Nat.mod_lt _ (by decide)
  have mailbox : fldKey MBX_MB_STATUS_done i / 131072 = 5 ∧ fldKey MBX_MB_STATUS_posted i / 131072 = 5 ∧
      fldKey MBX_MB_INFO_ring_faults i / 131072 = 5 := by
    simp only [fldKey, MBX_MB_STATUS_done, MBX_MB_STATUS_posted, MBX_MB_INFO_ring_faults]
    omega
  obtain ⟨donePage, postedPage, faultsPage⟩ := mailbox
  have seen {f : Fld} {j : Nat} := rdi_doorbellSeen (s := s) (off := 0x3000 + 0x10 * i) w (f := f) (i := j)
  have doorbell := doorbells_doorbellSeen (s := s) (off := 0x3000 + 0x10 * i) w
  have idle' : (s.doorbellSeen (0x3000 + 0x10 * i) w).rd INTEG_FLIP_SEL_flip_armed ≠ 1 := by rwa [State.rd, seen (by decide)]
  have runs' : (s.doorbellSeen (0x3000 + 0x10 * i) w).inSequence = false := by
    simpa only [State.inSequence, State.phase, State.rd, seen (f := PWR_STATE_state) (j := 0) (by decide)] using runs
  have done' : (s.doorbellSeen (0x3000 + 0x10 * i) w).doneCnt (mbOf i) = s.doneCnt (mbOf i) := by
    rw [State.doneCnt, mbIdx_mbOf hi, seen (by rw [donePage]; rfl), State.doneCnt, mbIdx_mbOf hi]
  have posted' : (s.doorbellSeen (0x3000 + 0x10 * i) w).posted (mbOf i) = s.posted (mbOf i) := by
    rw [State.posted, mbIdx_mbOf hi, seen (by rw [postedPage]; rfl), State.posted, mbIdx_mbOf hi]
  have ends : Completes (.mailboxDoorbell ⟨i, hi⟩ w) s
      ((s.doorbellSeen (0x3000 + 0x10 * i) w).postDoorbell i (doorCount w)) := if_neg (by simp [role])
  have faults' := seen (f := MBX_MB_INFO_ring_faults) (j := i) (by rw [faultsPage]; rfl)
  rw [← done', ← posted', ← faults']
  generalize s.doorbellSeen (0x3000 + 0x10 * i) w = u at *
  by_cases near : cntDist (u.doneCnt (mbOf i)) (doorCount w) ≤ 8 ∧ cntDist (u.posted (mbOf i)) (doorCount w) ≤ 8
  · obtain ⟨host, done, posted, slots⟩ := accepted_counts hi idle' small (postDoorbell_accepted runs' near)
    refine ⟨_, ends, host ▸ doorbell, done, fun _ => ?_, fun _ _ => ⟨posted, slots⟩, fun far => absurd near far⟩
    rw [done, posted]
    exact near.1
  · obtain ⟨host, done, posted, event, faults⟩ := discarded_counts hi (postDoorbell_discarded runs' near)
    refine ⟨_, ends, host ▸ doorbell, done, fun bound => ?_, fun nearDone nearPosted => absurd ⟨nearDone, nearPosted⟩ near,
      fun _ => ⟨posted, event, faults⟩⟩
    rw [done, posted]
    exact bound

end Sys2Proof.Machine

/-! What a completion leaves as it was: everything outside its mailbox's own ring, the mailbox block, the integrity block and the
host link. -/

namespace Sys2Proof.Machine
open Reg

variable {P : List Part} {R : Nat → Bool} {lo hi : Nat} {s t : State} {m : Mb}

/-! ### Stores in BAR2 RAM, with what an armed flip-mask adds -/

theorem report_setEvent (e : ReportFrame P R) {f : Fld} (page : R (fldKey f 0 / 131072) = true) :
    Frame P R lo hi s (s.setEvent f 0 0) := by
  refine (frame_setBit (f := f) (i := 0) 0 true page).trans ?_
  exact frame_ite (frame_vectorOnly e.host e.pba _) .refl

theorem report_flipSpent (e : ReportFrame P R) (off : Nat) : Frame P R lo hi s (s.flipSpent off) :=
  ((frame_integReg (f := INTEG_FLIP_SEL_flip_armed) (i := 0) e 0 (by decide)).trans
    (frame_integReg (f := INTEG_FLIP_LAST_flip_offset) (i := 0) e off (by decide))).trans
    (report_setEvent (f := INTEG_EVENT_flip_fired) e e.integPage)

theorem report_forget (e : ReportFrame P R) (sid a b : Nat) : Frame P R lo hi s (s.forget sid a b) := by
  unfold State.forget
  dsimp only
  split
  · exact .refl
  · exact ((frame_integ e.integ _).trans (frame_integReg (f := INTEG_STATUS_seen_count) (i := 0) e _ (by decide))).trans
      (frame_integReg (f := INTEG_STATUS_seen_full) (i := 0) e _ (by decide))

/-- Bytes stored on whole words: their words, the seen list's keys of them and an armed flip-mask change. -/
theorem report_bar2Put (e : ReportFrame P R) (off : Nat) (bs : List Byte) (low : lo ≤ off) (high : off + bs.length ≤ hi)
    (lowWord : lo % 8 = 0) (highWord : hi % 8 = 0) : Frame P R lo hi s (s.bar2Put off bs) := by
  unfold State.bar2Put State.storeBytes
  split
  · exact .refl
  · next k found =>
    have inside : k < bs.length := by simpa using (List.findIdx?_eq_some_iff_getElem.1 found).1
    have stored : Frame P R lo hi s { s with mem := putBytes s.mem sidBar2 off (bs.map some) } :=
      frame_mem _ (fun a data check => mem_putBytes _ _ _ low (by simpa using high) lowWord highWord a data check)
    refine (stored.trans (report_forget e sidBar2 (off + k) (off + (bs.map some).length))).trans ?_
    unfold State.fireFlip
    refine frame_ite ((frame_mem _ fun a data check => ?_).trans (report_flipSpent e _)) .refl
    generalize State.rd _ INTEG_FLIP_SEL_flip_word = w
    exact mem_flipCopy _ 0 _ w _ _ (by omega) (by omega) lowWord highWord rfl a data check

/-! ### The slot and the mailbox -/

/-- What a completion may reach. -/
abbrev MailFrame (m : Mb) (s t : State) : Prop :=
  Frame [.host, .eupex, .integ] [5, 0x0D, 0x21].contains (0x800 * mbIdx m) (0x800 * mbIdx m + 0x800) s t

theorem reportFrame_mail : ReportFrame [.host, .eupex, .integ] [5, 0x0D, 0x21].contains := ⟨rfl, rfl, rfl, rfl⟩

theorem mail_setMbx (b : Mailbox) : MailFrame m s (s.setMbx m b) :=
  .of_parts rfl rfl (fun p hp => by cases p <;> first | rfl | cases hp)

theorem mail_raise {f : Fld} (hf : f.PostsNothing) (page : fldKey f 0 / 131072 = 5) : MailFrame m s (s.raise f) :=
  frame_quiet (i := 0) rfl rfl (by rw [page]; rfl) (fun h => by simp [Fld.PostsNothing, h] at hf) (postsRecord_quiet _ hf)

theorem mail_countEnd (st : Nat) : MailFrame m s (s.countEnd st) := by
  unfold State.countEnd
  split
  · exact frame_inc (by decide)
  · split
    · exact (frame_inc (by decide)).trans (mail_raise (by decide) (by decide))
    · split
      · exact (frame_inc (by decide)).trans (mail_raise (by decide) (by decide))
      · exact .refl

theorem mail_answerSlot (st d k : Nat) (resp : List Byte) (len : resp.length ≤ 240) :
    MailFrame m s (s.answerSlot (slotAt (mbIdx m) k) st d resp) := by
  have low : 0x800 * mbIdx m ≤ slotAt (mbIdx m) k := Nat.le_add_right _ _
  have high : slotAt (mbIdx m) k + 0x100 ≤ 0x800 * mbIdx m + 0x800 := by unfold slotAt; omega
  have put (u : State) (i : Nat) (bs : List Byte) (inside : i + bs.length ≤ 0x100) :
      MailFrame m u (u.bar2Put (slotAt (mbIdx m) k + i) bs) :=
    report_bar2Put reportFrame_mail _ _ (by omega) (by omega) (by omega) (by omega)
  exact (((put _ 0x10 resp (by omega)).trans (put _ 0x0C _ (by simp [length_leBytes]))).trans
    (put _ 0x0A _ (by simp [length_leBytes]))).trans (put _ 0x0B _ (by simp [length_leBytes]))

theorem doneKey_page (m : Mb) : [5, 0x0D, 0x21].contains (fldKey MBX_MB_STATUS_done (mbIdx m) / 131072) = true := by
  cases m <;> decide

theorem mail_endSlot (flags st d : Nat) (resp : List Byte) (len : resp.length ≤ 240) :
    MailFrame m s (s.endSlot m flags st d resp) := by
  have ended : MailFrame m s (((s.answerSlot (slotAt (mbIdx m) (s.doneCnt m)) st d resp).wri MBX_MB_STATUS_done (mbIdx m)
      ((s.doneCnt m + 1) % 65536)).countEnd st) :=
    ((mail_answerSlot st d _ resp len).trans (frame_wri _ (doneKey_page m))).trans (mail_countEnd st)
  unfold State.endSlot
  exact frame_ite (ended.trans (frame_vectorOnly rfl rfl _)) ended

theorem mail_settleMarked (n : Nat) : MailFrame m s (State.settleMarked n m s) := by
  induction n generalizing s with
  | zero => exact .refl
  | succ n ih => exact frame_ite (((mail_setMbx _).trans (mail_endSlot _ _ _ _ (by simp))).trans ih) .refl

theorem mail_leavesMailbox : MailFrame m s (s.leavesMailbox m) := by
  have page : [5, 0x0D, 0x21].contains (fldKey MBX_MB_INFO_cur_opcode (mbIdx m) / 131072) = true := by
    cases m <;> decide
  exact (mail_setMbx _).trans (frame_wri 0 page)

theorem isFollower_of_mail (h : MailFrame m s t) : t.isFollower = s.isFollower := by
  rw [State.isFollower, State.rd, rdi_of_frame h (by decide)]
  rfl

theorem mail_finish (own : m ≠ .relay) (role : s.isFollower = false) (st d : Nat) (resp : List Byte) (len : resp.length ≤ 240) :
    MailFrame m s (s.finish m st d resp) := by
  cases taken : (s.mbx m).taken with
  | none =>
    have idle : s.finish m st d resp = s := by
      cases m with
      | relay => exact absurd rfl own
      | urgent | table | media | bulk =>
        unfold State.finish
        dsimp only
        rw [taken]
    rw [idle]
    exact .refl
  | some c =>
    have ended : MailFrame m s ((s.leavesMailbox m).endSlot m c.flags st d resp) :=
      (mail_leavesMailbox).trans (mail_endSlot _ _ _ _ len)
    rw [finish_of_taken own taken, isFollower_of_mail ended, role, if_neg Bool.false_ne_true]
    exact ended.trans (mail_settleMarked 8)

theorem mail_done (own : m ≠ .relay) (role : s.isFollower = false) (st d : Nat) (resp : List Byte) (len : resp.length ≤ 240) :
    MailFrame m s (s.done m st d resp) := by
  unfold State.done
  split
  · exact mail_finish own role st d resp len
  · exact frame_ite (mail_setMbx _) (mail_finish own role st d resp len)

/-! ### The commands that only read -/

/-- How a command ends that only completes: with nothing done, or with an answer of at most 240 bytes. -/
abbrev OnlyCompletes (m : Mb) (s : State) (o : Out) : Prop :=
  o = .next s.settled ∨ ∃ st d resp, resp.length ≤ 240 ∧ o = .next (s.done m st d resp).settled

/-- The effect of a command that only completes. -/
abbrev Answers (m : Mb) (s t : State) : Prop := ∃ st d resp, resp.length ≤ 240 ∧ t = s.done m st d resp

theorem answers_okResp {resp : List Byte} (len : resp.length ≤ 240) : Answers m s (s.okResp m resp) := ⟨_, _, resp, len, rfl⟩

theorem answers_checked {checks : List (Option Nat)} {effect : State → State}
    (passed : (∀ x ∈ checks, x = none) → Answers m s (effect s)) : Answers m s (checked m checks s effect) := by
  cases failing : firstFail checks with
  | none =>
    have all := firstFail_eq_none.1 failing
    rw [checked_ok s effect all]
    exact passed all
  | some d =>
    rw [checked_bad s effect failing]
    exact ⟨_, d, [], Nat.zero_le _, rfl⟩

theorem onlyCompletes_runCmd {op : Nat} {body : Cmd → State → State} (effect : ∀ c, Answers m s (body c s)) :
    OnlyCompletes m s (runCmd m op s body) := by
  cases taken : s.takenCmd m op with
  | none => exact .inl (runCmd_not_taken body taken)
  | some c =>
    cases held : s.heldBlock c with
    | some b => exact .inr ⟨_, b, [], Nat.zero_le _, runCmd_held body taken held⟩
    | none =>
      obtain ⟨st, d, resp, len, same⟩ := effect c
      exact .inr ⟨st, d, resp, len, runCmd_answers ⟨taken, held⟩ same⟩

theorem onlyCompletes_guardCmd {op : Nat} {body : Cmd → State → State} (effect : ∀ c, Answers m s (body c s)) :
    OnlyCompletes m s (guardCmd m op s body) := by
  cases running : s.guardRuns with
  | false => exact .inl (guardCmd_waits body running)
  | true =>
    rw [guardCmd, if_pos running]
    exact onlyCompletes_runCmd effect

/-! The lengths of their answers. -/

theorem length_cadGet (s : State) (off n : Nat) : (s.cadGet off n).length = n := memBytes_length _ _ _

theorem length_tableQuery (s : State) (k : Nat) : (s.tableQuery k).length ≤ 240 := by
  unfold State.tableQuery
  dsimp only
  split <;> simp [length_leBytes, listBitmap]

theorem length_identifyResp (s : State) : s.identifyResp.length ≤ 240 := by
  simp [State.identifyResp, length_leBytes]
  omega

theorem length_stateResp (s : State) : s.stateResp.length ≤ 240 := by
  have counts : ((List.range 4).map fun i =>
      leBytes 2 (s.rdi MBX_MB_STATUS_posted i) ++ leBytes 2 (s.rdi MBX_MB_STATUS_done i)).flatten.length = 16 := by
    simp [List.range_succ, length_leBytes]
  simp only [State.stateResp, List.length_append, length_leBytes, counts]
  decide

theorem length_profileGet (s : State) (p : Nat) : ((if s.profDefined p then s.profBytes p else List.replicate 96 0) ++
    leBytes 1 (b2n (s.profDefined p)) ++ leBytes 7 0 ++ leBytes 8 (storeGetD 0 s.tbl.profPly p)).length ≤ 240 := by
  have profile : (if s.profDefined p then s.profBytes p else List.replicate 96 0).length = 96 := by
    split <;> simp [State.profBytes, length_leBytes]
  simp only [List.length_append, profile, length_leBytes]
  decide

theorem length_dumpQuery (s : State) :
    ((if s.dumpHeld then s.cadGet cadDump 4 else [0, 0, 0, 0]) ++ s.cadGet (cadDump + 4) 28).length ≤ 240 := by
  have status : (if s.dumpHeld then s.cadGet cadDump 4 else [0, 0, 0, 0]).length = 4 := by
    split
    · exact length_cadGet ..
    · rfl
  rw [List.length_append, status, length_cadGet]
  decide

theorem length_fwQuery (s : State) : (leBytes 4 s.eupex.ctlFwVersion ++ leBytes 4 s.eupex.grdFwVersion ++
    leBytes 4 s.cores.securityVersion ++ leBytes 1 (s.rd CORE_STATUS_fw_source) ++ leBytes 1 s.activeSlot ++
    leBytes 1 (s.rd CORE_STATUS_fallback) ++ leBytes 1 0 ++ (s.slotRec 0).take 16 ++ (s.slotRec 1).take 16).length ≤ 240 := by
  simp [length_leBytes, State.slotRec, length_cadGet]

theorem length_keyQuery (s : State) {c : Cmd} (passed : ∀ x ∈ [need (c.u8 0 < 85) 0,
      need (1 ≤ c.u8 1 && c.u8 1 ≤ 29 && c.u8 0 + c.u8 1 ≤ 85) 1], x = none) :
    ((List.range (c.u8 1)).flatMap (fun i => leBytes 4 (s.rawReg (0x10400 + 8 * (c.u8 0 + i))) ++
      leBytes 4 (s.rawReg (0x10404 + 8 * (c.u8 0 + i))))).length ≤ 240 := by
  have few : c.u8 1 ≤ 29 := by
    have := passed _ (List.mem_cons_of_mem _ List.mem_cons_self)
    simp only [need_eq_none, Bool.and_eq_true, decide_eq_true_eq] at this
    exact this.1.2
  simp only [List.length_flatMap, List.length_append, length_leBytes, List.map_const', List.sum_replicate, List.length_range]
  rw [smul_eq_mul]
  omega

theorem onlyCompletes_guardKeyQuery : OnlyCompletes m s (execGuardKeyQuery m s) := by
  unfold execGuardKeyQuery
  refine onlyCompletes_guardCmd (fun c => answers_checked fun passed => answers_okResp ?_)
  exact length_keyQuery s passed

/-- Settles O43: the frame of a completion, and the commands that only read, each with the length of its answer. -/
theorem completionTouchesOnlyItsSlot : Obligations.CompletionTouchesOnlyItsSlot := by
  intro m s own role
  refine ⟨fun st d resp t len ended => ?frame, fun i listed => ?reads⟩
  case frame =>
    subst ended
    have kept := mail_done own role st d resp len
    exact ⟨kept.mem, kept.regs, kept.parts .clk rfl, kept.parts .pwr rfl, kept.parts .heat rfl, kept.parts .chain rfl,
      kept.parts .srch rfl, kept.parts .tbl rfl, kept.parts .learn rfl, kept.parts .jrnl rfl, kept.parts .cores rfl,
      kept.parts .slots rfl, kept.parts .strm rfl, kept.parts .guard rfl, kept.parts .settings rfl, kept.parts .otp rfl,
      kept.parts .pins rfl⟩
  case reads =>
    simp only [List.mem_cons, List.not_mem_nil, or_false] at listed
    change OnlyCompletes m s (exec (i m) s)
    rcases listed with rfl | rfl | rfl | rfl | rfl | rfl | rfl | rfl | rfl | rfl | rfl | rfl | rfl | rfl | rfl | rfl | rfl | rfl | rfl <;>
      dsimp only [exec]
    · exact onlyCompletes_runCmd (fun _ => answers_okResp (length_identifyResp s))
    · exact onlyCompletes_runCmd (fun _ => answers_okResp (length_stateResp s))
    · exact onlyCompletes_runCmd (fun _ => answers_okResp (by simp [State.pwrStateResp, length_leBytes]))
    · exact onlyCompletes_runCmd (fun _ => answers_okResp (by simp [State.marginResp, length_leBytes]))
    · exact onlyCompletes_runCmd (fun _ => answers_okResp (by simp [State.thmResp, length_leBytes]))
    · exact onlyCompletes_runCmd (fun _ => answers_okResp (by simp [length_leBytes]))
    · exact onlyCompletes_runCmd (fun _ => answers_okResp (by simp [length_leBytes, length_padTo]))
    · exact onlyCompletes_runCmd (fun c => answers_checked fun _ => answers_okResp (length_tableQuery s (c.u8 0)))
    · exact onlyCompletes_runCmd (fun c => answers_checked fun _ => answers_okResp (length_profileGet s (c.u8 0)))
    · exact onlyCompletes_runCmd (fun _ => answers_okResp (by simp [length_padTo]))
    · exact onlyCompletes_runCmd (fun _ => answers_checked fun _ => answers_okResp (by simp [State.slotResp, length_leBytes]))
    · exact onlyCompletes_runCmd (fun _ => answers_checked fun _ => answers_okResp (by simp [length_leBytes]))
    · exact onlyCompletes_guardCmd (fun _ => answers_okResp (by simp [length_leBytes]))
    · exact onlyCompletes_guardCmd (fun _ => answers_checked fun _ => answers_okResp (by simp [State.slotInfo, length_leBytes]))
    · exact onlyCompletes_guardKeyQuery
    · exact onlyCompletes_runCmd (fun _ => answers_okResp (by simp [State.integResp, length_leBytes]))
    · exact onlyCompletes_runCmd (fun _ => answers_okResp (length_dumpQuery s))
    · exact onlyCompletes_runCmd (fun _ => answers_okResp (length_fwQuery s))
    · exact onlyCompletes_runCmd (fun _ => answers_okResp (by simp [length_leBytes]))

end Sys2Proof.Machine

/-! Producer values that a ring does not accept (R222). -/

namespace Sys2Proof.Machine
open Reg

variable {P : List Part} {R : Nat → Bool} {s t u : State} {off q d : Nat} {w : RegWord} {f g : Fld} {i j : Nat}

/-- A value outside what R222 accepts. -/
theorem producerOk_eq_false {n consumed accepted : Nat}
    (outside : n < cntDist consumed d ∨ cntDist consumed d < cntDist consumed accepted) :
    producerOk n consumed accepted d = false := by
  rw [producerOk, Bool.and_eq_false_iff, decide_eq_false_iff_not, decide_eq_false_iff_not]
  omega

/-! ### What a doorbell of a ring may reach -/

/-- A frame that admits the arrival of a doorbell, an event that posts no record and the exit of DOZE. -/
structure DoorbellFrame (P : List Part) (R : Nat → Bool) : Prop where
  host : P.contains .host = true
  pwr : P.contains .pwr = true
  glb : R 0 = true
  power : R 1 = true
  pba : R 0x21 = true

theorem DoorbellFrame.raise (e : DoorbellFrame P R) (hf : f.PostsNothing) (page : R (fldKey f 0 / 131072) = true) :
    Frame P R 0 0 s (s.raise f) :=
  frame_quiet (i := 0) e.host e.pba page (fun h => by simp [Fld.PostsNothing, h] at hf) (postsRecord_quiet _ hf)

theorem DoorbellFrame.seen (e : DoorbellFrame P R) : Frame P R 0 0 s (s.doorbellSeen off w) :=
  (frame_host (s := s) e.host _).trans (frame_ite .refl (e.raise (f := GLB_STATUS_bad_write) (by decide) e.glb))

theorem DoorbellFrame.exitDoze (e : DoorbellFrame P R) : Frame P R 0 0 s s.exitDoze :=
  frame_ite (frame_wr (f := PWR_STATE_state) _ e.power) (frame_ite (.of_parts rfl rfl (fun p hp => by
    cases p <;> first | rfl | (rw [e.pwr] at hp; cases hp))) .refl)

/-- Leaving DOZE changes no register outside PWR. -/
theorem rdi_exitDoze (apart : (fldKey f i / 131072 == 1) = false) : s.exitDoze.rdi f i = s.rdi f i := by
  unfold State.exitDoze
  split
  · exact State.rdi_wri_other _ _ (fun same => by rw [same] at apart; cases apart)
  · split <;> rfl

theorem rdi_raise_away (hf : f.PostsNothing) (apart : fldKey g j ≠ fldKey f 0) (pending : ApartFromPending g j) :
    (s.raise f).rdi g j = s.rdi g j :=
  (rdi_raise_of_postsNothing hf pending).trans (State.rdi_setBit_other _ _ _ apart)

/-! ### A request ring of a pair -/

theorem doorbellFrame_pair : DoorbellFrame [.host, .pwr] [0, 1, 8, 0x21].contains := ⟨rfl, rfl, rfl, rfl, rfl⟩

theorem frame_stopPair (hq : q < 16) : Frame [.host, .pwr] [0, 1, 8, 0x21].contains 0 0 s (s.stopPair q true) := by
  have page : fldKey SRCH_Q_STATUS_res_full_wait q / 131072 = 8 ∧ fldKey SRCH_Q_STATUS_req_fault q / 131072 = 8 := by
    simp only [fldKey, SRCH_Q_STATUS_res_full_wait, SRCH_Q_STATUS_req_fault]
    omega
  exact (((frame_setBit q true (by decide)).trans (frame_wri _ (by rw [page.1]; rfl))).trans (frame_wri 1 (by rw [page.2]; rfl))).trans
    (doorbellFrame_pair.raise (by decide) (by decide))

/-- The registers of a pair whose request ring has failed. -/
theorem stopPair_registers (hq : q < 16) :
    (s.stopPair q true).rdi SRCH_Q_REQ_CNT_req_accepted q = s.rdi SRCH_Q_REQ_CNT_req_accepted q ∧
      (s.stopPair q true).rdi SRCH_Q_STATUS_req_fault q = 1 ∧ (s.stopPair q true).bit SRCH_STATUS_q_stopped 0 q = true ∧
      (s.stopPair q true).rd SRCH_EVENT_req_ring_fault = 1 := by
  have event {f : Fld} {j : Nat} (apart : fldKey f j ≠ fldKey SRCH_EVENT_req_ring_fault 0 ∧ fldKey f j ≠ fldKey MSIX_PBA_pending 0) :
      (s.stopPair q true).rdi f j =
        (((s.setBit SRCH_STATUS_q_stopped 0 q true).noteFull q).wri SRCH_Q_STATUS_req_fault q 1).rdi f j :=
    rdi_raise_away (by decide) apart.1 apart.2
  refine ⟨?accepted, ?fault, ?stopped, rd_raise_same (by decide) rfl (by decide)⟩
  case accepted =>
    rw [event, State.rdi_wri_other, State.noteFull, State.rdi_wri_other, State.rdi_setBit_other] <;>
      simp only [fldKey, SRCH_Q_REQ_CNT_req_accepted, SRCH_Q_STATUS_req_fault, SRCH_Q_STATUS_res_full_wait, SRCH_STATUS_q_stopped,
        SRCH_EVENT_req_ring_fault, MSIX_PBA_pending] <;> omega
  case fault =>
    rw [event, State.rdi_wri_same]
    · rfl
    · simp only [fldKey, SRCH_Q_STATUS_req_fault, SRCH_EVENT_req_ring_fault, MSIX_PBA_pending]
      omega
  case stopped =>
    have set := State.bit_setBit s SRCH_STATUS_q_stopped 0 q true (j := q) hq
    rw [State.bit, event (by decide), State.rdi_wri_other, State.noteFull, State.rdi_wri_other, ← State.bit, set, if_pos rfl] <;>
      simp only [fldKey, SRCH_STATUS_q_stopped, SRCH_Q_STATUS_req_fault, SRCH_Q_STATUS_res_full_wait] <;> omega

/-! ### The request ring of a channel -/

theorem doorbellFrame_channel : DoorbellFrame [.host, .pwr, .strm] [0, 1, 0xE, 0x21].contains := ⟨rfl, rfl, rfl, rfl, rfl⟩

/-- The halt of a channel noted with its reason: one whose ring has failed before, or that waits for its guard, keeps its own. -/
def State.haltNoted (s : State) (c reason : Nat) : State :=
  if s.chHalted c && [3, 4, 6].contains (s.rdi STRM_CH_STATUS_halt_reason c) then s
  else (s.setBit STRM_STATUS_halted 0 c true).wri STRM_CH_STATUS_halt_reason c reason

/-- What a ring fault does to an open channel after its halt has been noted. -/
def State.channelStopped (s : State) (c : Nat) : State :=
  ((s.dropJobs (fun u => u == .streamEntry c)).setChan c { s.chan c with entry := none, reading := none }).noteChan c

theorem haltChan_ringFault (opened : s.chOpen q = true) :
    s.haltChan q 3 = ((s.haltNoted q 3).raise STRM_EVENT_req_ring_fault).channelStopped q := by
  have goes : ¬((!s.chOpen q || (s.chHalted q && !(3 == 3 || 3 == 4))) = true) := by simp [opened]
  exact if_neg goes

theorem channel_page {f : Fld} (hq : q < 16) (reg : f ∈ [STRM_CH_STATUS_halt_reason, STRM_CH_STATUS_state, STRM_CH_STATUS_in_flight]) :
    [0, 1, 0xE, 0x21].contains (fldKey f q / 131072) = true := by
  have page : fldKey f q / 131072 = 0xE := by
    simp only [List.mem_cons, List.not_mem_nil, or_false] at reg
    rcases reg with rfl | rfl | rfl <;>
      simp only [fldKey, STRM_CH_STATUS_halt_reason, STRM_CH_STATUS_state, STRM_CH_STATUS_in_flight] <;> omega
  rw [page]
  rfl

theorem frame_haltChan (hq : q < 16) (opened : s.chOpen q = true) :
    Frame [.host, .pwr, .strm] [0, 1, 0xE, 0x21].contains 0 0 s (s.haltChan q 3) := by
  rw [haltChan_ringFault opened]
  have noted : Frame [.host, .pwr, .strm] [0, 1, 0xE, 0x21].contains 0 0 s (s.haltNoted q 3) :=
    frame_ite .refl ((frame_setBit q true (by decide)).trans (frame_wri 3 (channel_page hq (by simp))))
  refine (noted.trans (doorbellFrame_channel.raise (f := STRM_EVENT_req_ring_fault) (by decide) (by decide))).trans ?_
  refine Frame.trans (Frame.trans ?_ (frame_wri _ (channel_page hq (by simp)))) (frame_wri _ (channel_page hq (by simp)))
  exact .of_parts rfl rfl (fun p hp => by cases p <;> first | rfl | cases hp)

theorem rdi_channelStopped (apart : fldKey f j ≠ fldKey STRM_CH_STATUS_state q ∧ fldKey f j ≠ fldKey STRM_CH_STATUS_in_flight q) :
    (s.channelStopped q).rdi f j = s.rdi f j :=
  (State.rdi_wri_other _ _ apart.2).trans ((State.rdi_wri_other _ _ apart.1).trans rfl)

/-- A channel that has not halted with reason 4 or 6 halts with reason 3. -/
theorem haltNoted_registers (hq : q < 16) (reasons : s.chHalted q = true →
      s.rdi STRM_CH_STATUS_halt_reason q ≠ 4 ∧ s.rdi STRM_CH_STATUS_halt_reason q ≠ 6) :
    (s.haltNoted q 3).rdi STRM_CH_REQ_CNT_accepted q = s.rdi STRM_CH_REQ_CNT_accepted q ∧
      (s.haltNoted q 3).rdi STRM_CH_STATUS_halt_reason q = 3 ∧ (s.haltNoted q 3).bit STRM_STATUS_halted 0 q = true := by
  unfold State.haltNoted
  split
  · next again =>
    rw [Bool.and_eq_true] at again
    obtain ⟨halted, reason⟩ := again
    obtain ⟨not4, not6⟩ := reasons halted
    refine ⟨rfl, ?_, halted⟩
    simpa [not4, not6] using reason
  · have set := State.bit_setBit s STRM_STATUS_halted 0 q true (j := q) hq
    refine ⟨?_, by rw [State.rdi_wri_same]; rfl, ?_⟩
    · rw [State.rdi_wri_other, State.rdi_setBit_other] <;>
        simp only [fldKey, STRM_CH_REQ_CNT_accepted, STRM_CH_STATUS_halt_reason, STRM_STATUS_halted] <;> omega
    · rw [State.bit, State.rdi_wri_other, ← State.bit, set, if_pos rfl]
      simp only [fldKey, STRM_CH_STATUS_halt_reason, STRM_STATUS_halted]
      omega

/-- The registers of a channel whose request ring has failed. -/
theorem haltChan_registers (hq : q < 16) (opened : s.chOpen q = true) (reasons : s.chHalted q = true →
      s.rdi STRM_CH_STATUS_halt_reason q ≠ 4 ∧ s.rdi STRM_CH_STATUS_halt_reason q ≠ 6) :
    (s.haltChan q 3).rdi STRM_CH_REQ_CNT_accepted q = s.rdi STRM_CH_REQ_CNT_accepted q ∧
      (s.haltChan q 3).rdi STRM_CH_STATUS_halt_reason q = 3 ∧ (s.haltChan q 3).bit STRM_STATUS_halted 0 q = true ∧
      (s.haltChan q 3).rd STRM_EVENT_req_ring_fault = 1 := by
  obtain ⟨accepted, reason, halted⟩ := haltNoted_registers hq reasons
  have noted {f : Fld} {j : Nat} (stopped : fldKey f j ≠ fldKey STRM_CH_STATUS_state q ∧ fldKey f j ≠ fldKey STRM_CH_STATUS_in_flight q)
      (event : fldKey f j ≠ fldKey STRM_EVENT_req_ring_fault 0 ∧ fldKey f j ≠ fldKey MSIX_PBA_pending 0) :
      (s.haltChan q 3).rdi f j = (s.haltNoted q 3).rdi f j := by
    rw [haltChan_ringFault opened, rdi_channelStopped stopped, rdi_raise_away (by decide) event.1 event.2]
  refine ⟨?_, ?_, ?_, ?_⟩
  · rw [noted, accepted] <;>
      simp only [fldKey, STRM_CH_REQ_CNT_accepted, STRM_CH_STATUS_state, STRM_CH_STATUS_in_flight, STRM_EVENT_req_ring_fault,
        MSIX_PBA_pending] <;> omega
  · rw [noted, reason] <;>
      simp only [fldKey, STRM_CH_STATUS_halt_reason, STRM_CH_STATUS_state, STRM_CH_STATUS_in_flight, STRM_EVENT_req_ring_fault,
        MSIX_PBA_pending] <;> omega
  · rw [State.bit, noted, ← State.bit, halted] <;>
      simp only [fldKey, STRM_STATUS_halted, STRM_CH_STATUS_state, STRM_CH_STATUS_in_flight, STRM_EVENT_req_ring_fault,
        MSIX_PBA_pending] <;> omega
  · rw [haltChan_ringFault opened, State.rd, rdi_channelStopped, ← State.rd, rd_raise_same (by decide) rfl (by decide)]
    simp only [fldKey, STRM_EVENT_req_ring_fault, STRM_CH_STATUS_state, STRM_CH_STATUS_in_flight]
    omega

/-! ### The doorbell -/

theorem completes_ringProducerDoorbell (r : Ring) (role : s.isFollower = false)
    (effect : (s.doorbellSeen (ringPage r) w).ringProduce r (doorCount w) = t) : Completes (.ringProducerDoorbell r w) s t := by
  show execRingProducerDoorbell r w s = _
  exact (if_neg (by simp [role])).trans (effect ▸ rfl)

theorem pairReg_page {f : Fld} (hq : q < 16)
    (reg : f ∈ [SRCH_Q_CFG_q_en, SRCH_Q_CFG_req_k, SRCH_Q_REQ_CNT_req_admitted, SRCH_Q_REQ_CNT_req_accepted, SRCH_Q_STATUS_req_fault]) :
    fldKey f q / 131072 = 8 := by
  simp only [List.mem_cons, List.not_mem_nil, or_false] at reg
  rcases reg with rfl | rfl | rfl | rfl | rfl <;>
    simp only [fldKey, SRCH_Q_CFG_q_en, SRCH_Q_CFG_req_k, SRCH_Q_REQ_CNT_req_admitted, SRCH_Q_REQ_CNT_req_accepted,
      SRCH_Q_STATUS_req_fault] <;> omega

theorem channelReg_page {f : Fld} (hq : q < 16)
    (reg : f ∈ [STRM_CH_CFG_req_k, STRM_CH_REQ_CNT_taken, STRM_CH_REQ_CNT_accepted, STRM_CH_STATUS_halt_reason]) :
    fldKey f q / 131072 = 0xE := by
  simp only [List.mem_cons, List.not_mem_nil, or_false] at reg
  rcases reg with rfl | rfl | rfl | rfl <;>
    simp only [fldKey, STRM_CH_CFG_req_k, STRM_CH_REQ_CNT_taken, STRM_CH_REQ_CNT_accepted, STRM_CH_STATUS_halt_reason] <;> omega

theorem ringProduce_pair_discarded (r : Fin 16) (opened : s.qOpen r.val = true)
    (outside : 2 ^ s.rdi SRCH_Q_CFG_req_k r.val < cntDist (s.rdi SRCH_Q_REQ_CNT_req_admitted r.val) d ∨
      cntDist (s.rdi SRCH_Q_REQ_CNT_req_admitted r.val) d <
        cntDist (s.rdi SRCH_Q_REQ_CNT_req_admitted r.val) (s.rdi SRCH_Q_REQ_CNT_req_accepted r.val)) :
    s.ringProduce (.queue r) d = (s.stopPair r.val true).exitDoze :=
  (if_neg (by simp [opened])).trans (if_neg (by rw [State.qReqN, producerOk_eq_false outside]; decide))

theorem ringProduce_channel_discarded (r : Fin 16) (opened : s.chOpen r.val = true)
    (outside : 2 ^ s.rdi STRM_CH_CFG_req_k r.val < cntDist (s.rdi STRM_CH_REQ_CNT_taken r.val) d ∨
      cntDist (s.rdi STRM_CH_REQ_CNT_taken r.val) d <
        cntDist (s.rdi STRM_CH_REQ_CNT_taken r.val) (s.rdi STRM_CH_REQ_CNT_accepted r.val)) :
    s.ringProduce (.stream r) d = (s.haltChan r.val 3).exitDoze :=
  (if_neg (by simp [opened])).trans (if_neg (by rw [State.chReqN, producerOk_eq_false outside]; decide))

/-- Settles O49: a value outside the ring's range stops the pair, or halts the channel, and changes neither count nor memory. -/
theorem ringDoorbellDiscarded : Obligations.RingDoorbellDiscarded := by
  rintro s r w d role rfl
  have hq := r.isLt
  refine ⟨fun opened outside => ?pair, fun opened reasons outside => ?channel⟩
  case pair =>
    have seen {f : Fld} {j : Nat} := rdi_doorbellSeen (s := s) (off := ringPage (.queue r)) w (f := f) (i := j)
    have arrived : Frame [.host, .pwr] [0, 1, 8, 0x21].contains 0 0 s (s.doorbellSeen (ringPage (.queue r)) w) :=
      doorbellFrame_pair.seen
    have page {f : Fld} := pairReg_page (q := r.val) hq (f := f)
    have same {f : Fld} (reg : f ∈ [SRCH_Q_CFG_q_en, SRCH_Q_CFG_req_k, SRCH_Q_REQ_CNT_req_admitted, SRCH_Q_REQ_CNT_req_accepted,
        SRCH_Q_STATUS_req_fault]) := seen (f := f) (j := r.val) (by rw [page reg]; rfl)
    rw [State.qOpen, ← same (by simp), ← State.qOpen] at opened
    rw [← same (f := SRCH_Q_CFG_req_k) (by simp), ← same (f := SRCH_Q_REQ_CNT_req_admitted) (by simp),
      ← same (f := SRCH_Q_REQ_CNT_req_accepted) (by simp)] at outside
    rw [← same (f := SRCH_Q_REQ_CNT_req_accepted) (by simp)]
    have ends := completes_ringProducerDoorbell (.queue r) role (ringProduce_pair_discarded r opened outside)
    generalize s.doorbellSeen (ringPage (.queue r)) w = u at *
    obtain ⟨accepted, fault, stopped, event⟩ := stopPair_registers (s := u) hq
    refine ⟨_, ends, ?_, ?_, ?_, ?_, (arrived.trans (frame_stopPair hq)).trans doorbellFrame_pair.exitDoze⟩
    · rw [rdi_exitDoze (by rw [page (by simp)]; rfl), accepted]
    · rw [rdi_exitDoze (by rw [page (by simp)]; rfl), fault]
    · rw [State.bit, rdi_exitDoze (by decide), ← State.bit, stopped]
    · rw [State.rd, rdi_exitDoze (by decide), ← State.rd, event]
  case channel =>
    have seen {f : Fld} {j : Nat} := rdi_doorbellSeen (s := s) (off := ringPage (.stream r)) w (f := f) (i := j)
    have arrived : Frame [.host, .pwr, .strm] [0, 1, 0xE, 0x21].contains 0 0 s (s.doorbellSeen (ringPage (.stream r)) w) :=
      doorbellFrame_channel.seen
    have page {f : Fld} := channelReg_page (q := r.val) hq (f := f)
    have same {f : Fld} (reg : f ∈ [STRM_CH_CFG_req_k, STRM_CH_REQ_CNT_taken, STRM_CH_REQ_CNT_accepted,
        STRM_CH_STATUS_halt_reason]) := seen (f := f) (j := r.val) (by rw [page reg]; rfl)
    rw [State.chOpen, State.bit, ← seen (by decide), ← State.bit, ← State.chOpen] at opened
    rw [State.chHalted, State.bit, ← seen (by decide), ← State.bit, ← State.chHalted,
      ← same (f := STRM_CH_STATUS_halt_reason) (by simp)] at reasons
    rw [← same (f := STRM_CH_CFG_req_k) (by simp), ← same (f := STRM_CH_REQ_CNT_taken) (by simp),
      ← same (f := STRM_CH_REQ_CNT_accepted) (by simp)] at outside
    rw [← same (f := STRM_CH_REQ_CNT_accepted) (by simp)]
    have ends := completes_ringProducerDoorbell (.stream r) role (ringProduce_channel_discarded r opened outside)
    generalize s.doorbellSeen (ringPage (.stream r)) w = u at *
    obtain ⟨accepted, reason, halted, event⟩ := haltChan_registers hq opened reasons
    refine ⟨_, ends, ?_, ?_, ?_, ?_, (arrived.trans (frame_haltChan hq opened)).trans doorbellFrame_channel.exitDoze⟩
    · rw [rdi_exitDoze (by rw [page (by simp)]; rfl), accepted]
    · rw [rdi_exitDoze (by rw [page (by simp)]; rfl), reason]
    · rw [State.bit, rdi_exitDoze (by decide), ← State.bit, halted]
    · rw [State.rd, rdi_exitDoze (by decide), ← State.rd, event]

end Sys2Proof.Machine
